-- ==== Sys2Proof/Word.lean ====
section
/-! DEFINITION. The word and byte types (R3, R4, R510) and the names the commands are given in: carriers, blocks,
requesters, converters' states. -/

namespace Sys2Proof

/-- A 32-bit register or channel word (R4, R510). -/
abbrev Word := BitVec 32

/-- One byte of an SRAM or of a byte window. -/
abbrev Byte := BitVec 8

/-- The two optical carriers (R20, R22). -/
inductive Carrier where
  | A | B
  deriving DecidableEq, Repr

/-- The other carrier. -/
def Carrier.other : Carrier → Carrier
  | .A => .B
  | .B => .A

/-- 0 for Carrier A, 1 for Carrier B: the number events and registers use. -/
def Carrier.num : Carrier → Nat
  | .A => 0
  | .B => 1

/-- The two polarisations of a carrier's signal (R47). -/
inductive Pol where
  | X | Y
  deriving DecidableEq, Repr

/-- Who presents a register access (R25, R431, R459, R613, R631). -/
inductive Requester where
  | control    -- the voted path of the control channels
  | host       -- PCIe BAR0
  | ubant      -- the debug port: a host write on the Ubant path (R631)
  | scheduler  -- a timed write, taken as a voted control write (R459)
  deriving DecidableEq, Repr

/-- The blocks of the address map (R22). -/
inductive Blk where
  | sys | clk | time | sched | pwr | madc | event | pair | perf | ledger
  | tx (c : Carrier) | conv (c : Carrier) | rxdsp (c : Carrier) | dawn (c : Carrier)
  | fec (c : Carrier) | framer (c : Carrier) | cipher (c : Carrier)
  | client | flow | store | lanes | pod | hostif
  deriving DecidableEq, Repr

end Sys2Proof
end

