-- ==== Sys2Proof/Payload.lean ====
section
/-! DEFINITION. The records that commands carry as operands: measured values, verdicts and received content that the
device meets at its pins and lines. -/

namespace Sys2Proof

/-- The three trims of an ADC slice or the two of a DAC (R94), each an 8-bit two's complement code. -/
structure Trim where
  offset : Int
  gain : Int
  skew : Int
  deriving DecidableEq, Repr

/-- The overhead of a received OTUCn frame (R273 to R277): MFAS, the SM TTI byte of slice 1, the PSI byte of every slice,
PM STAT, SM BIP-8 violations and the BEI/BIAE nibble of every slice, the BDI, IAE and DMp bits, PM BIP-8 violations of every
slice. -/
structure RxOverhead where
  mfas : Nat
  tti : Nat
  psi : List Nat
  stat : Nat
  viol : List Nat
  bei : List Nat
  bdi : Bool
  iae : Bool
  dmp : Bool
  pmViol : List Nat
  deriving DecidableEq, Repr

/-- A packet record of a unit (R359): ns from CAPTURE to its first bit, first lane of its port, the frame without FCS. -/
structure Packet where
  off : Nat
  port : Nat
  frame : List Nat
  deriving DecidableEq, Repr

/-- A unit of a ring (R355, R359): SEQ, FLAGS, RTP_TS, SSRC, CAPTURE, packet records, and the extent in which it starts,
counted from the ring's first extent on since CLEAR. -/
structure RUnit where
  seq : Nat
  flags : Nat
  rtpTs : Nat
  ssrc : Nat
  capture : Nat
  pkts : List Packet
  ext : Nat
  deriving DecidableEq, Repr

/-- A pointer copy of a ring (R361): generation, head extent counted as in `RUnit.ext`, head offset in bytes, head and tail
SEQ, the CRC-32 holds. -/
structure PtrCopy where
  gen : Nat
  ext : Nat
  off : Nat
  head : Nat
  tail : Nat
  ok : Bool
  deriving DecidableEq, Repr

/-- A pointer copy never written. -/
def PtrCopy.reset : PtrCopy := ⟨0, 0, 64, 0, 0, false⟩

/-- What recovery reads of a ring from its module (R361, R362): its number, its extents in ring order, of each extent header
its position in the ring with SEQ and offset of its first unit header (R360), the two pointer copies
(`ok` tells that the CRC is valid), the records found, oldest first, each with its extent and its bytes (R359). -/
structure RingImage where
  ring : Nat
  exts : List Nat
  heads : List (Nat × Nat × Nat)
  copyA : PtrCopy
  copyB : PtrCopy
  units : List (Nat × List Nat)
  deriving DecidableEq, Repr

/-- What the module reports with a read (R367): the replay channel the read serves, corrected lines, and the packets that
hold an uncorrectable line, each as unit SEQ and index in the unit. -/
structure ReadReport where
  chan : Nat
  corrected : Nat
  bad : List (Nat × Nat)
  deriving DecidableEq, Repr

/-- A register write as its requester presents it: by the three channels, each its address and data or nothing (R477), by the
host or the Ubant port with a size in bytes (R4, R25), or by the channels and the host to one register in the same cycle (R25,
R616). -/
inductive WriteReq where
  | voted (m n e : Option (Nat × Nat))
  | single (ubant : Bool) (size addr data : Nat)
  | both (m n e : Option (Nat × Nat)) (addr data : Nat)
  deriving DecidableEq, Repr

/-- A BAR0 request by its byte offset: a read of some 32-bit words, a write of words, an access narrower than 32 bits (R4,
R613). -/
inductive Bar0Req where
  | read (off count : Nat)
  | write (off : Nat) (data : List Nat)
  | narrow (store : Bool) (off : Nat)
  deriving DecidableEq, Repr

/-- A string of bits: its length, and its bits in sending order from bit 0 up. -/
structure BitStr where
  len : Nat
  val : Nat
  deriving DecidableEq, Repr

/-- What a scrubber finds in the word it checks (R487 to R490). -/
inductive Scrub where
  | clean | corrected | bad
  deriving DecidableEq, Repr

end Sys2Proof
end

