-- ==== Sys2Proof/Syntax.lean ====
section
/-! DEFINITION. The commands of the device: one constructor for each row of the opcode table, with what the command carries.
Registers g0 to g15 are 4-bit numbers; measured values, verdicts and received content are as the device meets them. -/

namespace Sys2Proof

/-- A command. -/
inductive Instr where
  /-- REGISTER_WRITE (R6). The write as its requester presents it. -/
  | registerWrite (w : WriteReq)
  /-- READ_CLEAR (R6). The value read goes to the requester. -/
  | readClear (by' : Requester) (addr : Nat)
  /-- WIDE_READ_SNAPSHOT (R431). The word read goes to the requester. -/
  | wideReadSnapshot (by' : Requester) (addr : Nat)
  /-- SOFT_RESET (R13). -/
  | softReset (b : Blk)
  /-- SOFT_RESET_DONE (R13). -/
  | softResetDone (b : Blk)
  /-- COMMIT_REQ (R16). The write holds CP_SEL too. -/
  | commitReq (b : Blk) (sel : Nat)
  /-- COMMIT_TICK (R18). -/
  | commitTick (b : Blk)
  /-- DEFERRED_START (R666). -/
  | deferredStart (b : Blk)
  /-- BLOCK_CLOCK_START (R672). -/
  | blockClockStart (b : Blk)
  /-- SYS_CMODE_WRITE (R35). -/
  | sysCmodeWrite (c : Carrier) (v : Nat)
  /-- SYS_RESET (R31). -/
  | sysReset (key : Nat)
  /-- WAKE_REQ (R592). -/
  | wakeReq
  /-- NIGHT_REQ (R590). Whether a request or event of higher precedence comes in the same cycle (R40). -/
  | nightReq (beaten : Bool)
  /-- VDD_AON_RISE (R30). -/
  | vddAonRise
  /-- PORST_LOW (R39). -/
  | porstLow
  /-- RESET_EXIT (R669). The level of PORST_N, and the straps as sampled: BOOTSEL, PAIRPOS, PAIRPREF, XTD. -/
  | resetExit (high : Bool) (bootsel pos pref xtd : Nat)
  /-- TX_START (R60). -/
  | txStart (c : Carrier)
  /-- TX_FRAME_START (R51). -/
  | txFrameStart (c : Carrier)
  /-- TX_RUN_CLEAR (R64). -/
  | txRunClear (c : Carrier)
  /-- TX_STOP_DONE (R64). -/
  | txStopDone (c : Carrier)
  /-- TX_MUTE_WRITE (R65). -/
  | txMuteWrite (c : Carrier) (mute : Bool)
  /-- TX_LAUNCH_BEGIN (R68). -/
  | txLaunchBegin (c : Carrier)
  /-- CONV_START (R92). -/
  | convStart (c : Carrier)
  /-- FG_START (R97). -/
  | fgStart (c : Carrier)
  /-- FG_CAL_DONE (R97). Both runs of each slice and DAC. -/
  | fgCalDone (c : Carrier) (runs : List (Trim × Trim))
  /-- CONV_RUN_CLEAR (R93). -/
  | convRunClear (c : Carrier)
  /-- BG_START (R104). -/
  | bgStart (c : Carrier)
  /-- BG_PASS_END (R104). Both runs of each DAC. -/
  | bgPassEnd (c : Carrier) (dac : List (Trim × Trim))
  /-- BG_ROUND_END (R98). ADC and residual. -/
  | bgRoundEnd (c : Carrier) (n : Nat) (res : Trim)
  /-- BG_MEASURE_DONE (R98). ADC and both runs. -/
  | bgMeasureDone (c : Carrier) (n : Nat) (r1 r2 : Trim)
  /-- RAMP_INTERVAL (R100). -/
  | rampInterval (c : Carrier)
  /-- TRIM_INTERPOLATE (R107). -/
  | trimInterpolate (c : Carrier)
  /-- MODEL_CHANGE (R108). -/
  | modelChange (c : Carrier) (banded : Bool)
  /-- CAL_SNAP (R110). -/
  | calSnap (c : Carrier)
  /-- CAL_SNAP_DONE (R110). -/
  | calSnapDone (c : Carrier)
  /-- CAL_LOAD (R111). -/
  | calLoad (c : Carrier)
  /-- CAL_LOAD_DONE (R111). -/
  | calLoadDone (c : Carrier)
  /-- ADC_LEVEL_UPDATE (R128). RMS in 1/256 code and samples at the limits, by ADC. -/
  | adcLevelUpdate (c : Carrier) (ls : List (Nat × Nat))
  /-- BIAS_STEP (R116). -/
  | biasStep (c : Carrier)
  /-- RXDSP_START (R160). -/
  | rxdspStart (c : Carrier)
  /-- RXDSP_RUN_CLEAR (R161). -/
  | rxdspRunClear (c : Carrier)
  /-- LOL_WINDOW (R146). RMS of the four inputs in 1/16 code. -/
  | lolWindow (c : Carrier) (rms : Nat)
  /-- RX_SAT_WINDOW (R135). -/
  | rxSatWindow (c : Carrier)
  /-- RX_LINE_FRAME (R151). The 7-bit codes of the four ADCs over the frame (R89). -/
  | rxLineFrame (c : Carrier) (adc : List (List Int))
  /-- ACQ_FREQ_READY (R155). Estimate in 0.25 MHz. -/
  | acqFreqReady (c : Carrier) (fo : Int)
  /-- ACQ_CD_READY (R155). Estimate in ps/nm. -/
  | acqCdReady (c : Carrier) (cd : Int)
  /-- ACQ_TIMING_LOCK (R155). -/
  | acqTimingLock (c : Carrier)
  /-- ACQ_BLIND_STABLE (R155). -/
  | acqBlindStable (c : Carrier)
  /-- ACQ_PILOT_STABLE (R155). -/
  | acqPilotStable (c : Carrier)
  /-- ACQ_DD_STABLE (R155). -/
  | acqDdStable (c : Carrier)
  /-- ACQ_LOCK_LOST (R155). -/
  | acqLockLost (c : Carrier)
  /-- RESUME_TIMEOUT (R155). -/
  | resumeTimeout (c : Carrier)
  /-- SEEDED_TIMEOUT (R155). -/
  | seededTimeout (c : Carrier)
  /-- ACQ_TIMEOUT (R155). -/
  | acqTimeout (c : Carrier)
  /-- ACQ_RESTART (R155). -/
  | acqRestart (c : Carrier)
  /-- SEED_AUTO_CAPTURE (R148). -/
  | seedAutoCapture (c : Carrier)
  /-- SEED_CAPTURE (R148). -/
  | seedCapture (c : Carrier)
  /-- SEED_CLEAR (R148). -/
  | seedClear (c : Carrier)
  /-- SEED_WINDOW_WRITE (R149). Word of the window by its index. -/
  | seedWindowWrite (c : Carrier) (w v : Nat)
  /-- RX_METRIC_UPDATE (R159). -/
  | rxMetricUpdate (c : Carrier)
  /-- TAP_SNAP (R178). -/
  | tapSnap (c : Carrier)
  /-- DAWN_START (R210). -/
  | dawnStart (c : Carrier)
  /-- DAWN_RUN_CLEAR (R211). -/
  | dawnRunClear (c : Carrier)
  /-- DAWN_LIGHT_SET (R186). RMS of 256 samples in 1/16 code. -/
  | dawnLightSet (c : Carrier) (rms : Nat)
  /-- DAWN_LIGHT_CLEAR (R186). The highest RMS over 4,096 samples in 1/16 code. -/
  | dawnLightClear (c : Carrier) (rms : Nat)
  /-- DAWN_GAIN_UPDATE (R188). RMS of each ADC in 1/16 code. -/
  | dawnGainUpdate (c : Carrier) (rms : List Nat)
  /-- DAWN_DETECTION (R187). What detects in one DSP cycle: rate, M, S in dB. -/
  | dawnDetection (c : Carrier) (ds : List (Nat × Nat × Int))
  /-- DAWN_SYNC_LATCH (R190). Offset, dispersion and RMS at the latch. -/
  | dawnSyncLatch (c : Carrier) (fo cd : Int) (rms : Nat)
  /-- DAWN_SYNC_WIN_EXPIRY (R193). -/
  | dawnSyncWinExpiry (c : Carrier)
  /-- DAWN_DESCRIPTOR (R191). The 128 coded bits. -/
  | dawnDescriptor (c : Carrier) (coded : Nat)
  /-- DAWN_PRELOAD_DONE (R199). -/
  | dawnPreloadDone (c : Carrier)
  /-- DAWN_BURST_END (R200). -/
  | dawnBurstEnd (c : Carrier)
  /-- DAWN_WRITEBACK_DONE (R191). -/
  | dawnWritebackDone (c : Carrier)
  /-- DAWN_EXPECT_WRITE (R205). -/
  | dawnExpectWrite (c : Carrier) (v : Nat)
  /-- SEED_FREEZE (R204). -/
  | seedFreeze (c : Carrier) (e : Nat)
  /-- SEED_THAW (R204). -/
  | seedThaw (c : Carrier) (e : Nat)
  /-- SEED_INVALIDATE (R204). -/
  | seedInvalidate (c : Carrier) (e : Nat)
  /-- DAWN_SEED_WRITE (R204). Offset in the window. -/
  | dawnSeedWrite (c : Carrier) (off v : Nat)
  /-- BEXA_ENERGY (R209). RMS of the window in 1/16 code. -/
  | bexaEnergy (c : Carrier) (rms : Nat)
  /-- BEXA_QUALIFY (R209). Offset, dispersion and RMS. -/
  | bexaQualify (c : Carrier) (fo cd : Int) (rms : Nat)
  /-- FEC_START (R248). -/
  | fecStart (c : Carrier)
  /-- FEC_RUN_CLEAR (R249). -/
  | fecRunClear (c : Carrier)
  /-- FEC_ENC_CODEWORD (R230). -/
  | fecEncCodeword (c : Carrier)
  /-- FEC_ENC_OVERRUN (R232). -/
  | fecEncOverrun (c : Carrier)
  /-- FEC_CODEWORD_ARRIVE (R237). At this RX DSP cycle. -/
  | fecCodewordArrive (c : Carrier) (now : Nat)
  /-- FEC_ITERATION_END (R234). Of the codeword i-th in arrival order, at this RX DSP cycle. -/
  | fecIterationEnd (c : Carrier) (i now : Nat)
  /-- FEC_DEADLINE (R239). Codeword in arrival order. -/
  | fecDeadline (c : Carrier) (i : Nat)
  /-- FEC_CODEWORD_RELEASE (R239). -/
  | fecCodewordRelease (c : Carrier)
  /-- FEC_ANCHOR_ALIGN (R231). -/
  | fecAnchorAlign (c : Carrier)
  /-- FEC_INTERVAL_END (R244). -/
  | fecIntervalEnd (c : Carrier)
  /-- FRAMER_START (R289). -/
  | framerStart (c : Carrier)
  /-- FRAMER_RUN_CLEAR (R289). -/
  | framerRunClear (c : Carrier)
  /-- FRAMER_TX_FRAME (R262). -/
  | framerTxFrame (c : Carrier)
  /-- LINE_ALIGN_CHECK (R268). Output X = 0 or Y = 1, its hard decisions at the position tested, in sending order from bit 0,
  and that position in symbols. -/
  | lineAlignCheck (c : Carrier) (o bits pos : Nat)
  /-- FAS_ALIGN_CHECK (R268). In DUAL the measured skew in ns. -/
  | fasAlignCheck (c : Carrier) (skew : Int)
  /-- FRAMER_RX_FRAME (R273). -/
  | framerRxFrame (c : Carrier)
  /-- DEFECT_TIMER (R278). Defect 1 dLOF-L, 2 dLOF, 3 dLOM. -/
  | defectTimer (c : Carrier) (d : Nat)
  /-- FECX_WINDOW (R278). -/
  | fecxWindow (c : Carrier)
  /-- PM_SECOND (R286). Every carrier and port meets the boundary. -/
  | pmSecond
  /-- PM_SECOND_FINAL (R287). -/
  | pmSecondFinal
  /-- DEFECT_FORCE (R280). -/
  | defectForce (c : Carrier) (v : Nat)
  /-- DM_START (R277). -/
  | dmStart (c : Carrier)
  /-- DM_TIMEOUT (R277). -/
  | dmTimeout (c : Carrier)
  /-- DUAL_SEGMENT_OUTPUT (R282). -/
  | dualSegmentOutput
  /-- DUAL_REALIGN (R282). Skew in ns. -/
  | dualRealign (skew : Int)
  /-- DUAL_WTR_EXPIRY (R283). -/
  | dualWtrExpiry (c : Carrier)
  /-- DUAL_ANCHOR_COMPARE (R284). -/
  | dualAnchorCompare
  /-- DSKEW_CLEAR_TIMER (R284). -/
  | dskewClearTimer (c : Carrier)
  /-- PSR_HOLDOFF_EXPIRY (R285). -/
  | psrHoldoffExpiry (c : Carrier)
  /-- CIPHER_START (R322). -/
  | cipherStart (c : Carrier)
  /-- CIPHER_RUN_CLEAR (R322). -/
  | cipherRunClear (c : Carrier)
  /-- CIPH_SEGMENT_END (R304). -/
  | ciphSegmentEnd (c : Carrier)
  /-- CIPH_ANCHOR_INSERT (R305). -/
  | ciphAnchorInsert (c : Carrier)
  /-- CIPH_ANCHOR_RECEIVE (R306). -/
  | ciphAnchorReceive (c : Carrier)
  /-- CIPH_SEGMENT_VERDICT (R309). -/
  | ciphSegmentVerdict (c : Carrier)
  /-- RNG_TEST_RESULT (R299). -/
  | rngTestResult (c : Carrier) (fail : Bool)
  /-- KEK_CLEAR (R313). -/
  | kekClear (c : Carrier)
  /-- KEK_BLOB (R313). -/
  | kekBlob (c : Carrier)
  /-- KEK_EXPORT (R313). -/
  | kekExport (c : Carrier)
  /-- KEY_LOAD (R314). -/
  | keyLoad (c : Carrier) (target : Nat)
  /-- CIPH_LOAD_DONE (R314). -/
  | ciphLoadDone (c : Carrier)
  /-- CL_PORT_ENABLE (R334). -/
  | clPortEnable (p : Nat)
  /-- CL_PORT_DISABLE (R334). -/
  | clPortDisable (p : Nat)
  /-- CL_LINK_CHANGE (R335). PCS alignment, local fault, remote fault. -/
  | clLinkChange (p : Nat) (aligned : Bool) (locks : Nat) (lf rf : Bool)
  /-- CL_INGRESS_FRAME (R333). Frame with FCS, ns into the AON cycle, bytes the slots took before it, RS-FEC codewords
  corrected and not. -/
  | clIngressFrame (p : Nat) (f : List Nat) (sub corr uncorr : Nat)
  /-- CL_EGRESS_FRAME (R344). Ns into the AON cycle. -/
  | clEgressFrame (p sub : Nat)
  /-- IMP_HEADER (R341). -/
  | impHeader (p : Nat)
  /-- CL_TS_POP (R348). The read of CL_TS_NS. -/
  | clTsPop (by' : Requester)
  /-- STORE_ID_READ_DONE (R357). The 256 bytes. -/
  | storeIdReadDone (m : Nat) (b : List Nat)
  /-- STORE_RECOVERY_DONE (R362). What recovery found; fills by extent. -/
  | storeRecoveryDone (m : Nat) (rings : List RingImage) (fills : List (Nat × Nat))
  /-- STORE_REREAD (R357). -/
  | storeReread (m : Nat)
  /-- STORE_ID_OVERRIDE (R357). -/
  | storeIdOverride (m : Nat)
  /-- RING_ARM (R358). -/
  | ringArm (r : Nat)
  /-- RING_DISARM (R363). -/
  | ringDisarm (r : Nat)
  /-- RING_CLEAR (R363). -/
  | ringClear (r : Nat)
  /-- RING_PTR_SAVE (R361). -/
  | ringPtrSave (r : Nat)
  /-- STORE_OVERLOAD_EXIT (R365). -/
  | storeOverloadExit (m : Nat)
  /-- STORE_DROP_LEVEL_STEP (R365). -/
  | storeDropLevelStep (m : Nat)
  /-- STORE_DROP_LEVEL_RESET (R365). -/
  | storeDropLevelReset (m : Nat)
  /-- RING_RATE_WINDOW (R366). -/
  | ringRateWindow (r : Nat)
  /-- STORE_ECC_LEAK (R368). -/
  | storeEccLeak (m : Nat)
  /-- RING_EXTENT_ENTER (R369). -/
  | ringExtentEnter (r : Nat)
  /-- RPL_PREPARE (R371). -/
  | rplPrepare (ch : Nat)
  /-- RPL_PREPARE_DONE (R371). The first SEQ not yet read. -/
  | rplPrepareDone (ch : Nat)
  /-- RPL_LAUNCH (R371). -/
  | rplLaunch (ch : Nat)
  /-- RPL_LAUNCH_NOW (R371). -/
  | rplLaunchNow (ch : Nat)
  /-- RPL_UNIT_START (R372). -/
  | rplUnitStart (ch : Nat)
  /-- RPL_PACKET_SEND (R373). Ns into the AON cycle. -/
  | rplPacketSend (ch sub : Nat)
  /-- RPL_STOP (R371). -/
  | rplStop (ch : Nat)
  /-- STORE_RUN_CLEAR (R382). -/
  | storeRunClear
  /-- LANE_ENABLE (R388). -/
  | laneEnable (n : Nat)
  /-- LANE_DISABLE (R386). -/
  | laneDisable (n : Nat)
  /-- LANE_POWERED (R388). -/
  | lanePowered (n : Nat)
  /-- LANE_CDR_LOCK (R388). -/
  | laneCdrLock (n : Nat)
  /-- LANE_ADAPT_DONE (R388). -/
  | laneAdaptDone (n : Nat)
  /-- LANE_CDR_LOSS (R388). -/
  | laneCdrLoss (n : Nat)
  /-- LANE_POL_TIMER (R389). -/
  | lanePolTimer (n : Nat)
  /-- LANE_RX_INV_WRITE (R389). -/
  | laneRxInvWrite (n : Nat) (inv : Bool)
  /-- POD_BLOCK (R390). The 132 bits of the port's next block, header first, scrambled as the pins carry them. -/
  | podBlock (port w : Nat)
  /-- POD_COMMA_ALIGN (R394). The 132-bit window as the pins received it, and the bit of what the lane has received at which it
  begins. -/
  | podCommaAlign (n window at' : Nat)
  /-- POD_HEADER_HUNT (R395). -/
  | podHeaderHunt (n hdr : Nat)
  /-- POD_AM_ALIGN (R395). The payload of a block, the BIP-8 of the lane's blocks since the AM before, and its number among the
  blocks that the lane has received. -/
  | podAmAlign (n p bip at' : Nat)
  /-- POD_DESKEW (R396). Skew in blocks. -/
  | podDeskew (k skew : Nat)
  /-- POD_PORT_ENABLE (R397). -/
  | podPortEnable (k : Nat)
  /-- POD_MSG (R401). The block's payload. -/
  | podMsg (k : Nat)
  /-- POD_LINK_ID_TIMER (R397). -/
  | podLinkIdTimer (k : Nat)
  /-- POD_PORT_DOWN (R397). The lane that leaves SYNC; none where EN is cleared. -/
  | podPortDown (k : Nat) (lane : Option Nat)
  /-- POD_TRANSFER_RECEIVE (R398). What the module reports with a read. -/
  | podTransferReceive (k : Nat) (rep : Option ReadReport)
  /-- POD_ACK (R399). -/
  | podAck (k : Nat)
  /-- POD_RETRY_TIMEOUT (R399). -/
  | podRetryTimeout (k tag : Nat)
  /-- POD_BOND_FORM (R403). -/
  | podBondForm (skew : Nat)
  /-- POD_BOND_TIMEOUT (R403). -/
  | podBondTimeout
  /-- POD_TIME_SEND (R405). 1/256 ns into the AON cycle. -/
  | podTimeSend (k sub : Nat)
  /-- POD_TIME_RECEIVE (R405). The block's three times. -/
  | podTimeReceive (k sub : Nat)
  /-- LANE_PAT_LOCK (R406). The next 1,024 bits on the lane's receive pins, in order from bit 0. -/
  | lanePatLock (n window : Nat)
  /-- LANE_INJ_ONE (R406). -/
  | laneInjOne (n : Nat)
  /-- XO_AMP_CHANGE (R413). -/
  | xoAmpChange (up : Bool)
  /-- CLOCK_GOOD (R413). AMP_OK has held; the strap pins XTD, which count in RESET. -/
  | clockGood (xtd : Nat)
  /-- XO_FAIL (R414). -/
  | xoFail
  /-- PLL_LOCK (R415). -/
  | pllLock (n : Nat)
  /-- PLL_UNLOCK (R416). -/
  | pllUnlock (n : Nat)
  /-- SYSPLL_RELOCK_RETURN (R416). -/
  | syspllRelockReturn
  /-- PLL_RATE_CHANGE (R415). -/
  | pllRateChange (n : Nat)
  /-- REFSEL_ACCEPT (R417). -/
  | refselAccept (sel : Nat)
  /-- REF_MEASUREMENT (R418). For REFA, REFB, REFC and the PTP-derived reference: the frequency in µHz against the crystal,
  whether edges arrived throughout. -/
  | refMeasurement (ms : List (Nat × Bool))
  /-- REF_LOA (R418). -/
  | refLoa (r : Nat)
  /-- REF_MONITOR_RESTART (R418). -/
  | refMonitorRestart (r : Nat) (en : Bool) (freq : Nat)
  /-- DPLL_LOCK (R422). -/
  | dpllLock
  /-- DPLL_PHASE_ABSORB_DONE (R425). The offset in ps. -/
  | dpllPhaseAbsorbDone (ps : Int)
  /-- DPLL_HIST_VALID (R422). -/
  | dpllHistValid
  /-- CLK_MUX_SEL_WRITE (R429). -/
  | clkMuxSelWrite (n sel : Nat)
  /-- MUX_CHANGEOVER (R428). -/
  | muxChangeover (n : Nat)
  /-- MUX_STALL (R428). -/
  | muxStall (n : Nat)
  /-- MUX_FORCE (R428). -/
  | muxForce (n : Nat)
  /-- FMEAS_START (R430). -/
  | fmeasStart
  /-- FMEAS_DONE (R430). Edges counted. -/
  | fmeasDone (count : Nat)
  /-- TD_SET (R446). -/
  | tdSet (d : Nat)
  /-- TD_STEP (R446). The word written. -/
  | tdStep (d v : Nat)
  /-- TD_SLEW (R446). The word written. -/
  | tdSlew (d v : Nat)
  /-- TD_VALID_WRITE (R447). -/
  | tdValidWrite (d : Nat) (on : Bool)
  /-- TD_LEASE_EXPIRY (R447). -/
  | tdLeaseExpiry (d : Nat)
  /-- TIME_EXT_WRAP (R444). -/
  | timeExtWrap (d : Nat)
  /-- TIME_DIFF_MEASURE (R448). The measurement's error in ns. -/
  | timeDiffMeasure (err : Int)
  /-- SW_REQ (R450). -/
  | swReq (target : Nat)
  /-- SW_FORCE (R451). -/
  | swForce (target : Nat)
  /-- TIME_RESIDUAL_DONE (R450). -/
  | timeResidualDone
  /-- CAP_NOW (R452). -/
  | capNow
  /-- PPS_IN_EDGE (R452). -/
  | ppsInEdge (rising : Bool)
  /-- PPS_OUT_PULSE (R453). -/
  | ppsOutPulse
  /-- VTB_ENABLE (R456). -/
  | vtbEnable (k : Nat)
  /-- VTB_FRAME_START (R457). -/
  | vtbFrameStart (k : Nat)
  /-- SCHED_ATW_EXECUTE (R459). -/
  | schedAtwExecute (slot : Nat)
  /-- SCHED_COMMIT_EXECUTE (R459). -/
  | schedCommitExecute (slot : Nat)
  /-- SCHED_MARK_EXECUTE (R459). -/
  | schedMarkExecute (slot : Nat)
  /-- SCHED_LAUNCH_HANDOFF (R462). -/
  | schedLaunchHandoff (slot : Nat)
  /-- SCHED_CANCEL (R467). The owner number of a task that writes. -/
  | schedCancel (tag : Nat) (task : Option Nat)
  /-- VOTE_SIGNATURE (R477). -/
  | voteSignature
  /-- RESYNC_START (R481). -/
  | resyncStart
  /-- RESYNC_FORCED (R480). -/
  | resyncForced
  /-- RESYNC_DONE (R482). A channel in which the copy met an uncorrectable word, and the memory. -/
  | resyncDone (ue : Option (Nat × Nat))
  /-- CTL_RESTART (R485). -/
  | ctlRestart (key : Nat)
  /-- CTL_RESTART_DONE (R485). -/
  | ctlRestartDone
  /-- SCRUB_CHECK (R487). Control memory i, or the SRAMs of power domain i. -/
  | scrubCheck (dom : Bool) (i : Nat) (v : Scrub)
  /-- MEM_BUCKET_LEAK (R489). -/
  | memBucketLeak
  /-- CGATE_REQUEST (R492). -/
  | cgateRequest (d : Nat)
  /-- CGATE_ACK (R492). -/
  | cgateAck (d : Nat)
  /-- CGATE_TIMEOUT (R492). -/
  | cgateTimeout (d : Nat)
  /-- CGATE_FORCE (R493). -/
  | cgateForce (d : Nat)
  /-- CGATE_CLEAR (R493). -/
  | cgateClear (d : Nat)
  /-- ACCESS_WITHDRAW (R495). The requester; the word of a program's instruction. -/
  | accessWithdraw (by' : Requester) (insn addr : Nat)
  /-- EV_HEAD_READ (R499). -/
  | evHeadRead (by' : Requester)
  /-- EV_POP (R499). -/
  | evPop (by' : Requester)
  /-- PERF_CLR (R500). -/
  | perfClr (mask : Nat)
  /-- HIST_SNAP (R502). -/
  | histSnap (h : Nat)
  /-- HIST_CLEAR (R502). -/
  | histClear (h : Nat)
  /-- ADD (R525). -/
  | add (gd ga gb : BitVec 4)
  /-- SUB (R525). -/
  | sub (gd ga gb : BitVec 4)
  /-- AND (R525). -/
  | and (gd ga gb : BitVec 4)
  /-- IOR (R525). -/
  | ior (gd ga gb : BitVec 4)
  /-- XOR (R525). -/
  | xor (gd ga gb : BitVec 4)
  /-- SHL (R525). -/
  | shl (gd ga gb : BitVec 4)
  /-- SHR (R525). -/
  | shr (gd ga gb : BitVec 4)
  /-- ASR (R525). -/
  | asr (gd ga gb : BitVec 4)
  /-- CLS (R525). -/
  | cls (gd ga gb : BitVec 4)
  /-- CLU (R525). -/
  | clu (gd ga gb : BitVec 4)
  /-- ANDN (R525). -/
  | andn (gd ga gb : BitVec 4)
  /-- MINS (R525). -/
  | mins (gd ga gb : BitVec 4)
  /-- MAXS (R525). -/
  | maxs (gd ga gb : BitVec 4)
  /-- MUL (R524). -/
  | mul (gd ga gb : BitVec 4)
  /-- MHS (R524). -/
  | mhs (gd ga gb : BitVec 4)
  /-- MHU (R524). -/
  | mhu (gd ga gb : BitVec 4)
  /-- SRD (R512). `rest` are the unused bits of the word, which must be 0. -/
  | srd (gd : BitVec 4) (n : Nat) (rest : BitVec 26)
  /-- SWR (R512). `rest` are the unused bits of the word, which must be 0. -/
  | swr (ga : BitVec 4) (n : Nat) (rest : BitVec 26)
  /-- SYSCALL (R518). `rest` are the unused bits of the word, which must be 0. -/
  | syscall (n : Nat) (rest : BitVec 26)
  /-- ERET (R519). `rest` are the unused bits of the word, which must be 0. -/
  | eret (rest : BitVec 26)
  /-- FENCE (R517). `rest` are the unused bits of the word, which must be 0. -/
  | fence (rest : BitVec 26)
  /-- WFE (R532). `rest` are the unused bits of the word, which must be 0. -/
  | wfe (ga : BitVec 4) (rest : BitVec 26)
  /-- WFE_WAKE (R532). Control cycles from the wake condition to the return. -/
  | wfeWake (k : Nat)
  /-- WFE_TIMEOUT (R532). -/
  | wfeTimeout
  /-- VCHK (R533). `rest` are the unused bits of the word, which must be 0. -/
  | vchk (gd : BitVec 4) (rest : BitVec 26)
  /-- CALLR (R524). `rest` are the unused bits of the word, which must be 0. -/
  | callr (gd ga : BitVec 4) (rest : BitVec 26)
  /-- ADDK (R524). -/
  | addk (gd ga : BitVec 4) (imm : BitVec 18)
  /-- ANDK (R524). -/
  | andk (gd ga : BitVec 4) (imm : BitVec 18)
  /-- IORK (R524). -/
  | iork (gd ga : BitVec 4) (imm : BitVec 18)
  /-- XORK (R524). -/
  | xork (gd ga : BitVec 4) (imm : BitVec 18)
  /-- CLSK (R524). -/
  | clsk (gd ga : BitVec 4) (imm : BitVec 18)
  /-- SHLK (R524). -/
  | shlk (gd ga : BitVec 4) (imm : BitVec 18)
  /-- SHRK (R524). -/
  | shrk (gd ga : BitVec 4) (imm : BitVec 18)
  /-- ASRK (R524). -/
  | asrk (gd ga : BitVec 4) (imm : BitVec 18)
  /-- SETH (R524). -/
  | seth (gd ga : BitVec 4) (imm : BitVec 18)
  /-- PCR (R524). -/
  | pcr (gd ga : BitVec 4) (imm : BitVec 18)
  /-- LDB (R524). `k` cycles of a register access; channels whose SRAM corrects the word, and in which it is
  uncorrectable. -/
  | ldb (gd ga : BitVec 4) (imm : BitVec 18) (k : Nat) (corr bad : List Nat)
  /-- LDBZ (R524). `k` cycles of a register access; channels whose SRAM corrects the word, and in which it is
  uncorrectable. -/
  | ldbz (gd ga : BitVec 4) (imm : BitVec 18) (k : Nat) (corr bad : List Nat)
  /-- LDH (R524). `k` cycles of a register access; channels whose SRAM corrects the word, and in which it is
  uncorrectable. -/
  | ldh (gd ga : BitVec 4) (imm : BitVec 18) (k : Nat) (corr bad : List Nat)
  /-- LDHZ (R524). `k` cycles of a register access; channels whose SRAM corrects the word, and in which it is
  uncorrectable. -/
  | ldhz (gd ga : BitVec 4) (imm : BitVec 18) (k : Nat) (corr bad : List Nat)
  /-- LDW (R524). `k` cycles of a register access; channels whose SRAM corrects the word, and in which it is
  uncorrectable. -/
  | ldw (gd ga : BitVec 4) (imm : BitVec 18) (k : Nat) (corr bad : List Nat)
  /-- FLD (R524). -/
  | fld (gd ga : BitVec 4) (imm : BitVec 18)
  /-- STB (R524). `k` cycles of a register access. -/
  | stb (gd ga : BitVec 4) (imm : BitVec 18) (k : Nat)
  /-- STH (R524). `k` cycles of a register access. -/
  | sth (gd ga : BitVec 4) (imm : BitVec 18) (k : Nat)
  /-- STW (R516). `k` cycles of a register access. -/
  | stw (gd ga : BitVec 4) (imm : BitVec 18) (k : Nat)
  /-- BR_EQ (R524). -/
  | brEq (ga gb : BitVec 4) (off : BitVec 18)
  /-- BR_NE (R524). -/
  | brNe (ga gb : BitVec 4) (off : BitVec 18)
  /-- BR_LTS (R524). -/
  | brLts (ga gb : BitVec 4) (off : BitVec 18)
  /-- BR_LES (R524). -/
  | brLes (ga gb : BitVec 4) (off : BitVec 18)
  /-- BR_LTU (R524). -/
  | brLtu (ga gb : BitVec 4) (off : BitVec 18)
  /-- BR_LEU (R524). -/
  | brLeu (ga gb : BitVec 4) (off : BitVec 18)
  /-- BR_ANY (R524). -/
  | brAny (ga gb : BitVec 4) (off : BitVec 18)
  /-- BR_NONE (R524). -/
  | brNone (ga gb : BitVec 4) (off : BitVec 18)
  /-- GO (R524). -/
  | go (off : BitVec 26)
  /-- CALL (R524). -/
  | call (off : BitVec 26)
  /-- ATW (R528). The flags of R528; `k` cycles until the status. -/
  | atw (gd ga : BitVec 4) (scale vtb : BitVec 2) (late : Bool) (kind : BitVec 2) (rest : BitVec 11) (k : Nat)
  /-- COMMIT (R528). The flags of R528; `k` cycles until the status. -/
  | commit (gd ga : BitVec 4) (scale vtb : BitVec 2) (late : Bool) (kind : BitVec 2) (rest : BitVec 11) (k : Nat)
  /-- LAUNCH_DAWN (R530). The flags of R528; `k` cycles until the status. -/
  | launchDawn (gd ga : BitVec 4) (scale vtb : BitVec 2) (late : Bool) (rest : BitVec 11) (k : Nat)
  /-- LAUNCH_RPL (R530). The flags of R528; `k` cycles until the status. -/
  | launchRpl (gd ga : BitVec 4) (scale vtb : BitVec 2) (late : Bool) (rest : BitVec 11) (k : Nat)
  /-- MARK (R530). The flags of R528; `k` cycles until the status. `reserved` makes KIND 0b11. -/
  | mark (gd ga : BitVec 4) (scale vtb : BitVec 2) (late reserved : Bool) (rest : BitVec 11) (k : Nat)
  /-- TSLICE_EXPIRY (R518). -/
  | tsliceExpiry
  /-- PROG_VERIFY (R537). The write holds TASK_AT too. -/
  | progVerify (taskAt : Nat)
  /-- PROG_VERIFY_DONE (R537). -/
  | progVerifyDone
  /-- PROG_SWITCH (R538). -/
  | progSwitch (key : Nat)
  /-- PROG_BANK_SWITCH (R538). -/
  | progBankSwitch
  /-- HB_SEND (R546). -/
  | hbSend
  /-- HB_RECEIVE (R547). The path, the sequence number, the health word, the pin path's CRC. -/
  | hbReceive (pod : Bool) (seq h crc : Nat)
  /-- HB_MISS (R547). -/
  | hbMiss (pod : Bool)
  /-- CLAIM_BACKOFF_EXPIRY (R550). -/
  | claimBackoffExpiry
  /-- CLAIM_IN_ASSERTED (R545). -/
  | claimInAsserted
  /-- CLAIM_IN_RELEASED (R545). -/
  | claimInReleased
  /-- CLAIM_GRANT (R550). -/
  | claimGrant
  /-- COLLISION_BACKOFF (R550). -/
  | collisionBackoff
  /-- COLLISION_UNRESOLVED (R550). -/
  | collisionUnresolved
  /-- KICK (R554). -/
  | kick
  /-- WDOG_EXPIRY (R554). -/
  | wdogExpiry
  /-- PAIR_RELEASE (R553). -/
  | pairRelease (key : Nat)
  /-- CLAIM_INHIBIT (R550). -/
  | claimInhibit (on : Bool)
  /-- REVERT_WTR_END (R556). -/
  | revertWtrEnd
  /-- REVERT_GO (R556). -/
  | revertGo
  /-- SYNC_SEND (R557). -/
  | syncSend
  /-- SYNC_PERIOD_SEND (R557). -/
  | syncPeriodSend
  /-- LDG_START (R576). The verdicts of the two chain heads' CRCs. -/
  | ldgStart (okA okB : Bool)
  /-- LDG_SECOND_RECORD (R568). -/
  | ldgSecondRecord
  /-- LDG_TICK (R569). -/
  | ldgTick
  /-- BOOK_OPEN (R572). -/
  | bookOpen (obj : Nat)
  /-- BOOK_CLOSE (R572). -/
  | bookClose (no : Nat)
  /-- LDG_POP (R577). -/
  | ldgPop
  /-- DOMAIN_POWER_ON (R586). -/
  | domainPowerOn (d : Nat)
  /-- DOMAIN_POWERED (R586). -/
  | domainPowered (d : Nat)
  /-- DOMAIN_POWER_OFF (R587). -/
  | domainPowerOff (d : Nat)
  /-- DOMAIN_OFF_ACK (R587). -/
  | domainOffAck (d : Nat)
  /-- DOMAIN_DRAIN_TIMEOUT (R587). -/
  | domainDrainTimeout (d : Nat)
  /-- DOMAIN_FORCE_OFF (R588). -/
  | domainForceOff (d : Nat)
  /-- RAIL_FAULT (R585). -/
  | railFault (r : Nat)
  /-- NIGHT_STOP_TIMEOUT (R590). -/
  | nightStopTimeout
  /-- NIGHT_ENTRY_DONE (R590). -/
  | nightEntryDone
  /-- WAKE_DONE (R592). -/
  | wakeDone
  /-- SENSOR_READING (R594). The reading in 1/16 °C; none for an open or shorted diode. -/
  | sensorReading (t : Option Int)
  /-- THERMAL_RESTART (R599). -/
  | thermalRestart
  /-- THROTTLE_TEST (R597). -/
  | throttleTest (on : Bool)
  /-- MADC_START (R602). -/
  | madcStart
  /-- MADC_RESULT (R603). The raw result. -/
  | madcResult (raw : Int)
  /-- MADC_CH_WRITE (R604). -/
  | madcChWrite (ch : Nat)
  /-- CAL_ZERO (R605). -/
  | calZero
  /-- CAL_FS (R605). -/
  | calFs
  /-- MADC_CAL_DONE (R605). -/
  | madcCalDone
  /-- HOST_BAR0_REQUEST (R613). -/
  | hostBar0Request (r : Bar0Req)
  /-- HOST_LINK_RESET (R614). A link-down event, else FLR, hot reset or D3hot. -/
  | hostLinkReset (down : Bool)
  /-- PCIE_PERST (R644). -/
  | pciePerst (low : Bool)
  /-- MBOX_RING (R616). The mailbox from supervisor to host, else from host to supervisor. -/
  | mboxRing (s2h : Bool) (len : Nat)
  /-- MBOX_ACK (R616). -/
  | mboxAck (s2h : Bool)
  /-- DMA_START (R617). The write holds DIR too. -/
  | dmaStart (k : Nat) (dir : Bool)
  /-- DMA_DONE (R618). Words moved to the device; a PCIe error after them. -/
  | dmaDone (k : Nat) (ws : List Nat) (err : Bool)
  /-- BOOT_FLASH_HEADERS (R620). The two headers. -/
  | bootFlashHeaders (h0 h1 : List Nat)
  /-- BOOT_IMAGE_READ (R620). The image's bytes. -/
  | bootImageRead (img : List Nat)
  /-- BOOT_VERIFY_DONE (R619). -/
  | bootVerifyDone
  /-- BOOT_GO (R621). -/
  | bootGo
  /-- BOOT_REQ_SEND (R622). -/
  | bootReqSend
  /-- BOOT_PEER_TIMEOUT (R619). -/
  | bootPeerTimeout
  /-- LC_ADVANCE (R625). -/
  | lcAdvance
  /-- LC_ROLLBACK (R625). -/
  | lcRollback
  /-- LC_REVOKE (R625). -/
  | lcRevoke (n : Nat)
  /-- LC_FUSE (R625). -/
  | lcFuse (n : Nat)
  /-- ID_POLL (R627). -/
  | idPoll (c : Carrier) (ack : Bool)
  /-- ID_READ_DONE (R627). The 256 bytes. -/
  | idReadDone (c : Carrier) (b : List Nat)
  /-- ID_REREAD (R627). -/
  | idReread (c : Carrier)
  /-- SPI_START (R629). -/
  | spiStart
  /-- SPI_DONE (R629). The bytes that the flash sent. -/
  | spiDone (data : List Nat)
  /-- UB_RD (R631). -/
  | ubRd (addr : Nat)
  /-- UB_WR (R631). -/
  | ubWr (addr v : Nat)
  /-- UB_MRD (R631). -/
  | ubMrd (addr : Nat)
  /-- UB_MWR (R631). -/
  | ubMwr (addr v : Nat)
  /-- UB_DRD (R631). -/
  | ubDrd (n : Nat)
  /-- UB_DWR (R631). -/
  | ubDwr (n v : Nat)
  /-- UB_ID (R631). -/
  | ubId
  /-- UB_CHAL (R631). -/
  | ubChal (addr : Nat)
  /-- UB_RESP (R631). -/
  | ubResp (addr v : Nat)
  /-- UB_UNLOCK (R632). -/
  | ubUnlock
  /-- DBG_HALT_REQ (R633). -/
  | dbgHaltReq
  /-- DBG_RESUME (R633). -/
  | dbgResume
  /-- DBG_STEP (R633). -/
  | dbgStep
  /-- DBG_BREAKPOINT (R633). -/
  | dbgBreakpoint (i : Nat)
  /-- DBG_WATCHPOINT (R633). The access just made. -/
  | dbgWatchpoint (i addr : Nat) (store : Bool)
  /-- JTAG_BYPASS (R635). -/
  | jtagBypass
  /-- JTAG_IDCODE (R635). -/
  | jtagIdcode
  /-- JTAG_SAMPLE_PRELOAD (R635). -/
  | jtagSamplePreload
  /-- JTAG_EXTEST (R635). -/
  | jtagExtest
  /-- JTAG_CLAMP (R635). -/
  | jtagClamp
  /-- JTAG_HIGHZ (R635). -/
  | jtagHighz
  /-- JTAG_EXTEST_PULSE (R635). -/
  | jtagExtestPulse
  /-- JTAG_EXTEST_TRAIN (R635). -/
  | jtagExtestTrain
  /-- PCIE_LINK_UP (R612). -/
  | pcieLinkUp (width speed : Nat)
  /-- RAIL_WITHIN_TOLERANCE (R585). -/
  | railWithinTolerance (r : Nat)
  /-- PIN_READBACK_MISMATCH (R548). CLAIM_OUT_N, else HB_OUT; the levels differ, or agree again. -/
  | pinReadbackMismatch (claim bad : Bool)
  /-- LN_PAT_WRITE (R388). -/
  | lnPatWrite (n : Nat) (gen chk : Bool)
  /-- MADC_RUN_CLEAR (R605). -/
  | madcRunClear
  deriving DecidableEq, Repr

end Sys2Proof
end

