-- ==== Sys2Proof/Machine/Bits.lean ====
section
/-! DEFINITION. Bit fields, two's complement, byte order and the CRCs of R667 (CRC-8, CRC-16 given by polynomial
and initial value) and IEEE 802.3 CRC-32. Numbers here are natural numbers whose bits are meant. -/

namespace Sys2Proof.Machine

/-- Bits `msb:lsb` of `v` (R3: bit 0 is the least significant). -/
def bitsOf (v msb lsb : Nat) : Nat := (v >>> lsb) % 2 ^ (msb + 1 - lsb)

/-- Bit `i` of `v`. -/
def bitOf (v i : Nat) : Bool := v.testBit i

/-- The two's complement reading of the low `w` bits of `v`. -/
def toSigned (w v : Nat) : Int :=
  let m := v % 2 ^ w
  if 2 * m < 2 ^ w then (m : Int) else (m : Int) - (2 ^ w : Nat)

/-- The low `w` bits that hold the integer `x` in two's complement. -/
def ofSigned (w : Nat) (x : Int) : Nat := (x % ((2 ^ w : Nat) : Int)).toNat

/-- An integer held within the range of a signed `w`-bit field. -/
def clampSigned (w : Nat) (x : Int) : Int :=
  let hi : Int := ((2 ^ (w - 1) : Nat) : Int) - 1
  let lo : Int := -((2 ^ (w - 1) : Nat) : Int)
  if x > hi then hi else if x < lo then lo else x

/-- A natural number held at the largest value of a `w`-bit field. -/
def satTo (w n : Nat) : Nat := min n (2 ^ w - 1)

/-- A Bool as the value of a one-bit field. -/
def b2n (b : Bool) : Nat := if b then 1 else 0

/-- The low `n` bits of `v`, most significant first: the order in which R667 takes them. -/
def msbFirst : Nat → Nat → List Bool
  | 0, _ => []
  | n + 1, v => v.testBit n :: msbFirst n v

/-- One bit into a CRC register of width `w` with generator `poly` (R667). -/
def crcBit (w poly : Nat) (reg : Nat) (b : Bool) : Nat :=
  let fb := xor (reg.testBit (w - 1)) b
  let sh := (reg <<< 1) % 2 ^ w
  if fb then sh ^^^ poly else sh

/-- R667: the CRC of width `w`, generator `poly` and initial value `init` over bits in the order they enter. -/
def crcOf (w poly init : Nat) (bits : List Bool) : Nat := bits.foldl (crcBit w poly) init

/-- Bytes in the order R667 takes them: byte 0 first, bit 7 of each byte first. -/
def bytesMsbFirst (bs : List Nat) : List Bool := bs.flatMap (msbFirst 8)

/-- One bit of the reflected CRC-32 register of IEEE 802.3. -/
def crc32Bit (reg : Nat) : Nat := if reg.testBit 0 then (reg >>> 1) ^^^ 0xEDB88320 else reg >>> 1

/-- One byte into the reflected CRC-32 register. -/
def crc32Byte (reg b : Nat) : Nat :=
  let r := reg ^^^ (b % 256)
  crc32Bit (crc32Bit (crc32Bit (crc32Bit (crc32Bit (crc32Bit (crc32Bit (crc32Bit r)))))))

/-- CRC-32 of IEEE 802.3 over bytes, with its reflection and final inversion (R667). -/
def crc32 (bs : List Nat) : Nat := (bs.foldl crc32Byte 0xFFFFFFFF) ^^^ 0xFFFFFFFF

/-- The `n` bytes of `v`, least significant first (R4: little-endian). -/
def leBytes : Nat → Nat → List Nat
  | 0, _ => []
  | n + 1, v => v % 256 :: leBytes n (v / 256)

/-- The number whose bytes, least significant first, are given. -/
def ofLe : List Nat → Nat
  | [] => 0
  | b :: bs => b % 256 + 256 * ofLe bs

/-- The number whose bytes, most significant first, are given. -/
def ofBe (bs : List Nat) : Nat := bs.foldl (fun a b => a * 256 + b % 256) 0

/-- The `n` bytes of `v`, most significant first. -/
def beBytes (n v : Nat) : List Nat := (leBytes n v).reverse

/-- The numbers of a mask's set bits below `n`, rising. -/
def bitsSet (n mask : Nat) : List Nat := (List.range n).filter (fun i => mask.testBit i)

/-- `mask` with bit `i` set. -/
def setBit (mask i : Nat) : Nat := mask ||| (1 <<< i)

/-- `mask` with bit `i` clear. -/
def clrBit (mask i : Nat) : Nat := if mask.testBit i then mask ^^^ (1 <<< i) else mask

/-- `mask` with bit `i` as `b` says. -/
def putBit (mask i : Nat) (b : Bool) : Nat := if b then setBit mask i else clrBit mask i

/-- Division rounding to nearest, halves away from zero. -/
def divRound (a b : Nat) : Nat := if b = 0 then 0 else (2 * a + b) / (2 * b)

/-- Integer division rounding to nearest, halves away from zero. -/
def divRoundI (a : Int) (b : Nat) : Int :=
  if a ≥ 0 then (divRound a.toNat b : Int) else -(divRound (-a).toNat b : Int)

/-- A left fold that also gives each element's index, counted from `i`. -/
def foldIdx {σ α : Type} (f : Nat → σ → α → σ) : Nat → σ → List α → σ
  | _, s, [] => s
  | i, s, x :: xs => foldIdx f (i + 1) (f i s x) xs

end Sys2Proof.Machine
end

