-- ==== Sys2Proof/Machine/Signal.lean ====
section
/-! DEFINITION. What the transmit path sends, symbol by symbol: pseudo-random sequences, line frames, Bexa frames, the Dawn
preamble and its descriptor, distribution matching and mapping (R47 to R56, R70, R182 to R184). A symbol is its I and Q in the
units of R56. -/

namespace Sys2Proof

/-! Bit strings. -/

/-- The string of no bits. -/
def BitStr.nil : BitStr := ⟨0, 0⟩
/-- The low `n` bits of `v`. -/
def BitStr.of (n v : Nat) : BitStr := ⟨n, v % 2 ^ n⟩
/-- One string after another. -/
def BitStr.app (a b : BitStr) : BitStr := ⟨a.len + b.len, a.val + b.val * 2 ^ a.len⟩
/-- The first `n` bits. -/
def BitStr.take (a : BitStr) (n : Nat) : BitStr := ⟨min n a.len, a.val % 2 ^ n⟩
/-- All but the first `n` bits. -/
def BitStr.drop (a : BitStr) (n : Nat) : BitStr := ⟨a.len - n, a.val / 2 ^ n⟩
/-- Zeros after the string up to a length that is a multiple of `b`. -/
def BitStr.padTo (a : BitStr) (b : Nat) : BitStr := ⟨a.len + (b - a.len % b) % b, a.val⟩

end Sys2Proof

namespace Sys2Proof.Machine

open Sys2Proof

/-! Pseudo-random sequences (ITU-T O.150), x^n + x^k + 1; log entry 95. -/

/-- The bit that leaves the register: stage n. -/
def prbsOut (n st : Nat) : Nat := st / 2 ^ (n - 1) % 2
/-- The register after one shift: the sum of stages n and k enters stage 1. -/
def prbsNext (n k st : Nat) : Nat := (2 * st + (prbsOut n st + prbsOut k st) % 2) % 2 ^ n
/-- The register after `m` shifts. -/
def prbsAfter (n k : Nat) : Nat → Nat → Nat
  | 0, st => st
  | m + 1, st => prbsAfter n k m (prbsNext n k st)
/-- The next `m` bits of the sequence. -/
def prbsBits (n k : Nat) : Nat → Nat → List Nat
  | 0, _ => []
  | m + 1, st => prbsOut n st :: prbsBits n k m (prbsNext n k st)
/-- Bits in sending order as a string. -/
def bitsStr (bs : List Nat) : BitStr := ⟨bs.length, bs.foldr (fun b v => b + 2 * v) 0⟩

/-- A byte with its bits in the opposite order. -/
def revByte (v : Nat) : Nat := (List.range 8).foldl (fun x j => 2 * x + v / 2 ^ j % 2) 0
/-- The lowest `n` bytes of a number, the lowest first, each reversed. -/
def revBytes : Nat → Nat → List Nat
  | 0, _ => []
  | n + 1, v => revByte (v % 256) :: revBytes n (v / 256)
/-- Bytes in sending order, bit 7 of each first, as a string (R262). -/
def byteStr (bs : List Nat) : BitStr := ⟨8 * bs.length, bs.foldr (fun b v => revByte b + 256 * v) 0⟩
/-- The whole bytes of such a string. -/
def strBytes (x : BitStr) : List Nat := revBytes (x.len / 8) x.val

/-! QPSK sections. -/

/-- R48: a bit gives the sign of a dimension, 0 a positive value. -/
def signed (m b : Nat) : Int := if b = 0 then (m : Int) else -(m : Int)
/-- Two bits per symbol: the first the sign of I, the second that of Q (R48). -/
def qpsk (m : Nat) : List Nat → List (Int × Int)
  | a :: b :: l => (signed m a, signed m b) :: qpsk m l
  | _ => []

/-- R50: the magnitude of each dimension of a sync-word, header or pilot symbol, 256 × 10^(PILOT_GAIN/20), rounded (log entry
95). -/
def pilotMag (gain : Nat) : Nat := [256, 287, 322, 362].getD gain 0

/-- The two polarisations of a section. -/
structure Section where
  x : List (Int × Int)
  y : List (Int × Int)
  deriving DecidableEq, Repr

/-- One section after another. -/
def Section.app (a b : Section) : Section := ⟨a.x ++ b.x, a.y ++ b.y⟩

/-- R49: the first `m` bits of the sync word of a polarisation, X = 0 with the seed 0x1FF, Y = 1 with the seed 0x0AA. -/
def syncBits (m pol : Nat) : List Nat := prbsBits 9 5 m (if pol = 0 then 0x1FF else 0x0AA)

/-- R49: a frame sync word of `n` symbols. -/
def syncWord (gain n : Nat) : Section :=
  ⟨qpsk (pilotMag gain) (syncBits (2 * n) 0), qpsk (pilotMag gain) (syncBits (2 * n) 1)⟩

/-- R48: the 64 header symbols, HDR[127] first, the same on X and Y. -/
def headerSyms (gain hdr : Nat) : Section :=
  let h := qpsk (pilotMag gain) ((List.range 128).map (fun i => b2n (bitOf hdr (127 - i))))
  ⟨h, h⟩

/-! Distribution matching and mapping (R53 to R55). -/

/-- n! -/
def fact : Nat → Nat
  | 0 => 1
  | n + 1 => (n + 1) * fact n

/-- Sequences with a composition: how often each amplitude comes, smallest amplitude first. -/
def seqCount (comp : List Nat) : Nat := fact (comp.foldl (· + ·) 0) / comp.foldl (fun p n => p * fact n) 1
/-- The sum of the squared amplitudes 1, 3, 5, 7 of a composition. -/
def compEnergy (comp : List Nat) : Nat := foldIdx (fun i e n => e + n * (2 * i + 1) ^ 2) 0 0 comp

/-- The ways to give out 124 dimensions to the amplitudes of a modulation. -/
def compositions (md : Nat) : List (List Nat) :=
  if md = 2 then (List.range 125).map (fun b => [124 - b, b])
  else
    (List.range 125).flatMap (fun a => (List.range (125 - a)).flatMap (fun b => (List.range (125 - a - b)).map (fun c =>
      [124 - a - b - c, a, b, c])))

/-- R54: the composition with the lowest mean energy that has at least 2^bits sequences; of two with one energy the one with
more sequences (log entry 95). -/
def composition (md bits : Nat) : List Nat :=
  ((compositions md).foldl (fun (best : Option (List Nat)) c =>
    if seqCount c < 2 ^ bits then best
    else
      match best with
      | none => some c
      | some d =>
        if compEnergy c < compEnergy d ∨ (compEnergy c = compEnergy d ∧ seqCount d < seqCount c) then some c else best)
    none).getD []

/-- The sequence of `n` amplitudes at place `v` in lexicographic order among those with a composition (log entry 95). -/
def unrank : Nat → List Nat → Nat → List Nat
  | 0, _, _ => []
  | n + 1, comp, v =>
    let pick := fun (acc : Nat × Option Nat) (i : Nat) =>
      match acc.2 with
      | some _ => acc
      | none =>
        if comp.getD i 0 = 0 then acc
        else
          let m := seqCount (comp.set i (comp.getD i 0 - 1))
          if acc.1 < m then (acc.1, some i) else (acc.1 - m, none)
    match (List.range comp.length).foldl pick (v, none) with
    | (r, some i) => (2 * i + 1) :: unrank n (comp.set i (comp.getD i 0 - 1)) r
    | (_, none) => []

/-- The amplitude bits as a number, the first bit the most significant. -/
def ampValue (n v : Nat) : Nat := (List.range n).foldl (fun x i => 2 * x + b2n (bitOf v i)) 0

/-- R54: the 124 amplitudes of a block, from its amplitude bits, and the sum of the squares that fixes the scale of R55. -/
def amplitudes (md b v : Nat) : List Nat × Nat :=
  if md = 0 then (List.replicate 124 1, 124)
  else if md = 1 then ((List.range 124).map (fun i => 1 + 2 * b2n (bitOf v i)), 620)
  else
    let comp := composition md (b - 124)
    (unrank 124 comp (ampValue (b - 124) v), compEnergy comp)

/-- The largest number whose square is at most `n`, below 2^w. -/
def isqrt : Nat → Nat → Nat → Nat
  | 0, _, r => r
  | w + 1, n, r => if (r + 2 ^ w) ^ 2 ≤ n then isqrt w n (r + 2 ^ w) else isqrt w n r

/-- R55: A × k, with k such that the RMS of a dimension is 256, rounded to the nearest integer (log entry 95). -/
def mapAmp (energy a : Nat) : Nat := (isqrt 20 (4 * a * a * 65536 * 124 / energy) 0 + 1) / 2

/-- R54, R55: the 124 dimensions of a block of `b` bits. -/
def blockDims (md b v : Nat) : List Int :=
  let amp := amplitudes md b (v / 2 ^ 124)
  (List.range 124).map (fun i => signed (mapAmp amp.2 (amp.1.getD i 0)) (b2n (bitOf v i)))

/-- The dimensions XI, XQ, YI, YQ of one symbol after another (R54). -/
def dimSyms : List Int → Section
  | a :: b :: c :: d :: l => let r := dimSyms l; ⟨(a, b) :: r.x, (c, d) :: r.y⟩
  | _ => ⟨[], []⟩

/-- R47: a pilot block: its pilot, then 31 payload symbols of each polarisation. -/
def pilotBlock (px py : Int × Int) (dims : List Int) : Section :=
  let d := dimSyms dims
  ⟨px :: d.x, py :: d.y⟩

/-- Pilot blocks from their pilots and from the matcher's input, `b` bits each (R47, R49, R51). -/
def pilotBlocks (md b : Nat) : List ((Int × Int) × (Int × Int)) → BitStr → Section
  | [], _ => ⟨[], []⟩
  | p :: ps, bits => (pilotBlock p.1 p.2 (blockDims md b (bits.take b).val)).app (pilotBlocks md b ps (bits.drop b))

/-- R49: the pilots of a frame, PRBS-15 reloaded with the seeds. -/
def pilots (gain seedX seedY : Nat) : List ((Int × Int) × (Int × Int)) :=
  (qpsk (pilotMag gain) (prbsBits 15 14 8176 seedX)).zip (qpsk (pilotMag gain) (prbsBits 15 14 8176 seedY))

/-- R47: a line frame of 131,072 symbols per polarisation. -/
def lineFrameSyms (gain hdr seedX seedY md b : Nat) (bits : BitStr) : Section :=
  ((syncWord gain 192).app (headerSyms gain hdr)).app (pilotBlocks md b (pilots gain seedX seedY) bits)

/-- R70: symbols of uniform DP-16QAM, each from four sign bits and then four amplitude bits in the order XI, XQ, YI, YQ (log
entry 95). -/
def uniformSyms : Nat → BitStr → Section
  | 0, _ => ⟨[], []⟩
  | n + 1, bits =>
    let v := bits.val
    let d := (List.range 4).map (fun i => signed (mapAmp 620 (1 + 2 * b2n (bitOf v (4 + i)))) (b2n (bitOf v i)))
    (dimSyms d).app (uniformSyms n (bits.drop 8))

/-- R70: a Bexa frame: a sync word of 128 symbols, then 65,408 symbols of uniform DP-16QAM. -/
def bexaFrameSyms (gain : Nat) (bits : BitStr) : Section := (syncWord gain 128).app (uniformSyms 65408 bits)

/-! The Dawn preamble (R182 to R184). -/

/-- R183: the descriptor D[63:0]. -/
def descriptorWord (src n md ent rate : Nat) : Nat :=
  let hi := ((((src % 65536) * 65536 + n % 65536) * 8 + md % 8) * 128 + ent % 128) * 4 + rate % 4
  let hi := hi * 16
  hi * 65536 + crcOf 16 0x1021 0xFFFF (msbFirst 48 hi)

/-- The monomials of R184 at the place `j`: xk is bit k − 1 of j. -/
def rmMonomials (j : Nat) : List Nat :=
  let x := fun k => j / 2 ^ (k - 1) % 2
  [1, x 1, x 2, x 3, x 4, x 5, x 1 * x 2, x 1 * x 3, x 1 * x 4, x 1 * x 5, x 2 * x 3, x 2 * x 4, x 2 * x 5, x 3 * x 4,
    x 3 * x 5, x 4 * x 5]

/-- R184: bit j of the codeword of a word. -/
def rmBit (w j : Nat) : Nat := (foldIdx (fun i a m => a + m * (w / 2 ^ i % 2)) 0 0 (rmMonomials j)) % 2

/-- R184: the 128 coded bits of a descriptor in sending order: W3, W2, W1, W0, each with bit 0 first. -/
def descriptorBits (d : Nat) : List Nat :=
  [3, 2, 1, 0].flatMap (fun i => (List.range 32).map (rmBit (d / 65536 ^ i % 65536)))

/-- R184: each coded bit on 16 symbols, as both bits of the mapping. -/
def descriptorSyms (gain d : Nat) : List (Int × Int) :=
  (descriptorBits d).flatMap (fun c => List.replicate 16 (signed (pilotMag gain) c, signed (pilotMag gain) c))

/-- cos x with x in units of 2^-30, scaled by 2^30: the series to twelve terms. -/
def cosSeries (x : Int) : Int :=
  ((List.range 12).foldl (fun (acc : Int × Int) (i : Nat) =>
    let t := -(acc.2 * x * x) / (2 ^ 60 * (((2 * i + 1) * (2 * i + 2) : Nat) : Int))
    (acc.1 + t, t)) (2 ^ 30, 2 ^ 30)).1

/-- π scaled by 2^30. -/
def piFix : Int := 3373259426
/-- cos(2πn/2048), scaled by 2^30. -/
def cosTurn (n : Nat) : Int :=
  let m := n % 2048
  if m ≤ 512 then cosSeries (piFix * m / 1024)
  else if m ≤ 1024 then -cosSeries (piFix * (1024 - m) / 1024)
  else if m ≤ 1536 then -cosSeries (piFix * (m - 1024) / 1024)
  else cosSeries (piFix * (2048 - m) / 1024)

/-- 256 × √2 × 10^(PILOT_GAIN/20), scaled by 2^20: the modulus of a QPSK symbol under R50. -/
def pilotModulus (gain : Nat) : Int := [379625062, 425946326, 477919638, 536234654].getD gain 0

/-- A coordinate of a symbol of the detection section, rounded (log entry 95). -/
def roundFix (x : Int) : Int := (x + 2 ^ 49) / 2 ^ 50

/-- R182: the symbol at an angle of −2πn/2048 with the modulus of a QPSK symbol. -/
def turnSym (gain n : Nat) : Int × Int :=
  (roundFix (pilotModulus gain * cosTurn n), roundFix (pilotModulus gain * cosTurn (n + 512)))

/-- R182: eight repeats of exp(−jπ·m·k²/1,024), k = 0 to 1,023. -/
def detectSyms (gain m : Nat) : List (Int × Int) :=
  (List.replicate 8 ((List.range 1024).map (fun k => turnSym gain (m * k * k % 2048)))).flatten

/-- A section of PRBS-15 (R182). -/
def prbs15Section (gain n seedX seedY : Nat) : Section :=
  ⟨qpsk (pilotMag gain) (prbsBits 15 14 (2 * n) seedX), qpsk (pilotMag gain) (prbsBits 15 14 (2 * n) seedY)⟩

/-- R182: the 32,768 symbols of a preamble whose descriptor is `d`. -/
def preambleSyms (gain d : Nat) : Section :=
  let agc : Section := ⟨qpsk (pilotMag gain) (prbsBits 7 6 8192 0x7F), qpsk (pilotMag gain) (prbsBits 7 6 8192 0x35)⟩
  let det : Section := ⟨detectSyms gain 1, detectSyms gain 3⟩
  let desc : Section := ⟨descriptorSyms gain d, descriptorSyms gain d⟩
  (((agc.app det).app (prbs15Section gain 16384 0x0F0F 0x7070)).app (prbs15Section gain 2048 0x2B3D 0x5C1E)).app desc

end Sys2Proof.Machine
end

