-- ==== Sys2Proof/Machine/Pattern.lean ====
section
/-! DEFINITION. The patterns of the serial lanes: generator, error injection, checker (R406). Bits of a window stand in sending
order from bit 0 up. -/

namespace Sys2Proof.Machine

open Sys2Proof

/-- Stages and taps of the generator of a pattern code: PRBS-7, 9, 15, 23, PRBS13, else PRBS-31 (R406, ITU-T O.150, IEEE
802.3). -/
def patPoly (code : Nat) : Nat × List Nat :=
  if code = 0 then (7, [7, 6]) else if code = 1 then (9, [9, 5]) else if code = 2 then (15, [15, 14])
  else if code = 3 then (23, [23, 18]) else if code = 5 then (13, [13, 12, 2, 1]) else (31, [31, 28])

/-- The code in force: 7 acts as 4, and at the NRZ rate 5 too. -/
def patCode (pam : Bool) (sel : Nat) : Nat := if sel = 7 ∨ (sel = 5 ∧ pam = false) then 4 else sel

/-- O.150 sends PRBS-15, PRBS-23 and PRBS-31 inverted (log entry 95). -/
def patInverted (code : Nat) : Bool := code == 2 || code == 3 || code == 4

/-- Bits of the square wave: eight symbols at the lowest level and eight at the highest, 00 and 10 at PAM4 (R384). -/
def squareBits (pam : Bool) : Nat := if pam then 32 else 16
/-- Bit `i` of the square wave. -/
def squareBit (pam : Bool) (i : Nat) : Nat :=
  if pam then (if 16 ≤ i % 32 ∧ i % 2 = 0 then 1 else 0) else if 8 ≤ i % 16 then 1 else 0

/-- The register of a generator at its start: ones; the square wave counts its bits. -/
def patStart (code : Nat) : Nat := if code = 6 then 0 else 2 ^ (patPoly code).1 - 1

/-- One bit of a pattern, and the register after it. -/
def patStep (pam : Bool) (code reg : Nat) : Nat × Nat :=
  if code = 6 then (squareBit pam reg, (reg + 1) % squareBits pam)
  else
    let p := patPoly code
    let fb := (p.2.map (fun t => prbsOut t reg)).foldl (· + ·) 0 % 2
    ((prbsOut p.1 reg + b2n (patInverted code)) % 2, (2 * reg + fb) % 2 ^ p.1)

/-- `m` bits of a pattern from bit `i` of a window on, and the register after them. -/
def patRun (pam : Bool) (code : Nat) : Nat → Nat → Nat → Nat → Nat × Nat
  | 0, _, reg, out => (out, reg)
  | m + 1, i, reg, out =>
    let s := patStep pam code reg
    patRun pam code m (i + 1) s.2 (out + s.1 * 2 ^ i)

/-- Bits of a window that INJ_RATE inverts, the last of every 2^k, of 1,024 bits after `at'` (R406; log entry 105). -/
def injMask (rate at' : Nat) : Nat :=
  if rate = 0 then 0
  else (List.range 1024).foldl (fun m i => if (at' + i + 1) % 2 ^ max 10 rate = 0 then setBit m i else m) 0

/-- What inverting the polarity does to a window: every bit, at PAM4 the first bit of each Gray-coded pair (R384). -/
def polMask (pam : Bool) : Nat := if pam then (2 ^ 1024 - 1) / 3 else 2 ^ 1024 - 1

/-- Registers with which the first bits of a window agree. -/
def patSeeds (pam : Bool) (code w : Nat) : List Nat :=
  if code = 6 then List.range (squareBits pam)
  else
    let n := (patPoly code).1
    let v := if patInverted code then w ^^^ (2 ^ 1024 - 1) else w
    let r := (List.range n).foldl (fun x i => 2 * x + b2n (v.testBit i)) 0
    if r = 0 then [] else [r]

/-- An error-free window in one polarity: the register after it. -/
def patFits (pam : Bool) (code w : Nat) : Option Nat :=
  ((patSeeds pam code w).map (fun r => patRun pam code 1024 0 r 0)).findSome? (fun x => if x.1 = w then some x.2 else none)

/-- A window error-free in either polarity: the register after it, and the inversion (R406). -/
def patFound (pam : Bool) (code w : Nat) : Option (Nat × Bool) :=
  match patFits pam code w with
  | some r => some (r, false)
  | none => (patFits pam code (w ^^^ polMask pam)).map (fun r => (r, true))

end Sys2Proof.Machine
end

