-- ==== Sys2Proof/Machine/Packet.lean ====
section
/-! DEFINITION. Ethernet frames as lists of bytes from the destination address on: the fields that ports, taps and replay
look at (R333, R344, R353, R355) and the rewrites of R344 and R373. -/

namespace Sys2Proof.Machine

/-- Byte `i` of a frame; 0 past its end. -/
def byteAt (f : List Nat) (i : Nat) : Nat := (f[i]?).getD 0
/-- A field of `n` bytes, most significant first. -/
def beAt (f : List Nat) (i n : Nat) : Nat := ofBe ((f.drop i).take n)
/-- Bytes written over a frame from `i` on. -/
def putAt (f : List Nat) (i : Nat) (bs : List Nat) : List Nat :=
  f.take i ++ (bs.take (f.length - i) ++ f.drop (i + bs.length))
/-- A field of `n` bytes written most significant byte first. -/
def putBe (f : List Nat) (i n v : Nat) : List Nat := putAt f i (beBytes n v)

/-- The FCS of a frame, as its four last bytes carry it. -/
def fcsOf (f : List Nat) : List Nat := leBytes 4 (crc32 f)
/-- A frame without its last four bytes. -/
def dropFcs (f : List Nat) : List Nat := f.take (f.length - 4)
/-- A frame whose FCS is good. -/
def fcsGood (f : List Nat) : Bool := decide (4 ≤ f.length) && f.drop (f.length - 4) == fcsOf (dropFcs f)

/-- An EtherType that names a VLAN tag. -/
def isVlan (t : Nat) : Bool := t == 0x8100 || t == 0x88A8
/-- VLAN tags in front of the EtherType; at most two are looked through. -/
def vlanTags (f : List Nat) : Nat := if isVlan (beAt f 12 2) then (if isVlan (beAt f 16 2) then 2 else 1) else 0
/-- VID of the outer VLAN tag. -/
def outerVid (f : List Nat) : Option Nat := if vlanTags f = 0 then none else some (beAt f 14 2 % 4096)
/-- EtherType behind the tags. -/
def etherType (f : List Nat) : Nat := beAt f (12 + 4 * vlanTags f) 2
/-- Where the payload begins. -/
def l3Off (f : List Nat) : Nat := 14 + 4 * vlanTags f

/-- An IPv4 packet. -/
def isIp4 (f : List Nat) : Bool := etherType f == 0x0800
/-- An IPv6 packet. -/
def isIp6 (f : List Nat) : Bool := etherType f == 0x86DD
/-- An IPv6 extension header that stands between the IPv6 header and what it carries: hop-by-hop, routing, fragment,
authentication, destination options, mobility, HIP, shim6. -/
def isExtHeader (nh : Nat) : Bool := [0, 43, 44, 51, 60, 135, 139, 140].contains nh
/-- Bytes of an extension header at `o`. -/
def extHeaderLen (f : List Nat) (nh o : Nat) : Nat :=
  if nh = 44 then 8 else if nh = 51 then 4 * (byteAt f (o + 1) + 2) else 8 * (byteAt f (o + 1) + 1)
/-- The extension headers from one at `o` of kind `nh` on: what lies behind them, where, and whether a fragment header is among
them. -/
def ip6Walk (f : List Nat) : Nat → Nat → Nat → Bool → Nat × Nat × Bool
  | 0, nh, o, frag => (nh, o, frag)
  | n + 1, nh, o, frag =>
    if isExtHeader nh then ip6Walk f n (byteAt f o) (o + extHeaderLen f nh o) (frag || nh == 44) else (nh, o, frag)
/-- What an IPv6 packet carries behind its extension headers, where, and whether it is a fragment. -/
def ip6Upper (f : List Nat) : Nat × Nat × Bool := ip6Walk f f.length (byteAt f (l3Off f + 6)) (l3Off f + 40) false
/-- An IP fragment. -/
def isFragment (f : List Nat) : Bool :=
  (isIp4 f && beAt f (l3Off f + 6) 2 &&& 0x3FFF != 0) || (isIp6 f && (ip6Upper f).2.2)
/-- The bytes of the IP destination. -/
def ipDst (f : List Nat) : List Nat :=
  if isIp4 f then (f.drop (l3Off f + 16)).take 4 else if isIp6 f then (f.drop (l3Off f + 24)).take 16 else []
/-- Where the UDP header begins, when the packet carries one. -/
def udpOff (f : List Nat) : Option Nat :=
  if isFragment f then none
  else if isIp4 f && byteAt f (l3Off f + 9) == 17 then some (l3Off f + 4 * (byteAt f (l3Off f) % 16))
  else if isIp6 f && (ip6Upper f).1 == 17 then some (ip6Upper f).2.1
  else none
/-- UDP destination port. -/
def udpDst (f : List Nat) : Option Nat := (udpOff f).map (fun u => beAt f (u + 2) 2)
/-- Where an RTP version 2 header begins after UDP (R355). -/
def rtpOff (f : List Nat) : Option Nat :=
  (udpOff f).bind (fun u => if u + 20 ≤ f.length ∧ byteAt f (u + 8) / 64 = 2 then some (u + 8) else none)

/-- Where a PTP event message begins, messageType 0 to 3 (R344). -/
def ptpOff (f : List Nat) : Option Nat :=
  let o := if etherType f = 0x88F7 ∧ vlanTags f ≤ 1 then some (l3Off f)
    else if udpDst f = some 319 then (udpOff f).map (· + 8) else none
  o.bind (fun p => if p + 34 ≤ f.length ∧ byteAt f p % 16 ≤ 3 then some p else none)

/-- The ones' complement sum of 16-bit words. -/
def sum16 (bs : List Nat) : Nat :=
  let n := (List.range ((bs.length + 1) / 2)).foldl (fun a i => a + 256 * byteAt bs (2 * i) + byteAt bs (2 * i + 1)) 0
  let n := n % 65536 + n / 65536
  n % 65536 + n / 65536

/-- The IPv4 header checksum recomputed. -/
def fixIp4 (f : List Nat) : List Nat :=
  if isIp4 f then
    let f := putBe f (l3Off f + 10) 2 0
    let hdr := (f.drop (l3Off f)).take (4 * (byteAt f (l3Off f) % 16))
    putBe f (l3Off f + 10) 2 (65535 - sum16 hdr)
  else f

/-- The UDP checksum after a rewrite: 0 for IPv4, recomputed for IPv6 (R344, R373). -/
def fixUdp (f : List Nat) : List Nat :=
  match udpOff f with
  | none => f
  | some u =>
    let f := putBe f (u + 6) 2 0
    if isIp4 f then f
    else
      let len := beAt f (u + 4) 2
      let pseudo := (f.drop (l3Off f + 8)).take 32 ++ beBytes 4 len ++ [0, 0, 0, 17]
      let c := 65535 - sum16 (pseudo ++ (f.drop u).take len)
      putBe f (u + 6) 2 (if c = 0 then 65535 else c)

/-- The ingress timestamp written into messageTypeSpecific (R344). -/
def ptpIngress (f : List Nat) (ts : Nat) : List Nat :=
  match ptpOff f with
  | some p => putBe f (p + 16) 4 (ts % 2 ^ 32)
  | none => f

/-- One-step egress: the residence is added to correctionField, messageTypeSpecific becomes 0 (R344). -/
def ptpOneStep (f : List Nat) (ts : Nat) : List Nat :=
  match ptpOff f with
  | none => f
  | some p =>
    let d := (ts % 2 ^ 32 + 2 ^ 32 - beAt f (p + 16) 4) % 2 ^ 32
    fixUdp (putBe (putBe f (p + 8) 8 ((beAt f (p + 8) 8 + d * 65536) % 2 ^ 64)) (p + 16) 4 0)

end Sys2Proof.Machine
end

