-- ==== Sys2Proof/Machine/Aes.lean ====
section
/-! DEFINITION. AES-256, its use in GCM (R301) and in the key wrapping of RFC 3394 (R313, R314). Byte strings are lists of
numbers below 256, first byte first. -/

namespace Sys2Proof.Machine

/-- Multiplication in GF(2^8) with x^8 + x^4 + x^3 + x + 1. -/
def gf8Mul (a b : Nat) : Nat :=
  (msbFirst 8 b).foldl (fun r bit =>
    let r2 := r <<< 1
    let r2 := if r2.testBit 8 then r2 ^^^ 0x11B else r2
    if bit then r2 ^^^ a else r2) 0

/-- The inverse in GF(2^8), 0 for 0: the power 254. -/
def gf8Inv (a : Nat) : Nat := (List.range 253).foldl (fun r _ => gf8Mul r a) a

/-- A byte rotated left. -/
def rotl8 (n v : Nat) : Nat := ((v <<< n) ||| (v >>> (8 - n))) % 256

/-- The S-box, byte by byte. -/
def aesSub (v : Nat) : Nat :=
  let b := gf8Inv v
  b ^^^ rotl8 1 b ^^^ rotl8 2 b ^^^ rotl8 3 b ^^^ rotl8 4 b ^^^ 0x63

/-- The S-box as a table. -/
def aesSbox : List Nat := (List.range 256).map aesSub
/-- Its inverse. -/
def aesInvSbox : List Nat := (List.range 256).map (fun v => (aesSbox.findIdx? (· == v)).getD 0)

/-- Bytes xored pairwise. -/
def xorBytes (a b : List Nat) : List Nat := List.zipWith (· ^^^ ·) a b

/-- The next word of the AES-256 key schedule: `ws` holds the words so far, the last first. -/
def aesNextWord (ws : List (List Nat)) (i : Nat) : List Nat :=
  let prev := ws.headD []
  let sub := fun (w : List Nat) => w.map (fun b => aesSbox.getD b 0)
  let t :=
    if i % 8 = 0 then
      let r := sub (prev.drop 1 ++ prev.take 1)
      xorBytes r [(List.range (i / 8 - 1)).foldl (fun c _ => gf8Mul c 2) 1, 0, 0, 0]
    else if i % 8 = 4 then sub prev
    else prev
  xorBytes (ws.getD 7 []) t

/-- The fifteen round keys of a 32-byte key. -/
def aesKeys (key : List Nat) : List (List Nat) :=
  let first := (List.range 8).foldl (fun ws i => ((key.drop (4 * i)).take 4) :: ws) []
  let ws := ((List.range 52).foldl (fun ws i => aesNextWord ws (i + 8) :: ws) first).reverse
  (List.range 15).map (fun r => ((ws.drop (4 * r)).take 4).flatten)

/-- ShiftRows on the 16 bytes, column by column; `inv` shifts the other way. -/
def aesShift (inv : Bool) (st : List Nat) : List Nat :=
  (List.range 16).map (fun i =>
    let r := i % 4
    let c := i / 4
    st.getD (r + 4 * ((if inv then c + 4 - r else c + r) % 4)) 0)

/-- MixColumns with the first row of its matrix. -/
def aesMix (row st : List Nat) : List Nat :=
  (List.range 16).map (fun i =>
    (List.range 4).foldl (fun x j => x ^^^ gf8Mul (row.getD ((j + 4 - i % 4) % 4) 0) (st.getD (4 * (i / 4) + j) 0)) 0)

/-- One block enciphered with round keys. -/
def aesEncrypt (rk : List (List Nat)) (blk : List Nat) : List Nat :=
  let sub := fun (st : List Nat) => st.map (fun b => aesSbox.getD b 0)
  let st := xorBytes blk (rk.headD [])
  let st := ((rk.drop 1).take 13).foldl (fun st k => xorBytes (aesMix [2, 3, 1, 1] (aesShift false (sub st))) k) st
  xorBytes (aesShift false (sub st)) (rk.getD 14 [])

/-- One block deciphered with round keys. -/
def aesDecrypt (rk : List (List Nat)) (blk : List Nat) : List Nat :=
  let sub := fun (st : List Nat) => st.map (fun b => aesInvSbox.getD b 0)
  let st := xorBytes blk (rk.getD 14 [])
  let st := ((rk.drop 1).take 13).reverse.foldl (fun st k =>
    aesMix [14, 11, 13, 9] (xorBytes (sub (aesShift true st)) k)) st
  xorBytes (sub (aesShift true st)) (rk.headD [])

/-! Key wrapping (RFC 3394). -/

/-- The integrity value of RFC 3394. -/
def kwIv : List Nat := List.replicate 8 0xA6

/-- Eight-byte groups. -/
def group8 (bs : List Nat) : List (List Nat) := (List.range (bs.length / 8)).map (fun i => (bs.drop (8 * i)).take 8)

/-- The wrapping of a byte string under a key. -/
def kwWrap (key bs : List Nat) : List Nat :=
  let rk := aesKeys key
  let rs := group8 bs
  let n := rs.length
  let step := fun (acc : List Nat × List (List Nat)) (t : Nat) =>
    let i := t % n
    let b := aesEncrypt rk (acc.1 ++ acc.2.getD i [])
    (xorBytes (b.take 8) (beBytes 8 (t + 1)), acc.2.set i (b.drop 8))
  let r := (List.range (6 * n)).foldl step (kwIv, rs)
  r.1 ++ r.2.flatten

/-- The byte string in a wrapping, where its integrity check passes. -/
def kwUnwrap (key bs : List Nat) : Option (List Nat) :=
  let rk := aesKeys key
  let rs := (group8 bs).drop 1
  let n := rs.length
  let step := fun (acc : List Nat × List (List Nat)) (k : Nat) =>
    let t := 6 * n - 1 - k
    let i := t % n
    let b := aesDecrypt rk (xorBytes acc.1 (beBytes 8 (t + 1)) ++ acc.2.getD i [])
    (b.take 8, acc.2.set i (b.drop 8))
  let r := (List.range (6 * n)).foldl step (bs.take 8, rs)
  if r.1 = kwIv then some r.2.flatten else none

/-! GCM with no additional data (R301). -/

/-- Multiplication in the field of GHASH, most significant bit first. -/
def ghashMul (x y : Nat) : Nat :=
  ((msbFirst 128 x).foldl (fun (acc : Nat × Nat) bit =>
    let z := if bit then acc.1 ^^^ acc.2 else acc.1
    (z, if acc.2.testBit 0 then (acc.2 >>> 1) ^^^ (0xE1 <<< 120) else acc.2 >>> 1)) (0, y)).1

/-- Sixteen-byte groups, the last one as long as is left. -/
def group16 (bs : List Nat) : List (List Nat) :=
  (List.range ((bs.length + 15) / 16)).map (fun i => (bs.drop (16 * i)).take 16)

/-- Block `i` of a byte string, of 16 bytes or fewer, enciphered (or deciphered) by its counter block: inc32(J0) for the
first, J0 = IV || 1. -/
def gcmBlock (rk : List (List Nat)) (iv : List Nat) (i : Nat) (b : List Nat) : List Nat :=
  xorBytes b (aesEncrypt rk (iv ++ beBytes 4 ((i + 2) % 2 ^ 32)))

/-- A byte string enciphered (or deciphered). -/
def gcmStream (rk : List (List Nat)) (iv bs : List Nat) : List Nat :=
  ((group16 bs).zipIdx.map (fun p => gcmBlock rk iv p.2 p.1)).flatten

/-- The 128-bit tag of a ciphertext. -/
def gcmTag (rk : List (List Nat)) (iv ct : List Nat) : Nat :=
  let h := ofBe (aesEncrypt rk (List.replicate 16 0))
  let y := (group16 ct).foldl (fun y b => ghashMul (y ^^^ ofBe (b ++ List.replicate (16 - b.length) 0)) h) 0
  let y := ghashMul (y ^^^ (8 * ct.length)) h
  y ^^^ ofBe (aesEncrypt rk (iv ++ [0, 0, 0, 1]))

end Sys2Proof.Machine
end

