-- ==== Sys2Proof/Machine/Events.lean ====
section
/-! DEFINITION. The event IDs of the event tables (R35, R39, R11 and each chapter's event table). A carrier event has the ID of
Carrier A; the Carrier B event is 0x040 higher. -/

namespace Sys2Proof.Machine.E

/-- EV_CFG_BUSY; data: address of the write (R11). -/
def CFG_BUSY : Nat := 0x010
/-- EV_MODE_MISMATCH; data: laid out as R35 (R35). -/
def MODE_MISMATCH : Nat := 0x011
/-- EV_STATE_CHANGE; data: [2:0] new, [10:8] old STATE (R39). -/
def STATE_CHANGE : Nat := 0x012
/-- EV_NIGHT_REFUSED; data: 0 (R39). -/
def NIGHT_REFUSED : Nat := 0x013
/-- EV_TX_CFG_ERR; data: CFG_CODE (R88). -/
def TX_CFG_ERR : Nat := 0x040
/-- EV_TX_NO_HEADROOM; data: FCOUNT (R88). -/
def TX_NO_HEADROOM : Nat := 0x041
/-- EV_TX_LAUNCH_REFUSED; data: Reason code (R68) (R88). -/
def TX_LAUNCH_REFUSED : Nat := 0x042
/-- EV_TX_BURST_ABORT; data: FRAMES_LEFT at the abort: the frames not yet started, excluding the frame cut off (R88). -/
def TX_BURST_ABORT : Nat := 0x043
/-- EV_TX_LAUNCH_LATE; data: Lateness in ns, saturating at 0xFFFF (R88). -/
def TX_LAUNCH_LATE : Nat := 0x044
/-- EV_CONV_CFG_ERR; data: CFG_CODE (R131). -/
def CONV_CFG_ERR : Nat := 0x048
/-- EV_CAL_FAIL; data: Fail bits newly set: [3:0] ADC, [11:8] DAC. Raised only when at least one bit newly sets (R96). (R131). -/
def CAL_FAIL : Nat := 0x049
/-- EV_CAL_SPARE_FAULT; data: ADC index; bit 8 set when parked (R131). -/
def CAL_SPARE_FAULT : Nat := 0x04A
/-- EV_CAL_IMPORT_REJ; data: REJ_CODE (R131). -/
def CAL_IMPORT_REJ : Nat := 0x04B
/-- EV_CAL_FOREGROUND; data: Last REJ_CODE, or 0 (R131). -/
def CAL_FOREGROUND : Nat := 0x04C
/-- EV_RX_CFG_ERR; data: CFG_CODE (R181). -/
def RX_CFG_ERR : Nat := 0x050
/-- EV_RX_LOL; data: New value of LOL; raised on each change (R181). -/
def RX_LOL : Nat := 0x051
/-- EV_RX_ACQ_DONE; data: ACQ_TIME_US (R181). -/
def RX_ACQ_DONE : Nat := 0x052
/-- EV_RX_ACQ_FAIL; data: FAIL_STATE (R181). -/
def RX_ACQ_FAIL : Nat := 0x053
/-- EV_RX_LOCK_LOST; data: FCOUNT of the last in-frame header (R181). -/
def RX_LOCK_LOST : Nat := 0x054
/-- EV_RX_HDR_MISMATCH; data: [10:8] header MOD; [6:0] header ENTROPY (R181). -/
def RX_HDR_MISMATCH : Nat := 0x055
/-- EV_RX_THROTTLE; data: 1 on entry, 0 on release (R181). -/
def RX_THROTTLE : Nat := 0x056
/-- EV_RX_SAT; data: Bit mask of RX_SAT fields at 63: bit 0 FF, 1 RS, 2 CD, 3 FFE, 4 DFE (R181). -/
def RX_SAT : Nat := 0x057
/-- EV_RX_CD_LIMIT; data: CD_EST (R181). -/
def RX_CD_LIMIT : Nat := 0x058
/-- EV_DAWN_CFG_ERR; data: CFG_CODE (R224). -/
def DAWN_CFG_ERR : Nat := 0x060
/-- EV_DAWN_FALSE_ALARM; data: Rate index (R224). -/
def DAWN_FALSE_ALARM : Nat := 0x061
/-- EV_DAWN_CAPTURE; data: 1 metric, 2 strength (R224). -/
def DAWN_CAPTURE : Nat := 0x062
/-- EV_DAWN_INTRUSION; data: S − Sc in dB (R224). -/
def DAWN_INTRUSION : Nat := 0x063
/-- EV_DAWN_DESC_BAD; data: Rate index (R224). -/
def DAWN_DESC_BAD : Nat := 0x064
/-- EV_DAWN_UNKNOWN_SRC; data: [15:0] SRC_ID; bit 16 set when an entry exists with another rate (R224). -/
def DAWN_UNKNOWN_SRC : Nat := 0x065
/-- EV_DAWN_UNEXPECTED; data: SRC_ID (R224). -/
def DAWN_UNEXPECTED : Nat := 0x066
/-- EV_DAWN_STALE; data: Entry number (R224). -/
def DAWN_STALE : Nat := 0x067
/-- EV_DAWN_OVER_BUDGET; data: ACQ_NS (R224). -/
def DAWN_OVER_BUDGET : Nat := 0x068
/-- EV_DAWN_TRUNC; data: Frames received (R224). -/
def DAWN_TRUNC : Nat := 0x069
/-- EV_DAWN_SEED_LEARNED; data: Entry number (R224). -/
def DAWN_SEED_LEARNED : Nat := 0x06A
/-- EV_DAWN_SEED_DUP; data: Higher entry number (R224). -/
def DAWN_SEED_DUP : Nat := 0x06B
/-- EV_DAWN_TABLE_FULL; data: SRC_ID (R224). -/
def DAWN_TABLE_FULL : Nat := 0x06C
/-- EV_FEC_CFG_ERR; data: CFG_CODE (R260). -/
def FEC_CFG_ERR : Nat := 0x070
/-- EV_FEC_UNCORR; data: Uncorrectable count of the interval, saturated at 0xFFFF (R260). -/
def FEC_UNCORR : Nat := 0x071
/-- EV_FEC_POOL_EXHAUST; data: 0 pool stop, 1 deadline stop (R260). -/
def FEC_POOL_EXHAUST : Nat := 0x072
/-- EV_FEC_MARGIN_LOW; data: MARGIN (R260). -/
def FEC_MARGIN_LOW : Nat := 0x073
/-- EV_FEC_ENC_OVERRUN; data: FCOUNT of TX (R260). -/
def FEC_ENC_OVERRUN : Nat := 0x074
/-- EV_FEC_REALIGN; data: 0 anchor mismatch, 1 Bexa re-hunt (R260). -/
def FEC_REALIGN : Nat := 0x075
/-- EV_FRM_CFG_ERR; data: CFG_CODE (R296). -/
def FRM_CFG_ERR : Nat := 0x076
/-- EV_FRM_DEFECT; data: [4:0] defect number; [8] 1 declared, 0 cleared (R296). -/
def FRM_DEFECT : Nat := 0x077
/-- EV_FRM_SSF; data: 1 asserted, 0 released (R296). -/
def FRM_SSF : Nat := 0x078
/-- EV_FRM_PSR; data: 1 asserted, 0 withdrawn (R296). -/
def FRM_PSR : Nat := 0x079
/-- EV_FRM_DUAL_EXCL; data: [0] carrier, 0 A and 1 B; [8] 1 excluded, 0 readmitted (R296). -/
def FRM_DUAL_EXCL : Nat := 0x07A
/-- EV_FRM_UAS; data: [0] 0 near end, 1 far end; [8] 1 entry, 0 exit (R296). -/
def FRM_UAS : Nat := 0x07B
/-- EV_FRM_DM_DONE; data: DM_NS in µs, saturating at 0xFFFF (R296). -/
def FRM_DM_DONE : Nat := 0x07C
/-- EV_FRM_PT_CHANGE; data: New ACC_PT (R296). -/
def FRM_PT_CHANGE : Nat := 0x07D
/-- EV_FRM_TTI_CHANGE; data: — (R296). -/
def FRM_TTI_CHANGE : Nat := 0x07E
/-- EV_CIPH_CFG_ERR; data: CFG_CODE (R331). -/
def CIPH_CFG_ERR : Nat := 0x059
/-- EV_CIPH_TAG_FAIL; data: CTR[15:0] of the segment (R331). -/
def CIPH_TAG_FAIL : Nat := 0x05A
/-- EV_CIPH_CTR_WARN; data: Slot (R331). -/
def CIPH_CTR_WARN : Nat := 0x05B
/-- EV_CIPH_KEY_EXHAUSTED; data: Slot (R331). -/
def CIPH_KEY_EXHAUSTED : Nat := 0x05C
/-- EV_CIPH_KEY_SWITCH; data: [0] new slot; [8] 1 transmit, 0 receive; [9] refused (R331). -/
def CIPH_KEY_SWITCH : Nat := 0x05D
/-- EV_CIPH_KEY_MISMATCH; data: Announced KEY_ID (R331). -/
def CIPH_KEY_MISMATCH : Nat := 0x05E
/-- EV_CIPH_LOAD_REJ; data: REJ_CODE (R331). -/
def CIPH_LOAD_REJ : Nat := 0x05F
/-- EV_CIPH_ANCHOR; data: 0 bad CRC, 1 resync, 2 backward (R331). -/
def CIPH_ANCHOR : Nat := 0x06D
/-- EV_CIPH_KEYX_RX; data: Announced KEY_ID (R331). -/
def CIPH_KEYX_RX : Nat := 0x06E
/-- EV_CIPH_RNG; data: — (R331). -/
def CIPH_RNG : Nat := 0x06F
/-- EV_CL_CFG_ERR; data: [4:0] port; [11:8] CFG_CODE (R352). -/
def CL_CFG_ERR : Nat := 0x0C0
/-- EV_CL_LINK; data: [4:0] port; [8] new LINK_UP (R352). -/
def CL_LINK : Nat := 0x0C1
/-- EV_CL_MAP_REJ; data: REJ_CODE (R352). -/
def CL_MAP_REJ : Nat := 0x0C2
/-- EV_CL_REPL; data: [4:0] port; [8] 1 entry, 0 exit (R352). -/
def CL_REPL : Nat := 0x0C3
/-- EV_CL_TS_OVF; data: Port of the lost entry (R352). -/
def CL_TS_OVF : Nat := 0x0C4
/-- EV_CL_DUAL_DEPTH; data: Measured skew in µs (R352). -/
def CL_DUAL_DEPTH : Nat := 0x0C5
/-- EV_STORE_MOD; data: [1:0] port; [9:8] new STATE (R383). -/
def STORE_MOD : Nat := 0x0E0
/-- EV_STORE_ID_BAD; data: Port (R383). -/
def STORE_ID_BAD : Nat := 0x0E1
/-- EV_STORE_ARM_REJ; data: [7:0] ring; [11:8] REJ_CODE (R383). -/
def STORE_ARM_REJ : Nat := 0x0E2
/-- EV_STORE_DROP; data: Ring (R383). -/
def STORE_DROP : Nat := 0x0E3
/-- EV_STORE_OVERLOAD; data: Port (R383). -/
def STORE_OVERLOAD : Nat := 0x0E4
/-- EV_STORE_RING_LOST; data: Ring (R383). -/
def STORE_RING_LOST : Nat := 0x0E5
/-- EV_STORE_ECC; data: Port (R383). -/
def STORE_ECC : Nat := 0x0E6
/-- EV_STORE_UE; data: [7:0] ring; [11:8] channel (R383). -/
def STORE_UE : Nat := 0x0E7
/-- EV_STORE_WEAR; data: Port (R383). -/
def STORE_WEAR : Nat := 0x0E8
/-- EV_RPL_REJ; data: [3:0] channel; [11:8] REASON (R383). -/
def RPL_REJ : Nat := 0x0E9
/-- EV_RPL_DONE; data: Channel (R383). -/
def RPL_DONE : Nat := 0x0EA
/-- EV_RPL_STOP; data: [3:0] channel; [11:8] REASON (R383). -/
def RPL_STOP : Nat := 0x0EB
/-- EV_STORE_ASSIST; data: 1 refused, 2 module lost (R383). -/
def STORE_ASSIST : Nat := 0x0EC
/-- EV_STORE_RECOVERED; data: Port (R383). -/
def STORE_RECOVERED : Nat := 0x0ED
/-- EV_TAP_OVERRATE; data: Ring (R383). -/
def TAP_OVERRATE : Nat := 0x0EE
/-- EV_LANE_STATE; data: Lane; [11:8] new STATE (R412). -/
def LANE_STATE : Nat := 0x0F0
/-- EV_LANE_POL; data: Lane; [8] new POL_INV (R412). -/
def LANE_POL : Nat := 0x0F1
/-- EV_LANE_PAT; data: Lane; [8] new CHK_LOCK (R412). -/
def LANE_PAT : Nat := 0x0F2
/-- EV_POD_LINK; data: [2:0] port; [8] 1 up, 0 down (R412). -/
def POD_LINK : Nat := 0x0F3
/-- EV_POD_SKEW; data: [2:0] port; [9:8] 1 duplicate lane, 2 excess skew (R412). -/
def POD_SKEW : Nat := 0x0F4
/-- EV_POD_RETRY_FAIL; data: Port (R412). -/
def POD_RETRY_FAIL : Nat := 0x0F5
/-- EV_POD_REMOTE; data: Port (R412). -/
def POD_REMOTE : Nat := 0x0F6
/-- EV_POD_BOND; data: 0 broken, 1 formed, 2 refused (R412). -/
def POD_BOND : Nat := 0x0F7
/-- EV_XO_FAIL; data: — (R442). -/
def XO_FAIL : Nat := 0x020
/-- EV_PLL_UNLOCK; data: PLL number, as CLK_PLL_STAT (R442). -/
def PLL_UNLOCK : Nat := 0x021
/-- EV_REF_SOFT; data: Reference index: 0 A, 1 B, 2 C, 3 PTP-derived (R442). -/
def REF_SOFT : Nat := 0x022
/-- EV_REF_LOA; data: [1:0] reference index; [8] new LOA (R442). -/
def REF_LOA : Nat := 0x023
/-- EV_REF_SWITCH; data: [1:0] new selection; [5:4] old selection (R442). -/
def REF_SWITCH : Nat := 0x024
/-- EV_REF_DISAGREE; data: [1:0] and [5:4] the two references (R442). -/
def REF_DISAGREE : Nat := 0x025
/-- EV_DUSK; data: 1 entry, 0 exit (R442). -/
def DUSK : Nat := 0x026
/-- EV_DPLL_LOCK; data: — (R442). -/
def DPLL_LOCK : Nat := 0x027
/-- EV_MUX_STALL; data: Mux number (R442). -/
def MUX_STALL : Nat := 0x028
/-- EV_MUX_REJ; data: Mux number (R442). -/
def MUX_REJ : Nat := 0x029
/-- EV_FMEAS_DONE; data: SRC (R442). -/
def FMEAS_DONE : Nat := 0x02A
/-- EV_TIME_VALID; data: [0] domain; [8] new VALID (R475). -/
def TIME_VALID : Nat := 0x120
/-- EV_TIME_DISAGREE; data: [8] 1 set, 0 cleared (R475). -/
def TIME_DISAGREE : Nat := 0x121
/-- EV_TIME_SWITCH; data: [0] target; [8] 1 seamless, 0 forced; [9] refused (R475). -/
def TIME_SWITCH : Nat := 0x122
/-- EV_TIME_STEP; data: [0] domain (R475). -/
def TIME_STEP : Nat := 0x123
/-- EV_TIME_EXT; data: [0] domain (R475). -/
def TIME_EXT : Nat := 0x124
/-- EV_TIME_CAPTURE; data: [0] 1 PPS_IN, 0 CAP_NOW (R475). -/
def TIME_CAPTURE : Nat := 0x125
/-- EV_SCHED_LATE; data: [15:0] TAG[15:0]; [16] discarded (R475). -/
def SCHED_LATE : Nat := 0x126
/-- EV_SCHED_FULL; data: [4:0] owner (R475). -/
def SCHED_FULL : Nat := 0x127
/-- EV_SCHED_ATW_ERR; data: Address bits 19:0 (R475). -/
def SCHED_ATW_ERR : Nat := 0x128
/-- EV_SCHED_STEP; data: Number of entries, saturating at 0xFFFF (R475). -/
def SCHED_STEP : Nat := 0x129
/-- EV_SCHED_FROZEN_DROP; data: — (R475). -/
def SCHED_FROZEN_DROP : Nat := 0x12A
/-- EV_SCHED_MARK; data: TAG[15:0] (R475). -/
def SCHED_MARK : Nat := 0x12B
/-- EV_LOST; data: ID of the first lost event (R497) (R508). -/
def LOST : Nat := 0x130
/-- EV_VOTE_DIVERGE; data: [1:0] channel; [11:8] CAUSE (R508). -/
def VOTE_DIVERGE : Nat := 0x131
/-- EV_VOTE_RESYNC; data: [0] 1 when forced (R508). -/
def VOTE_RESYNC : Nat := 0x132
/-- EV_VOTE_FAIL; data: [1:0] last divergent channel, or 3; [11:8] CAUSE (R508). -/
def VOTE_FAIL : Nat := 0x133
/-- EV_MEM_CE_BUCKET; data: [5] 0 control memory, 1 domain; [4:0] m or d (R508). -/
def MEM_CE_BUCKET : Nat := 0x134
/-- EV_MEM_UE; data: As EV_MEM_CE_BUCKET (R508). -/
def MEM_UE : Nat := 0x135
/-- EV_GATE_TIMEOUT; data: [4:0] domain; [8] refused because a block runs (R508). -/
def GATE_TIMEOUT : Nat := 0x136
/-- EV_BUS_ERR; data: [19:0] address; [21:20] 0 program, 1 host, 2 Ubant (R508). -/
def BUS_ERR : Nat := 0x137
/-- EV_CTL_RESTART; data: [0] 1 complete, 0 no verified image (R508). -/
def CTL_RESTART : Nat := 0x138
/-- EV_PROG_VERIFY; data: RESULT (R543). -/
def PROG_VERIFY : Nat := 0x139
/-- EV_PROG_SWITCH; data: [0] new bank; [8] refused (R543). -/
def PROG_SWITCH : Nat := 0x13A
/-- EV_CTL_FAULT; data: Code of the exception that caused the double fault (R521) (R543). -/
def CTL_FAULT : Nat := 0x13B
/-- EV_PAIR_GRANT; data: 0 after the back-off, 1 after a peer release (R562). -/
def PAIR_GRANT : Nat := 0x100
/-- EV_PAIR_RELEASE; data: Cause (R553) (R562). -/
def PAIR_RELEASE : Nat := 0x101
/-- EV_PAIR_PATH; data: [0] 0 pin, 1 Pod; [8] 1 up, 0 lost (R562). -/
def PAIR_PATH : Nat := 0x102
/-- EV_PAIR_COLLIDE; data: [8] 0 at the entry to COLLIDED; 1 when the collision is still unresolved after 100 µs (R550) (R562). -/
def PAIR_COLLIDE : Nat := 0x103
/-- EV_PAIR_PEER_STUCK; data: — (R562). -/
def PAIR_PEER_STUCK : Nat := 0x104
/-- EV_PAIR_FAULT; data: Newly set health bits 15:0 (R562). -/
def PAIR_FAULT : Nat := 0x105
/-- EV_PAIR_REVERT; data: [0] 1 REQ set, 0 release for revert (R562). -/
def PAIR_REVERT : Nat := 0x106
/-- EV_PAIR_SYNC; data: RX_GEN (R562). -/
def PAIR_SYNC : Nat := 0x107
/-- EV_PAIR_WIRING; data: Remote BOARD_POS (R562). -/
def PAIR_WIRING : Nat := 0x108
/-- EV_PAIR_STRAP; data: Peer POS (R562). -/
def PAIR_STRAP : Nat := 0x109
/-- EV_LDG_BUF; data: DEPTH (R580). -/
def LDG_BUF : Nat := 0x140
/-- EV_LDG_FULL; data: — (R580). -/
def LDG_FULL : Nat := 0x141
/-- EV_LDG_RESUME; data: [0] byte 46 of the resume record; [31:8] LOST, saturating (R580). -/
def LDG_RESUME : Nat := 0x142
/-- EV_LDG_CMD_REJ; data: STATUS (R580). -/
def LDG_CMD_REJ : Nat := 0x143
/-- EV_LDG_STEP; data: OBJECT (R580). -/
def LDG_STEP : Nat := 0x144
/-- EV_LDG_MISSING; data: OBJECT (R580). -/
def LDG_MISSING : Nat := 0x145
/-- EV_LDG_NVM; data: — (R580). -/
def LDG_NVM : Nat := 0x146
/-- EV_DOM_REFUSED; data: [4:0] domain; [8] 1 a block or lane runs, 0 drain timeout (R611). -/
def DOM_REFUSED : Nat := 0x030
/-- EV_RAIL_FAULT; data: Rail number (R611). -/
def RAIL_FAULT : Nat := 0x031
/-- EV_NIGHT_READY; data: WAKE_US (R611). -/
def NIGHT_READY : Nat := 0x032
/-- EV_THERM_BAND; data: New BAND (R611). -/
def THERM_BAND : Nat := 0x033
/-- EV_THERM_WARN; data: 1 set, 0 cleared (R611). -/
def THERM_WARN : Nat := 0x034
/-- EV_THERM_THROTTLE; data: [0] 1 set, 0 cleared; [8] THROTTLE_TEST (R611). -/
def THERM_THROTTLE : Nat := 0x035
/-- EV_THERM_SENSOR; data: — (R611). -/
def THERM_SENSOR : Nat := 0x036
/-- EV_MADC_CAL; data: [0] 1 done, 0 rejected; [7:4] channel (R611). -/
def MADC_CAL : Nat := 0x038
/-- EV_MADC_CFG_ERR; data: — (R611). -/
def MADC_CFG_ERR : Nat := 0x039
/-- EV_HOST_MBOX; data: LEN (R637). -/
def HOST_MBOX : Nat := 0x000
/-- EV_HOST_MBOX_ACK; data: — (R637). -/
def HOST_MBOX_ACK : Nat := 0x001
/-- EV_DMA_DONE; data: [0] channel; [11:8] STATUS (R637). -/
def DMA_DONE : Nat := 0x002
/-- EV_PCIE_LINK; data: [8] new LINK_UP (R637). -/
def PCIE_LINK : Nat := 0x003
/-- EV_BOOT; data: [1:0] SRC; [2] SLOT; [11:8] LAST_ERR (R637). -/
def BOOT : Nat := 0x004
/-- EV_ID; data: [0] carrier; [9:8] new state (R637). -/
def ID : Nat := 0x005
/-- EV_ID_REFUSED; data: Carrier (R637). -/
def ID_REFUSED : Nat := 0x006
/-- EV_UB_UNLOCK; data: [0] 1 success; [8] lockout (R637). -/
def UB_UNLOCK : Nat := 0x007
/-- EV_UB_HALT; data: Reason, as DSTAT (R637). -/
def UB_HALT : Nat := 0x008
/-- EV_LC; data: [3:0] OP; [8] refused (R637). -/
def LC : Nat := 0x009
/-- EV_JTAG_REFUSED; data: — (R637). -/
def JTAG_REFUSED : Nat := 0x00A
/-- EV_BOOT_SERVE; data: Port (R637). -/
def BOOT_SERVE : Nat := 0x00B

end Sys2Proof.Machine.E
end

