-- ==== Sys2Proof/Config.lean ====
section
/-! DEFINITION. What an implementation fixes and the free values: constants without a body. -/

namespace Sys2Proof

/-- The value that the `n`-th open value of the spec takes (log entry 7). -/
opaque Config.freeValue : Nat → Nat

/-- The device wrap key, a fused 256-bit value unique to the die (R313; log entry 8). -/
opaque Config.wrapKey : Nat

/-- TX_LATENCY of a configuration: carrier mode, symbol rate, DAC rate, ROLLOFF (R86; log entry 7). -/
opaque Config.txLatency : Nat → Nat → Nat → Nat → Nat

/-- The pulse shaper of R46 at a ROLLOFF, a symbol rate and a DAC rate: its 12-bit output samples of one dimension for the
symbol values sent now, after those sent before (R56; log entry 96). -/
opaque Config.shaped : Nat → Nat → Nat → List Int → List Int → List Nat

/-- Samples of one dimension delayed by a count of 0.1 ps at a DAC rate (R58; log entry 96). -/
opaque Config.delayed : Int → Nat → List Int → List Int

/-- The DSP frame of the 400ZR agreement (R70): coded bits of a frame, and the symbol values of XI, XQ, YI, YQ (0 to 3) that
carry them (log entry 97). -/
opaque Config.zrFrameBits : Nat
opaque Config.zrSymbols : Nat → Nat → List Int

/-- The parts of the receive stages whose values the spec leaves to the part (log entry 96), coefficients with 16 fractional
bits: tap `t` of a branch of the resampler's ROM (R134, R137); coefficient `i` of the dispersion filter at a frequency, a symbol
rate and a dispersion (R138); the frequency loop: bandwidth code, offset, phase gained over a DSP cycle (R150); the timing loop:
bandwidth code, clock offset, the cycle's samples of X and Y (R137); the dematcher: MOD, ENTROPY, LLR_SCALE, noise of the four
dimensions, the block's values, index of the bit (R153); the ADC codes that a carrier's own DAC codes give through the on-die
path, at the DAC and the ADC rate (R118); the rotation in krad/s between two sets of taps (R159). Of the 400ZR agreement's frame:
the phases that its pilots give for so many averaged, and its LLRs. -/
opaque Config.resampleRom : Nat → Nat → Int
opaque Config.cdTap : Nat → Nat → Int → Nat → Int × Int
opaque Config.freqLoop : Nat → Int → Int → Int
opaque Config.timingLoop : Nat → Int → List (Int × Int) → List (Int × Int) → Int
opaque Config.dematched : Nat → Nat → Nat → List Nat → List Int → Nat → Int
opaque Config.dieLoop : Nat → Nat → List Nat → List Int
opaque Config.sopRate : Nat → List (Nat × Nat) → List (Nat × Nat) → Nat
opaque Config.zrPhases : Nat → List (Int × Int) → List Int
opaque Config.zrLlrs : Nat → List Int → List Int

/-- The replacement signal of the 400ZR agreement: so many bits of it (R340; log entry 97). -/
opaque Config.zrReplacement : Nat → Nat

/-- The frame alignment of the 400ZR agreement: the state code after one more test of hard decisions, from the state before (R272;
log entry 97). -/
opaque Config.zrAlign : Nat → Nat → Nat

/-- What the FFE taps tell at a symbol rate: residual dispersion in ps/nm (R139), DGD in 0.1 ps and PDL in 0.1 dB (R159; log
entry 96). -/
opaque Config.tapResidual : Nat → List (Nat × Nat) → Int
opaque Config.tapDgd : Nat → List (Nat × Nat) → Nat
opaque Config.tapPdl : Nat → List (Nat × Nat) → Nat

/-- RX_LATENCY in ns of a configuration: carrier mode, symbol rate, ADC rate (R177; log entry 7). -/
opaque Config.rxLatency : Nat → Nat → Nat → Nat

/-- The FEC of the 400ZR agreement (R247): data bits and coded bits of a block; the encoder and the decoder, whose staircase and
interleaving run on from block to block: each takes what it holds, the decoder with its frame alignment, and gives what it holds
then; the decoder gives data, corrected bits, errors left, and whether it is aligned (log entry 97). -/
opaque Config.zrDataBits : Nat
opaque Config.zrCodedBits : Nat
opaque Config.zrEncode : Nat → Nat → Nat × Nat
opaque Config.zrDecode : Nat → List Int → Nat × Nat × Bool × Bool × Nat

/-- The mapping of the 400ZR agreement (R340): what it holds and the frames that wait give a data block, what it holds then,
and how many of the frames it has taken; the way back, what it holds and a data block give frames (log entry 97). -/
opaque Config.zrMap : Nat → List (List Nat) → Nat × Nat × Nat
opaque Config.zrDemap : Nat → Nat → List (List Nat) × Nat

/-- CIPHER's latencies in ns of a configuration: carrier mode, n; that of the receive part without the hold of R310 (R329; log
entry 7). -/
opaque Config.ciphTxLatency : Nat → Nat → Nat
opaque Config.ciphRxLatency : Nat → Nat → Nat

/-- The constant latencies of a peer port, TX_NS + 65536 × RX_NS, by port (R404; log entry 7). -/
opaque Config.podLatency : Nat → Nat

/-- The fused signing seed of the ledger (R565; log entry 8). -/
opaque Config.ledgerSeed : Nat

end Sys2Proof
end

