-- ==== Sys2Proof/Machine/Field.lean ====
section
/-! DEFINITION. What a register field is: its address, its bits, its access code (R6), its update class (R8, R9, R11). -/

namespace Sys2Proof.Machine

open Sys2Proof

/-- Access codes of R6. -/
inductive Acc where
  | ro | rw | wo | w1c | rc | ws
  deriving DecidableEq, Repr

/-- Update classes of R8, R9 and R11; `none` for fields that carry none. -/
inductive Upd where
  | none | live | staged | halted
  deriving DecidableEq, Repr

/-- A register field of Carrier A's window or of a single block. An array of registers has a stride and a count. -/
structure Fld where
  addr : Nat
  lsb : Nat
  width : Nat
  acc : Acc
  upd : Upd
  stride : Nat
  count : Nat
  deriving DecidableEq, Repr

/-- The distance between the windows of Carrier A and Carrier B (R22). -/
def carrierStep : Nat := 0x100000

/-- The field in a carrier's own window. -/
def Fld.on (f : Fld) (c : Carrier) : Fld := { f with addr := f.addr + carrierStep * c.num }

/-- The field of entry `i` of a register array. -/
def Fld.ix (f : Fld) (i : Nat) : Fld := { f with addr := f.addr + f.stride * i }

/-- Where the field's value is held: its address and lowest bit. -/
def Fld.key (f : Fld) : Nat := f.addr * 64 + f.lsb

/-- A whole 32-bit word of a window. -/
def wordAt (addr : Nat) : Fld := ⟨addr, 0, 32, .rw, .live, 0, 1⟩

/-- Window base of a block (R22). -/
def blkBase : Blk → Nat
  | .sys => 0x40000000
  | .clk => 0x40010000
  | .time => 0x40020000
  | .sched => 0x40030000
  | .pwr => 0x40040000
  | .madc => 0x40050000
  | .event => 0x40060000
  | .pair => 0x40070000
  | .perf => 0x40080000
  | .ledger => 0x40090000
  | .tx c => 0x40100000 + carrierStep * c.num
  | .conv c => 0x40110000 + carrierStep * c.num
  | .rxdsp c => 0x40120000 + carrierStep * c.num
  | .dawn c => 0x40130000 + carrierStep * c.num
  | .fec c => 0x40140000 + carrierStep * c.num
  | .framer c => 0x40150000 + carrierStep * c.num
  | .cipher c => 0x40160000 + carrierStep * c.num
  | .client => 0x40300000
  | .flow => 0x40310000
  | .store => 0x40320000
  | .lanes => 0x40330000
  | .pod => 0x40340000
  | .hostif => 0x40400000

/-- BLK_ID.BLOCK_CODE (R22). -/
def blkCode : Blk → Nat
  | .sys => 0x0001
  | .clk => 0x0002
  | .time => 0x0003
  | .sched => 0x0004
  | .pwr => 0x0005
  | .madc => 0x0006
  | .event => 0x0007
  | .pair => 0x0008
  | .perf => 0x0009
  | .ledger => 0x000A
  | .tx _ => 0x0101
  | .conv _ => 0x0102
  | .rxdsp _ => 0x0103
  | .dawn _ => 0x0104
  | .fec _ => 0x0105
  | .framer _ => 0x0106
  | .cipher _ => 0x0107
  | .client => 0x0201
  | .flow => 0x0202
  | .store => 0x0203
  | .lanes => 0x0204
  | .pod => 0x0205
  | .hostif => 0x0301

/-- The carrier of a carrier sub-block. -/
def blkCarrier : Blk → Option Carrier
  | .tx c | .conv c | .rxdsp c | .dawn c | .fec c | .framer c | .cipher c => some c
  | _ => none

/-- BLK_ID.INSTANCE (R12). -/
def blkInstanceNo (b : Blk) : Nat :=
  match blkCarrier b with
  | some .B => 1
  | _ => 0

/-- The blocks of R665, which run from the end of RESET and never stop. -/
def alwaysRuns : Blk → Bool
  | .sys | .clk | .time | .sched | .pwr | .event | .pair | .perf | .ledger | .hostif => true
  | _ => false

/-- The seven sub-blocks of a carrier. -/
def subBlocks (c : Carrier) : List Blk :=
  [.tx c, .conv c, .rxdsp c, .dawn c, .fec c, .framer c, .cipher c]

/-- Every block of R22. -/
def allBlks : List Blk :=
  [.sys, .clk, .time, .sched, .pwr, .madc, .event, .pair, .perf, .ledger] ++ subBlocks .A ++ subBlocks .B ++
  [.client, .flow, .store, .lanes, .pod, .hostif]

/-- The block whose 64 KiB window holds an address. -/
def blkAt (addr : Nat) : Option Blk := allBlks.find? (fun b => blkBase b = addr / 0x10000 * 0x10000)

/-- BLK_CTRL.RUN (R13). -/
def runF (b : Blk) : Fld := ⟨blkBase b + 4, 0, 1, .rw, .live, 0, 1⟩
/-- BLK_CTRL.SOFT_RESET (R13). -/
def softResetF (b : Blk) : Fld := ⟨blkBase b + 4, 1, 1, .ws, .live, 0, 1⟩
/-- BLK_STAT.RUNNING (R15). -/
def runningF (b : Blk) : Fld := ⟨blkBase b + 8, 0, 1, .ro, .none, 0, 1⟩
/-- BLK_STAT.RESETTING (R15). -/
def resettingF (b : Blk) : Fld := ⟨blkBase b + 8, 1, 1, .ro, .none, 0, 1⟩
/-- BLK_STAT.CFG_DISCARD (R15). -/
def cfgDiscardF (b : Blk) : Fld := ⟨blkBase b + 8, 2, 1, .w1c, .none, 0, 1⟩
/-- BLK_COMMIT.COMMIT_REQ (R16). -/
def commitReqF (b : Blk) : Fld := ⟨blkBase b + 12, 0, 1, .ws, .live, 0, 1⟩
/-- BLK_COMMIT.CP_SEL (R16); read-only outside the carrier sub-blocks (R17). -/
def cpSelF (b : Blk) : Fld :=
  ⟨blkBase b + 12, 8, 2, if (blkCarrier b).isSome then .rw else .ro, .live, 0, 1⟩

end Sys2Proof.Machine
end

