-- ==== Sys2Proof/Machine/RegsCarrier.lean ====
section
/-! DEFINITION. The register fields of TX, CONV, RXDSP, DAWN, FEC, FRAMER, CIPHER, row by row from the register tables of the spec: address of
instance 0 (Carrier A), lowest bit, width, access code, update class, stride and count of an array. -/

namespace Sys2Proof.Machine.R

/-! Block TX. -/

/-- TX_STAT.MUTED RO, reset 1 (R71). -/
def TX_STAT.MUTED : Fld := ⟨0x40100008, 8, 1, .ro, .none, 0, 1⟩
/-- TX_STAT.MUTE_CTRL RO, reset 1 (R71). -/
def TX_STAT.MUTE_CTRL : Fld := ⟨0x40100008, 9, 1, .ro, .none, 0, 1⟩
/-- TX_STAT.MUTE_GATE RO, reset 1 (R71). -/
def TX_STAT.MUTE_GATE : Fld := ⟨0x40100008, 10, 1, .ro, .none, 0, 1⟩
/-- TX_STAT.MUTE_GAP RO, reset 0 (R71). -/
def TX_STAT.MUTE_GAP : Fld := ⟨0x40100008, 11, 1, .ro, .none, 0, 1⟩
/-- TX_STAT.MUTE_STOP RO, reset 1 (R71). -/
def TX_STAT.MUTE_STOP : Fld := ⟨0x40100008, 12, 1, .ro, .none, 0, 1⟩
/-- TX_STAT.CFG_ERR RO, reset 0 (R71). -/
def TX_STAT.CFG_ERR : Fld := ⟨0x40100008, 13, 1, .ro, .none, 0, 1⟩
/-- TX_STAT.BURST RO, reset 0 (R71). -/
def TX_STAT.BURST : Fld := ⟨0x40100008, 14, 1, .ro, .none, 0, 1⟩
/-- TX_STAT.LUT_BANK RO, reset 0 (R71). -/
def TX_STAT.LUT_BANK : Fld := ⟨0x40100008, 15, 1, .ro, .none, 0, 1⟩
/-- TX_STAT.CFG_CODE RO, reset 0x0 (R71). -/
def TX_STAT.CFG_CODE : Fld := ⟨0x40100008, 16, 4, .ro, .none, 0, 1⟩
/-- TX_RATE.SYM_RATE RW HALTED, reset 0x3_A980 (R72). -/
def TX_RATE.SYM_RATE : Fld := ⟨0x40100010, 0, 18, .rw, .halted, 0, 1⟩
/-- TX_MOD.ENTROPY RW STAGED, reset 0x28 (R73). -/
def TX_MOD.ENTROPY : Fld := ⟨0x40100014, 0, 7, .rw, .staged, 0, 1⟩
/-- TX_MOD.MOD RW STAGED, reset 0b000 (R73). -/
def TX_MOD.MOD : Fld := ⟨0x40100014, 24, 3, .rw, .staged, 0, 1⟩
/-- TX_SHAPE.ROLLOFF RW HALTED, reset 0x0A (R74). -/
def TX_SHAPE.ROLLOFF : Fld := ⟨0x40100018, 0, 5, .rw, .halted, 0, 1⟩
/-- TX_SHAPE.SCALE RW STAGED, reset 0x200 (R74). -/
def TX_SHAPE.SCALE : Fld := ⟨0x40100018, 12, 12, .rw, .staged, 0, 1⟩
/-- TX_SHAPE.PILOT_GAIN RW STAGED, reset 0b00 (R74). -/
def TX_SHAPE.PILOT_GAIN : Fld := ⟨0x40100018, 24, 2, .rw, .staged, 0, 1⟩
/-- TX_PILOT.SEED_X RW HALTED, reset 0x0001 (R75). -/
def TX_PILOT.SEED_X : Fld := ⟨0x4010001C, 0, 15, .rw, .halted, 0, 1⟩
/-- TX_PILOT.SEED_Y RW HALTED, reset 0x5A5A (R75). -/
def TX_PILOT.SEED_Y : Fld := ⟨0x4010001C, 15, 15, .rw, .halted, 0, 1⟩
/-- TX_CTRL.MUTE RW LIVE, reset 1 (R76). -/
def TX_CTRL.MUTE : Fld := ⟨0x40100020, 0, 1, .rw, .live, 0, 1⟩
/-- TX_IQ.GAIN RW STAGED, reset 0x000 (R77). -/
def TX_IQ.GAIN : Fld := ⟨0x40100024, 0, 10, .rw, .staged, 0x4, 2⟩
/-- TX_IQ.PHASE RW STAGED, reset 0x000 (R77). -/
def TX_IQ.PHASE : Fld := ⟨0x40100024, 12, 10, .rw, .staged, 0x4, 2⟩
/-- TX_IQ.SKEW RW STAGED, reset 0x00 (R77). -/
def TX_IQ.SKEW : Fld := ⟨0x40100024, 24, 8, .rw, .staged, 0x4, 2⟩
/-- TX_XYSKEW.XY_SKEW RW STAGED, reset 0x000 (R78). -/
def TX_XYSKEW.XY_SKEW : Fld := ⟨0x4010002C, 0, 10, .rw, .staged, 0, 1⟩
/-- TX_LUT_CTRL.BANK_SEL RW STAGED, reset 0 (R79). -/
def TX_LUT_CTRL.BANK_SEL : Fld := ⟨0x40100030, 0, 1, .rw, .staged, 0, 1⟩
/-- TX_LUT_CTRL.LUT_EN RW STAGED, reset 0 (R79). -/
def TX_LUT_CTRL.LUT_EN : Fld := ⟨0x40100030, 1, 1, .rw, .staged, 0, 1⟩
/-- TX_DAWN.SRC_ID RW STAGED, reset 0x0000 (R80). -/
def TX_DAWN.SRC_ID : Fld := ⟨0x40100034, 0, 16, .rw, .staged, 0, 1⟩
/-- TX_BURST.FRAMES_LEFT RO, reset 0x0000 (R81). -/
def TX_BURST.FRAMES_LEFT : Fld := ⟨0x40100038, 0, 16, .ro, .none, 0, 1⟩
/-- TX_BURST.LATE W1C, reset 0 (R81). -/
def TX_BURST.LATE : Fld := ⟨0x40100038, 30, 1, .w1c, .none, 0, 1⟩
/-- TX_BURST.ACTIVE RO, reset 0 (R81). -/
def TX_BURST.ACTIVE : Fld := ⟨0x40100038, 31, 1, .ro, .none, 0, 1⟩
/-- TX_BURST_CNT.LAUNCHES RC, reset 0x0000 (R82). -/
def TX_BURST_CNT.LAUNCHES : Fld := ⟨0x4010003C, 0, 16, .rc, .none, 0, 1⟩
/-- TX_BURST_CNT.ABORTS RC, reset 0x0000 (R82). -/
def TX_BURST_CNT.ABORTS : Fld := ⟨0x4010003C, 16, 16, .rc, .none, 0, 1⟩
/-- TX_FILL.FILL_LAST RO, reset 0x000 (R83). -/
def TX_FILL.FILL_LAST : Fld := ⟨0x40100040, 0, 12, .ro, .none, 0, 1⟩
/-- TX_FILL.FILL_MIN RC, reset 0xFFF (R83). -/
def TX_FILL.FILL_MIN : Fld := ⟨0x40100040, 16, 12, .rc, .none, 0, 1⟩
/-- TX_FCOUNT.FCOUNT RO, reset 0x00_0000 (R84). -/
def TX_FCOUNT.FCOUNT : Fld := ⟨0x40100044, 0, 24, .ro, .none, 0, 1⟩
/-- TX_CLIP.CLIP_CNT RC, reset 0x0000_0000 (R85). -/
def TX_CLIP.CLIP_CNT : Fld := ⟨0x40100048, 0, 32, .rc, .none, 0, 1⟩
/-- TX_LATENCY.LATENCY_PS RO, reset 0x0_0000 (R86). -/
def TX_LATENCY.LATENCY_PS : Fld := ⟨0x4010004C, 0, 20, .ro, .none, 0, 1⟩
/-- TX_DIAG.PAT_SEL RW STAGED, reset 0b00 (R87). -/
def TX_DIAG.PAT_SEL : Fld := ⟨0x40100050, 0, 2, .rw, .staged, 0, 1⟩
/-- TX_DIAG.LPBK RW HALTED, reset 0 (R87). -/
def TX_DIAG.LPBK : Fld := ⟨0x40100050, 8, 1, .rw, .halted, 0, 1⟩

/-- Fields of TX, part 0. -/
def rowsTX0 : List Fld :=
[TX_STAT.MUTED, TX_STAT.MUTE_CTRL, TX_STAT.MUTE_GATE, TX_STAT.MUTE_GAP, TX_STAT.MUTE_STOP, TX_STAT.CFG_ERR,
   TX_STAT.BURST, TX_STAT.LUT_BANK, TX_STAT.CFG_CODE, TX_RATE.SYM_RATE, TX_MOD.ENTROPY, TX_MOD.MOD,
   TX_SHAPE.ROLLOFF, TX_SHAPE.SCALE, TX_SHAPE.PILOT_GAIN, TX_PILOT.SEED_X, TX_PILOT.SEED_Y, TX_CTRL.MUTE,
   TX_IQ.GAIN, TX_IQ.PHASE, TX_IQ.SKEW, TX_XYSKEW.XY_SKEW, TX_LUT_CTRL.BANK_SEL, TX_LUT_CTRL.LUT_EN,
   TX_DAWN.SRC_ID, TX_BURST.FRAMES_LEFT, TX_BURST.LATE, TX_BURST.ACTIVE, TX_BURST_CNT.LAUNCHES,
   TX_BURST_CNT.ABORTS, TX_FILL.FILL_LAST, TX_FILL.FILL_MIN, TX_FCOUNT.FCOUNT, TX_CLIP.CLIP_CNT,
   TX_LATENCY.LATENCY_PS, TX_DIAG.PAT_SEL, TX_DIAG.LPBK]

/-- Fields of TX. -/
def rowsTX : List Fld := rowsTX0

/-! Block CONV. -/

/-- CONV_STAT.ADC_ACTIVE RO, reset 0 (R119). -/
def CONV_STAT.ADC_ACTIVE : Fld := ⟨0x40110008, 9, 1, .ro, .none, 0, 1⟩
/-- CONV_STAT.DAC_ACTIVE RO, reset 0 (R119). -/
def CONV_STAT.DAC_ACTIVE : Fld := ⟨0x40110008, 10, 1, .ro, .none, 0, 1⟩
/-- CONV_STAT.BG_BUSY RO, reset 0 (R119). -/
def CONV_STAT.BG_BUSY : Fld := ⟨0x40110008, 11, 1, .ro, .none, 0, 1⟩
/-- CONV_STAT.BG_PENDING RO, reset 0 (R119). -/
def CONV_STAT.BG_PENDING : Fld := ⟨0x40110008, 12, 1, .ro, .none, 0, 1⟩
/-- CONV_STAT.FG_BUSY RO, reset 0 (R119). -/
def CONV_STAT.FG_BUSY : Fld := ⟨0x40110008, 13, 1, .ro, .none, 0, 1⟩
/-- CONV_STAT.CAL_VALID RO, reset 0 (R119). -/
def CONV_STAT.CAL_VALID : Fld := ⟨0x40110008, 14, 1, .ro, .none, 0, 1⟩
/-- CONV_STAT.CFG_ERR RO, reset 0 (R119). -/
def CONV_STAT.CFG_ERR : Fld := ⟨0x40110008, 15, 1, .ro, .none, 0, 1⟩
/-- CONV_STAT.CFG_CODE RO, reset 0x0 (R119). -/
def CONV_STAT.CFG_CODE : Fld := ⟨0x40110008, 16, 4, .ro, .none, 0, 1⟩
/-- CONV_RATE.RATE RW HALTED, reset 0x4_1EB0 (R120). -/
def CONV_RATE.RATE : Fld := ⟨0x40110010, 0, 19, .rw, .halted, 0x4, 2⟩
/-- CONV_CTRL.ADC_EN RW HALTED, reset 1 (R121). -/
def CONV_CTRL.ADC_EN : Fld := ⟨0x40110018, 0, 1, .rw, .halted, 0, 1⟩
/-- CONV_CTRL.DAC_EN RW HALTED, reset 1 (R121). -/
def CONV_CTRL.DAC_EN : Fld := ⟨0x40110018, 1, 1, .rw, .halted, 0, 1⟩
/-- CONV_CTRL.LPBK RW HALTED, reset 0 (R121). -/
def CONV_CTRL.LPBK : Fld := ⟨0x40110018, 8, 1, .rw, .halted, 0, 1⟩
/-- CAL_CTRL.MODEL RW HALTED, reset 0 (R122). -/
def CAL_CTRL.MODEL : Fld := ⟨0x4011001C, 0, 1, .rw, .halted, 0, 1⟩
/-- CAL_CTRL.BG_MODE RW LIVE, reset 0b01 (R122). -/
def CAL_CTRL.BG_MODE : Fld := ⟨0x4011001C, 1, 2, .rw, .live, 0, 1⟩
/-- CAL_CTRL.BG_START WS LIVE, reset 0 (R122). -/
def CAL_CTRL.BG_START : Fld := ⟨0x4011001C, 3, 1, .ws, .live, 0, 1⟩
/-- CAL_CTRL.FG_START WS HALTED, reset 0 (R122). -/
def CAL_CTRL.FG_START : Fld := ⟨0x4011001C, 4, 1, .ws, .halted, 0, 1⟩
/-- CAL_CTRL.CAL_TOL RW LIVE, reset 0x2 (R122). -/
def CAL_CTRL.CAL_TOL : Fld := ⟨0x4011001C, 8, 4, .rw, .live, 0, 1⟩
/-- CAL_CTRL.CAL_DELTA RW LIVE, reset 0x08 (R122). -/
def CAL_CTRL.CAL_DELTA : Fld := ⟨0x4011001C, 16, 6, .rw, .live, 0, 1⟩
/-- CAL_STAT.ADC_FAIL RO, reset 0x0 (R123). -/
def CAL_STAT.ADC_FAIL : Fld := ⟨0x40110020, 0, 4, .ro, .none, 0, 1⟩
/-- CAL_STAT.DAC_FAIL RO, reset 0x0 (R123). -/
def CAL_STAT.DAC_FAIL : Fld := ⟨0x40110020, 8, 4, .ro, .none, 0, 1⟩
/-- CAL_STAT.SPARE_FAULT RO, reset 0x0 (R123). -/
def CAL_STAT.SPARE_FAULT : Fld := ⟨0x40110020, 16, 4, .ro, .none, 0, 1⟩
/-- CAL_IMG_CTRL.SNAP WS LIVE, reset 0 (R124). -/
def CAL_IMG_CTRL.SNAP : Fld := ⟨0x40110024, 0, 1, .ws, .live, 0, 1⟩
/-- CAL_IMG_CTRL.LOAD WS HALTED, reset 0 (R124). -/
def CAL_IMG_CTRL.LOAD : Fld := ⟨0x40110024, 1, 1, .ws, .halted, 0, 1⟩
/-- CAL_IMG_CTRL.BUSY RO, reset 0 (R124). -/
def CAL_IMG_CTRL.BUSY : Fld := ⟨0x40110024, 2, 1, .ro, .none, 0, 1⟩
/-- CAL_IMG_CTRL.REJ_CODE RO, reset 0x0 (R124). -/
def CAL_IMG_CTRL.REJ_CODE : Fld := ⟨0x40110024, 8, 4, .ro, .none, 0, 1⟩
/-- CAL_GEN.GEN RO, reset 0x0000_0000 (R125). -/
def CAL_GEN.GEN : Fld := ⟨0x40110028, 0, 32, .ro, .none, 0, 1⟩
/-- CAL_GEN_FLOOR.FLOOR RW LIVE, reset 0x0000_0000 (R125). -/
def CAL_GEN_FLOOR.FLOOR : Fld := ⟨0x4011002C, 0, 32, .rw, .live, 0, 1⟩
/-- CONV_DIE_TAG.DIE_TAG RO, reset fused (R125). -/
def CONV_DIE_TAG.DIE_TAG : Fld := ⟨0x40110030, 0, 32, .ro, .none, 0, 1⟩
/-- TIA_CTRL.OWNER RW LIVE, reset 0b00 (R126). -/
def TIA_CTRL.OWNER : Fld := ⟨0x40110040, 0, 2, .rw, .live, 0, 1⟩
/-- TIA_CTRL.POL RW HALTED, reset 0 (R126). -/
def TIA_CTRL.POL : Fld := ⟨0x40110040, 8, 1, .rw, .halted, 0, 1⟩
/-- TIA_CTRL.AGC_TARGET RW LIVE, reset 0x50 (R126). -/
def TIA_CTRL.AGC_TARGET : Fld := ⟨0x40110040, 16, 8, .rw, .live, 0, 1⟩
/-- TIA_CODE.CODE RW LIVE, reset 0x200 (R127). -/
def TIA_CODE.CODE : Fld := ⟨0x40110044, 0, 10, .rw, .live, 0x4, 4⟩
/-- TIA_CODE.CUR RO, reset 0x200 (R127). -/
def TIA_CODE.CUR : Fld := ⟨0x40110044, 16, 10, .ro, .none, 0x4, 4⟩
/-- ADC_LEVEL.RMS RO, reset 0x0000 (R128). -/
def ADC_LEVEL.RMS : Fld := ⟨0x40110054, 0, 16, .ro, .none, 0x4, 4⟩
/-- ADC_LEVEL.CLIP RO, reset 0x0000 (R128). -/
def ADC_LEVEL.CLIP : Fld := ⟨0x40110054, 16, 16, .ro, .none, 0x4, 4⟩
/-- DAC_EMPH.COLD RW STAGED, reset 0x0A (R129). -/
def DAC_EMPH.COLD : Fld := ⟨0x40110068, 0, 6, .rw, .staged, 0, 1⟩
/-- DAC_EMPH.MID RW STAGED, reset 0x0F (R129). -/
def DAC_EMPH.MID : Fld := ⟨0x40110068, 8, 6, .rw, .staged, 0, 1⟩
/-- DAC_EMPH.HOT RW STAGED, reset 0x16 (R129). -/
def DAC_EMPH.HOT : Fld := ⟨0x40110068, 16, 6, .rw, .staged, 0, 1⟩
/-- BIAS.CODE RW LIVE, reset 0x000 (R130). -/
def BIAS.CODE : Fld := ⟨0x40110080, 0, 12, .rw, .live, 0x4, 10⟩
/-- BIAS.CUR RO, reset 0x000 (R130). -/
def BIAS.CUR : Fld := ⟨0x40110080, 16, 12, .ro, .none, 0x4, 10⟩

/-- Fields of CONV, part 0. -/
def rowsCONV0 : List Fld :=
[CONV_STAT.ADC_ACTIVE, CONV_STAT.DAC_ACTIVE, CONV_STAT.BG_BUSY, CONV_STAT.BG_PENDING, CONV_STAT.FG_BUSY,
   CONV_STAT.CAL_VALID, CONV_STAT.CFG_ERR, CONV_STAT.CFG_CODE, CONV_RATE.RATE, CONV_CTRL.ADC_EN, CONV_CTRL.DAC_EN,
   CONV_CTRL.LPBK, CAL_CTRL.MODEL, CAL_CTRL.BG_MODE, CAL_CTRL.BG_START, CAL_CTRL.FG_START, CAL_CTRL.CAL_TOL,
   CAL_CTRL.CAL_DELTA, CAL_STAT.ADC_FAIL, CAL_STAT.DAC_FAIL, CAL_STAT.SPARE_FAULT, CAL_IMG_CTRL.SNAP,
   CAL_IMG_CTRL.LOAD, CAL_IMG_CTRL.BUSY, CAL_IMG_CTRL.REJ_CODE, CAL_GEN.GEN, CAL_GEN_FLOOR.FLOOR,
   CONV_DIE_TAG.DIE_TAG, TIA_CTRL.OWNER, TIA_CTRL.POL, TIA_CTRL.AGC_TARGET, TIA_CODE.CODE, TIA_CODE.CUR,
   ADC_LEVEL.RMS, ADC_LEVEL.CLIP, DAC_EMPH.COLD, DAC_EMPH.MID, DAC_EMPH.HOT, BIAS.CODE, BIAS.CUR]

/-- Fields of CONV. -/
def rowsCONV : List Fld := rowsCONV0

/-! Block RXDSP. -/

/-- RXDSP_STAT.CFG_ERR RO, reset 0 (R162). -/
def RXDSP_STAT.CFG_ERR : Fld := ⟨0x40120008, 10, 1, .ro, .none, 0, 1⟩
/-- RXDSP_STAT.LOL RO, reset 1 (R162). -/
def RXDSP_STAT.LOL : Fld := ⟨0x40120008, 11, 1, .ro, .none, 0, 1⟩
/-- RXDSP_STAT.LOCKED RO, reset 0 (R162). -/
def RXDSP_STAT.LOCKED : Fld := ⟨0x40120008, 12, 1, .ro, .none, 0, 1⟩
/-- RXDSP_STAT.SEED_VALID RO, reset 0 (R162). -/
def RXDSP_STAT.SEED_VALID : Fld := ⟨0x40120008, 13, 1, .ro, .none, 0, 1⟩
/-- RXDSP_STAT.IDLE RO, reset 0 (R162). -/
def RXDSP_STAT.IDLE : Fld := ⟨0x40120008, 14, 1, .ro, .none, 0, 1⟩
/-- RXDSP_STAT.THROTTLED RO, reset 0 (R162). -/
def RXDSP_STAT.THROTTLED : Fld := ⟨0x40120008, 15, 1, .ro, .none, 0, 1⟩
/-- RXDSP_STAT.HDR_MISMATCH RO, reset 0 (R162). -/
def RXDSP_STAT.HDR_MISMATCH : Fld := ⟨0x40120008, 16, 1, .ro, .none, 0, 1⟩
/-- RXDSP_STAT.CFG_CODE RO, reset 0x0 (R162). -/
def RXDSP_STAT.CFG_CODE : Fld := ⟨0x40120008, 24, 4, .ro, .none, 0, 1⟩
/-- RXDSP_STAT.ACQ_STATE RO, reset 0x0 (R162). -/
def RXDSP_STAT.ACQ_STATE : Fld := ⟨0x40120008, 28, 4, .ro, .none, 0, 1⟩
/-- RX_RATE.SYM_RATE RW HALTED, reset 0x3_A980 (R163). -/
def RX_RATE.SYM_RATE : Fld := ⟨0x40120010, 0, 18, .rw, .halted, 0, 1⟩
/-- RX_MOD.ENTROPY RW STAGED, reset 0x28 (R164). -/
def RX_MOD.ENTROPY : Fld := ⟨0x40120014, 0, 7, .rw, .staged, 0, 1⟩
/-- RX_MOD.LLR_SCALE RW STAGED, reset 0b01 (R164). -/
def RX_MOD.LLR_SCALE : Fld := ⟨0x40120014, 12, 2, .rw, .staged, 0, 1⟩
/-- RX_MOD.MOD RW STAGED, reset 0b000 (R164). -/
def RX_MOD.MOD : Fld := ⟨0x40120014, 24, 3, .rw, .staged, 0, 1⟩
/-- RX_MOD.FOLLOW RW STAGED, reset 1 (R164). -/
def RX_MOD.FOLLOW : Fld := ⟨0x40120014, 31, 1, .rw, .staged, 0, 1⟩
/-- RX_CD.CD_PSNM RW LIVE, reset 0x0_0000 (R165). -/
def RX_CD.CD_PSNM : Fld := ⟨0x40120018, 0, 20, .rw, .live, 0, 1⟩
/-- RX_CD.CD_MODE RW LIVE, reset 0b00 (R165). -/
def RX_CD.CD_MODE : Fld := ⟨0x40120018, 20, 2, .rw, .live, 0, 1⟩
/-- RX_CD.TRACK RW LIVE, reset 1 (R165). -/
def RX_CD.TRACK : Fld := ⟨0x40120018, 23, 1, .rw, .live, 0, 1⟩
/-- RX_FREQ.FREQ_GHZ RW HALTED, reset 0x2_F24C (R166). -/
def RX_FREQ.FREQ_GHZ : Fld := ⟨0x4012001C, 0, 18, .rw, .halted, 0, 1⟩
/-- RX_SHIFT.SH_FF RW HALTED, reset 0b100 (R167). -/
def RX_SHIFT.SH_FF : Fld := ⟨0x40120020, 0, 3, .rw, .halted, 0, 1⟩
/-- RX_SHIFT.SH_RS RW STAGED, reset 0b100 (R167). -/
def RX_SHIFT.SH_RS : Fld := ⟨0x40120020, 4, 3, .rw, .staged, 0, 1⟩
/-- RX_SHIFT.SH_CD RW STAGED, reset 0b100 (R167). -/
def RX_SHIFT.SH_CD : Fld := ⟨0x40120020, 8, 3, .rw, .staged, 0, 1⟩
/-- RX_SHIFT.SH_FFE RW STAGED, reset 0b100 (R167). -/
def RX_SHIFT.SH_FFE : Fld := ⟨0x40120020, 12, 3, .rw, .staged, 0, 1⟩
/-- RX_SHIFT.SH_DFE RW STAGED, reset 0b100 (R167). -/
def RX_SHIFT.SH_DFE : Fld := ⟨0x40120020, 16, 3, .rw, .staged, 0, 1⟩
/-- RX_FFE_CTRL.MU_CMA RW LIVE, reset 0xA (R168). -/
def RX_FFE_CTRL.MU_CMA : Fld := ⟨0x40120024, 0, 4, .rw, .live, 0, 1⟩
/-- RX_FFE_CTRL.MU_DD RW LIVE, reset 0xB (R168). -/
def RX_FFE_CTRL.MU_DD : Fld := ⟨0x40120024, 4, 4, .rw, .live, 0, 1⟩
/-- RX_FFE_CTRL.MU_PIL RW LIVE, reset 0x9 (R168). -/
def RX_FFE_CTRL.MU_PIL : Fld := ⟨0x40120024, 8, 4, .rw, .live, 0, 1⟩
/-- RX_FFE_CTRL.LEAK RW LIVE, reset 0xE (R168). -/
def RX_FFE_CTRL.LEAK : Fld := ⟨0x40120024, 16, 4, .rw, .live, 0, 1⟩
/-- RX_FFE_CTRL.FREEZE RW LIVE, reset 0 (R168). -/
def RX_FFE_CTRL.FREEZE : Fld := ⟨0x40120024, 20, 1, .rw, .live, 0, 1⟩
/-- RX_DFE_CTRL.MU_DFE RW LIVE, reset 0xC (R169). -/
def RX_DFE_CTRL.MU_DFE : Fld := ⟨0x40120028, 0, 4, .rw, .live, 0, 1⟩
/-- RX_DFE_CTRL.DFE_EN RW STAGED, reset 1 (R169). -/
def RX_DFE_CTRL.DFE_EN : Fld := ⟨0x40120028, 4, 1, .rw, .staged, 0, 1⟩
/-- RX_DFE_CTRL.FREEZE RW LIVE, reset 0 (R169). -/
def RX_DFE_CTRL.FREEZE : Fld := ⟨0x40120028, 5, 1, .rw, .live, 0, 1⟩
/-- RX_CR_CTRL.CR_WIN RW LIVE, reset 0b101 (R170). -/
def RX_CR_CTRL.CR_WIN : Fld := ⟨0x4012002C, 0, 3, .rw, .live, 0, 1⟩
/-- RX_CR_CTRL.PILOT_AVG RW LIVE, reset 0x3 (R170). -/
def RX_CR_CTRL.PILOT_AVG : Fld := ⟨0x4012002C, 8, 4, .rw, .live, 0, 1⟩
/-- RX_CR_CTRL.FLL_BW RW LIVE, reset 0b01 (R170). -/
def RX_CR_CTRL.FLL_BW : Fld := ⟨0x4012002C, 12, 2, .rw, .live, 0, 1⟩
/-- RX_CR_CTRL.TR_BW RW LIVE, reset 0b01 (R170). -/
def RX_CR_CTRL.TR_BW : Fld := ⟨0x4012002C, 16, 2, .rw, .live, 0, 1⟩
/-- RX_LOL_CTRL.LOL_THR RW LIVE, reset 0x40 (R171). -/
def RX_LOL_CTRL.LOL_THR : Fld := ⟨0x40120030, 0, 8, .rw, .live, 0, 1⟩
/-- RX_LOL_CTRL.LOL_HYST RW LIVE, reset 0x10 (R171). -/
def RX_LOL_CTRL.LOL_HYST : Fld := ⟨0x40120030, 8, 8, .rw, .live, 0, 1⟩
/-- RX_LOL_CTRL.LOL_CLR RW LIVE, reset 0x40 (R171). -/
def RX_LOL_CTRL.LOL_CLR : Fld := ⟨0x40120030, 16, 8, .rw, .live, 0, 1⟩
/-- RX_LOL_CTRL.LOL_SET RW LIVE, reset 0x4 (R171). -/
def RX_LOL_CTRL.LOL_SET : Fld := ⟨0x40120030, 28, 4, .rw, .live, 0, 1⟩
/-- RX_SEED_CTRL.AUTO_SEED RW LIVE, reset 1 (R172). -/
def RX_SEED_CTRL.AUTO_SEED : Fld := ⟨0x40120034, 0, 1, .rw, .live, 0, 1⟩
/-- RX_SEED_CTRL.SEED_REUSE RW LIVE, reset 1 (R172). -/
def RX_SEED_CTRL.SEED_REUSE : Fld := ⟨0x40120034, 1, 1, .rw, .live, 0, 1⟩
/-- RX_SEED_CTRL.SEED_CLEAR WS LIVE, reset 0 (R172). -/
def RX_SEED_CTRL.SEED_CLEAR : Fld := ⟨0x40120034, 2, 1, .ws, .live, 0, 1⟩
/-- RX_SEED_CTRL.SEED_CAPTURE WS LIVE, reset 0 (R172). -/
def RX_SEED_CTRL.SEED_CAPTURE : Fld := ⟨0x40120034, 3, 1, .ws, .live, 0, 1⟩
/-- RX_SEED_CTRL.SEED_PERIOD RW LIVE, reset 0x6 (R172). -/
def RX_SEED_CTRL.SEED_PERIOD : Fld := ⟨0x40120034, 8, 4, .rw, .live, 0, 1⟩
/-- RX_ACQ_CTRL.ACQ_TIMEOUT RW LIVE, reset 0x1E (R173). -/
def RX_ACQ_CTRL.ACQ_TIMEOUT : Fld := ⟨0x40120038, 0, 8, .rw, .live, 0, 1⟩
/-- RX_ACQ_CTRL.ACQ_RESTART WS LIVE, reset 0 (R173). -/
def RX_ACQ_CTRL.ACQ_RESTART : Fld := ⟨0x40120038, 8, 1, .ws, .live, 0, 1⟩
/-- RX_ACQ_STAT.LAST_PATH RO, reset 0x0 (R174). -/
def RX_ACQ_STAT.LAST_PATH : Fld := ⟨0x4012003C, 0, 4, .ro, .none, 0, 1⟩
/-- RX_ACQ_STAT.FAIL_STATE RO, reset 0x0 (R174). -/
def RX_ACQ_STAT.FAIL_STATE : Fld := ⟨0x4012003C, 4, 4, .ro, .none, 0, 1⟩
/-- RX_ACQ_STAT.ATTEMPTS RC, reset 0x00 (R174). -/
def RX_ACQ_STAT.ATTEMPTS : Fld := ⟨0x4012003C, 8, 8, .rc, .none, 0, 1⟩
/-- RX_ACQ_STAT.ACQ_TIME_US RO, reset 0x0000 (R174). -/
def RX_ACQ_STAT.ACQ_TIME_US : Fld := ⟨0x4012003C, 16, 16, .ro, .none, 0, 1⟩
/-- RX_SNR.SNR_X RO, reset 0x0000 (R175). -/
def RX_SNR.SNR_X : Fld := ⟨0x40120040, 0, 16, .ro, .none, 0, 1⟩
/-- RX_SNR.SNR_Y RO, reset 0x0000 (R175). -/
def RX_SNR.SNR_Y : Fld := ⟨0x40120040, 16, 16, .ro, .none, 0, 1⟩
/-- RX_CD_EST.CD_EST RO, reset 0x0_0000 (R175). -/
def RX_CD_EST.CD_EST : Fld := ⟨0x40120044, 0, 20, .ro, .none, 0, 1⟩
/-- RX_FO.FO_EST RO, reset 0x0000 (R175). -/
def RX_FO.FO_EST : Fld := ⟨0x40120048, 0, 16, .ro, .none, 0, 1⟩
/-- RX_FO.CLK_PPM RO, reset 0x0000 (R175). -/
def RX_FO.CLK_PPM : Fld := ⟨0x40120048, 16, 16, .ro, .none, 0, 1⟩
/-- RX_PMD.DGD_EST RO, reset 0x000 (R175). -/
def RX_PMD.DGD_EST : Fld := ⟨0x4012004C, 0, 12, .ro, .none, 0, 1⟩
/-- RX_PMD.PDL_EST RO, reset 0x00 (R175). -/
def RX_PMD.PDL_EST : Fld := ⟨0x4012004C, 16, 8, .ro, .none, 0, 1⟩
/-- RX_EQ_STAT.SOP_RATE RO, reset 0x0000 (R175). -/
def RX_EQ_STAT.SOP_RATE : Fld := ⟨0x40120050, 0, 16, .ro, .none, 0, 1⟩
/-- RX_EQ_STAT.OUTER_E RO, reset 0x000 (R175). -/
def RX_EQ_STAT.OUTER_E : Fld := ⟨0x40120050, 16, 10, .ro, .none, 0, 1⟩
/-- RX_HDR_CNT.HDR_BAD RC, reset 0x0000 (R176). -/
def RX_HDR_CNT.HDR_BAD : Fld := ⟨0x40120054, 0, 16, .rc, .none, 0, 1⟩
/-- RX_HDR_CNT.IDLE_FRAMES RC, reset 0x0000 (R176). -/
def RX_HDR_CNT.IDLE_FRAMES : Fld := ⟨0x40120054, 16, 16, .rc, .none, 0, 1⟩
/-- RX_SLIP_CNT.SLIPS RC, reset 0x0000_0000 (R176). -/
def RX_SLIP_CNT.SLIPS : Fld := ⟨0x40120058, 0, 32, .rc, .none, 0, 1⟩
/-- RX_SAT.SAT_FF RC, reset 0x00 (R176). -/
def RX_SAT.SAT_FF : Fld := ⟨0x4012005C, 0, 6, .rc, .none, 0, 1⟩
/-- RX_SAT.SAT_RS RC, reset 0x00 (R176). -/
def RX_SAT.SAT_RS : Fld := ⟨0x4012005C, 6, 6, .rc, .none, 0, 1⟩
/-- RX_SAT.SAT_CD RC, reset 0x00 (R176). -/
def RX_SAT.SAT_CD : Fld := ⟨0x4012005C, 12, 6, .rc, .none, 0, 1⟩
/-- RX_SAT.SAT_FFE RC, reset 0x00 (R176). -/
def RX_SAT.SAT_FFE : Fld := ⟨0x4012005C, 18, 6, .rc, .none, 0, 1⟩
/-- RX_SAT.SAT_DFE RC, reset 0x00 (R176). -/
def RX_SAT.SAT_DFE : Fld := ⟨0x4012005C, 24, 6, .rc, .none, 0, 1⟩
/-- RX_LATENCY.LATENCY_NS RO, reset 0x0000 (R177). -/
def RX_LATENCY.LATENCY_NS : Fld := ⟨0x40120060, 0, 16, .ro, .none, 0, 1⟩
/-- RX_TAP_CTRL.TAP_SNAP WS LIVE, reset 0 (R178). -/
def RX_TAP_CTRL.TAP_SNAP : Fld := ⟨0x40120064, 0, 1, .ws, .live, 0, 1⟩
/-- RX_FF_COEF.COEF RW HALTED, reset 0x100 for t = 7; 0x000 otherwise (R179). -/
def RX_FF_COEF.COEF : Fld := ⟨0x40120100, 0, 10, .rw, .halted, 0x4, 64⟩

/-- Fields of RXDSP, part 0. -/
def rowsRXDSP0 : List Fld :=
[RXDSP_STAT.CFG_ERR, RXDSP_STAT.LOL, RXDSP_STAT.LOCKED, RXDSP_STAT.SEED_VALID, RXDSP_STAT.IDLE,
   RXDSP_STAT.THROTTLED, RXDSP_STAT.HDR_MISMATCH, RXDSP_STAT.CFG_CODE, RXDSP_STAT.ACQ_STATE, RX_RATE.SYM_RATE,
   RX_MOD.ENTROPY, RX_MOD.LLR_SCALE, RX_MOD.MOD, RX_MOD.FOLLOW, RX_CD.CD_PSNM, RX_CD.CD_MODE, RX_CD.TRACK,
   RX_FREQ.FREQ_GHZ, RX_SHIFT.SH_FF, RX_SHIFT.SH_RS, RX_SHIFT.SH_CD, RX_SHIFT.SH_FFE, RX_SHIFT.SH_DFE,
   RX_FFE_CTRL.MU_CMA, RX_FFE_CTRL.MU_DD, RX_FFE_CTRL.MU_PIL, RX_FFE_CTRL.LEAK, RX_FFE_CTRL.FREEZE,
   RX_DFE_CTRL.MU_DFE, RX_DFE_CTRL.DFE_EN, RX_DFE_CTRL.FREEZE, RX_CR_CTRL.CR_WIN, RX_CR_CTRL.PILOT_AVG,
   RX_CR_CTRL.FLL_BW, RX_CR_CTRL.TR_BW, RX_LOL_CTRL.LOL_THR, RX_LOL_CTRL.LOL_HYST, RX_LOL_CTRL.LOL_CLR,
   RX_LOL_CTRL.LOL_SET, RX_SEED_CTRL.AUTO_SEED]
/-- Fields of RXDSP, part 1. -/
def rowsRXDSP1 : List Fld :=
[RX_SEED_CTRL.SEED_REUSE, RX_SEED_CTRL.SEED_CLEAR, RX_SEED_CTRL.SEED_CAPTURE, RX_SEED_CTRL.SEED_PERIOD,
   RX_ACQ_CTRL.ACQ_TIMEOUT, RX_ACQ_CTRL.ACQ_RESTART, RX_ACQ_STAT.LAST_PATH, RX_ACQ_STAT.FAIL_STATE,
   RX_ACQ_STAT.ATTEMPTS, RX_ACQ_STAT.ACQ_TIME_US, RX_SNR.SNR_X, RX_SNR.SNR_Y, RX_CD_EST.CD_EST, RX_FO.FO_EST,
   RX_FO.CLK_PPM, RX_PMD.DGD_EST, RX_PMD.PDL_EST, RX_EQ_STAT.SOP_RATE, RX_EQ_STAT.OUTER_E, RX_HDR_CNT.HDR_BAD,
   RX_HDR_CNT.IDLE_FRAMES, RX_SLIP_CNT.SLIPS, RX_SAT.SAT_FF, RX_SAT.SAT_RS, RX_SAT.SAT_CD, RX_SAT.SAT_FFE,
   RX_SAT.SAT_DFE, RX_LATENCY.LATENCY_NS, RX_TAP_CTRL.TAP_SNAP, RX_FF_COEF.COEF]

/-- Fields of RXDSP. -/
def rowsRXDSP : List Fld := rowsRXDSP0 ++ rowsRXDSP1

/-! Block DAWN. -/

/-- DAWN_STAT.DUP_ID W1C, reset 0 (R212). -/
def DAWN_STAT.DUP_ID : Fld := ⟨0x40130008, 11, 1, .w1c, .none, 0, 1⟩
/-- DAWN_STAT.DET_RATE RO, reset 0b00 (R212). -/
def DAWN_STAT.DET_RATE : Fld := ⟨0x40130008, 12, 2, .ro, .none, 0, 1⟩
/-- DAWN_STAT.LIGHT RO, reset 0 (R212). -/
def DAWN_STAT.LIGHT : Fld := ⟨0x40130008, 14, 1, .ro, .none, 0, 1⟩
/-- DAWN_STAT.CFG_ERR RO, reset 0 (R212). -/
def DAWN_STAT.CFG_ERR : Fld := ⟨0x40130008, 15, 1, .ro, .none, 0, 1⟩
/-- DAWN_STAT.EXPECT_HIT RO, reset 0 (R212). -/
def DAWN_STAT.EXPECT_HIT : Fld := ⟨0x40130008, 16, 1, .ro, .none, 0, 1⟩
/-- DAWN_STAT.IN_USE RO, reset 0 (R212). -/
def DAWN_STAT.IN_USE : Fld := ⟨0x40130008, 17, 1, .ro, .none, 0, 1⟩
/-- DAWN_STAT.CUR_ENTRY RO, reset 0x00 (R212). -/
def DAWN_STAT.CUR_ENTRY : Fld := ⟨0x40130008, 18, 6, .ro, .none, 0, 1⟩
/-- DAWN_STAT.CFG_CODE RO, reset 0x0 (R212). -/
def DAWN_STAT.CFG_CODE : Fld := ⟨0x40130008, 24, 4, .ro, .none, 0, 1⟩
/-- DAWN_STAT.STATE RO, reset 0x0 (R212). -/
def DAWN_STAT.STATE : Fld := ⟨0x40130008, 28, 4, .ro, .none, 0, 1⟩
/-- DAWN_CTRL.SYNC_WIN RW LIVE, reset 0x0_7000 (R213). -/
def DAWN_CTRL.SYNC_WIN : Fld := ⟨0x40130010, 0, 20, .rw, .live, 0, 1⟩
/-- DAWN_CTRL.BUDGET_NS RW LIVE, reset 0x5DC (R213). -/
def DAWN_CTRL.BUDGET_NS : Fld := ⟨0x40130010, 20, 12, .rw, .live, 0, 1⟩
/-- DAWN_RATE.SYM_RATE RW HALTED, reset 0x3_A980 (R214). -/
def DAWN_RATE.SYM_RATE : Fld := ⟨0x40130014, 0, 18, .rw, .halted, 0x4, 4⟩
/-- DAWN_RATE.EN RW HALTED, reset 1 for k = 0; 0 otherwise (R214). -/
def DAWN_RATE.EN : Fld := ⟨0x40130014, 31, 1, .rw, .halted, 0x4, 4⟩
/-- DAWN_CDS.CDS RW HALTED, reset 0x0_0000 (R214). -/
def DAWN_CDS.CDS : Fld := ⟨0x40130024, 0, 20, .rw, .halted, 0x4, 4⟩
/-- DAWN_DET.DET_THR RW LIVE, reset 0xA0 (R215). -/
def DAWN_DET.DET_THR : Fld := ⟨0x40130034, 0, 8, .rw, .live, 0, 1⟩
/-- DAWN_DET.METRIC_MARGIN RW LIVE, reset 0x08 (R215). -/
def DAWN_DET.METRIC_MARGIN : Fld := ⟨0x40130034, 8, 8, .rw, .live, 0, 1⟩
/-- DAWN_DET.CAPTURE_DB RW LIVE, reset 0x6 (R215). -/
def DAWN_DET.CAPTURE_DB : Fld := ⟨0x40130034, 20, 4, .rw, .live, 0, 1⟩
/-- DAWN_AGC.PRESET RW LIVE, reset 0x200 (R216). -/
def DAWN_AGC.PRESET : Fld := ⟨0x40130038, 0, 10, .rw, .live, 0, 1⟩
/-- DAWN_AGC.TARGET RW LIVE, reset 0x50 (R216). -/
def DAWN_AGC.TARGET : Fld := ⟨0x40130038, 16, 8, .rw, .live, 0, 1⟩
/-- DAWN_AGC.BURST_THR RW LIVE, reset 0x40 (R216). -/
def DAWN_AGC.BURST_THR : Fld := ⟨0x40130038, 24, 8, .rw, .live, 0, 1⟩
/-- DAWN_EXPECT.SRC_ID RW LIVE, reset 0x0000 (R217). -/
def DAWN_EXPECT.SRC_ID : Fld := ⟨0x4013003C, 0, 16, .rw, .live, 0, 1⟩
/-- DAWN_EXPECT.VALID RW LIVE, reset 0 (R217). -/
def DAWN_EXPECT.VALID : Fld := ⟨0x4013003C, 31, 1, .rw, .live, 0, 1⟩
/-- DAWN_SEED_CTRL.LEARN RW LIVE, reset 0 (R218). -/
def DAWN_SEED_CTRL.LEARN : Fld := ⟨0x40130040, 0, 1, .rw, .live, 0, 1⟩
/-- DAWN_SEED_CTRL.LEARN_KEY RW LIVE, reset 0 (R218). -/
def DAWN_SEED_CTRL.LEARN_KEY : Fld := ⟨0x40130040, 1, 1, .rw, .live, 0, 1⟩
/-- DAWN_SEED_CTRL.SEED_MIN_SNR RW LIVE, reset 0x64 (R218). -/
def DAWN_SEED_CTRL.SEED_MIN_SNR : Fld := ⟨0x40130040, 8, 8, .rw, .live, 0, 1⟩
/-- DAWN_SEED_CTRL.STALE_S RW LIVE, reset 0x003C (R218). -/
def DAWN_SEED_CTRL.STALE_S : Fld := ⟨0x40130040, 16, 16, .rw, .live, 0, 1⟩
/-- DAWN_SSI_CAL.SLOPE RW LIVE, reset 0x0040 (R219). -/
def DAWN_SSI_CAL.SLOPE : Fld := ⟨0x40130044, 0, 16, .rw, .live, 0, 1⟩
/-- DAWN_SSI_CAL.OFFSET RW LIVE, reset 0x0000 (R219). -/
def DAWN_SSI_CAL.OFFSET : Fld := ⟨0x40130044, 16, 16, .rw, .live, 0, 1⟩
/-- DAWN_SEED_SEL.ENTRY RW LIVE, reset 0x00 (R220). -/
def DAWN_SEED_SEL.ENTRY : Fld := ⟨0x40130048, 0, 6, .rw, .live, 0, 1⟩
/-- DAWN_SEED_CMD.ENTRY WO LIVE, reset 0x00 (R220). -/
def DAWN_SEED_CMD.ENTRY : Fld := ⟨0x4013004C, 0, 6, .wo, .live, 0, 1⟩
/-- DAWN_SEED_CMD.OP WO LIVE, reset 0b00 (R220). -/
def DAWN_SEED_CMD.OP : Fld := ⟨0x4013004C, 8, 2, .wo, .live, 0, 1⟩
/-- DAWN_BURST.FLAGS RO, reset 0x00 (R221). -/
def DAWN_BURST.FLAGS : Fld := ⟨0x40130050, 0, 8, .ro, .none, 0, 1⟩
/-- DAWN_BURST.ENTRY RO, reset 0x00 (R221). -/
def DAWN_BURST.ENTRY : Fld := ⟨0x40130050, 8, 6, .ro, .none, 0, 1⟩
/-- DAWN_BURST.SRC_ID RO, reset 0x0000 (R221). -/
def DAWN_BURST.SRC_ID : Fld := ⟨0x40130050, 16, 16, .ro, .none, 0, 1⟩
/-- DAWN_BURST_N.N RO, reset 0x0000 (R221). -/
def DAWN_BURST_N.N : Fld := ⟨0x40130054, 0, 16, .ro, .none, 0, 1⟩
/-- DAWN_BURST_N.RATE_IDX RO, reset 0b00 (R221). -/
def DAWN_BURST_N.RATE_IDX : Fld := ⟨0x40130054, 16, 2, .ro, .none, 0, 1⟩
/-- DAWN_SSI.SSI RO, reset 0x0000 (R221). -/
def DAWN_SSI.SSI : Fld := ⟨0x40130058, 0, 16, .ro, .none, 0, 1⟩
/-- DAWN_ACQ.ACQ_NS RO, reset 0x0000 (R221). -/
def DAWN_ACQ.ACQ_NS : Fld := ⟨0x4013005C, 0, 16, .ro, .none, 0, 1⟩
/-- DAWN_ACQ.ACQ_MAX RC, reset 0x0000 (R221). -/
def DAWN_ACQ.ACQ_MAX : Fld := ⟨0x4013005C, 16, 16, .rc, .none, 0, 1⟩
/-- DAWN_CNT0.DETECTS RC, reset 0x0000 (R222). -/
def DAWN_CNT0.DETECTS : Fld := ⟨0x40130060, 0, 16, .rc, .none, 0, 1⟩
/-- DAWN_CNT0.FALSE_ALARM RC, reset 0x0000 (R222). -/
def DAWN_CNT0.FALSE_ALARM : Fld := ⟨0x40130060, 16, 16, .rc, .none, 0, 1⟩
/-- DAWN_CNT1.CAPTURES RC, reset 0x0000 (R222). -/
def DAWN_CNT1.CAPTURES : Fld := ⟨0x40130064, 0, 16, .rc, .none, 0, 1⟩
/-- DAWN_CNT1.INTRUSIONS RC, reset 0x0000 (R222). -/
def DAWN_CNT1.INTRUSIONS : Fld := ⟨0x40130064, 16, 16, .rc, .none, 0, 1⟩
/-- DAWN_CNT2.DESC_BAD RC, reset 0x0000 (R222). -/
def DAWN_CNT2.DESC_BAD : Fld := ⟨0x40130068, 0, 16, .rc, .none, 0, 1⟩
/-- DAWN_CNT2.COLD_BURSTS RC, reset 0x0000 (R222). -/
def DAWN_CNT2.COLD_BURSTS : Fld := ⟨0x40130068, 16, 16, .rc, .none, 0, 1⟩
/-- DAWN_CNT3.OVER_BUDGET RC, reset 0x0000 (R222). -/
def DAWN_CNT3.OVER_BUDGET : Fld := ⟨0x4013006C, 0, 16, .rc, .none, 0, 1⟩
/-- DAWN_CNT3.WRITEBACKS RC, reset 0x0000 (R222). -/
def DAWN_CNT3.WRITEBACKS : Fld := ⟨0x4013006C, 16, 16, .rc, .none, 0, 1⟩
/-- DAWN_MS.MS RO, reset 0x0000_0000 (R223). -/
def DAWN_MS.MS : Fld := ⟨0x40130070, 0, 32, .ro, .none, 0, 1⟩
/-- DAWN_BEXA.BEXA_THR RW LIVE, reset 0x40 (R223). -/
def DAWN_BEXA.BEXA_THR : Fld := ⟨0x40130074, 0, 8, .rw, .live, 0, 1⟩
/-- DAWN_BEXA.DWELL RW LIVE, reset 0x10 (R223). -/
def DAWN_BEXA.DWELL : Fld := ⟨0x40130074, 8, 8, .rw, .live, 0, 1⟩

/-- Fields of DAWN, part 0. -/
def rowsDAWN0 : List Fld :=
[DAWN_STAT.DUP_ID, DAWN_STAT.DET_RATE, DAWN_STAT.LIGHT, DAWN_STAT.CFG_ERR, DAWN_STAT.EXPECT_HIT, DAWN_STAT.IN_USE,
   DAWN_STAT.CUR_ENTRY, DAWN_STAT.CFG_CODE, DAWN_STAT.STATE, DAWN_CTRL.SYNC_WIN, DAWN_CTRL.BUDGET_NS,
   DAWN_RATE.SYM_RATE, DAWN_RATE.EN, DAWN_CDS.CDS, DAWN_DET.DET_THR, DAWN_DET.METRIC_MARGIN, DAWN_DET.CAPTURE_DB,
   DAWN_AGC.PRESET, DAWN_AGC.TARGET, DAWN_AGC.BURST_THR, DAWN_EXPECT.SRC_ID, DAWN_EXPECT.VALID,
   DAWN_SEED_CTRL.LEARN, DAWN_SEED_CTRL.LEARN_KEY, DAWN_SEED_CTRL.SEED_MIN_SNR, DAWN_SEED_CTRL.STALE_S,
   DAWN_SSI_CAL.SLOPE, DAWN_SSI_CAL.OFFSET, DAWN_SEED_SEL.ENTRY, DAWN_SEED_CMD.ENTRY, DAWN_SEED_CMD.OP,
   DAWN_BURST.FLAGS, DAWN_BURST.ENTRY, DAWN_BURST.SRC_ID, DAWN_BURST_N.N, DAWN_BURST_N.RATE_IDX, DAWN_SSI.SSI,
   DAWN_ACQ.ACQ_NS, DAWN_ACQ.ACQ_MAX, DAWN_CNT0.DETECTS]
/-- Fields of DAWN, part 1. -/
def rowsDAWN1 : List Fld :=
[DAWN_CNT0.FALSE_ALARM, DAWN_CNT1.CAPTURES, DAWN_CNT1.INTRUSIONS, DAWN_CNT2.DESC_BAD, DAWN_CNT2.COLD_BURSTS,
   DAWN_CNT3.OVER_BUDGET, DAWN_CNT3.WRITEBACKS, DAWN_MS.MS, DAWN_BEXA.BEXA_THR, DAWN_BEXA.DWELL]

/-- Fields of DAWN. -/
def rowsDAWN : List Fld := rowsDAWN0 ++ rowsDAWN1

/-! Block FEC. -/

/-- FEC_STAT.ENC_ACTIVE RO, reset 0 (R251). -/
def FEC_STAT.ENC_ACTIVE : Fld := ⟨0x40140008, 12, 1, .ro, .none, 0, 1⟩
/-- FEC_STAT.DEC_ACTIVE RO, reset 0 (R251). -/
def FEC_STAT.DEC_ACTIVE : Fld := ⟨0x40140008, 13, 1, .ro, .none, 0, 1⟩
/-- FEC_STAT.MON_VALID RO, reset 0 (R251). -/
def FEC_STAT.MON_VALID : Fld := ⟨0x40140008, 14, 1, .ro, .none, 0, 1⟩
/-- FEC_STAT.THROTTLED RO, reset 0 (R251). -/
def FEC_STAT.THROTTLED : Fld := ⟨0x40140008, 15, 1, .ro, .none, 0, 1⟩
/-- FEC_STAT.POOL_EXH RO, reset 0 (R251). -/
def FEC_STAT.POOL_EXH : Fld := ⟨0x40140008, 16, 1, .ro, .none, 0, 1⟩
/-- FEC_STAT.MARGIN_LOW RO, reset 0 (R251). -/
def FEC_STAT.MARGIN_LOW : Fld := ⟨0x40140008, 17, 1, .ro, .none, 0, 1⟩
/-- FEC_STAT.ALIGNED RO, reset 0 (R251). -/
def FEC_STAT.ALIGNED : Fld := ⟨0x40140008, 18, 1, .ro, .none, 0, 1⟩
/-- FEC_STAT.CFG_ERR RO, reset 0 (R251). -/
def FEC_STAT.CFG_ERR : Fld := ⟨0x40140008, 19, 1, .ro, .none, 0, 1⟩
/-- FEC_STAT.CFG_CODE RO, reset 0x0 (R251). -/
def FEC_STAT.CFG_CODE : Fld := ⟨0x40140008, 20, 4, .ro, .none, 0, 1⟩
/-- FEC_CODE.TX_RATE RW STAGED, reset 0b01 (R252). -/
def FEC_CODE.TX_RATE : Fld := ⟨0x40140010, 0, 2, .rw, .staged, 0, 1⟩
/-- FEC_CODE.RX_RATE RW STAGED, reset 0b01 (R252). -/
def FEC_CODE.RX_RATE : Fld := ⟨0x40140010, 4, 2, .rw, .staged, 0, 1⟩
/-- FEC_CODE.ENC_EN RW HALTED, reset 1 (R252). -/
def FEC_CODE.ENC_EN : Fld := ⟨0x40140010, 8, 1, .rw, .halted, 0, 1⟩
/-- FEC_CODE.DEC_EN RW HALTED, reset 1 (R252). -/
def FEC_CODE.DEC_EN : Fld := ⟨0x40140010, 9, 1, .rw, .halted, 0, 1⟩
/-- FEC_CODE.NORM RW STAGED, reset 0b10 (R252). -/
def FEC_CODE.NORM : Fld := ⟨0x40140010, 16, 2, .rw, .staged, 0, 1⟩
/-- FEC_POOL_CTRL.POOL_CAP RW LIVE, reset 0x4000 (R253). -/
def FEC_POOL_CTRL.POOL_CAP : Fld := ⟨0x40140014, 0, 16, .rw, .live, 0, 1⟩
/-- FEC_POOL_CTRL.ITER_MAX RW LIVE, reset 0x18 (R253). -/
def FEC_POOL_CTRL.ITER_MAX : Fld := ⟨0x40140014, 16, 5, .rw, .live, 0, 1⟩
/-- FEC_POOL_STAT.CREDIT RO, reset 0x0000 (R254). -/
def FEC_POOL_STAT.CREDIT : Fld := ⟨0x40140018, 0, 16, .ro, .none, 0, 1⟩
/-- FEC_POOL_STAT.CREDIT_MIN RC, reset 0x0000 (R254). -/
def FEC_POOL_STAT.CREDIT_MIN : Fld := ⟨0x40140018, 16, 16, .rc, .none, 0, 1⟩
/-- FEC_MON_CTRL.INTERVAL_LOG2 RW LIVE, reset 0x15 (R255). -/
def FEC_MON_CTRL.INTERVAL_LOG2 : Fld := ⟨0x4014001C, 0, 5, .rw, .live, 0, 1⟩
/-- FEC_MON_CTRL.MARGIN_WARN RW LIVE, reset 0x0064 (R255). -/
def FEC_MON_CTRL.MARGIN_WARN : Fld := ⟨0x4014001C, 16, 16, .rw, .live, 0, 1⟩
/-- FEC_MARGIN.MARGIN RO, reset 0x0000 (R256). -/
def FEC_MARGIN.MARGIN : Fld := ⟨0x40140020, 0, 16, .ro, .none, 0, 1⟩
/-- FEC_MARGIN.MARGIN_THR RO, reset 0x0000 (R256). -/
def FEC_MARGIN.MARGIN_THR : Fld := ⟨0x40140020, 16, 16, .ro, .none, 0, 1⟩
/-- FEC_BER.BER_E7 RO, reset 0x0_0000 (R256). -/
def FEC_BER.BER_E7 : Fld := ⟨0x40140024, 0, 20, .ro, .none, 0, 1⟩
/-- FEC_BER.ITER_MEAN RO, reset 0x000 (R256). -/
def FEC_BER.ITER_MEAN : Fld := ⟨0x40140024, 23, 9, .ro, .none, 0, 1⟩
/-- FEC_CORR.CORR RO, reset 0x0000_0000 (R257). -/
def FEC_CORR.CORR : Fld := ⟨0x40140028, 0, 48, .ro, .none, 0, 1⟩
/-- FEC_BITS.BITS RO, reset 0x0000_0000 (R257). -/
def FEC_BITS.BITS : Fld := ⟨0x40140030, 0, 48, .ro, .none, 0, 1⟩
/-- FEC_CW.CW RO, reset 0x0000_0000 (R257). -/
def FEC_CW.CW : Fld := ⟨0x40140038, 0, 48, .ro, .none, 0, 1⟩
/-- FEC_UNCORR.UNCORR RC, reset 0x0000_0000 (R258). -/
def FEC_UNCORR.UNCORR : Fld := ⟨0x40140040, 0, 32, .rc, .none, 0, 1⟩
/-- FEC_SHORT.SHORT RC, reset 0x0000 (R258). -/
def FEC_SHORT.SHORT : Fld := ⟨0x40140044, 0, 16, .rc, .none, 0, 1⟩
/-- FEC_SHORT.SHORT_FAIL RC, reset 0x0000 (R258). -/
def FEC_SHORT.SHORT_FAIL : Fld := ⟨0x40140044, 16, 16, .rc, .none, 0, 1⟩
/-- FEC_CAP.CAPPED RC, reset 0x0000 (R258). -/
def FEC_CAP.CAPPED : Fld := ⟨0x40140048, 0, 16, .rc, .none, 0, 1⟩
/-- FEC_CAP.REALIGN RC, reset 0x0000 (R258). -/
def FEC_CAP.REALIGN : Fld := ⟨0x40140048, 16, 16, .rc, .none, 0, 1⟩
/-- FEC_DROP.ENC_DROP RC, reset 0x0000 (R258). -/
def FEC_DROP.ENC_DROP : Fld := ⟨0x4014004C, 0, 16, .rc, .none, 0, 1⟩
/-- FEC_DROP.RX_PARTIAL RC, reset 0x0000 (R258). -/
def FEC_DROP.RX_PARTIAL : Fld := ⟨0x4014004C, 16, 16, .rc, .none, 0, 1⟩
/-- FEC_LATENCY.ENC_NS RO, reset 0x0000 (R259). -/
def FEC_LATENCY.ENC_NS : Fld := ⟨0x40140050, 0, 16, .ro, .none, 0, 1⟩
/-- FEC_LATENCY.DEC_NS RO, reset 0x0000 (R259). -/
def FEC_LATENCY.DEC_NS : Fld := ⟨0x40140050, 16, 16, .ro, .none, 0, 1⟩
/-- FEC_HIST.COUNT RO, reset 0x0000_0000 (R259). -/
def FEC_HIST.COUNT : Fld := ⟨0x40140100, 0, 32, .ro, .none, 0x4, 25⟩

/-- Fields of FEC, part 0. -/
def rowsFEC0 : List Fld :=
[FEC_STAT.ENC_ACTIVE, FEC_STAT.DEC_ACTIVE, FEC_STAT.MON_VALID, FEC_STAT.THROTTLED, FEC_STAT.POOL_EXH,
   FEC_STAT.MARGIN_LOW, FEC_STAT.ALIGNED, FEC_STAT.CFG_ERR, FEC_STAT.CFG_CODE, FEC_CODE.TX_RATE, FEC_CODE.RX_RATE,
   FEC_CODE.ENC_EN, FEC_CODE.DEC_EN, FEC_CODE.NORM, FEC_POOL_CTRL.POOL_CAP, FEC_POOL_CTRL.ITER_MAX,
   FEC_POOL_STAT.CREDIT, FEC_POOL_STAT.CREDIT_MIN, FEC_MON_CTRL.INTERVAL_LOG2, FEC_MON_CTRL.MARGIN_WARN,
   FEC_MARGIN.MARGIN, FEC_MARGIN.MARGIN_THR, FEC_BER.BER_E7, FEC_BER.ITER_MEAN, FEC_CORR.CORR, FEC_BITS.BITS,
   FEC_CW.CW, FEC_UNCORR.UNCORR, FEC_SHORT.SHORT, FEC_SHORT.SHORT_FAIL, FEC_CAP.CAPPED, FEC_CAP.REALIGN,
   FEC_DROP.ENC_DROP, FEC_DROP.RX_PARTIAL, FEC_LATENCY.ENC_NS, FEC_LATENCY.DEC_NS, FEC_HIST.COUNT]

/-- Fields of FEC. -/
def rowsFEC : List Fld := rowsFEC0

/-! Block FRAMER. -/

/-- FRM_STAT.BEXA_IDLE RO, reset 0 (R290). -/
def FRM_STAT.BEXA_IDLE : Fld := ⟨0x40150008, 13, 1, .ro, .none, 0, 1⟩
/-- FRM_STAT.UAS_FE RO, reset 0 (R290). -/
def FRM_STAT.UAS_FE : Fld := ⟨0x40150008, 14, 1, .ro, .none, 0, 1⟩
/-- FRM_STAT.UAS_NE RO, reset 0 (R290). -/
def FRM_STAT.UAS_NE : Fld := ⟨0x40150008, 15, 1, .ro, .none, 0, 1⟩
/-- FRM_STAT.FORCED RO, reset 0 (R290). -/
def FRM_STAT.FORCED : Fld := ⟨0x40150008, 16, 1, .ro, .none, 0, 1⟩
/-- FRM_STAT.PSR RO, reset 0 (R290). -/
def FRM_STAT.PSR : Fld := ⟨0x40150008, 17, 1, .ro, .none, 0, 1⟩
/-- FRM_STAT.SSF RO, reset 1 (R290). -/
def FRM_STAT.SSF : Fld := ⟨0x40150008, 18, 1, .ro, .none, 0, 1⟩
/-- FRM_STAT.CFG_ERR RO, reset 0 (R290). -/
def FRM_STAT.CFG_ERR : Fld := ⟨0x40150008, 19, 1, .ro, .none, 0, 1⟩
/-- FRM_STAT.CFG_CODE RO, reset 0x0 (R290). -/
def FRM_STAT.CFG_CODE : Fld := ⟨0x40150008, 20, 4, .ro, .none, 0, 1⟩
/-- FRM_STAT.MF_STATE RO, reset 0b00 (R290). -/
def FRM_STAT.MF_STATE : Fld := ⟨0x40150008, 24, 2, .ro, .none, 0, 1⟩
/-- FRM_STAT.FAS_STATE RO, reset 0b00 (R290). -/
def FRM_STAT.FAS_STATE : Fld := ⟨0x40150008, 26, 2, .ro, .none, 0, 1⟩
/-- FRM_STAT.LF_Y RO, reset 0b00 (R290). -/
def FRM_STAT.LF_Y : Fld := ⟨0x40150008, 28, 2, .ro, .none, 0, 1⟩
/-- FRM_STAT.LF_X RO, reset 0b00 (R290). -/
def FRM_STAT.LF_X : Fld := ⟨0x40150008, 30, 2, .ro, .none, 0, 1⟩
/-- FRM_CFG.N RW HALTED, reset 0x14 (R291). -/
def FRM_CFG.N : Fld := ⟨0x40150010, 0, 5, .rw, .halted, 0, 1⟩
/-- FRM_CFG.PT_CHK RW LIVE, reset 1 (R291). -/
def FRM_CFG.PT_CHK : Fld := ⟨0x40150010, 7, 1, .rw, .live, 0, 1⟩
/-- FRM_CFG.ACC_PT RO, reset 0x00 (R291). -/
def FRM_CFG.ACC_PT : Fld := ⟨0x40150010, 8, 8, .ro, .none, 0, 1⟩
/-- FRM_CFG.EXP_PT RW STAGED, reset 0x8A (R291). -/
def FRM_CFG.EXP_PT : Fld := ⟨0x40150010, 16, 8, .rw, .staged, 0, 1⟩
/-- FRM_CFG.TX_PT RW STAGED, reset 0x8A (R291). -/
def FRM_CFG.TX_PT : Fld := ⟨0x40150010, 24, 8, .rw, .staged, 0, 1⟩
/-- FRM_TTI_CTRL.TIM_MODE RW LIVE, reset 0b00 (R291). -/
def FRM_TTI_CTRL.TIM_MODE : Fld := ⟨0x40150014, 0, 2, .rw, .live, 0, 1⟩
/-- FRM_TTI_CTRL.TIM_ACT RW LIVE, reset 0 (R291). -/
def FRM_TTI_CTRL.TIM_ACT : Fld := ⟨0x40150014, 4, 1, .rw, .live, 0, 1⟩
/-- FRM_DEG.DEGTHR RW LIVE, reset 0x0064 (R291). -/
def FRM_DEG.DEGTHR : Fld := ⟨0x40150018, 0, 14, .rw, .live, 0, 1⟩
/-- FRM_DEG.DEGM RW LIVE, reset 0x7 (R291). -/
def FRM_DEG.DEGM : Fld := ⟨0x40150018, 16, 4, .rw, .live, 0, 1⟩
/-- FRM_ACT.PSR_MASK RW LIVE, reset 0x001F (R291). -/
def FRM_ACT.PSR_MASK : Fld := ⟨0x4015001C, 0, 16, .rw, .live, 0, 1⟩
/-- FRM_ACT.PSR_HOLDOFF RW LIVE, reset 0x00 (R291). -/
def FRM_ACT.PSR_HOLDOFF : Fld := ⟨0x4015001C, 24, 7, .rw, .live, 0, 1⟩
/-- FRM_DEFECT.CURRENT RO, reset 0x0000 (R292). -/
def FRM_DEFECT.CURRENT : Fld := ⟨0x40150020, 0, 16, .ro, .none, 0, 1⟩
/-- FRM_DEFECT.LATCHED W1C, reset 0x0000 (R292). -/
def FRM_DEFECT.LATCHED : Fld := ⟨0x40150020, 16, 16, .w1c, .none, 0, 1⟩
/-- FRM_FORCE.FORCE RW LIVE, reset 0x0000 (R292). -/
def FRM_FORCE.FORCE : Fld := ⟨0x40150024, 0, 16, .rw, .live, 0, 1⟩
/-- FRM_FORCE.BIP_INJ RW LIVE, reset 0 (R292). -/
def FRM_FORCE.BIP_INJ : Fld := ⟨0x40150024, 17, 1, .rw, .live, 0, 1⟩
/-- FRM_TX_MAINT.MAINT RW STAGED, reset 0b00 (R292). -/
def FRM_TX_MAINT.MAINT : Fld := ⟨0x40150028, 0, 2, .rw, .staged, 0, 1⟩
/-- FRM_TX_MAINT.BDI_FORCE RW STAGED, reset 0 (R292). -/
def FRM_TX_MAINT.BDI_FORCE : Fld := ⟨0x40150028, 4, 1, .rw, .staged, 0, 1⟩
/-- FRM_DUAL.SEL_MODE RW LIVE, reset 0b00 (R293). -/
def FRM_DUAL.SEL_MODE : Fld := ⟨0x4015002C, 0, 2, .rw, .live, 0, 1⟩
/-- FRM_DUAL.REALIGN WS LIVE, reset 0 (R293). -/
def FRM_DUAL.REALIGN : Fld := ⟨0x4015002C, 2, 1, .ws, .live, 0, 1⟩
/-- FRM_DUAL.WTR RW LIVE, reset 0x05 (R293). -/
def FRM_DUAL.WTR : Fld := ⟨0x4015002C, 8, 8, .rw, .live, 0, 1⟩
/-- FRM_DUAL.STORE_ASSIST RW HALTED, reset 0 (R293). -/
def FRM_DUAL.STORE_ASSIST : Fld := ⟨0x4015002C, 16, 1, .rw, .halted, 0, 1⟩
/-- FRM_DUAL_STAT.DSKEW_NS RO, reset 0x000_0000 (R293). -/
def FRM_DUAL_STAT.DSKEW_NS : Fld := ⟨0x40150030, 0, 28, .ro, .none, 0, 1⟩
/-- FRM_DUAL_STAT.ALIGNED RO, reset 0 (R293). -/
def FRM_DUAL_STAT.ALIGNED : Fld := ⟨0x40150030, 28, 1, .ro, .none, 0, 1⟩
/-- FRM_DUAL_STAT.EXCL_A RO, reset 0 (R293). -/
def FRM_DUAL_STAT.EXCL_A : Fld := ⟨0x40150030, 29, 1, .ro, .none, 0, 1⟩
/-- FRM_DUAL_STAT.EXCL_B RO, reset 0 (R293). -/
def FRM_DUAL_STAT.EXCL_B : Fld := ⟨0x40150030, 30, 1, .ro, .none, 0, 1⟩
/-- FRM_DUAL_STAT.SEL RO, reset 0 (R293). -/
def FRM_DUAL_STAT.SEL : Fld := ⟨0x40150030, 31, 1, .ro, .none, 0, 1⟩
/-- FRM_DM.DM_START WS LIVE, reset 0 (R293). -/
def FRM_DM.DM_START : Fld := ⟨0x40150034, 0, 1, .ws, .live, 0, 1⟩
/-- FRM_DM.DM_LOOP RW LIVE, reset 0 (R293). -/
def FRM_DM.DM_LOOP : Fld := ⟨0x40150034, 1, 1, .rw, .live, 0, 1⟩
/-- FRM_DM.DM_VALID RO, reset 0 (R293). -/
def FRM_DM.DM_VALID : Fld := ⟨0x40150034, 2, 1, .ro, .none, 0, 1⟩
/-- FRM_DM_RES.DM_NS RO, reset 0x0000_0000 (R293). -/
def FRM_DM_RES.DM_NS : Fld := ⟨0x40150038, 0, 32, .ro, .none, 0, 1⟩
/-- FRM_PM_NE.ES RC, reset 0x0000 (R294). -/
def FRM_PM_NE.ES : Fld := ⟨0x4015003C, 0, 16, .rc, .none, 0, 1⟩
/-- FRM_PM_NE.SES RC, reset 0x0000 (R294). -/
def FRM_PM_NE.SES : Fld := ⟨0x4015003C, 16, 16, .rc, .none, 0, 1⟩
/-- FRM_PM_NE_UAS.UAS RC, reset 0x0000_0000 (R294). -/
def FRM_PM_NE_UAS.UAS : Fld := ⟨0x40150040, 0, 32, .rc, .none, 0, 1⟩
/-- FRM_PM_FE.ES RC, reset 0x0000_0000 (R294). -/
def FRM_PM_FE.ES : Fld := ⟨0x40150044, 0, 16, .rc, .none, 0, 1⟩
/-- FRM_PM_FE.SES RC, reset 0x0000_0000 (R294). -/
def FRM_PM_FE.SES : Fld := ⟨0x40150044, 16, 16, .rc, .none, 0, 1⟩
/-- FRM_PM_FE_UAS.UAS RC, reset 0x0000_0000 (R294). -/
def FRM_PM_FE_UAS.UAS : Fld := ⟨0x40150048, 0, 32, .rc, .none, 0, 1⟩
/-- FRM_SMBIP.SMBIP RO, reset 0x0000_0000 (R294). -/
def FRM_SMBIP.SMBIP : Fld := ⟨0x4015004C, 0, 48, .ro, .none, 0, 1⟩
/-- FRM_CNT0.LF_OOF RC, reset 0x0000 (R294). -/
def FRM_CNT0.LF_OOF : Fld := ⟨0x40150054, 0, 16, .rc, .none, 0, 1⟩
/-- FRM_CNT0.FAS_OOF RC, reset 0x0000 (R294). -/
def FRM_CNT0.FAS_OOF : Fld := ⟨0x40150054, 16, 16, .rc, .none, 0, 1⟩
/-- FRM_CNT1.SEG_SWITCH RC, reset 0x0000 (R294). -/
def FRM_CNT1.SEG_SWITCH : Fld := ⟨0x40150058, 0, 16, .rc, .none, 0, 1⟩
/-- FRM_CNT1.SEG_BOTH_BAD RC, reset 0x0000 (R294). -/
def FRM_CNT1.SEG_BOTH_BAD : Fld := ⟨0x40150058, 16, 16, .rc, .none, 0, 1⟩
/-- FRM_PM_BIP.PM_BIP RC, reset 0x0000_0000 (R294). -/
def FRM_PM_BIP.PM_BIP : Fld := ⟨0x4015005C, 0, 32, .rc, .none, 0, 1⟩

/-- Fields of FRAMER, part 0. -/
def rowsFRAMER0 : List Fld :=
[FRM_STAT.BEXA_IDLE, FRM_STAT.UAS_FE, FRM_STAT.UAS_NE, FRM_STAT.FORCED, FRM_STAT.PSR, FRM_STAT.SSF,
   FRM_STAT.CFG_ERR, FRM_STAT.CFG_CODE, FRM_STAT.MF_STATE, FRM_STAT.FAS_STATE, FRM_STAT.LF_Y, FRM_STAT.LF_X,
   FRM_CFG.N, FRM_CFG.PT_CHK, FRM_CFG.ACC_PT, FRM_CFG.EXP_PT, FRM_CFG.TX_PT, FRM_TTI_CTRL.TIM_MODE,
   FRM_TTI_CTRL.TIM_ACT, FRM_DEG.DEGTHR, FRM_DEG.DEGM, FRM_ACT.PSR_MASK, FRM_ACT.PSR_HOLDOFF, FRM_DEFECT.CURRENT,
   FRM_DEFECT.LATCHED, FRM_FORCE.FORCE, FRM_FORCE.BIP_INJ, FRM_TX_MAINT.MAINT, FRM_TX_MAINT.BDI_FORCE,
   FRM_DUAL.SEL_MODE, FRM_DUAL.REALIGN, FRM_DUAL.WTR, FRM_DUAL.STORE_ASSIST, FRM_DUAL_STAT.DSKEW_NS,
   FRM_DUAL_STAT.ALIGNED, FRM_DUAL_STAT.EXCL_A, FRM_DUAL_STAT.EXCL_B, FRM_DUAL_STAT.SEL, FRM_DM.DM_START,
   FRM_DM.DM_LOOP]
/-- Fields of FRAMER, part 1. -/
def rowsFRAMER1 : List Fld :=
[FRM_DM.DM_VALID, FRM_DM_RES.DM_NS, FRM_PM_NE.ES, FRM_PM_NE.SES, FRM_PM_NE_UAS.UAS, FRM_PM_FE.ES, FRM_PM_FE.SES,
   FRM_PM_FE_UAS.UAS, FRM_SMBIP.SMBIP, FRM_CNT0.LF_OOF, FRM_CNT0.FAS_OOF, FRM_CNT1.SEG_SWITCH,
   FRM_CNT1.SEG_BOTH_BAD, FRM_PM_BIP.PM_BIP]

/-- Fields of FRAMER. -/
def rowsFRAMER : List Fld := rowsFRAMER0 ++ rowsFRAMER1

/-! Block CIPHER. -/

/-- CIPH_STAT.KEYX_RX RO, reset 0 (R323). -/
def CIPH_STAT.KEYX_RX : Fld := ⟨0x40160008, 10, 1, .ro, .none, 0, 1⟩
/-- CIPH_STAT.IN_SYNC RO, reset 0 (R323). -/
def CIPH_STAT.IN_SYNC : Fld := ⟨0x40160008, 11, 1, .ro, .none, 0, 1⟩
/-- CIPH_STAT.TX_ACT_SLOT RO, reset 0 (R323). -/
def CIPH_STAT.TX_ACT_SLOT : Fld := ⟨0x40160008, 12, 1, .ro, .none, 0, 1⟩
/-- CIPH_STAT.SWITCHING RO, reset 0 (R323). -/
def CIPH_STAT.SWITCHING : Fld := ⟨0x40160008, 13, 1, .ro, .none, 0, 1⟩
/-- CIPH_STAT.CTR_WARN RO, reset 0 (R323). -/
def CIPH_STAT.CTR_WARN : Fld := ⟨0x40160008, 14, 1, .ro, .none, 0, 1⟩
/-- CIPH_STAT.TX_KEYX RO, reset 0 (R323). -/
def CIPH_STAT.TX_KEYX : Fld := ⟨0x40160008, 15, 1, .ro, .none, 0, 1⟩
/-- CIPH_STAT.BYPASS RO, reset 0 (R323). -/
def CIPH_STAT.BYPASS : Fld := ⟨0x40160008, 16, 1, .ro, .none, 0, 1⟩
/-- CIPH_STAT.KEK_VALID RO, reset 0 (R323). -/
def CIPH_STAT.KEK_VALID : Fld := ⟨0x40160008, 17, 1, .ro, .none, 0, 1⟩
/-- CIPH_STAT.RNG_FAULT RO, reset 0 (R323). -/
def CIPH_STAT.RNG_FAULT : Fld := ⟨0x40160008, 18, 1, .ro, .none, 0, 1⟩
/-- CIPH_STAT.CFG_ERR RO, reset 0 (R323). -/
def CIPH_STAT.CFG_ERR : Fld := ⟨0x40160008, 19, 1, .ro, .none, 0, 1⟩
/-- CIPH_STAT.CFG_CODE RO, reset 0x0 (R323). -/
def CIPH_STAT.CFG_CODE : Fld := ⟨0x40160008, 20, 4, .ro, .none, 0, 1⟩
/-- CIPH_CFG.SEG_KIB RW HALTED, reset 0x080 (R324). -/
def CIPH_CFG.SEG_KIB : Fld := ⟨0x40160010, 0, 11, .rw, .halted, 0, 1⟩
/-- CIPH_CFG.RELEASE RW STAGED, reset 0 (R324). -/
def CIPH_CFG.RELEASE : Fld := ⟨0x40160010, 16, 1, .rw, .staged, 0, 1⟩
/-- CIPH_CFG.ACCEPT_CLEAR RW LIVE, reset 0 (R324). -/
def CIPH_CFG.ACCEPT_CLEAR : Fld := ⟨0x40160010, 17, 1, .rw, .live, 0, 1⟩
/-- CIPH_CFG.TX_CLEAR RW HALTED, reset 0 (R324). -/
def CIPH_CFG.TX_CLEAR : Fld := ⟨0x40160010, 18, 1, .rw, .halted, 0, 1⟩
/-- CIPH_TX_KEY.TX_SLOT RW STAGED, reset 0 (R324). -/
def CIPH_TX_KEY.TX_SLOT : Fld := ⟨0x40160014, 0, 1, .rw, .staged, 0, 1⟩
/-- CIPH_LOAD.TARGET RW LIVE, reset 0b00 (R325). -/
def CIPH_LOAD.TARGET : Fld := ⟨0x40160018, 0, 2, .rw, .live, 0, 1⟩
/-- CIPH_LOAD.KEY_LOAD WS LIVE, reset 0 (R325). -/
def CIPH_LOAD.KEY_LOAD : Fld := ⟨0x40160018, 8, 1, .ws, .live, 0, 1⟩
/-- CIPH_LOAD.KEK_CLEAR WS LIVE, reset 0 (R325). -/
def CIPH_LOAD.KEK_CLEAR : Fld := ⟨0x40160018, 9, 1, .ws, .live, 0, 1⟩
/-- CIPH_LOAD.KEK_BLOB WS LIVE, reset 0 (R325). -/
def CIPH_LOAD.KEK_BLOB : Fld := ⟨0x40160018, 10, 1, .ws, .live, 0, 1⟩
/-- CIPH_LOAD.KEK_EXPORT WS LIVE, reset 0 (R325). -/
def CIPH_LOAD.KEK_EXPORT : Fld := ⟨0x40160018, 11, 1, .ws, .live, 0, 1⟩
/-- CIPH_LOAD.REJ_CODE RO, reset 0x0 (R325). -/
def CIPH_LOAD.REJ_CODE : Fld := ⟨0x40160018, 16, 4, .ro, .none, 0, 1⟩
/-- CIPH_LOAD.BUSY RO, reset 0 (R325). -/
def CIPH_LOAD.BUSY : Fld := ⟨0x40160018, 20, 1, .ro, .none, 0, 1⟩
/-- CIPH_SLOT.KEY_ID RO, reset 0x0000 (R326). -/
def CIPH_SLOT.KEY_ID : Fld := ⟨0x4016001C, 0, 16, .ro, .none, 0x4, 4⟩
/-- CIPH_SLOT.STATE RO, reset 0b00 (R326). -/
def CIPH_SLOT.STATE : Fld := ⟨0x4016001C, 30, 2, .ro, .none, 0x4, 4⟩
/-- CIPH_CTR0.CTR RO, reset 0x0000_0000 (R327). -/
def CIPH_CTR0.CTR : Fld := ⟨0x40160030, 0, 48, .ro, .none, 0, 1⟩
/-- CIPH_CTR1.CTR RO, reset 0x0000_0000 (R327). -/
def CIPH_CTR1.CTR : Fld := ⟨0x40160038, 0, 48, .ro, .none, 0, 1⟩
/-- CIPH_CTR_START_LO.START RW LIVE, reset 0x0000_0000 (R327). -/
def CIPH_CTR_START_LO.START : Fld := ⟨0x40160040, 0, 32, .rw, .live, 0, 1⟩
/-- CIPH_CTR_START_HI.START RW LIVE, reset 0x0000 (R327). -/
def CIPH_CTR_START_HI.START : Fld := ⟨0x40160044, 0, 16, .rw, .live, 0, 1⟩
/-- CIPH_RX_STAT.RX_SLOT RO, reset 0 (R328). -/
def CIPH_RX_STAT.RX_SLOT : Fld := ⟨0x40160048, 0, 1, .ro, .none, 0, 1⟩
/-- CIPH_RX_STAT.PEND_RX RO, reset 0 (R328). -/
def CIPH_RX_STAT.PEND_RX : Fld := ⟨0x40160048, 7, 1, .ro, .none, 0, 1⟩
/-- CIPH_RX_STAT.RX_SEG_UNITS RO, reset 0x00 (R328). -/
def CIPH_RX_STAT.RX_SEG_UNITS : Fld := ⟨0x40160048, 8, 6, .ro, .none, 0, 1⟩
/-- CIPH_RX_STAT.RX_KEY_ID RO, reset 0x0000 (R328). -/
def CIPH_RX_STAT.RX_KEY_ID : Fld := ⟨0x40160048, 16, 16, .ro, .none, 0, 1⟩
/-- CIPH_RXCTR.RXCTR RO, reset 0x0000_0000 (R327). -/
def CIPH_RXCTR.RXCTR : Fld := ⟨0x4016004C, 0, 48, .ro, .none, 0, 1⟩
/-- CIPH_CNT0.TAG_FAIL RC, reset 0x0000_0000 (R329). -/
def CIPH_CNT0.TAG_FAIL : Fld := ⟨0x40160054, 0, 32, .rc, .none, 0, 1⟩
/-- CIPH_CNT1.UNCORR_SEG RC, reset 0x0000 (R329). -/
def CIPH_CNT1.UNCORR_SEG : Fld := ⟨0x40160058, 0, 16, .rc, .none, 0, 1⟩
/-- CIPH_CNT1.KEY_MISMATCH RC, reset 0x0000 (R329). -/
def CIPH_CNT1.KEY_MISMATCH : Fld := ⟨0x40160058, 16, 16, .rc, .none, 0, 1⟩
/-- CIPH_CNT2.CTR_RESYNC RC, reset 0x0000 (R329). -/
def CIPH_CNT2.CTR_RESYNC : Fld := ⟨0x4016005C, 0, 16, .rc, .none, 0, 1⟩
/-- CIPH_CNT2.ANCHOR_BAD RC, reset 0x0000 (R329). -/
def CIPH_CNT2.ANCHOR_BAD : Fld := ⟨0x4016005C, 16, 16, .rc, .none, 0, 1⟩
/-- CIPH_CNT3.SEG_OTHER RC, reset 0x0000 (R329). -/
def CIPH_CNT3.SEG_OTHER : Fld := ⟨0x40160060, 0, 16, .rc, .none, 0, 1⟩
/-- CIPH_CNT3.ANCHOR_BACK RC, reset 0x0000 (R329). -/
def CIPH_CNT3.ANCHOR_BACK : Fld := ⟨0x40160060, 16, 16, .rc, .none, 0, 1⟩
/-- CIPH_LATENCY.TX_NS RO, reset 0x0000 (R329). -/
def CIPH_LATENCY.TX_NS : Fld := ⟨0x40160064, 0, 16, .ro, .none, 0, 1⟩
/-- CIPH_LATENCY.RX_NS RO, reset 0x0000 (R329). -/
def CIPH_LATENCY.RX_NS : Fld := ⟨0x40160064, 16, 16, .ro, .none, 0, 1⟩

/-- Fields of CIPHER, part 0. -/
def rowsCIPHER0 : List Fld :=
[CIPH_STAT.KEYX_RX, CIPH_STAT.IN_SYNC, CIPH_STAT.TX_ACT_SLOT, CIPH_STAT.SWITCHING, CIPH_STAT.CTR_WARN,
   CIPH_STAT.TX_KEYX, CIPH_STAT.BYPASS, CIPH_STAT.KEK_VALID, CIPH_STAT.RNG_FAULT, CIPH_STAT.CFG_ERR,
   CIPH_STAT.CFG_CODE, CIPH_CFG.SEG_KIB, CIPH_CFG.RELEASE, CIPH_CFG.ACCEPT_CLEAR, CIPH_CFG.TX_CLEAR,
   CIPH_TX_KEY.TX_SLOT, CIPH_LOAD.TARGET, CIPH_LOAD.KEY_LOAD, CIPH_LOAD.KEK_CLEAR, CIPH_LOAD.KEK_BLOB,
   CIPH_LOAD.KEK_EXPORT, CIPH_LOAD.REJ_CODE, CIPH_LOAD.BUSY, CIPH_SLOT.KEY_ID, CIPH_SLOT.STATE, CIPH_CTR0.CTR,
   CIPH_CTR1.CTR, CIPH_CTR_START_LO.START, CIPH_CTR_START_HI.START, CIPH_RX_STAT.RX_SLOT, CIPH_RX_STAT.PEND_RX,
   CIPH_RX_STAT.RX_SEG_UNITS, CIPH_RX_STAT.RX_KEY_ID, CIPH_RXCTR.RXCTR, CIPH_CNT0.TAG_FAIL, CIPH_CNT1.UNCORR_SEG,
   CIPH_CNT1.KEY_MISMATCH, CIPH_CNT2.CTR_RESYNC, CIPH_CNT2.ANCHOR_BAD, CIPH_CNT3.SEG_OTHER]
/-- Fields of CIPHER, part 1. -/
def rowsCIPHER1 : List Fld :=
[CIPH_CNT3.ANCHOR_BACK, CIPH_LATENCY.TX_NS, CIPH_LATENCY.RX_NS]

/-- Fields of CIPHER. -/
def rowsCIPHER : List Fld := rowsCIPHER0 ++ rowsCIPHER1

end Sys2Proof.Machine.R
end

