-- ==== Sys2Proof/Machine/RegsClient.lean ====
section
/-! DEFINITION. The register fields of CLIENT, FLOW, STORE, LANES, POD, row by row from the register tables of the spec: address of
instance 0 (Carrier A), lowest bit, width, access code, update class, stride and count of an array. -/

namespace Sys2Proof.Machine.R

/-! Block CLIENT. -/

/-- CLIENT_STAT.MAP_ACTIVE RO, reset 0 (R347). -/
def CLIENT_STAT.MAP_ACTIVE : Fld := ⟨0x40300008, 8, 1, .ro, .none, 0, 1⟩
/-- CL_ZR.ZR_PORT_A RW HALTED, reset 0x00 (R348). -/
def CL_ZR.ZR_PORT_A : Fld := ⟨0x40300010, 0, 5, .rw, .halted, 0, 1⟩
/-- CL_ZR.ZR_PORT_B RW HALTED, reset 0x00 (R348). -/
def CL_ZR.ZR_PORT_B : Fld := ⟨0x40300010, 8, 5, .rw, .halted, 0, 1⟩
/-- CL_MAP_STAT.SLOTS_TOTAL RO, reset 0x000 (R348). -/
def CL_MAP_STAT.SLOTS_TOTAL : Fld := ⟨0x40300014, 0, 10, .ro, .none, 0, 1⟩
/-- CL_MAP_STAT.REJ_CODE RO, reset 0x0 (R348). -/
def CL_MAP_STAT.REJ_CODE : Fld := ⟨0x40300014, 28, 4, .ro, .none, 0, 1⟩
/-- CL_DUAL.HOLD_NS RO, reset 0x0000 (R348). -/
def CL_DUAL.HOLD_NS : Fld := ⟨0x40300018, 0, 16, .ro, .none, 0, 1⟩
/-- CL_DUAL.CLAMPED RO, reset 0 (R348). -/
def CL_DUAL.CLAMPED : Fld := ⟨0x40300018, 31, 1, .ro, .none, 0, 1⟩
/-- CL_TS_INFO.SEQ_ID RO, reset 0x0000 (R348). -/
def CL_TS_INFO.SEQ_ID : Fld := ⟨0x40300020, 0, 16, .ro, .none, 0, 1⟩
/-- CL_TS_INFO.DOMAIN RO, reset 0 (R348). -/
def CL_TS_INFO.DOMAIN : Fld := ⟨0x40300020, 16, 1, .ro, .none, 0, 1⟩
/-- CL_TS_INFO.PORT RO, reset 0x00 (R348). -/
def CL_TS_INFO.PORT : Fld := ⟨0x40300020, 24, 5, .ro, .none, 0, 1⟩
/-- CL_TS_INFO.TS_LOST W1C, reset 0 (R348). -/
def CL_TS_INFO.TS_LOST : Fld := ⟨0x40300020, 30, 1, .w1c, .none, 0, 1⟩
/-- CL_TS_INFO.VALID RO, reset 0 (R348). -/
def CL_TS_INFO.VALID : Fld := ⟨0x40300020, 31, 1, .ro, .none, 0, 1⟩
/-- CL_TS_NS.NS RC, reset 0x0000_0000 (R348). -/
def CL_TS_NS.NS : Fld := ⟨0x40300024, 0, 32, .rc, .none, 0, 1⟩
/-- CL_PORT_CFG.MTU RW HALTED, reset 0x2580 (R349). -/
def CL_PORT_CFG.MTU : Fld := ⟨0x40301000, 0, 14, .rw, .halted, 0x100, 24⟩
/-- CL_PORT_CFG.PTP_EN RW LIVE, reset 0 (R349). -/
def CL_PORT_CFG.PTP_EN : Fld := ⟨0x40301000, 21, 1, .rw, .live, 0x100, 24⟩
/-- CL_PORT_CFG.PTP_1STEP RW LIVE, reset 0 (R349). -/
def CL_PORT_CFG.PTP_1STEP : Fld := ⟨0x40301000, 22, 1, .rw, .live, 0x100, 24⟩
/-- CL_PORT_CFG.PTP_DOM RW LIVE, reset 0 (R349). -/
def CL_PORT_CFG.PTP_DOM : Fld := ⟨0x40301000, 23, 1, .rw, .live, 0x100, 24⟩
/-- CL_PORT_CFG.REPL RW LIVE, reset 0b00 (R349). -/
def CL_PORT_CFG.REPL : Fld := ⟨0x40301000, 24, 2, .rw, .live, 0x100, 24⟩
/-- CL_PORT_CFG.LANE_RATE RW HALTED, reset 0b00 (R349). -/
def CL_PORT_CFG.LANE_RATE : Fld := ⟨0x40301000, 26, 2, .rw, .halted, 0x100, 24⟩
/-- CL_PORT_CFG.RATE RW HALTED, reset 0b000 (R349). -/
def CL_PORT_CFG.RATE : Fld := ⟨0x40301000, 28, 3, .rw, .halted, 0x100, 24⟩
/-- CL_PORT_CFG.EN RW LIVE, reset 0 (R349). -/
def CL_PORT_CFG.EN : Fld := ⟨0x40301000, 31, 1, .rw, .live, 0x100, 24⟩
/-- CL_PORT_STAT.CFG_CODE RO, reset 0x0 (R349). -/
def CL_PORT_STAT.CFG_CODE : Fld := ⟨0x40301004, 20, 4, .ro, .none, 0x100, 24⟩
/-- CL_PORT_STAT.CFG_ERR RO, reset 0 (R349). -/
def CL_PORT_STAT.CFG_ERR : Fld := ⟨0x40301004, 24, 1, .ro, .none, 0x100, 24⟩
/-- CL_PORT_STAT.REPL_ACT RO, reset 0 (R349). -/
def CL_PORT_STAT.REPL_ACT : Fld := ⟨0x40301004, 25, 1, .ro, .none, 0x100, 24⟩
/-- CL_PORT_STAT.CSF_IN RO, reset 0 (R349). -/
def CL_PORT_STAT.CSF_IN : Fld := ⟨0x40301004, 26, 1, .ro, .none, 0x100, 24⟩
/-- CL_PORT_STAT.RF_RX RO, reset 0 (R349). -/
def CL_PORT_STAT.RF_RX : Fld := ⟨0x40301004, 27, 1, .ro, .none, 0x100, 24⟩
/-- CL_PORT_STAT.LF_RX RO, reset 0 (R349). -/
def CL_PORT_STAT.LF_RX : Fld := ⟨0x40301004, 28, 1, .ro, .none, 0x100, 24⟩
/-- CL_PORT_STAT.LINK_UP RO, reset 0 (R349). -/
def CL_PORT_STAT.LINK_UP : Fld := ⟨0x40301004, 29, 1, .ro, .none, 0x100, 24⟩
/-- CL_PORT_STAT.PCS_ALIGNED RO, reset 0 (R349). -/
def CL_PORT_STAT.PCS_ALIGNED : Fld := ⟨0x40301004, 30, 1, .ro, .none, 0x100, 24⟩
/-- CL_PORT_STAT.RUNNING RO, reset 0 (R349). -/
def CL_PORT_STAT.RUNNING : Fld := ⟨0x40301004, 31, 1, .ro, .none, 0x100, 24⟩
/-- RX_FRAMES.RX_FRAMES RO, reset 0x0000_0000 (R350). -/
def RX_FRAMES.RX_FRAMES : Fld := ⟨0x40301010, 0, 48, .ro, .none, 0x100, 24⟩
/-- RX_BYTES.RX_BYTES RO, reset 0x0000_0000 (R350). -/
def RX_BYTES.RX_BYTES : Fld := ⟨0x40301018, 0, 48, .ro, .none, 0x100, 24⟩
/-- TX_FRAMES.TX_FRAMES RO, reset 0x0000_0000 (R350). -/
def TX_FRAMES.TX_FRAMES : Fld := ⟨0x40301020, 0, 48, .ro, .none, 0x100, 24⟩
/-- TX_BYTES.TX_BYTES RO, reset 0x0000_0000 (R350). -/
def TX_BYTES.TX_BYTES : Fld := ⟨0x40301028, 0, 48, .ro, .none, 0x100, 24⟩
/-- CL_RX_ERR.LEN_ERR RC, reset 0x0000 (R350). -/
def CL_RX_ERR.LEN_ERR : Fld := ⟨0x40301030, 0, 16, .rc, .none, 0x100, 24⟩
/-- CL_RX_ERR.FCS_ERR RC, reset 0x0000 (R350). -/
def CL_RX_ERR.FCS_ERR : Fld := ⟨0x40301030, 16, 16, .rc, .none, 0x100, 24⟩
/-- CL_ING_DROP.ING_DROP RC, reset 0x0000_0000 (R350). -/
def CL_ING_DROP.ING_DROP : Fld := ⟨0x40301034, 0, 32, .rc, .none, 0x100, 24⟩
/-- CL_MISC.IMP_HEC RC, reset 0x0000 (R350). -/
def CL_MISC.IMP_HEC : Fld := ⟨0x40301038, 0, 16, .rc, .none, 0x100, 24⟩
/-- CL_MISC.CTRL_RX RC, reset 0x0000 (R350). -/
def CL_MISC.CTRL_RX : Fld := ⟨0x40301038, 16, 16, .rc, .none, 0x100, 24⟩
/-- CL_EG_LOSS.BURST_LOSS RC, reset 0x0000 (R350). -/
def CL_EG_LOSS.BURST_LOSS : Fld := ⟨0x4030103C, 0, 16, .rc, .none, 0x100, 24⟩
/-- CL_EG_LOSS.SEG_DROP RC, reset 0x0000 (R350). -/
def CL_EG_LOSS.SEG_DROP : Fld := ⟨0x4030103C, 16, 16, .rc, .none, 0x100, 24⟩
/-- CL_RSFEC.RS_CORR RC, reset 0x0000 (R350). -/
def CL_RSFEC.RS_CORR : Fld := ⟨0x40301040, 0, 16, .rc, .none, 0x100, 24⟩
/-- CL_RSFEC.RS_UNCORR RC, reset 0x0000 (R350). -/
def CL_RSFEC.RS_UNCORR : Fld := ⟨0x40301040, 16, 16, .rc, .none, 0x100, 24⟩

/-- Fields of CLIENT, part 0. -/
def rowsCLIENT0 : List Fld :=
[CLIENT_STAT.MAP_ACTIVE, CL_ZR.ZR_PORT_A, CL_ZR.ZR_PORT_B, CL_MAP_STAT.SLOTS_TOTAL, CL_MAP_STAT.REJ_CODE,
   CL_DUAL.HOLD_NS, CL_DUAL.CLAMPED, CL_TS_INFO.SEQ_ID, CL_TS_INFO.DOMAIN, CL_TS_INFO.PORT, CL_TS_INFO.TS_LOST,
   CL_TS_INFO.VALID, CL_TS_NS.NS, CL_PORT_CFG.MTU, CL_PORT_CFG.PTP_EN, CL_PORT_CFG.PTP_1STEP, CL_PORT_CFG.PTP_DOM,
   CL_PORT_CFG.REPL, CL_PORT_CFG.LANE_RATE, CL_PORT_CFG.RATE, CL_PORT_CFG.EN, CL_PORT_STAT.CFG_CODE,
   CL_PORT_STAT.CFG_ERR, CL_PORT_STAT.REPL_ACT, CL_PORT_STAT.CSF_IN, CL_PORT_STAT.RF_RX, CL_PORT_STAT.LF_RX,
   CL_PORT_STAT.LINK_UP, CL_PORT_STAT.PCS_ALIGNED, CL_PORT_STAT.RUNNING, RX_FRAMES.RX_FRAMES, RX_BYTES.RX_BYTES,
   TX_FRAMES.TX_FRAMES, TX_BYTES.TX_BYTES, CL_RX_ERR.LEN_ERR, CL_RX_ERR.FCS_ERR, CL_ING_DROP.ING_DROP,
   CL_MISC.IMP_HEC, CL_MISC.CTRL_RX, CL_EG_LOSS.BURST_LOSS]
/-- Fields of CLIENT, part 1. -/
def rowsCLIENT1 : List Fld :=
[CL_EG_LOSS.SEG_DROP, CL_RSFEC.RS_CORR, CL_RSFEC.RS_UNCORR]

/-- Fields of CLIENT. -/
def rowsCLIENT : List Fld := rowsCLIENT0 ++ rowsCLIENT1

/-! Block FLOW. -/

/-- TAP_MATCH.VLAN RW HALTED, reset 0x000 (R379). -/
def TAP_MATCH.VLAN : Fld := ⟨0x40311000, 0, 12, .rw, .halted, 0x20, 256⟩
/-- TAP_MATCH.PREFIX_LEN RW HALTED, reset 0x00 (R379). -/
def TAP_MATCH.PREFIX_LEN : Fld := ⟨0x40311000, 12, 8, .rw, .halted, 0x20, 256⟩
/-- TAP_MATCH.PORT RW HALTED, reset 0x00 (R379). -/
def TAP_MATCH.PORT : Fld := ⟨0x40311000, 20, 5, .rw, .halted, 0x20, 256⟩
/-- TAP_MATCH.RTP RW HALTED, reset 0 (R379). -/
def TAP_MATCH.RTP : Fld := ⟨0x40311000, 25, 1, .rw, .halted, 0x20, 256⟩
/-- TAP_MATCH.DIR RW HALTED, reset 0 (R379). -/
def TAP_MATCH.DIR : Fld := ⟨0x40311000, 26, 1, .rw, .halted, 0x20, 256⟩
/-- TAP_MATCH.IPV6 RW HALTED, reset 0 (R379). -/
def TAP_MATCH.IPV6 : Fld := ⟨0x40311000, 27, 1, .rw, .halted, 0x20, 256⟩
/-- TAP_MATCH.EN_UDP RW HALTED, reset 0 (R379). -/
def TAP_MATCH.EN_UDP : Fld := ⟨0x40311000, 28, 1, .rw, .halted, 0x20, 256⟩
/-- TAP_MATCH.EN_DST RW HALTED, reset 0 (R379). -/
def TAP_MATCH.EN_DST : Fld := ⟨0x40311000, 29, 1, .rw, .halted, 0x20, 256⟩
/-- TAP_MATCH.EN_VLAN RW HALTED, reset 0 (R379). -/
def TAP_MATCH.EN_VLAN : Fld := ⟨0x40311000, 30, 1, .rw, .halted, 0x20, 256⟩
/-- TAP_MATCH.EN_PORT RW HALTED, reset 0 (R379). -/
def TAP_MATCH.EN_PORT : Fld := ⟨0x40311000, 31, 1, .rw, .halted, 0x20, 256⟩
/-- TAP_UDP.UDP_DST RW HALTED, reset 0x0000 (R379). -/
def TAP_UDP.UDP_DST : Fld := ⟨0x40311004, 0, 16, .rw, .halted, 0x20, 256⟩
/-- TAP_DST.DST RW HALTED, reset 0x0000_0000 (R379). -/
def TAP_DST.DST : Fld := ⟨0x40311008, 0, 32, .rw, .halted, 0x20, 256⟩
/-- TAP_DST.DST1 RW HALTED, reset 0x0000_0000 (R379). -/
def TAP_DST.DST1 : Fld := ⟨0x4031100C, 0, 32, .rw, .halted, 0x20, 256⟩
/-- TAP_DST.DST2 RW HALTED, reset 0x0000_0000 (R379). -/
def TAP_DST.DST2 : Fld := ⟨0x40311010, 0, 32, .rw, .halted, 0x20, 256⟩
/-- TAP_DST.DST3 RW HALTED, reset 0x0000_0000 (R379). -/
def TAP_DST.DST3 : Fld := ⟨0x40311014, 0, 32, .rw, .halted, 0x20, 256⟩
/-- TAP_HITS.HITS RC, reset 0x0000_0000 (R379). -/
def TAP_HITS.HITS : Fld := ⟨0x40311018, 0, 32, .rc, .none, 0x20, 256⟩

/-- Fields of FLOW, part 0. -/
def rowsFLOW0 : List Fld :=
[TAP_MATCH.VLAN, TAP_MATCH.PREFIX_LEN, TAP_MATCH.PORT, TAP_MATCH.RTP, TAP_MATCH.DIR, TAP_MATCH.IPV6,
   TAP_MATCH.EN_UDP, TAP_MATCH.EN_DST, TAP_MATCH.EN_VLAN, TAP_MATCH.EN_PORT, TAP_UDP.UDP_DST, TAP_DST.DST,
   TAP_DST.DST1, TAP_DST.DST2, TAP_DST.DST3, TAP_HITS.HITS]

/-- Fields of FLOW. -/
def rowsFLOW : List Fld := rowsFLOW0

/-! Block STORE. -/

/-- STORE_STAT.MOD_READY RO, reset 0x0 (R378). -/
def STORE_STAT.MOD_READY : Fld := ⟨0x40320008, 8, 4, .ro, .none, 0, 1⟩
/-- STORE_STAT.ASSIST_ACT RO, reset 0 (R378). -/
def STORE_STAT.ASSIST_ACT : Fld := ⟨0x40320008, 12, 1, .ro, .none, 0, 1⟩
/-- STORE_MOD_CTRL.ID_OVERRIDE RW LIVE, reset 0x0 (R380). -/
def STORE_MOD_CTRL.ID_OVERRIDE : Fld := ⟨0x40320010, 0, 4, .rw, .live, 0, 1⟩
/-- STORE_MOD_CTRL.REREAD WS LIVE, reset 0x0 (R380). -/
def STORE_MOD_CTRL.REREAD : Fld := ⟨0x40320010, 8, 4, .ws, .live, 0, 1⟩
/-- STORE_MOD_STAT.EXTENTS RO, reset 0x000 (R380). -/
def STORE_MOD_STAT.EXTENTS : Fld := ⟨0x40320014, 0, 12, .ro, .none, 0x4, 4⟩
/-- STORE_MOD_STAT.FREE_EXT RO, reset 0x000 (R380). -/
def STORE_MOD_STAT.FREE_EXT : Fld := ⟨0x40320014, 16, 12, .ro, .none, 0x4, 4⟩
/-- STORE_MOD_STAT.OVERRIDDEN RO, reset 0 (R380). -/
def STORE_MOD_STAT.OVERRIDDEN : Fld := ⟨0x40320014, 29, 1, .ro, .none, 0x4, 4⟩
/-- STORE_MOD_STAT.STATE RO, reset 0b00 (R380). -/
def STORE_MOD_STAT.STATE : Fld := ⟨0x40320014, 30, 2, .ro, .none, 0x4, 4⟩
/-- STORE_MOD_BUDGET.ADMITTED RO, reset 0x0_0000 (R380). -/
def STORE_MOD_BUDGET.ADMITTED : Fld := ⟨0x40320024, 0, 20, .ro, .none, 0x4, 4⟩
/-- STORE_MOD_BUDGET.DROP_LEVEL RO, reset 0x0 (R380). -/
def STORE_MOD_BUDGET.DROP_LEVEL : Fld := ⟨0x40320024, 24, 4, .ro, .none, 0x4, 4⟩
/-- STORE_MOD_BUDGET.OVERLOAD RO, reset 0 (R380). -/
def STORE_MOD_BUDGET.OVERLOAD : Fld := ⟨0x40320024, 31, 1, .ro, .none, 0x4, 4⟩
/-- STORE_ECC_CTRL.THRESH RW LIVE, reset 0x0040 (R380). -/
def STORE_ECC_CTRL.THRESH : Fld := ⟨0x40320034, 0, 16, .rw, .live, 0, 1⟩
/-- STORE_ECC_CTRL.LEAK_PERIOD RW LIVE, reset 0x03E8 (R380). -/
def STORE_ECC_CTRL.LEAK_PERIOD : Fld := ⟨0x40320034, 16, 16, .rw, .live, 0, 1⟩
/-- STORE_MOD_ECC.BUCKET RO, reset 0x0000 (R380). -/
def STORE_MOD_ECC.BUCKET : Fld := ⟨0x40320038, 0, 16, .ro, .none, 0x4, 4⟩
/-- STORE_MOD_ECC.UE RC, reset 0x0000 (R380). -/
def STORE_MOD_ECC.UE : Fld := ⟨0x40320038, 16, 16, .rc, .none, 0x4, 4⟩
/-- STORE_MOD_CE.CE RC, reset 0x0000_0000 (R380). -/
def STORE_MOD_CE.CE : Fld := ⟨0x40320048, 0, 32, .rc, .none, 0x4, 4⟩
/-- STORE_MOD_WEAR.MAX_FILLS RO, reset 0x000_0000 (R380). -/
def STORE_MOD_WEAR.MAX_FILLS : Fld := ⟨0x40320058, 0, 27, .ro, .none, 0x4, 4⟩
/-- STORE_MOD_WEAR.WEAR_STUCK W1C, reset 0 (R380). -/
def STORE_MOD_WEAR.WEAR_STUCK : Fld := ⟨0x40320058, 30, 1, .w1c, .none, 0x4, 4⟩
/-- STORE_MOD_WEAR.WEAR_WARN RO, reset 0 (R380). -/
def STORE_MOD_WEAR.WEAR_WARN : Fld := ⟨0x40320058, 31, 1, .ro, .none, 0x4, 4⟩
/-- STORE_WEAR_CTRL.WEAR_SWAP RW LIVE, reset 0x1000 (R380). -/
def STORE_WEAR_CTRL.WEAR_SWAP : Fld := ⟨0x40320068, 0, 16, .rw, .live, 0, 1⟩
/-- STORE_ASSIST.MODS RW LIVE, reset 0x0 (R380). -/
def STORE_ASSIST.MODS : Fld := ⟨0x4032006C, 0, 4, .rw, .live, 0, 1⟩
/-- STORE_ASSIST.RSV_EXT RO, reset 0x000 (R380). -/
def STORE_ASSIST.RSV_EXT : Fld := ⟨0x4032006C, 16, 12, .ro, .none, 0, 1⟩
/-- STORE_PTR_CTRL.PTR_PERIOD RW LIVE, reset 0x40 (R380). -/
def STORE_PTR_CTRL.PTR_PERIOD : Fld := ⟨0x40320070, 0, 8, .rw, .live, 0, 1⟩
/-- RING_CFG.EXTENTS RW HALTED, reset 0x000 (R381). -/
def RING_CFG.EXTENTS : Fld := ⟨0x40321000, 0, 12, .rw, .halted, 0x20, 256⟩
/-- RING_CFG.MODULE RW HALTED, reset 0b00 (R381). -/
def RING_CFG.MODULE : Fld := ⟨0x40321000, 24, 2, .rw, .halted, 0x20, 256⟩
/-- RING_CFG.PRIO RW HALTED, reset 0x0 (R381). -/
def RING_CFG.PRIO : Fld := ⟨0x40321000, 28, 4, .rw, .halted, 0x20, 256⟩
/-- RING_RATE.DECL_RATE RW HALTED, reset 0x0_0000 (R381). -/
def RING_RATE.DECL_RATE : Fld := ⟨0x40321004, 0, 20, .rw, .halted, 0x20, 256⟩
/-- RING_CMD.ARM WS LIVE, reset 0 (R381). -/
def RING_CMD.ARM : Fld := ⟨0x40321008, 0, 1, .ws, .live, 0x20, 256⟩
/-- RING_CMD.DISARM WS LIVE, reset 0 (R381). -/
def RING_CMD.DISARM : Fld := ⟨0x40321008, 1, 1, .ws, .live, 0x20, 256⟩
/-- RING_CMD.CLEAR WS LIVE, reset 0 (R381). -/
def RING_CMD.CLEAR : Fld := ⟨0x40321008, 2, 1, .ws, .live, 0x20, 256⟩
/-- RING_STAT.WAIT_MARK RO, reset 0 (R381). -/
def RING_STAT.WAIT_MARK : Fld := ⟨0x4032100C, 23, 1, .ro, .none, 0x20, 256⟩
/-- RING_STAT.REJ_CODE RO, reset 0x0 (R381). -/
def RING_STAT.REJ_CODE : Fld := ⟨0x4032100C, 24, 4, .ro, .none, 0x20, 256⟩
/-- RING_STAT.STATE RO, reset 0b000 (R381). -/
def RING_STAT.STATE : Fld := ⟨0x4032100C, 29, 3, .ro, .none, 0x20, 256⟩
/-- RING_HEAD.HEAD RO, reset 0x0000_0000 (R381). -/
def RING_HEAD.HEAD : Fld := ⟨0x40321010, 0, 32, .ro, .none, 0x20, 256⟩
/-- RING_TAIL.TAIL RO, reset 0x0000_0000 (R381). -/
def RING_TAIL.TAIL : Fld := ⟨0x40321014, 0, 32, .ro, .none, 0x20, 256⟩
/-- RING_DROP.DROPPED RC, reset 0x0000 (R381). -/
def RING_DROP.DROPPED : Fld := ⟨0x40321018, 0, 16, .rc, .none, 0x20, 256⟩
/-- RING_DROP.TRUNC RC, reset 0x0000 (R381). -/
def RING_DROP.TRUNC : Fld := ⟨0x40321018, 16, 16, .rc, .none, 0x20, 256⟩
/-- RING_MISC.NO_MARKER RC, reset 0x0000 (R381). -/
def RING_MISC.NO_MARKER : Fld := ⟨0x4032101C, 0, 16, .rc, .none, 0x20, 256⟩
/-- RING_MISC.OVERRATE RC, reset 0x0000 (R381). -/
def RING_MISC.OVERRATE : Fld := ⟨0x4032101C, 16, 16, .rc, .none, 0x20, 256⟩
/-- RPL_SRC.RING RW HALTED, reset 0x00 (R382). -/
def RPL_SRC.RING : Fld := ⟨0x40323000, 0, 8, .rw, .halted, 0x40, 16⟩
/-- RPL_START.START RW HALTED, reset 0x0000_0000 (R382). -/
def RPL_START.START : Fld := ⟨0x40323004, 0, 32, .rw, .halted, 0x40, 16⟩
/-- RPL_COUNT.COUNT RW HALTED, reset 0x0000_0000 (R382). -/
def RPL_COUNT.COUNT : Fld := ⟨0x40323008, 0, 32, .rw, .halted, 0x40, 16⟩
/-- RPL_DEST.RW_DST RW HALTED, reset 0 (R382). -/
def RPL_DEST.RW_DST : Fld := ⟨0x4032300C, 11, 1, .rw, .halted, 0x40, 16⟩
/-- RPL_DEST.RW_UDP RW HALTED, reset 0 (R382). -/
def RPL_DEST.RW_UDP : Fld := ⟨0x4032300C, 12, 1, .rw, .halted, 0x40, 16⟩
/-- RPL_DEST.RW_SSRC RW HALTED, reset 0 (R382). -/
def RPL_DEST.RW_SSRC : Fld := ⟨0x4032300C, 13, 1, .rw, .halted, 0x40, 16⟩
/-- RPL_DEST.RW_SEQ RW HALTED, reset 1 (R382). -/
def RPL_DEST.RW_SEQ : Fld := ⟨0x4032300C, 14, 1, .rw, .halted, 0x40, 16⟩
/-- RPL_DEST.RW_TS RW HALTED, reset 1 (R382). -/
def RPL_DEST.RW_TS : Fld := ⟨0x4032300C, 15, 1, .rw, .halted, 0x40, 16⟩
/-- RPL_DEST.CLOCK RW HALTED, reset 0b00 (R382). -/
def RPL_DEST.CLOCK : Fld := ⟨0x4032300C, 16, 2, .rw, .halted, 0x40, 16⟩
/-- RPL_DEST.VTB RW HALTED, reset 0b00 (R382). -/
def RPL_DEST.VTB : Fld := ⟨0x4032300C, 20, 2, .rw, .halted, 0x40, 16⟩
/-- RPL_DEST.PORT RW HALTED, reset 0x00 (R382). -/
def RPL_DEST.PORT : Fld := ⟨0x4032300C, 24, 5, .rw, .halted, 0x40, 16⟩
/-- RPL_DEST.DEST RW HALTED, reset 0 (R382). -/
def RPL_DEST.DEST : Fld := ⟨0x4032300C, 31, 1, .rw, .halted, 0x40, 16⟩
/-- RPL_RATE.RATE RW HALTED, reset 0x0_0000 (R382). -/
def RPL_RATE.RATE : Fld := ⟨0x40323010, 0, 20, .rw, .halted, 0x40, 16⟩
/-- RPL_SSRC.SSRC RW HALTED, reset 0x0000_0000 (R382). -/
def RPL_SSRC.SSRC : Fld := ⟨0x40323014, 0, 32, .rw, .halted, 0x40, 16⟩
/-- RPL_SEQ0.SEQ0 RW HALTED, reset 0x0000_0000 (R382). -/
def RPL_SEQ0.SEQ0 : Fld := ⟨0x40323018, 0, 32, .rw, .halted, 0x40, 16⟩
/-- RPL_UDP.UDP RW HALTED, reset 0x0000 (R382). -/
def RPL_UDP.UDP : Fld := ⟨0x4032301C, 0, 16, .rw, .halted, 0x40, 16⟩
/-- RPL_DST.DST RW HALTED, reset 0x0000_0000 (R382). -/
def RPL_DST.DST : Fld := ⟨0x40323020, 0, 32, .rw, .halted, 0x40, 16⟩
/-- RPL_DST.DST1 RW HALTED, reset 0x0000_0000 (R382). -/
def RPL_DST.DST1 : Fld := ⟨0x40323024, 0, 32, .rw, .halted, 0x40, 16⟩
/-- RPL_DST.DST2 RW HALTED, reset 0x0000_0000 (R382). -/
def RPL_DST.DST2 : Fld := ⟨0x40323028, 0, 32, .rw, .halted, 0x40, 16⟩
/-- RPL_DST.DST3 RW HALTED, reset 0x0000_0000 (R382). -/
def RPL_DST.DST3 : Fld := ⟨0x4032302C, 0, 32, .rw, .halted, 0x40, 16⟩
/-- RPL_CMD.PREPARE WS LIVE, reset 0 (R382). -/
def RPL_CMD.PREPARE : Fld := ⟨0x40323030, 0, 1, .ws, .live, 0x40, 16⟩
/-- RPL_CMD.LAUNCH_NOW WS LIVE, reset 0 (R382). -/
def RPL_CMD.LAUNCH_NOW : Fld := ⟨0x40323030, 1, 1, .ws, .live, 0x40, 16⟩
/-- RPL_CMD.STOP WS LIVE, reset 0 (R382). -/
def RPL_CMD.STOP : Fld := ⟨0x40323030, 2, 1, .ws, .live, 0x40, 16⟩
/-- RPL_STAT.REASON RO, reset 0x0 (R382). -/
def RPL_STAT.REASON : Fld := ⟨0x40323034, 24, 4, .ro, .none, 0x40, 16⟩
/-- RPL_STAT.STATE RO, reset 0b000 (R382). -/
def RPL_STAT.STATE : Fld := ⟨0x40323034, 29, 3, .ro, .none, 0x40, 16⟩
/-- RPL_SENT.SENT RO, reset 0x0000_0000 (R382). -/
def RPL_SENT.SENT : Fld := ⟨0x40323038, 0, 32, .ro, .none, 0x40, 16⟩
/-- RPL_LOSS.SKIPPED RC, reset 0x0000 (R382). -/
def RPL_LOSS.SKIPPED : Fld := ⟨0x4032303C, 0, 16, .rc, .none, 0x40, 16⟩
/-- RPL_LOSS.LOST_PKTS RC, reset 0x0000 (R382). -/
def RPL_LOSS.LOST_PKTS : Fld := ⟨0x4032303C, 16, 16, .rc, .none, 0x40, 16⟩

/-- Fields of STORE, part 0. -/
def rowsSTORE0 : List Fld :=
[STORE_STAT.MOD_READY, STORE_STAT.ASSIST_ACT, STORE_MOD_CTRL.ID_OVERRIDE, STORE_MOD_CTRL.REREAD,
   STORE_MOD_STAT.EXTENTS, STORE_MOD_STAT.FREE_EXT, STORE_MOD_STAT.OVERRIDDEN, STORE_MOD_STAT.STATE,
   STORE_MOD_BUDGET.ADMITTED, STORE_MOD_BUDGET.DROP_LEVEL, STORE_MOD_BUDGET.OVERLOAD, STORE_ECC_CTRL.THRESH,
   STORE_ECC_CTRL.LEAK_PERIOD, STORE_MOD_ECC.BUCKET, STORE_MOD_ECC.UE, STORE_MOD_CE.CE, STORE_MOD_WEAR.MAX_FILLS,
   STORE_MOD_WEAR.WEAR_STUCK, STORE_MOD_WEAR.WEAR_WARN, STORE_WEAR_CTRL.WEAR_SWAP, STORE_ASSIST.MODS,
   STORE_ASSIST.RSV_EXT, STORE_PTR_CTRL.PTR_PERIOD, RING_CFG.EXTENTS, RING_CFG.MODULE, RING_CFG.PRIO,
   RING_RATE.DECL_RATE, RING_CMD.ARM, RING_CMD.DISARM, RING_CMD.CLEAR, RING_STAT.WAIT_MARK, RING_STAT.REJ_CODE,
   RING_STAT.STATE, RING_HEAD.HEAD, RING_TAIL.TAIL, RING_DROP.DROPPED, RING_DROP.TRUNC, RING_MISC.NO_MARKER,
   RING_MISC.OVERRATE, RPL_SRC.RING]
/-- Fields of STORE, part 1. -/
def rowsSTORE1 : List Fld :=
[RPL_START.START, RPL_COUNT.COUNT, RPL_DEST.RW_DST, RPL_DEST.RW_UDP, RPL_DEST.RW_SSRC, RPL_DEST.RW_SEQ,
   RPL_DEST.RW_TS, RPL_DEST.CLOCK, RPL_DEST.VTB, RPL_DEST.PORT, RPL_DEST.DEST, RPL_RATE.RATE, RPL_SSRC.SSRC,
   RPL_SEQ0.SEQ0, RPL_UDP.UDP, RPL_DST.DST, RPL_DST.DST1, RPL_DST.DST2, RPL_DST.DST3, RPL_CMD.PREPARE,
   RPL_CMD.LAUNCH_NOW, RPL_CMD.STOP, RPL_STAT.REASON, RPL_STAT.STATE, RPL_SENT.SENT, RPL_LOSS.SKIPPED,
   RPL_LOSS.LOST_PKTS]

/-- Fields of STORE. -/
def rowsSTORE : List Fld := rowsSTORE0 ++ rowsSTORE1

/-! Block LANES. -/

/-- LANES_EN.EN RW LIVE, reset 0x00_0000 (R409). -/
def LANES_EN.EN : Fld := ⟨0x40330010, 0, 24, .rw, .live, 0, 1⟩
/-- LN_CTRL.PAT_RATE RW HALTED, reset 0b11 (R410). -/
def LN_CTRL.PAT_RATE : Fld := ⟨0x40331000, 20, 2, .rw, .halted, 0x40, 24⟩
/-- LN_CTRL.LPBK RW HALTED, reset 0b00 (R410). -/
def LN_CTRL.LPBK : Fld := ⟨0x40331000, 24, 2, .rw, .halted, 0x40, 24⟩
/-- LN_CTRL.TX_INV RW LIVE, reset 0 (R410). -/
def LN_CTRL.TX_INV : Fld := ⟨0x40331000, 29, 1, .rw, .live, 0x40, 24⟩
/-- LN_CTRL.RX_INV RW LIVE, reset 0 (R410). -/
def LN_CTRL.RX_INV : Fld := ⟨0x40331000, 30, 1, .rw, .live, 0x40, 24⟩
/-- LN_CTRL.AUTO_POL RW LIVE, reset 1 (R410). -/
def LN_CTRL.AUTO_POL : Fld := ⟨0x40331000, 31, 1, .rw, .live, 0x40, 24⟩
/-- LN_FIR.POST1 RW LIVE, reset 0x00 (R410). -/
def LN_FIR.POST1 : Fld := ⟨0x40331004, 0, 6, .rw, .live, 0x40, 24⟩
/-- LN_FIR.MAIN RW LIVE, reset 0x3F (R410). -/
def LN_FIR.MAIN : Fld := ⟨0x40331004, 8, 6, .rw, .live, 0x40, 24⟩
/-- LN_FIR.PRE1 RW LIVE, reset 0x00 (R410). -/
def LN_FIR.PRE1 : Fld := ⟨0x40331004, 16, 6, .rw, .live, 0x40, 24⟩
/-- LN_FIR.PRE2 RW LIVE, reset 0x00 (R410). -/
def LN_FIR.PRE2 : Fld := ⟨0x40331004, 24, 6, .rw, .live, 0x40, 24⟩
/-- LN_STAT.ALIGN RO, reset 0b000 (R410). -/
def LN_STAT.ALIGN : Fld := ⟨0x40331008, 0, 3, .ro, .none, 0x40, 24⟩
/-- LN_STAT.EYE RO, reset 0x00 (R410). -/
def LN_STAT.EYE : Fld := ⟨0x40331008, 16, 8, .ro, .none, 0x40, 24⟩
/-- LN_STAT.FIR_CLIP RO, reset 0 (R410). -/
def LN_STAT.FIR_CLIP : Fld := ⟨0x40331008, 24, 1, .ro, .none, 0x40, 24⟩
/-- LN_STAT.ADAPT_DONE RO, reset 0 (R410). -/
def LN_STAT.ADAPT_DONE : Fld := ⟨0x40331008, 25, 1, .ro, .none, 0x40, 24⟩
/-- LN_STAT.CDR_LOCK RO, reset 0 (R410). -/
def LN_STAT.CDR_LOCK : Fld := ⟨0x40331008, 26, 1, .ro, .none, 0x40, 24⟩
/-- LN_STAT.POL_INV RO, reset 0 (R410). -/
def LN_STAT.POL_INV : Fld := ⟨0x40331008, 27, 1, .ro, .none, 0x40, 24⟩
/-- LN_STAT.STATE RO, reset 0x1 (R410). -/
def LN_STAT.STATE : Fld := ⟨0x40331008, 28, 4, .ro, .none, 0x40, 24⟩
/-- LN_PAT.CHK_INV RO, reset 0 (R410). -/
def LN_PAT.CHK_INV : Fld := ⟨0x4033100C, 16, 1, .ro, .none, 0x40, 24⟩
/-- LN_PAT.CHK_LOCK RO, reset 0 (R410). -/
def LN_PAT.CHK_LOCK : Fld := ⟨0x4033100C, 17, 1, .ro, .none, 0x40, 24⟩
/-- LN_PAT.INJ_RATE RW LIVE, reset 0x00 (R410). -/
def LN_PAT.INJ_RATE : Fld := ⟨0x4033100C, 18, 5, .rw, .live, 0x40, 24⟩
/-- LN_PAT.INJ_ONE WS LIVE, reset 0 (R410). -/
def LN_PAT.INJ_ONE : Fld := ⟨0x4033100C, 23, 1, .ws, .live, 0x40, 24⟩
/-- LN_PAT.CHK_SEL RW LIVE, reset 0b100 (R410). -/
def LN_PAT.CHK_SEL : Fld := ⟨0x4033100C, 24, 3, .rw, .live, 0x40, 24⟩
/-- LN_PAT.GEN_SEL RW LIVE, reset 0b100 (R410). -/
def LN_PAT.GEN_SEL : Fld := ⟨0x4033100C, 27, 3, .rw, .live, 0x40, 24⟩
/-- LN_PAT.CHK_EN RW LIVE, reset 0 (R410). -/
def LN_PAT.CHK_EN : Fld := ⟨0x4033100C, 30, 1, .rw, .live, 0x40, 24⟩
/-- LN_PAT.GEN_EN RW HALTED, reset 0 (R410). -/
def LN_PAT.GEN_EN : Fld := ⟨0x4033100C, 31, 1, .rw, .halted, 0x40, 24⟩
/-- LN_PERR.PERR RO, reset 0x0000_0000 (R410). -/
def LN_PERR.PERR : Fld := ⟨0x40331010, 0, 48, .ro, .none, 0x40, 24⟩
/-- LN_PBITS.PBITS RO, reset 0x0000_0000 (R410). -/
def LN_PBITS.PBITS : Fld := ⟨0x40331018, 0, 48, .ro, .none, 0x40, 24⟩

/-- Fields of LANES, part 0. -/
def rowsLANES0 : List Fld :=
[LANES_EN.EN, LN_CTRL.PAT_RATE, LN_CTRL.LPBK, LN_CTRL.TX_INV, LN_CTRL.RX_INV, LN_CTRL.AUTO_POL, LN_FIR.POST1,
   LN_FIR.MAIN, LN_FIR.PRE1, LN_FIR.PRE2, LN_STAT.ALIGN, LN_STAT.EYE, LN_STAT.FIR_CLIP, LN_STAT.ADAPT_DONE,
   LN_STAT.CDR_LOCK, LN_STAT.POL_INV, LN_STAT.STATE, LN_PAT.CHK_INV, LN_PAT.CHK_LOCK, LN_PAT.INJ_RATE,
   LN_PAT.INJ_ONE, LN_PAT.CHK_SEL, LN_PAT.GEN_SEL, LN_PAT.CHK_EN, LN_PAT.GEN_EN, LN_PERR.PERR, LN_PBITS.PBITS]

/-- Fields of LANES. -/
def rowsLANES : List Fld := rowsLANES0

/-! Block POD. -/

/-- POD_STAT.PORT_UP RO, reset 0x00 (R408). -/
def POD_STAT.PORT_UP : Fld := ⟨0x40340008, 8, 6, .ro, .none, 0, 1⟩
/-- POD_STAT.BONDED RO, reset 0 (R408). -/
def POD_STAT.BONDED : Fld := ⟨0x40340008, 15, 1, .ro, .none, 0, 1⟩
/-- POD_LANE_EN.EN RW LIVE, reset 0x00_0000 (R409). -/
def POD_LANE_EN.EN : Fld := ⟨0x40340010, 0, 24, .rw, .live, 0, 1⟩
/-- POD_CFG.TIME_PERIOD RW LIVE, reset 0x0064 (R411). -/
def POD_CFG.TIME_PERIOD : Fld := ⟨0x40340014, 0, 15, .rw, .live, 0, 1⟩
/-- POD_CFG.TIME_DOM RW LIVE, reset 0 (R411). -/
def POD_CFG.TIME_DOM : Fld := ⟨0x40340014, 15, 1, .rw, .live, 0, 1⟩
/-- POD_CFG.RETRY_MAX RW LIVE, reset 0x03 (R411). -/
def POD_CFG.RETRY_MAX : Fld := ⟨0x40340014, 16, 8, .rw, .live, 0, 1⟩
/-- POD_CFG.XDEV_PORT RW HALTED, reset 0 (R411). -/
def POD_CFG.XDEV_PORT : Fld := ⟨0x40340014, 28, 1, .rw, .halted, 0, 1⟩
/-- POD_CFG.BOND RW HALTED, reset 0 (R411). -/
def POD_CFG.BOND : Fld := ⟨0x40340014, 29, 1, .rw, .halted, 0, 1⟩
/-- POD_CFG.BOARD_POS RW LIVE, reset 0b00 (R411). -/
def POD_CFG.BOARD_POS : Fld := ⟨0x40340014, 30, 2, .rw, .live, 0, 1⟩
/-- POD_PORT.SKEW RO, reset 0x00 (R411). -/
def POD_PORT.SKEW : Fld := ⟨0x40340020, 8, 8, .ro, .none, 0x4, 6⟩
/-- POD_PORT.LANE_MAP RO, reset 0x00 (R411). -/
def POD_PORT.LANE_MAP : Fld := ⟨0x40340020, 16, 8, .ro, .none, 0x4, 6⟩
/-- POD_PORT.POL RO, reset 0x0 (R411). -/
def POD_PORT.POL : Fld := ⟨0x40340020, 24, 4, .ro, .none, 0x4, 6⟩
/-- POD_PORT.STATE RO, reset 0b000 (R411). -/
def POD_PORT.STATE : Fld := ⟨0x40340020, 28, 3, .ro, .none, 0x4, 6⟩
/-- POD_PORT.EN RW LIVE, reset 0 (R411). -/
def POD_PORT.EN : Fld := ⟨0x40340020, 31, 1, .rw, .live, 0x4, 6⟩
/-- POD_CNT0.RETRIES RC, reset 0x0000 (R411). -/
def POD_CNT0.RETRIES : Fld := ⟨0x40340040, 0, 16, .rc, .none, 0x8, 6⟩
/-- POD_CNT0.CRC_ERR RC, reset 0x0000 (R411). -/
def POD_CNT0.CRC_ERR : Fld := ⟨0x40340040, 16, 16, .rc, .none, 0x8, 6⟩
/-- POD_CNT1.MSG_BAD RC, reset 0x0000 (R411). -/
def POD_CNT1.MSG_BAD : Fld := ⟨0x40340044, 0, 16, .rc, .none, 0x8, 6⟩
/-- POD_CNT1.HDR_ERR RC, reset 0x0000 (R411). -/
def POD_CNT1.HDR_ERR : Fld := ⟨0x40340044, 16, 16, .rc, .none, 0x8, 6⟩
/-- POD_RTAG.RTAG RO, reset 0x0000_0000 (R411). -/
def POD_RTAG.RTAG : Fld := ⟨0x40340070, 0, 32, .ro, .none, 0x4, 2⟩
/-- POD_RINFO.RPORT4 RO, reset 0x0000 (R411). -/
def POD_RINFO.RPORT4 : Fld := ⟨0x40340078, 8, 1, .ro, .none, 0, 1⟩
/-- POD_RINFO.POS4 RO, reset 0x0000 (R411). -/
def POD_RINFO.POS4 : Fld := ⟨0x40340078, 12, 2, .ro, .none, 0, 1⟩
/-- POD_RINFO.VALID4 RO, reset 0x0000 (R411). -/
def POD_RINFO.VALID4 : Fld := ⟨0x40340078, 15, 1, .ro, .none, 0, 1⟩
/-- POD_RINFO.RPORT5 RO, reset 0 (R411). -/
def POD_RINFO.RPORT5 : Fld := ⟨0x40340078, 24, 1, .ro, .none, 0, 1⟩
/-- POD_RINFO.POS5 RO, reset 0b00 (R411). -/
def POD_RINFO.POS5 : Fld := ⟨0x40340078, 28, 2, .ro, .none, 0, 1⟩
/-- POD_RINFO.VALID5 RO, reset 0 (R411). -/
def POD_RINFO.VALID5 : Fld := ⟨0x40340078, 31, 1, .ro, .none, 0, 1⟩
/-- POD_LAT.TX_NS RO, reset 0x0000 (R411). -/
def POD_LAT.TX_NS : Fld := ⟨0x40340080, 0, 16, .ro, .none, 0x4, 2⟩
/-- POD_LAT.RX_NS RO, reset 0x0000 (R411). -/
def POD_LAT.RX_NS : Fld := ⟨0x40340080, 16, 16, .ro, .none, 0x4, 2⟩
/-- POD_DELAY.DELAY_PS RO, reset 0x0000_0000 (R411). -/
def POD_DELAY.DELAY_PS : Fld := ⟨0x40340088, 0, 31, .ro, .none, 0x4, 2⟩
/-- POD_DELAY.VALID RO, reset 0 (R411). -/
def POD_DELAY.VALID : Fld := ⟨0x40340088, 31, 1, .ro, .none, 0x4, 2⟩
/-- POD_OFF.OFF_NS RO, reset 0x0000_0000 (R411). -/
def POD_OFF.OFF_NS : Fld := ⟨0x40340090, 0, 32, .ro, .none, 0x4, 2⟩

/-- Fields of POD, part 0. -/
def rowsPOD0 : List Fld :=
[POD_STAT.PORT_UP, POD_STAT.BONDED, POD_LANE_EN.EN, POD_CFG.TIME_PERIOD, POD_CFG.TIME_DOM, POD_CFG.RETRY_MAX,
   POD_CFG.XDEV_PORT, POD_CFG.BOND, POD_CFG.BOARD_POS, POD_PORT.SKEW, POD_PORT.LANE_MAP, POD_PORT.POL,
   POD_PORT.STATE, POD_PORT.EN, POD_CNT0.RETRIES, POD_CNT0.CRC_ERR, POD_CNT1.MSG_BAD, POD_CNT1.HDR_ERR,
   POD_RTAG.RTAG, POD_RINFO.RPORT4, POD_RINFO.POS4, POD_RINFO.VALID4, POD_RINFO.RPORT5, POD_RINFO.POS5,
   POD_RINFO.VALID5, POD_LAT.TX_NS, POD_LAT.RX_NS, POD_DELAY.DELAY_PS, POD_DELAY.VALID, POD_OFF.OFF_NS]

/-- The lane registers of PD0 to PD23, whose windows lie in POD (R410). -/
def rowsPodLanes : List Fld :=
  (rowsLANES.filter (fun f => f.count == 24)).map (fun f => { f with addr := f.addr + 0x10000 })

/-- Fields of POD. -/
def rowsPOD : List Fld := rowsPOD0 ++ rowsPodLanes

end Sys2Proof.Machine.R
end

