-- ==== Sys2Proof/Machine/RegsSystem.lean ====
section
/-! DEFINITION. The register fields of SYS, CLK, TIME, SCHED, PWR, MADC, EVENT, PAIR, PERF, LEDGER, HOSTIF, row by row from the register tables of the spec: address of
instance 0 (Carrier A), lowest bit, width, access code, update class, stride and count of an array. -/

namespace Sys2Proof.Machine.R

/-! Block SYS. -/

/-- SYS_DEVID.DEVICE_ID RO, reset 0x5A17_40B0 (R28). -/
def SYS_DEVID.DEVICE_ID : Fld := ⟨0x40000010, 0, 32, .ro, .none, 0, 1⟩
/-- SYS_CTRL.HOST_LOCK RW LIVE, reset 0 (R29). -/
def SYS_CTRL.HOST_LOCK : Fld := ⟨0x40000014, 0, 1, .rw, .live, 0, 1⟩
/-- SYS_CTRL.NIGHT_WAKE_HB RW LIVE, reset 0 (R29). -/
def SYS_CTRL.NIGHT_WAKE_HB : Fld := ⟨0x40000014, 1, 1, .rw, .live, 0, 1⟩
/-- SYS_STATE.STATE RO, reset 0b001 (R30). -/
def SYS_STATE.STATE : Fld := ⟨0x40000018, 0, 3, .ro, .none, 0, 1⟩
/-- SYS_STATE.BOOT_FAIL RO, reset 0 (R30). -/
def SYS_STATE.BOOT_FAIL : Fld := ⟨0x40000018, 3, 1, .ro, .none, 0, 1⟩
/-- SYS_STATE.RESET_CAUSE RO, reset see text (R30). -/
def SYS_STATE.RESET_CAUSE : Fld := ⟨0x40000018, 8, 3, .ro, .none, 0, 1⟩
/-- SYS_STATE_REQ.NIGHT_REQ WS LIVE, reset 0 (R31). -/
def SYS_STATE_REQ.NIGHT_REQ : Fld := ⟨0x4000001C, 0, 1, .ws, .live, 0, 1⟩
/-- SYS_STATE_REQ.WAKE_REQ WS LIVE, reset 0 (R31). -/
def SYS_STATE_REQ.WAKE_REQ : Fld := ⟨0x4000001C, 1, 1, .ws, .live, 0, 1⟩
/-- SYS_STATE_REQ.SYS_RESET WS LIVE, reset 0 (R31). -/
def SYS_STATE_REQ.SYS_RESET : Fld := ⟨0x4000001C, 2, 1, .ws, .live, 0, 1⟩
/-- SYS_STATE_REQ.KEY WO LIVE, reset 0x0 (R31). -/
def SYS_STATE_REQ.KEY : Fld := ⟨0x4000001C, 16, 16, .wo, .live, 0, 1⟩
/-- SYS_CMODE.MODE RW HALTED, reset 0b000 (R32). -/
def SYS_CMODE.MODE : Fld := ⟨0x40000020, 0, 3, .rw, .halted, 0x4, 2⟩
/-- SYS_CMODE.BEXA_BURST RW HALTED, reset 0 (R32). -/
def SYS_CMODE.BEXA_BURST : Fld := ⟨0x40000020, 4, 1, .rw, .halted, 0x4, 2⟩
/-- SYS_CMODE.REGEN_XDEV RW HALTED, reset 0 (R32). -/
def SYS_CMODE.REGEN_XDEV : Fld := ⟨0x40000020, 5, 1, .rw, .halted, 0x4, 2⟩
/-- SYS_CMODE.MODE_ERR RO, reset 0 (R32). -/
def SYS_CMODE.MODE_ERR : Fld := ⟨0x40000020, 8, 1, .ro, .none, 0x4, 2⟩

/-- Fields of SYS, part 0. -/
def rowsSYS0 : List Fld :=
[SYS_DEVID.DEVICE_ID, SYS_CTRL.HOST_LOCK, SYS_CTRL.NIGHT_WAKE_HB, SYS_STATE.STATE, SYS_STATE.BOOT_FAIL,
   SYS_STATE.RESET_CAUSE, SYS_STATE_REQ.NIGHT_REQ, SYS_STATE_REQ.WAKE_REQ, SYS_STATE_REQ.SYS_RESET,
   SYS_STATE_REQ.KEY, SYS_CMODE.MODE, SYS_CMODE.BEXA_BURST, SYS_CMODE.REGEN_XDEV, SYS_CMODE.MODE_ERR]

/-- Fields of SYS. -/
def rowsSYS : List Fld := rowsSYS0

/-! Block CLK. -/

/-- CLK_XO_STAT.AMP_OK RO, reset 1 (R433). -/
def CLK_XO_STAT.AMP_OK : Fld := ⟨0x40010010, 0, 1, .ro, .none, 0, 1⟩
/-- CLK_XO_STAT.XO_FAIL RO, reset 0 (R433). -/
def CLK_XO_STAT.XO_FAIL : Fld := ⟨0x40010010, 1, 1, .ro, .none, 0, 1⟩
/-- CLK_XO_STAT.XTD RO, reset strap (R433). -/
def CLK_XO_STAT.XTD : Fld := ⟨0x40010010, 2, 2, .ro, .none, 0, 1⟩
/-- CLK_XO_TRIM.XO_TRIM RW LIVE, reset 0x0_0000 (R433). -/
def CLK_XO_TRIM.XO_TRIM : Fld := ⟨0x40010014, 0, 20, .rw, .live, 0, 1⟩
/-- CLK_DPLL_CTRL.BW RW LIVE, reset 0b011 (R434). -/
def CLK_DPLL_CTRL.BW : Fld := ⟨0x40010018, 0, 3, .rw, .live, 0, 1⟩
/-- CLK_DPLL_CTRL.HOLD_AVG RW LIVE, reset 0b01 (R434). -/
def CLK_DPLL_CTRL.HOLD_AVG : Fld := ⟨0x40010018, 4, 2, .rw, .live, 0, 1⟩
/-- CLK_DPLL_STAT.STATE RO, reset 0b00 (R435). -/
def CLK_DPLL_STAT.STATE : Fld := ⟨0x4001001C, 0, 2, .ro, .none, 0, 1⟩
/-- CLK_DPLL_STAT.HIST_VALID RO, reset 0 (R435). -/
def CLK_DPLL_STAT.HIST_VALID : Fld := ⟨0x4001001C, 3, 1, .ro, .none, 0, 1⟩
/-- CLK_DPLL_STAT.SEL RO, reset pins (R435). -/
def CLK_DPLL_STAT.SEL : Fld := ⟨0x4001001C, 4, 2, .ro, .none, 0, 1⟩
/-- CLK_DPLL_STAT.DISAGREE RO, reset 0x0 (R435). -/
def CLK_DPLL_STAT.DISAGREE : Fld := ⟨0x4001001C, 8, 4, .ro, .none, 0, 1⟩
/-- CLK_WIN.SOFT RW LIVE, reset 0x14 (R436). -/
def CLK_WIN.SOFT : Fld := ⟨0x40010020, 0, 8, .rw, .live, 0, 1⟩
/-- CLK_WIN.HARD RW LIVE, reset 0x5C (R436). -/
def CLK_WIN.HARD : Fld := ⟨0x40010020, 8, 8, .rw, .live, 0, 1⟩
/-- CLK_WIN.REF_AGREE RW LIVE, reset 0x0A (R436). -/
def CLK_WIN.REF_AGREE : Fld := ⟨0x40010020, 24, 8, .rw, .live, 0, 1⟩
/-- CLK_REF_CFG.FREQ_HZ RW LIVE, reset 0x0098_9680 (R437). -/
def CLK_REF_CFG.FREQ_HZ : Fld := ⟨0x40010024, 0, 30, .rw, .live, 0x4, 3⟩
/-- CLK_REF_CFG.EN RW LIVE, reset 0 (R437). -/
def CLK_REF_CFG.EN : Fld := ⟨0x40010024, 31, 1, .rw, .live, 0x4, 3⟩
/-- CLK_MON.OFFSET RO, reset 0x00_0000 (R438). -/
def CLK_MON.OFFSET : Fld := ⟨0x40010030, 0, 24, .ro, .none, 0x4, 4⟩
/-- CLK_MON.LOA RO, reset 1 (R438). -/
def CLK_MON.LOA : Fld := ⟨0x40010030, 28, 1, .ro, .none, 0x4, 4⟩
/-- CLK_MON.SOFT_OUT RO, reset 0 (R438). -/
def CLK_MON.SOFT_OUT : Fld := ⟨0x40010030, 29, 1, .ro, .none, 0x4, 4⟩
/-- CLK_MON.HARD_OUT RO, reset 1 (R438). -/
def CLK_MON.HARD_OUT : Fld := ⟨0x40010030, 30, 1, .ro, .none, 0x4, 4⟩
/-- CLK_MON.QUAL RO, reset 0 (R438). -/
def CLK_MON.QUAL : Fld := ⟨0x40010030, 31, 1, .ro, .none, 0x4, 4⟩
/-- CLK_PHASE.PHASE_PS RO, reset 0x0000_0000 (R439). -/
def CLK_PHASE.PHASE_PS : Fld := ⟨0x40010040, 0, 32, .ro, .none, 0, 1⟩
/-- CLK_PERR.PERR_PS RO, reset 0x0000_0000 (R439). -/
def CLK_PERR.PERR_PS : Fld := ⟨0x40010044, 0, 32, .ro, .none, 0, 1⟩
/-- CLK_DUSK_FREQ.FREQ RO, reset 0x0000_0000 (R439). -/
def CLK_DUSK_FREQ.FREQ : Fld := ⟨0x40010048, 0, 32, .ro, .none, 0, 1⟩
/-- CLK_CNT.DUSK_ENTRIES RC, reset 0x0000 (R439). -/
def CLK_CNT.DUSK_ENTRIES : Fld := ⟨0x4001004C, 0, 16, .rc, .none, 0, 1⟩
/-- CLK_CNT.SWITCHES RC, reset 0x0000 (R439). -/
def CLK_CNT.SWITCHES : Fld := ⟨0x4001004C, 16, 16, .rc, .none, 0, 1⟩
/-- CLK_PLL_STAT.LOCK RO, reset 0x000 (R439). -/
def CLK_PLL_STAT.LOCK : Fld := ⟨0x40010050, 0, 9, .ro, .none, 0, 1⟩
/-- CLK_MUX.SEL RW LIVE, reset 0b00 (R440). -/
def CLK_MUX.SEL : Fld := ⟨0x40010060, 0, 2, .rw, .live, 0x4, 8⟩
/-- CLK_MUX.CUR RO, reset 0b10 (R440). -/
def CLK_MUX.CUR : Fld := ⟨0x40010060, 2, 2, .ro, .none, 0x4, 8⟩
/-- CLK_MUX.SWITCHING RO, reset 1 (R440). -/
def CLK_MUX.SWITCHING : Fld := ⟨0x40010060, 4, 1, .ro, .none, 0x4, 8⟩
/-- CLK_MUX.DOM_RST RW LIVE, reset 0 (R440). -/
def CLK_MUX.DOM_RST : Fld := ⟨0x40010060, 8, 1, .rw, .live, 0x4, 8⟩
/-- CLK_MUX.FORCE WS LIVE, reset 0 (R440). -/
def CLK_MUX.FORCE : Fld := ⟨0x40010060, 9, 1, .ws, .live, 0x4, 8⟩
/-- CLK_MUX.SEL_REJ W1C, reset 0 (R440). -/
def CLK_MUX.SEL_REJ : Fld := ⟨0x40010060, 10, 1, .w1c, .none, 0x4, 8⟩
/-- CLK_MUX.MUX_STALL RO, reset 0 (R440). -/
def CLK_MUX.MUX_STALL : Fld := ⟨0x40010060, 11, 1, .ro, .none, 0x4, 8⟩
/-- FMEAS_CTRL.START WS LIVE, reset 0 (R441). -/
def FMEAS_CTRL.START : Fld := ⟨0x40010080, 0, 1, .ws, .live, 0, 1⟩
/-- FMEAS_CTRL.BUSY RO, reset 0 (R441). -/
def FMEAS_CTRL.BUSY : Fld := ⟨0x40010080, 1, 1, .ro, .none, 0, 1⟩
/-- FMEAS_CTRL.SRC RW LIVE, reset 0x0 (R441). -/
def FMEAS_CTRL.SRC : Fld := ⟨0x40010080, 4, 4, .rw, .live, 0, 1⟩
/-- FMEAS_CTRL.GATE_LOG2 RW LIVE, reset 0x14 (R441). -/
def FMEAS_CTRL.GATE_LOG2 : Fld := ⟨0x40010080, 8, 5, .rw, .live, 0, 1⟩
/-- FMEAS_CTRL.GATE_SEL RW LIVE, reset 0 (R441). -/
def FMEAS_CTRL.GATE_SEL : Fld := ⟨0x40010080, 13, 1, .rw, .live, 0, 1⟩
/-- FMEAS.COUNT RO, reset 0x0000_0000 (R441). -/
def FMEAS.COUNT : Fld := ⟨0x40010084, 0, 48, .ro, .none, 0, 1⟩

/-- Fields of CLK, part 0. -/
def rowsCLK0 : List Fld :=
[CLK_XO_STAT.AMP_OK, CLK_XO_STAT.XO_FAIL, CLK_XO_STAT.XTD, CLK_XO_TRIM.XO_TRIM, CLK_DPLL_CTRL.BW,
   CLK_DPLL_CTRL.HOLD_AVG, CLK_DPLL_STAT.STATE, CLK_DPLL_STAT.HIST_VALID, CLK_DPLL_STAT.SEL,
   CLK_DPLL_STAT.DISAGREE, CLK_WIN.SOFT, CLK_WIN.HARD, CLK_WIN.REF_AGREE, CLK_REF_CFG.FREQ_HZ, CLK_REF_CFG.EN,
   CLK_MON.OFFSET, CLK_MON.LOA, CLK_MON.SOFT_OUT, CLK_MON.HARD_OUT, CLK_MON.QUAL, CLK_PHASE.PHASE_PS,
   CLK_PERR.PERR_PS, CLK_DUSK_FREQ.FREQ, CLK_CNT.DUSK_ENTRIES, CLK_CNT.SWITCHES, CLK_PLL_STAT.LOCK, CLK_MUX.SEL,
   CLK_MUX.CUR, CLK_MUX.SWITCHING, CLK_MUX.DOM_RST, CLK_MUX.FORCE, CLK_MUX.SEL_REJ, CLK_MUX.MUX_STALL,
   FMEAS_CTRL.START, FMEAS_CTRL.BUSY, FMEAS_CTRL.SRC, FMEAS_CTRL.GATE_LOG2, FMEAS_CTRL.GATE_SEL, FMEAS.COUNT]

/-- Fields of CLK. -/
def rowsCLK : List Fld := rowsCLK0

/-! Block TIME. -/

/-- TIME_STAT.ACT_DOM RO, reset 0 (R469). -/
def TIME_STAT.ACT_DOM : Fld := ⟨0x40020008, 8, 1, .ro, .none, 0, 1⟩
/-- TIME_STAT.DISAGREE RO, reset 0 (R469). -/
def TIME_STAT.DISAGREE : Fld := ⟨0x40020008, 9, 1, .ro, .none, 0, 1⟩
/-- TIME_STAT.SLEWING RO, reset 0 (R469). -/
def TIME_STAT.SLEWING : Fld := ⟨0x40020008, 10, 1, .ro, .none, 0, 1⟩
/-- TIME_STAT.VALID_P RO, reset 0 (R469). -/
def TIME_STAT.VALID_P : Fld := ⟨0x40020008, 11, 1, .ro, .none, 0, 1⟩
/-- TIME_STAT.VALID_S RO, reset 0 (R469). -/
def TIME_STAT.VALID_S : Fld := ⟨0x40020008, 12, 1, .ro, .none, 0, 1⟩
/-- TIME_STAT.VTB_RUN RO, reset 0x0 (R469). -/
def TIME_STAT.VTB_RUN : Fld := ⟨0x40020008, 16, 4, .ro, .none, 0, 1⟩
/-- TIME_CTRL.SW_TARGET RW LIVE, reset 0 (R470). -/
def TIME_CTRL.SW_TARGET : Fld := ⟨0x40020010, 0, 1, .rw, .live, 0, 1⟩
/-- TIME_CTRL.SW_REQ WS LIVE, reset 0 (R470). -/
def TIME_CTRL.SW_REQ : Fld := ⟨0x40020010, 1, 1, .ws, .live, 0, 1⟩
/-- TIME_CTRL.SW_FORCE WS LIVE, reset 0 (R470). -/
def TIME_CTRL.SW_FORCE : Fld := ⟨0x40020010, 2, 1, .ws, .live, 0, 1⟩
/-- TIME_CTRL.SW_SLEW RW LIVE, reset 0x0A (R470). -/
def TIME_CTRL.SW_SLEW : Fld := ⟨0x40020010, 16, 8, .rw, .live, 0, 1⟩
/-- TIME_CTRL.TIME_AGREE RW LIVE, reset 0x32 (R470). -/
def TIME_CTRL.TIME_AGREE : Fld := ⟨0x40020010, 24, 8, .rw, .live, 0, 1⟩
/-- TIME_DIFF.DIFF_NS RO, reset 0x0000_0000 (R470). -/
def TIME_DIFF.DIFF_NS : Fld := ⟨0x40020014, 0, 32, .ro, .none, 0, 1⟩
/-- TIME_RESID.RESID_NS RO, reset 0x0000_0000 (R470). -/
def TIME_RESID.RESID_NS : Fld := ⟨0x40020018, 0, 32, .ro, .none, 0, 1⟩
/-- TD_CTRL.SET WS LIVE, reset 0 (R471). -/
def TD_CTRL.SET : Fld := ⟨0x40020020, 0, 1, .ws, .live, 0x40, 2⟩
/-- TD_CTRL.LEASE_S RW LIVE, reset 0x04 (R471). -/
def TD_CTRL.LEASE_S : Fld := ⟨0x40020020, 8, 8, .rw, .live, 0x40, 2⟩
/-- TD_CTRL.SLEW_RATE RW LIVE, reset 0x64 (R471). -/
def TD_CTRL.SLEW_RATE : Fld := ⟨0x40020020, 16, 8, .rw, .live, 0x40, 2⟩
/-- TD_CTRL.VALID RW LIVE, reset 0 (R471). -/
def TD_CTRL.VALID : Fld := ⟨0x40020020, 31, 1, .rw, .live, 0x40, 2⟩
/-- TD_FADJ.FADJ RW LIVE, reset 0x0000_0000 (R471). -/
def TD_FADJ.FADJ : Fld := ⟨0x40020024, 0, 32, .rw, .live, 0x40, 2⟩
/-- TD_STEP.STEP WO LIVE, reset 0x0000_0000 (R471). -/
def TD_STEP.STEP : Fld := ⟨0x40020028, 0, 32, .wo, .live, 0x40, 2⟩
/-- TD_SLEW.SLEW WO LIVE, reset 0x0000_0000 (R471). -/
def TD_SLEW.SLEW : Fld := ⟨0x4002002C, 0, 32, .wo, .live, 0x40, 2⟩
/-- TD_SET_LO.SET RW LIVE, reset 0x0000_0000 (R471). -/
def TD_SET_LO.SET : Fld := ⟨0x40020030, 0, 32, .rw, .live, 0x40, 2⟩
/-- TD_SET_HI.SET RW LIVE, reset 0x0000_0000 (R471). -/
def TD_SET_HI.SET : Fld := ⟨0x40020034, 0, 32, .rw, .live, 0x40, 2⟩
/-- TD_NOW.NOW RO, reset 0x0000_0000 (R471). -/
def TD_NOW.NOW : Fld := ⟨0x40020038, 0, 48, .ro, .none, 0x40, 2⟩
/-- TD_EXT.EXT RW LIVE, reset 0x0000 (R471). -/
def TD_EXT.EXT : Fld := ⟨0x40020040, 0, 16, .rw, .live, 0x40, 2⟩
/-- TD_SLEW_LEFT.LEFT RO, reset 0x0000_0000 (R471). -/
def TD_SLEW_LEFT.LEFT : Fld := ⟨0x40020044, 0, 32, .ro, .none, 0x40, 2⟩
/-- AON_NOW.AON RO, reset 0x0000_0000 (R472). -/
def AON_NOW.AON : Fld := ⟨0x400200A0, 0, 48, .ro, .none, 0, 1⟩
/-- CAP_CTRL.CAP_NOW WS LIVE, reset 0 (R472). -/
def CAP_CTRL.CAP_NOW : Fld := ⟨0x400200B0, 0, 1, .ws, .live, 0, 1⟩
/-- CAP_CTRL.PPS_IN_EN RW LIVE, reset 0 (R472). -/
def CAP_CTRL.PPS_IN_EN : Fld := ⟨0x400200B0, 1, 1, .rw, .live, 0, 1⟩
/-- CAP_CTRL.PPS_POL RW LIVE, reset 0 (R472). -/
def CAP_CTRL.PPS_POL : Fld := ⟨0x400200B0, 2, 1, .rw, .live, 0, 1⟩
/-- CAP_CTRL.CAP_VALID W1C, reset 0 (R472). -/
def CAP_CTRL.CAP_VALID : Fld := ⟨0x400200B0, 8, 1, .w1c, .none, 0, 1⟩
/-- CAP_P.CAP_P RO, reset 0x0000_0000 (R472). -/
def CAP_P.CAP_P : Fld := ⟨0x400200B4, 0, 48, .ro, .none, 0, 1⟩
/-- CAP_S.CAP_S RO, reset 0x0000_0000 (R472). -/
def CAP_S.CAP_S : Fld := ⟨0x400200BC, 0, 48, .ro, .none, 0, 1⟩
/-- CAP_A.CAP_A RO, reset 0x0000_0000 (R472). -/
def CAP_A.CAP_A : Fld := ⟨0x400200C4, 0, 48, .ro, .none, 0, 1⟩
/-- PPS_OUT_CFG.WIDTH RW LIVE, reset 0x0064 (R472). -/
def PPS_OUT_CFG.WIDTH : Fld := ⟨0x400200D0, 0, 16, .rw, .live, 0, 1⟩
/-- PPS_OUT_CFG.SRC RW LIVE, reset 0b00 (R472). -/
def PPS_OUT_CFG.SRC : Fld := ⟨0x400200D0, 28, 2, .rw, .live, 0, 1⟩
/-- PPS_OUT_CFG.POL RW LIVE, reset 0 (R472). -/
def PPS_OUT_CFG.POL : Fld := ⟨0x400200D0, 30, 1, .rw, .live, 0, 1⟩
/-- PPS_OUT_CFG.EN RW LIVE, reset 0 (R472). -/
def PPS_OUT_CFG.EN : Fld := ⟨0x400200D0, 31, 1, .rw, .live, 0, 1⟩
/-- PPS_OUT_OFF.OFF_NS RW LIVE, reset 0x0000_0000 (R472). -/
def PPS_OUT_OFF.OFF_NS : Fld := ⟨0x400200D4, 0, 32, .rw, .live, 0, 1⟩
/-- VTB_CFG.VF_WIDTH RW LIVE, reset 0x01F4 (R473). -/
def VTB_CFG.VF_WIDTH : Fld := ⟨0x40020100, 0, 16, .rw, .live, 0x20, 4⟩
/-- VTB_CFG.VF_POL RW LIVE, reset 0 (R473). -/
def VTB_CFG.VF_POL : Fld := ⟨0x40020100, 18, 1, .rw, .live, 0x20, 4⟩
/-- VTB_CFG.VF_EN RW LIVE, reset 0 (R473). -/
def VTB_CFG.VF_EN : Fld := ⟨0x40020100, 19, 1, .rw, .live, 0x20, 4⟩
/-- VTB_CFG.RATE RW HALTED, reset 0x5 (R473). -/
def VTB_CFG.RATE : Fld := ⟨0x40020100, 20, 4, .rw, .halted, 0x20, 4⟩
/-- VTB_CFG.RASTER RW HALTED, reset 0b11 (R473). -/
def VTB_CFG.RASTER : Fld := ⟨0x40020100, 26, 2, .rw, .halted, 0x20, 4⟩
/-- VTB_CFG.CFG_ERR RO, reset 0 (R473). -/
def VTB_CFG.CFG_ERR : Fld := ⟨0x40020100, 29, 1, .ro, .none, 0x20, 4⟩
/-- VTB_CFG.EN RW LIVE, reset 0 (R473). -/
def VTB_CFG.EN : Fld := ⟨0x40020100, 31, 1, .rw, .live, 0x20, 4⟩
/-- VTB_OFFSET.OFFSET RW HALTED, reset 0x0000_0000 (R473). -/
def VTB_OFFSET.OFFSET : Fld := ⟨0x40020104, 0, 32, .rw, .halted, 0x20, 4⟩
/-- VTB_POS.FRAME RO, reset 0x0000_0000 (R473). -/
def VTB_POS.FRAME : Fld := ⟨0x40020108, 0, 32, .ro, .none, 0x20, 4⟩
/-- VTB_POS.LINE RO, reset 0x000 (R473). -/
def VTB_POS.LINE : Fld := ⟨0x40020108, 32, 12, .ro, .none, 0x20, 4⟩
/-- VTB_LINE.LINE_PS RO, reset 0x0000_0000 (R473). -/
def VTB_LINE.LINE_PS : Fld := ⟨0x40020110, 0, 32, .ro, .none, 0x20, 4⟩

/-- Fields of TIME, part 0. -/
def rowsTIME0 : List Fld :=
[TIME_STAT.ACT_DOM, TIME_STAT.DISAGREE, TIME_STAT.SLEWING, TIME_STAT.VALID_P, TIME_STAT.VALID_S, TIME_STAT.VTB_RUN,
   TIME_CTRL.SW_TARGET, TIME_CTRL.SW_REQ, TIME_CTRL.SW_FORCE, TIME_CTRL.SW_SLEW, TIME_CTRL.TIME_AGREE,
   TIME_DIFF.DIFF_NS, TIME_RESID.RESID_NS, TD_CTRL.SET, TD_CTRL.LEASE_S, TD_CTRL.SLEW_RATE, TD_CTRL.VALID,
   TD_FADJ.FADJ, TD_STEP.STEP, TD_SLEW.SLEW, TD_SET_LO.SET, TD_SET_HI.SET, TD_NOW.NOW, TD_EXT.EXT,
   TD_SLEW_LEFT.LEFT, AON_NOW.AON, CAP_CTRL.CAP_NOW, CAP_CTRL.PPS_IN_EN, CAP_CTRL.PPS_POL, CAP_CTRL.CAP_VALID,
   CAP_P.CAP_P, CAP_S.CAP_S, CAP_A.CAP_A, PPS_OUT_CFG.WIDTH, PPS_OUT_CFG.SRC, PPS_OUT_CFG.POL, PPS_OUT_CFG.EN,
   PPS_OUT_OFF.OFF_NS, VTB_CFG.VF_WIDTH, VTB_CFG.VF_POL]
/-- Fields of TIME, part 1. -/
def rowsTIME1 : List Fld :=
[VTB_CFG.VF_EN, VTB_CFG.RATE, VTB_CFG.RASTER, VTB_CFG.CFG_ERR, VTB_CFG.EN, VTB_OFFSET.OFFSET, VTB_POS.FRAME,
   VTB_POS.LINE, VTB_LINE.LINE_PS]

/-- Fields of TIME. -/
def rowsTIME : List Fld := rowsTIME0 ++ rowsTIME1

/-! Block SCHED. -/

/-- SCHED_STAT.OCCUPANCY RO, reset 0x0000 (R474). -/
def SCHED_STAT.OCCUPANCY : Fld := ⟨0x40030008, 16, 13, .ro, .none, 0, 1⟩
/-- SCHED_STAT.FROZEN RO, reset 0 (R474). -/
def SCHED_STAT.FROZEN : Fld := ⟨0x40030008, 31, 1, .ro, .none, 0, 1⟩
/-- SCHED_CTRL.TASK_LIMIT RW LIVE, reset 0xF00 (R474). -/
def SCHED_CTRL.TASK_LIMIT : Fld := ⟨0x40030010, 0, 13, .rw, .live, 0, 1⟩
/-- SCHED_HWM.HWM RC, reset 0x0000 (R474). -/
def SCHED_HWM.HWM : Fld := ⟨0x40030014, 0, 13, .rc, .none, 0, 1⟩
/-- SCHED_CANCEL.TAG WO LIVE, reset 0x0000_0000 (R474). -/
def SCHED_CANCEL.TAG : Fld := ⟨0x40030018, 0, 32, .wo, .live, 0, 1⟩
/-- SCHED_CANCEL_RES.REMOVED RO, reset 0x0000 (R474). -/
def SCHED_CANCEL_RES.REMOVED : Fld := ⟨0x4003001C, 0, 13, .ro, .none, 0, 1⟩
/-- SCHED_EXEC.EXEC RO, reset 0x0000_0000 (R474). -/
def SCHED_EXEC.EXEC : Fld := ⟨0x40030020, 0, 48, .ro, .none, 0, 1⟩
/-- SCHED_CNT0.LATE_DROP RC, reset 0x0000 (R474). -/
def SCHED_CNT0.LATE_DROP : Fld := ⟨0x40030028, 0, 16, .rc, .none, 0, 1⟩
/-- SCHED_CNT0.LATE_EXEC RC, reset 0x0000 (R474). -/
def SCHED_CNT0.LATE_EXEC : Fld := ⟨0x40030028, 16, 16, .rc, .none, 0, 1⟩
/-- SCHED_CNT1.STEPPED RC, reset 0x0000 (R474). -/
def SCHED_CNT1.STEPPED : Fld := ⟨0x4003002C, 0, 16, .rc, .none, 0, 1⟩
/-- SCHED_CNT1.FULL_REJ RC, reset 0x0000 (R474). -/
def SCHED_CNT1.FULL_REJ : Fld := ⟨0x4003002C, 16, 16, .rc, .none, 0, 1⟩
/-- SCHED_CNT2.ATW_ERR RC, reset 0x0000 (R474). -/
def SCHED_CNT2.ATW_ERR : Fld := ⟨0x40030030, 0, 16, .rc, .none, 0, 1⟩
/-- SCHED_CNT2.FROZEN_DROP RC, reset 0x0000 (R474). -/
def SCHED_CNT2.FROZEN_DROP : Fld := ⟨0x40030030, 16, 16, .rc, .none, 0, 1⟩

/-- Fields of SCHED, part 0. -/
def rowsSCHED0 : List Fld :=
[SCHED_STAT.OCCUPANCY, SCHED_STAT.FROZEN, SCHED_CTRL.TASK_LIMIT, SCHED_HWM.HWM, SCHED_CANCEL.TAG,
   SCHED_CANCEL_RES.REMOVED, SCHED_EXEC.EXEC, SCHED_CNT0.LATE_DROP, SCHED_CNT0.LATE_EXEC, SCHED_CNT1.STEPPED,
   SCHED_CNT1.FULL_REJ, SCHED_CNT2.ATW_ERR, SCHED_CNT2.FROZEN_DROP]

/-- Fields of SCHED. -/
def rowsSCHED : List Fld := rowsSCHED0

/-! Block PWR. -/

/-- PWR_STAT.NIGHT_BUSY RO, reset 0 (R607). -/
def PWR_STAT.NIGHT_BUSY : Fld := ⟨0x40040008, 8, 1, .ro, .none, 0, 1⟩
/-- PWR_STAT.WARN RO, reset 0 (R607). -/
def PWR_STAT.WARN : Fld := ⟨0x40040008, 9, 1, .ro, .none, 0, 1⟩
/-- PWR_STAT.THROTTLE RO, reset 0 (R607). -/
def PWR_STAT.THROTTLE : Fld := ⟨0x40040008, 10, 1, .ro, .none, 0, 1⟩
/-- PWR_STAT.SENS_FAULT RO, reset 0 (R607). -/
def PWR_STAT.SENS_FAULT : Fld := ⟨0x40040008, 11, 1, .ro, .none, 0, 1⟩
/-- PWR_STAT.BAND RO, reset 0b01 (R607). -/
def PWR_STAT.BAND : Fld := ⟨0x40040008, 12, 2, .ro, .none, 0, 1⟩
/-- PWR_DOM_EN.EN RW LIVE, reset 0x00_001F (R608). -/
def PWR_DOM_EN.EN : Fld := ⟨0x40040010, 0, 22, .rw, .live, 0, 1⟩
/-- PWR_DOM_STAT.ON RO, reset 0x00_001F (R608). -/
def PWR_DOM_STAT.ON : Fld := ⟨0x40040014, 0, 22, .ro, .none, 0, 1⟩
/-- PWR_DOM_REJ.REJ W1C, reset 0x00_0000 (R608). -/
def PWR_DOM_REJ.REJ : Fld := ⟨0x40040018, 0, 22, .w1c, .none, 0, 1⟩
/-- PWR_DOM_FORCE.FORCE_OFF WS LIVE, reset 0x00_0000 (R608). -/
def PWR_DOM_FORCE.FORCE_OFF : Fld := ⟨0x4004001C, 0, 22, .ws, .live, 0, 1⟩
/-- PWR_RAIL.GOOD RO, reset 0x3FF (R608). -/
def PWR_RAIL.GOOD : Fld := ⟨0x40040020, 0, 10, .ro, .none, 0, 1⟩
/-- PWR_RAIL.LATCH W1C, reset 0x000 (R608). -/
def PWR_RAIL.LATCH : Fld := ⟨0x40040020, 16, 10, .w1c, .none, 0, 1⟩
/-- PWR_NIGHT.WAKE_US RO, reset 0x0000 (R608). -/
def PWR_NIGHT.WAKE_US : Fld := ⟨0x40040024, 0, 16, .ro, .none, 0, 1⟩
/-- PWR_NIGHT.WAKE_DONE RO, reset 0 (R608). -/
def PWR_NIGHT.WAKE_DONE : Fld := ⟨0x40040024, 31, 1, .ro, .none, 0, 1⟩
/-- THERM_TEMP.TEMP RO, reset 0x0000 (R609). -/
def THERM_TEMP.TEMP : Fld := ⟨0x40040040, 0, 16, .ro, .none, 0, 1⟩
/-- THERM_TEMP.TMAX RC, reset 0x8000 (R609). -/
def THERM_TEMP.TMAX : Fld := ⟨0x40040040, 16, 16, .rc, .none, 0, 1⟩
/-- THERM_CTRL.THROTTLE_TEST RW LIVE, reset 0 (R609). -/
def THERM_CTRL.THROTTLE_TEST : Fld := ⟨0x40040044, 0, 1, .rw, .live, 0, 1⟩
/-- THERM_LOG.TRIP_TEMP RO, reset 0x0000 (R609). -/
def THERM_LOG.TRIP_TEMP : Fld := ⟨0x40040048, 0, 16, .ro, .none, 0, 1⟩
/-- THERM_LOG.TRIPS RO, reset 0x0000 (R609). -/
def THERM_LOG.TRIPS : Fld := ⟨0x40040048, 16, 16, .ro, .none, 0, 1⟩
/-- PWR_CGATE.GATE RW LIVE, reset 0x00_0000 (R506). -/
def PWR_CGATE.GATE : Fld := ⟨0x40040100, 0, 22, .rw, .live, 0, 1⟩
/-- PWR_CGATE_FORCE.FORCE WS LIVE, reset 0x00_0000 (R506). -/
def PWR_CGATE_FORCE.FORCE : Fld := ⟨0x40040104, 0, 22, .ws, .live, 0, 1⟩
/-- PWR_CGATE_STAT.GATED RO, reset 0x00_0000 (R506). -/
def PWR_CGATE_STAT.GATED : Fld := ⟨0x40040108, 0, 22, .ro, .none, 0, 1⟩
/-- PWR_CGATE_TO.TIMEOUT W1C, reset 0x00_0000 (R506). -/
def PWR_CGATE_TO.TIMEOUT : Fld := ⟨0x4004010C, 0, 22, .w1c, .none, 0, 1⟩

/-- Fields of PWR, part 0. -/
def rowsPWR0 : List Fld :=
[PWR_STAT.NIGHT_BUSY, PWR_STAT.WARN, PWR_STAT.THROTTLE, PWR_STAT.SENS_FAULT, PWR_STAT.BAND, PWR_DOM_EN.EN,
   PWR_DOM_STAT.ON, PWR_DOM_REJ.REJ, PWR_DOM_FORCE.FORCE_OFF, PWR_RAIL.GOOD, PWR_RAIL.LATCH, PWR_NIGHT.WAKE_US,
   PWR_NIGHT.WAKE_DONE, THERM_TEMP.TEMP, THERM_TEMP.TMAX, THERM_CTRL.THROTTLE_TEST, THERM_LOG.TRIP_TEMP,
   THERM_LOG.TRIPS, PWR_CGATE.GATE, PWR_CGATE_FORCE.FORCE, PWR_CGATE_STAT.GATED, PWR_CGATE_TO.TIMEOUT]

/-- Fields of PWR. -/
def rowsPWR : List Fld := rowsPWR0

/-! Block MADC. -/

/-- MADC_STAT.CH_ACT RO, reset 0x0 (R610). -/
def MADC_STAT.CH_ACT : Fld := ⟨0x40050008, 8, 4, .ro, .none, 0, 1⟩
/-- MADC_STAT.CAL_ERR RO, reset 0 (R610). -/
def MADC_STAT.CAL_ERR : Fld := ⟨0x40050008, 12, 1, .ro, .none, 0, 1⟩
/-- MADC_STAT.CAL_BUSY RO, reset 0 (R610). -/
def MADC_STAT.CAL_BUSY : Fld := ⟨0x40050008, 13, 1, .ro, .none, 0, 1⟩
/-- MADC_STAT.SETTLED RO, reset 0 (R610). -/
def MADC_STAT.SETTLED : Fld := ⟨0x40050008, 14, 1, .ro, .none, 0, 1⟩
/-- MADC_STAT.CFG_ERR RO, reset 0 (R610). -/
def MADC_STAT.CFG_ERR : Fld := ⟨0x40050008, 15, 1, .ro, .none, 0, 1⟩
/-- MADC_CFG.RATE RW HALTED, reset 0x4 (R610). -/
def MADC_CFG.RATE : Fld := ⟨0x40050010, 0, 4, .rw, .halted, 0, 1⟩
/-- MADC_CFG.ORDER RW HALTED, reset 0b011 (R610). -/
def MADC_CFG.ORDER : Fld := ⟨0x40050010, 4, 3, .rw, .halted, 0, 1⟩
/-- MADC_CFG.SINGLE RW HALTED, reset 0 (R610). -/
def MADC_CFG.SINGLE : Fld := ⟨0x40050010, 8, 1, .rw, .halted, 0, 1⟩
/-- MADC_CH.CH RW LIVE, reset 0x0 (R610). -/
def MADC_CH.CH : Fld := ⟨0x40050014, 0, 4, .rw, .live, 0, 1⟩
/-- MADC_CMD.CAL_ZERO WS LIVE, reset 0 (R610). -/
def MADC_CMD.CAL_ZERO : Fld := ⟨0x40050018, 0, 1, .ws, .live, 0, 1⟩
/-- MADC_CMD.CAL_FS WS LIVE, reset 0 (R610). -/
def MADC_CMD.CAL_FS : Fld := ⟨0x40050018, 1, 1, .ws, .live, 0, 1⟩
/-- MADC_DATA.DATA RO, reset 0x00_0000 (R610). -/
def MADC_DATA.DATA : Fld := ⟨0x4005001C, 0, 24, .ro, .none, 0, 1⟩
/-- MADC_DATA.CH RO, reset 0x0 (R610). -/
def MADC_DATA.CH : Fld := ⟨0x4005001C, 24, 4, .ro, .none, 0, 1⟩
/-- MADC_DATA.OVR RC, reset 0 (R610). -/
def MADC_DATA.OVR : Fld := ⟨0x4005001C, 30, 1, .rc, .none, 0, 1⟩
/-- MADC_DATA.NEW RC, reset 0 (R610). -/
def MADC_DATA.NEW : Fld := ⟨0x4005001C, 31, 1, .rc, .none, 0, 1⟩
/-- MADC_FS.FS_CODE RW LIVE, reset 0x70_0000 (R610). -/
def MADC_FS.FS_CODE : Fld := ⟨0x40050020, 0, 24, .rw, .live, 0, 1⟩
/-- MADC_OFS.OFS RW LIVE, reset 0x00_0000 (R610). -/
def MADC_OFS.OFS : Fld := ⟨0x40050100, 0, 24, .rw, .live, 0x8, 16⟩
/-- MADC_GAIN.GAIN RW LIVE, reset 0x40_0000 (R610). -/
def MADC_GAIN.GAIN : Fld := ⟨0x40050104, 0, 24, .rw, .live, 0x8, 16⟩

/-- Fields of MADC, part 0. -/
def rowsMADC0 : List Fld :=
[MADC_STAT.CH_ACT, MADC_STAT.CAL_ERR, MADC_STAT.CAL_BUSY, MADC_STAT.SETTLED, MADC_STAT.CFG_ERR, MADC_CFG.RATE,
   MADC_CFG.ORDER, MADC_CFG.SINGLE, MADC_CH.CH, MADC_CMD.CAL_ZERO, MADC_CMD.CAL_FS, MADC_DATA.DATA, MADC_DATA.CH,
   MADC_DATA.OVR, MADC_DATA.NEW, MADC_FS.FS_CODE, MADC_OFS.OFS, MADC_GAIN.GAIN]

/-- Fields of MADC. -/
def rowsMADC : List Fld := rowsMADC0

/-! Block EVENT. -/

/-- EV_CTRL.OWNER RW LIVE, reset 0 (R504). -/
def EV_CTRL.OWNER : Fld := ⟨0x40060010, 0, 1, .rw, .live, 0, 1⟩
/-- EV_STAT.DEPTH RO, reset 0x00 (R504). -/
def EV_STAT.DEPTH : Fld := ⟨0x40060014, 0, 7, .ro, .none, 0, 1⟩
/-- EV_STAT.HWM RC, reset 0x00 (R504). -/
def EV_STAT.HWM : Fld := ⟨0x40060014, 8, 6, .rc, .none, 0, 1⟩
/-- EV_STAT.LOST_TOTAL RC, reset 0x0000 (R504). -/
def EV_STAT.LOST_TOTAL : Fld := ⟨0x40060014, 16, 16, .rc, .none, 0, 1⟩
/-- EV_HEAD.COUNT RO, reset 0x00 (R504). -/
def EV_HEAD.COUNT : Fld := ⟨0x40060018, 0, 8, .ro, .none, 0, 1⟩
/-- EV_HEAD.ID RO, reset 0x000 (R504). -/
def EV_HEAD.ID : Fld := ⟨0x40060018, 8, 9, .ro, .none, 0, 1⟩
/-- EV_HEAD.VALID RO, reset 0 (R504). -/
def EV_HEAD.VALID : Fld := ⟨0x40060018, 31, 1, .ro, .none, 0, 1⟩
/-- EV_HEAD_DATA.DATA RO, reset 0x0000_0000 (R504). -/
def EV_HEAD_DATA.DATA : Fld := ⟨0x4006001C, 0, 32, .ro, .none, 0, 1⟩
/-- EV_HEAD_TIME.TIME RO, reset 0x0000_0000 (R504). -/
def EV_HEAD_TIME.TIME : Fld := ⟨0x40060020, 0, 48, .ro, .none, 0, 1⟩
/-- EV_POP.POP WS LIVE, reset 0 (R504). -/
def EV_POP.POP : Fld := ⟨0x40060028, 0, 1, .ws, .live, 0, 1⟩
/-- EV_MASK.MASK RW LIVE, reset 0x0000_0000 (R504). -/
def EV_MASK.MASK : Fld := ⟨0x40060100, 0, 32, .rw, .live, 0x4, 11⟩
/-- VOTE_STAT.CAUSE RO, reset 0x0 (R505). -/
def VOTE_STAT.CAUSE : Fld := ⟨0x40060200, 24, 4, .ro, .none, 0, 1⟩
/-- VOTE_STAT.EXCLUDED RO, reset 0b11 (R505). -/
def VOTE_STAT.EXCLUDED : Fld := ⟨0x40060200, 28, 2, .ro, .none, 0, 1⟩
/-- VOTE_STAT.STATE RO, reset 0b00 (R505). -/
def VOTE_STAT.STATE : Fld := ⟨0x40060200, 30, 2, .ro, .none, 0, 1⟩
/-- VOTE_CTRL.RESYNC_WAIT RW LIVE, reset 0x0064 (R505). -/
def VOTE_CTRL.RESYNC_WAIT : Fld := ⟨0x40060204, 0, 16, .rw, .live, 0, 1⟩
/-- VOTE_CNT.DIV_M RC, reset 0x00 (R505). -/
def VOTE_CNT.DIV_M : Fld := ⟨0x40060208, 0, 8, .rc, .none, 0, 1⟩
/-- VOTE_CNT.DIV_N RC, reset 0x00 (R505). -/
def VOTE_CNT.DIV_N : Fld := ⟨0x40060208, 8, 8, .rc, .none, 0, 1⟩
/-- VOTE_CNT.DIV_E RC, reset 0x00 (R505). -/
def VOTE_CNT.DIV_E : Fld := ⟨0x40060208, 16, 8, .rc, .none, 0, 1⟩
/-- VOTE_CNT2.RESYNCS RC, reset 0x0000 (R505). -/
def VOTE_CNT2.RESYNCS : Fld := ⟨0x4006020C, 0, 16, .rc, .none, 0, 1⟩
/-- VOTE_CNT2.RESYNC_FORCED RC, reset 0x0000 (R505). -/
def VOTE_CNT2.RESYNC_FORCED : Fld := ⟨0x4006020C, 16, 16, .rc, .none, 0, 1⟩
/-- CTL_RESTART.RESTART WS LIVE, reset 0 (R505). -/
def CTL_RESTART.RESTART : Fld := ⟨0x40060210, 0, 1, .ws, .live, 0, 1⟩
/-- CTL_RESTART.KEY WO LIVE, reset 0x0000 (R505). -/
def CTL_RESTART.KEY : Fld := ⟨0x40060210, 16, 16, .wo, .live, 0, 1⟩
/-- BUS_ERR.COUNT RC, reset 0x0000_0000 (R505). -/
def BUS_ERR.COUNT : Fld := ⟨0x40060214, 0, 32, .rc, .none, 0, 1⟩
/-- PROG_CTRL.VERIFY WS LIVE, reset 0 (R540). -/
def PROG_CTRL.VERIFY : Fld := ⟨0x40060220, 0, 1, .ws, .live, 0, 1⟩
/-- PROG_CTRL.SWITCH WS LIVE, reset 0 (R540). -/
def PROG_CTRL.SWITCH : Fld := ⟨0x40060220, 1, 1, .ws, .live, 0, 1⟩
/-- PROG_CTRL.TASK_AT RW LIVE, reset 0x00 (R540). -/
def PROG_CTRL.TASK_AT : Fld := ⟨0x40060220, 8, 8, .rw, .live, 0, 1⟩
/-- PROG_CTRL.KEY WO LIVE, reset 0x0000 (R540). -/
def PROG_CTRL.KEY : Fld := ⟨0x40060220, 16, 16, .wo, .live, 0, 1⟩
/-- PROG_STAT.RESULT RO, reset 0x0 (R541). -/
def PROG_STAT.RESULT : Fld := ⟨0x40060224, 24, 4, .ro, .none, 0, 1⟩
/-- PROG_STAT.BUSY RO, reset 0 (R541). -/
def PROG_STAT.BUSY : Fld := ⟨0x40060224, 29, 1, .ro, .none, 0, 1⟩
/-- PROG_STAT.IDLE_OK RO, reset 0 (R541). -/
def PROG_STAT.IDLE_OK : Fld := ⟨0x40060224, 30, 1, .ro, .none, 0, 1⟩
/-- PROG_STAT.RUN_BANK RO, reset 0 (R541). -/
def PROG_STAT.RUN_BANK : Fld := ⟨0x40060224, 31, 1, .ro, .none, 0, 1⟩
/-- PROG_VER.VERSION RO, reset 0x0000_0000 (R542). -/
def PROG_VER.VERSION : Fld := ⟨0x40060228, 0, 32, .ro, .none, 0, 1⟩
/-- PROG_IDLE_VER.VERSION RO, reset 0x0000_0000 (R542). -/
def PROG_IDLE_VER.VERSION : Fld := ⟨0x4006022C, 0, 32, .ro, .none, 0, 1⟩
/-- MEM_CTRL.SCRUB_LOG2 RW LIVE, reset 0x6 (R505). -/
def MEM_CTRL.SCRUB_LOG2 : Fld := ⟨0x40060300, 0, 4, .rw, .live, 0, 1⟩
/-- MEM_CTRL.THRESH RW LIVE, reset 0x040 (R505). -/
def MEM_CTRL.THRESH : Fld := ⟨0x40060300, 4, 12, .rw, .live, 0, 1⟩
/-- MEM_CTRL.LEAK_PERIOD RW LIVE, reset 0x03E8 (R505). -/
def MEM_CTRL.LEAK_PERIOD : Fld := ⟨0x40060300, 16, 16, .rw, .live, 0, 1⟩
/-- MEM_CTL_CNT.BUCKET RO, reset 0x0000 (R505). -/
def MEM_CTL_CNT.BUCKET : Fld := ⟨0x40060400, 0, 16, .ro, .none, 0x8, 9⟩
/-- MEM_CTL_CNT.UE RC, reset 0x0000 (R505). -/
def MEM_CTL_CNT.UE : Fld := ⟨0x40060400, 16, 16, .rc, .none, 0x8, 9⟩
/-- MEM_CTL_CE.CE RC, reset 0x0000_0000 (R505). -/
def MEM_CTL_CE.CE : Fld := ⟨0x40060404, 0, 32, .rc, .none, 0x8, 9⟩
/-- MEM_DOM_CNT.BUCKET RO, reset 0x0000_0000 (R505). -/
def MEM_DOM_CNT.BUCKET : Fld := ⟨0x40060480, 0, 16, .ro, .none, 0x8, 22⟩
/-- MEM_DOM_CNT.UE RC, reset 0x0000_0000 (R505). -/
def MEM_DOM_CNT.UE : Fld := ⟨0x40060480, 16, 16, .rc, .none, 0x8, 22⟩
/-- MEM_DOM_CE.CE RC, reset 0x0000_0000 (R505). -/
def MEM_DOM_CE.CE : Fld := ⟨0x40060484, 0, 32, .rc, .none, 0x8, 22⟩

/-- Fields of EVENT, part 0. -/
def rowsEVENT0 : List Fld :=
[EV_CTRL.OWNER, EV_STAT.DEPTH, EV_STAT.HWM, EV_STAT.LOST_TOTAL, EV_HEAD.COUNT, EV_HEAD.ID, EV_HEAD.VALID,
   EV_HEAD_DATA.DATA, EV_HEAD_TIME.TIME, EV_POP.POP, EV_MASK.MASK, VOTE_STAT.CAUSE, VOTE_STAT.EXCLUDED,
   VOTE_STAT.STATE, VOTE_CTRL.RESYNC_WAIT, VOTE_CNT.DIV_M, VOTE_CNT.DIV_N, VOTE_CNT.DIV_E, VOTE_CNT2.RESYNCS,
   VOTE_CNT2.RESYNC_FORCED, CTL_RESTART.RESTART, CTL_RESTART.KEY, BUS_ERR.COUNT, PROG_CTRL.VERIFY,
   PROG_CTRL.SWITCH, PROG_CTRL.TASK_AT, PROG_CTRL.KEY, PROG_STAT.RESULT, PROG_STAT.BUSY, PROG_STAT.IDLE_OK,
   PROG_STAT.RUN_BANK, PROG_VER.VERSION, PROG_IDLE_VER.VERSION, MEM_CTRL.SCRUB_LOG2, MEM_CTRL.THRESH,
   MEM_CTRL.LEAK_PERIOD, MEM_CTL_CNT.BUCKET, MEM_CTL_CNT.UE, MEM_CTL_CE.CE, MEM_DOM_CNT.BUCKET]
/-- Fields of EVENT, part 1. -/
def rowsEVENT1 : List Fld :=
[MEM_DOM_CNT.UE, MEM_DOM_CE.CE]

/-- Fields of EVENT. -/
def rowsEVENT : List Fld := rowsEVENT0 ++ rowsEVENT1

/-! Block PAIR. -/

/-- PAIR_STAT.WTR_LEFT RO, reset 0x000 (R559). -/
def PAIR_STAT.WTR_LEFT : Fld := ⟨0x40070008, 8, 12, .ro, .none, 0, 1⟩
/-- PAIR_STAT.STRAP_EQ RO, reset 0 (R559). -/
def PAIR_STAT.STRAP_EQ : Fld := ⟨0x40070008, 22, 1, .ro, .none, 0, 1⟩
/-- PAIR_STAT.WIRING_ERR RO, reset 0 (R559). -/
def PAIR_STAT.WIRING_ERR : Fld := ⟨0x40070008, 23, 1, .ro, .none, 0, 1⟩
/-- PAIR_STAT.POD_UP RO, reset 0 (R559). -/
def PAIR_STAT.POD_UP : Fld := ⟨0x40070008, 24, 1, .ro, .none, 0, 1⟩
/-- PAIR_STAT.PIN_UP RO, reset 0 (R559). -/
def PAIR_STAT.PIN_UP : Fld := ⟨0x40070008, 25, 1, .ro, .none, 0, 1⟩
/-- PAIR_STAT.PEER_CLAIM RO, reset 0 (R559). -/
def PAIR_STAT.PEER_CLAIM : Fld := ⟨0x40070008, 26, 1, .ro, .none, 0, 1⟩
/-- PAIR_STAT.OWN_CLAIM RO, reset 0 (R559). -/
def PAIR_STAT.OWN_CLAIM : Fld := ⟨0x40070008, 27, 1, .ro, .none, 0, 1⟩
/-- PAIR_STAT.GRANTED RO, reset 0 (R559). -/
def PAIR_STAT.GRANTED : Fld := ⟨0x40070008, 28, 1, .ro, .none, 0, 1⟩
/-- PAIR_STAT.CLAIM_STATE RO, reset 0b000 (R559). -/
def PAIR_STAT.CLAIM_STATE : Fld := ⟨0x40070008, 29, 3, .ro, .none, 0, 1⟩
/-- PAIR_CFG.HB_PERIOD RW LIVE, reset 0x064 (R560). -/
def PAIR_CFG.HB_PERIOD : Fld := ⟨0x40070010, 0, 10, .rw, .live, 0, 1⟩
/-- PAIR_CFG.SYNC_PERIOD RW LIVE, reset 0x0A (R560). -/
def PAIR_CFG.SYNC_PERIOD : Fld := ⟨0x40070010, 16, 8, .rw, .live, 0, 1⟩
/-- PAIR_CFG.PSR_EN RW LIVE, reset 0b11 (R560). -/
def PAIR_CFG.PSR_EN : Fld := ⟨0x40070010, 26, 2, .rw, .live, 0, 1⟩
/-- PAIR_CFG.REVERT RW LIVE, reset 0b01 (R560). -/
def PAIR_CFG.REVERT : Fld := ⟨0x40070010, 28, 2, .rw, .live, 0, 1⟩
/-- PAIR_CFG.PEER_PORT RW LIVE, reset 0 (R560). -/
def PAIR_CFG.PEER_PORT : Fld := ⟨0x40070010, 30, 1, .rw, .live, 0, 1⟩
/-- PAIR_CFG.HB_POD_EN RW LIVE, reset 1 (R560). -/
def PAIR_CFG.HB_POD_EN : Fld := ⟨0x40070010, 31, 1, .rw, .live, 0, 1⟩
/-- PAIR_TIMERS.KICK_MS RW LIVE, reset 0x0064 (R560). -/
def PAIR_TIMERS.KICK_MS : Fld := ⟨0x40070014, 0, 16, .rw, .live, 0, 1⟩
/-- PAIR_TIMERS.WTR_S RW LIVE, reset 0x12C (R560). -/
def PAIR_TIMERS.WTR_S : Fld := ⟨0x40070014, 20, 12, .rw, .live, 0, 1⟩
/-- PAIR_MASK.FAULT_MASK RW LIVE, reset 0x0F0D (R560). -/
def PAIR_MASK.FAULT_MASK : Fld := ⟨0x40070018, 0, 16, .rw, .live, 0, 1⟩
/-- PAIR_CMD.CLAIM_INHIBIT RW LIVE, reset 0 (R560). -/
def PAIR_CMD.CLAIM_INHIBIT : Fld := ⟨0x4007001C, 0, 1, .rw, .live, 0, 1⟩
/-- PAIR_CMD.SW_FAULT RW LIVE, reset 0 (R560). -/
def PAIR_CMD.SW_FAULT : Fld := ⟨0x4007001C, 1, 1, .rw, .live, 0, 1⟩
/-- PAIR_CMD.RELEASE WS LIVE, reset 0 (R560). -/
def PAIR_CMD.RELEASE : Fld := ⟨0x4007001C, 2, 1, .ws, .live, 0, 1⟩
/-- PAIR_CMD.REVERT_GO WS LIVE, reset 0 (R560). -/
def PAIR_CMD.REVERT_GO : Fld := ⟨0x4007001C, 3, 1, .ws, .live, 0, 1⟩
/-- PAIR_CMD.KICK WS LIVE, reset 0 (R560). -/
def PAIR_CMD.KICK : Fld := ⟨0x4007001C, 4, 1, .ws, .live, 0, 1⟩
/-- PAIR_CMD.KEY WO LIVE, reset 0x0000 (R560). -/
def PAIR_CMD.KEY : Fld := ⟨0x4007001C, 16, 16, .wo, .live, 0, 1⟩
/-- PAIR_HEALTH.HEALTH RO, reset 0x1000_0000 (R561). -/
def PAIR_HEALTH.HEALTH : Fld := ⟨0x40070020, 0, 32, .ro, .none, 0, 1⟩
/-- PAIR_PEER.PEER RO, reset 0x0000_0000 (R561). -/
def PAIR_PEER.PEER : Fld := ⟨0x40070024, 0, 32, .ro, .none, 0, 1⟩
/-- PAIR_CNT0.MISSED_POD RC, reset 0x0000 (R561). -/
def PAIR_CNT0.MISSED_POD : Fld := ⟨0x40070028, 0, 16, .rc, .none, 0, 1⟩
/-- PAIR_CNT0.MISSED_PIN RC, reset 0x0000 (R561). -/
def PAIR_CNT0.MISSED_PIN : Fld := ⟨0x40070028, 16, 16, .rc, .none, 0, 1⟩
/-- PAIR_CNT1.TAKEOVERS RC, reset 0x0000 (R561). -/
def PAIR_CNT1.TAKEOVERS : Fld := ⟨0x4007002C, 0, 16, .rc, .none, 0, 1⟩
/-- PAIR_CNT1.COLLISIONS RC, reset 0x0000 (R561). -/
def PAIR_CNT1.COLLISIONS : Fld := ⟨0x4007002C, 16, 16, .rc, .none, 0, 1⟩
/-- PAIR_SYNC.TX_GEN RO, reset 0x00 (R561). -/
def PAIR_SYNC.TX_GEN : Fld := ⟨0x40070030, 0, 8, .ro, .none, 0, 1⟩
/-- PAIR_SYNC.RX_GEN RO, reset 0x00 (R561). -/
def PAIR_SYNC.RX_GEN : Fld := ⟨0x40070030, 8, 8, .ro, .none, 0, 1⟩
/-- PAIR_SYNC.RX_VALID RO, reset 0 (R561). -/
def PAIR_SYNC.RX_VALID : Fld := ⟨0x40070030, 30, 1, .ro, .none, 0, 1⟩
/-- PAIR_SYNC.SYNC_SEND WS LIVE, reset 0 (R561). -/
def PAIR_SYNC.SYNC_SEND : Fld := ⟨0x40070030, 31, 1, .ws, .live, 0, 1⟩

/-- Fields of PAIR, part 0. -/
def rowsPAIR0 : List Fld :=
[PAIR_STAT.WTR_LEFT, PAIR_STAT.STRAP_EQ, PAIR_STAT.WIRING_ERR, PAIR_STAT.POD_UP, PAIR_STAT.PIN_UP,
   PAIR_STAT.PEER_CLAIM, PAIR_STAT.OWN_CLAIM, PAIR_STAT.GRANTED, PAIR_STAT.CLAIM_STATE, PAIR_CFG.HB_PERIOD,
   PAIR_CFG.SYNC_PERIOD, PAIR_CFG.PSR_EN, PAIR_CFG.REVERT, PAIR_CFG.PEER_PORT, PAIR_CFG.HB_POD_EN,
   PAIR_TIMERS.KICK_MS, PAIR_TIMERS.WTR_S, PAIR_MASK.FAULT_MASK, PAIR_CMD.CLAIM_INHIBIT, PAIR_CMD.SW_FAULT,
   PAIR_CMD.RELEASE, PAIR_CMD.REVERT_GO, PAIR_CMD.KICK, PAIR_CMD.KEY, PAIR_HEALTH.HEALTH, PAIR_PEER.PEER,
   PAIR_CNT0.MISSED_POD, PAIR_CNT0.MISSED_PIN, PAIR_CNT1.TAKEOVERS, PAIR_CNT1.COLLISIONS, PAIR_SYNC.TX_GEN,
   PAIR_SYNC.RX_GEN, PAIR_SYNC.RX_VALID, PAIR_SYNC.SYNC_SEND]

/-- Fields of PAIR. -/
def rowsPAIR : List Fld := rowsPAIR0

/-! Block PERF. -/

/-- PERF_CTRL.GLOBAL_EN RW LIVE, reset 0 (R507). -/
def PERF_CTRL.GLOBAL_EN : Fld := ⟨0x40080010, 0, 1, .rw, .live, 0, 1⟩
/-- PERF_CTRL.PERF_TASK_EN RW LIVE, reset 0 (R507). -/
def PERF_CTRL.PERF_TASK_EN : Fld := ⟨0x40080010, 31, 1, .rw, .live, 0, 1⟩
/-- PERF_CLR.CLR WO LIVE, reset 0x0000_0000 (R507). -/
def PERF_CLR.CLR : Fld := ⟨0x40080014, 0, 32, .wo, .live, 0, 1⟩
/-- PERF_SEL.SRC RW LIVE, reset 0x00 (R507). -/
def PERF_SEL.SRC : Fld := ⟨0x40080100, 0, 8, .rw, .live, 0x10, 32⟩
/-- PERF_SEL.MODE RW LIVE, reset 0 (R507). -/
def PERF_SEL.MODE : Fld := ⟨0x40080100, 30, 1, .rw, .live, 0x10, 32⟩
/-- PERF_SEL.EN RW LIVE, reset 0 (R507). -/
def PERF_SEL.EN : Fld := ⟨0x40080100, 31, 1, .rw, .live, 0x10, 32⟩
/-- PERF_THR.N RW LIVE, reset 0x0000_0000 (R507). -/
def PERF_THR.N : Fld := ⟨0x40080104, 0, 32, .rw, .live, 0x10, 32⟩
/-- PERF_CNT.COUNT RO, reset 0x0000_0000 (R507). -/
def PERF_CNT.COUNT : Fld := ⟨0x40080108, 0, 48, .ro, .none, 0x10, 32⟩
/-- HIST_CFG.W RW LIVE, reset 0x0_0064 (R507). -/
def HIST_CFG.W : Fld := ⟨0x40080400, 0, 20, .rw, .live, 0x10, 8⟩
/-- HIST_CFG.SRC RW LIVE, reset 0x0 (R507). -/
def HIST_CFG.SRC : Fld := ⟨0x40080400, 20, 4, .rw, .live, 0x10, 8⟩
/-- HIST_CFG.LOG RW LIVE, reset 0 (R507). -/
def HIST_CFG.LOG : Fld := ⟨0x40080400, 30, 1, .rw, .live, 0x10, 8⟩
/-- HIST_CFG.EN RW LIVE, reset 0 (R507). -/
def HIST_CFG.EN : Fld := ⟨0x40080400, 31, 1, .rw, .live, 0x10, 8⟩
/-- HIST_ORG.O RW LIVE, reset 0x0000_0000 (R507). -/
def HIST_ORG.O : Fld := ⟨0x40080404, 0, 32, .rw, .live, 0x10, 8⟩
/-- HIST_CMD.CLEAR WS LIVE, reset 0 (R507). -/
def HIST_CMD.CLEAR : Fld := ⟨0x40080408, 0, 1, .ws, .live, 0x10, 8⟩
/-- HIST_CMD.SNAP WS LIVE, reset 0 (R507). -/
def HIST_CMD.SNAP : Fld := ⟨0x40080408, 1, 1, .ws, .live, 0x10, 8⟩

/-- Fields of PERF, part 0. -/
def rowsPERF0 : List Fld :=
[PERF_CTRL.GLOBAL_EN, PERF_CTRL.PERF_TASK_EN, PERF_CLR.CLR, PERF_SEL.SRC, PERF_SEL.MODE, PERF_SEL.EN, PERF_THR.N,
   PERF_CNT.COUNT, HIST_CFG.W, HIST_CFG.SRC, HIST_CFG.LOG, HIST_CFG.EN, HIST_ORG.O, HIST_CMD.CLEAR, HIST_CMD.SNAP]

/-- Fields of PERF. -/
def rowsPERF : List Fld := rowsPERF0

/-! Block LEDGER. -/

/-- LDG_STAT.DEPTH RO, reset 0x00 (R578). -/
def LDG_STAT.DEPTH : Fld := ⟨0x40090008, 10, 7, .ro, .none, 0, 1⟩
/-- LDG_STAT.BUSY RO, reset 0 (R578). -/
def LDG_STAT.BUSY : Fld := ⟨0x40090008, 17, 1, .ro, .none, 0, 1⟩
/-- LDG_STAT.FULL RO, reset 0 (R578). -/
def LDG_STAT.FULL : Fld := ⟨0x40090008, 18, 1, .ro, .none, 0, 1⟩
/-- LDG_STAT.NVM_FAULT RO, reset 0 (R578). -/
def LDG_STAT.NVM_FAULT : Fld := ⟨0x40090008, 19, 1, .ro, .none, 0, 1⟩
/-- LDG_STAT.OPEN RO, reset 0x00 (R578). -/
def LDG_STAT.OPEN : Fld := ⟨0x40090008, 20, 6, .ro, .none, 0, 1⟩
/-- LDG_CMD.OP WO LIVE, reset 0x0 (R579). -/
def LDG_CMD.OP : Fld := ⟨0x40090010, 0, 4, .wo, .live, 0, 1⟩
/-- LDG_CMD.OBJECT WO LIVE, reset 0x00 (R579). -/
def LDG_CMD.OBJECT : Fld := ⟨0x40090010, 8, 8, .wo, .live, 0, 1⟩
/-- LDG_CMD.BOOKING WO LIVE, reset 0x0000 (R579). -/
def LDG_CMD.BOOKING : Fld := ⟨0x40090010, 16, 16, .wo, .live, 0, 1⟩
/-- LDG_REF_LO.REF RW LIVE, reset 0x0000_0000 (R579). -/
def LDG_REF_LO.REF : Fld := ⟨0x40090014, 0, 32, .rw, .live, 0, 1⟩
/-- LDG_REF_HI.REF RW LIVE, reset 0x0000_0000 (R579). -/
def LDG_REF_HI.REF : Fld := ⟨0x40090018, 0, 32, .rw, .live, 0, 1⟩
/-- LDG_RES.STATUS RO, reset 0x0 (R579). -/
def LDG_RES.STATUS : Fld := ⟨0x4009001C, 0, 4, .ro, .none, 0, 1⟩
/-- LDG_RES.BOOKING RO, reset 0x0000 (R579). -/
def LDG_RES.BOOKING : Fld := ⟨0x4009001C, 16, 16, .ro, .none, 0, 1⟩
/-- LDG_POP.POP WS LIVE, reset 0 (R579). -/
def LDG_POP.POP : Fld := ⟨0x40090020, 0, 1, .ws, .live, 0, 1⟩

/-- Fields of LEDGER, part 0. -/
def rowsLEDGER0 : List Fld :=
[LDG_STAT.DEPTH, LDG_STAT.BUSY, LDG_STAT.FULL, LDG_STAT.NVM_FAULT, LDG_STAT.OPEN, LDG_CMD.OP, LDG_CMD.OBJECT,
   LDG_CMD.BOOKING, LDG_REF_LO.REF, LDG_REF_HI.REF, LDG_RES.STATUS, LDG_RES.BOOKING, LDG_POP.POP]

/-- Fields of LEDGER. -/
def rowsLEDGER : List Fld := rowsLEDGER0

/-! Block HOSTIF. -/

/-- HOST_STAT.LINK_UP RO, reset 0 (R636). -/
def HOST_STAT.LINK_UP : Fld := ⟨0x40400008, 8, 1, .ro, .none, 0, 1⟩
/-- HOST_STAT.SPEED RO, reset 0x0 (R636). -/
def HOST_STAT.SPEED : Fld := ⟨0x40400008, 9, 3, .ro, .none, 0, 1⟩
/-- HOST_STAT.WIDTH RO, reset 0x0 (R636). -/
def HOST_STAT.WIDTH : Fld := ⟨0x40400008, 12, 3, .ro, .none, 0, 1⟩
/-- HOST_BOOT.BOOT_GO WS LIVE, reset 0 (R636). -/
def HOST_BOOT.BOOT_GO : Fld := ⟨0x40400010, 0, 1, .ws, .live, 0, 1⟩
/-- HOST_BOOT.LAST_ERR RO, reset 0x0 (R636). -/
def HOST_BOOT.LAST_ERR : Fld := ⟨0x40400010, 20, 4, .ro, .none, 0, 1⟩
/-- HOST_BOOT.BOOT_SERVE RW LIVE, reset 0 (R636). -/
def HOST_BOOT.BOOT_SERVE : Fld := ⟨0x40400010, 26, 1, .rw, .live, 0, 1⟩
/-- HOST_BOOT.SLOT RO, reset 0 (R636). -/
def HOST_BOOT.SLOT : Fld := ⟨0x40400010, 27, 1, .ro, .none, 0, 1⟩
/-- HOST_BOOT.SRC RO, reset 0b00 (R636). -/
def HOST_BOOT.SRC : Fld := ⟨0x40400010, 28, 2, .ro, .none, 0, 1⟩
/-- HOST_BOOT.BOOTSEL RO, reset pins (R636). -/
def HOST_BOOT.BOOTSEL : Fld := ⟨0x40400010, 30, 2, .ro, .none, 0, 1⟩
/-- HOST_IRQ_STAT.STAT W1C, reset 0b000 (R636). -/
def HOST_IRQ_STAT.STAT : Fld := ⟨0x40400014, 0, 3, .w1c, .none, 0, 1⟩
/-- HOST_IRQ_MASK.MASK RW LIVE, reset 0b000 (R636). -/
def HOST_IRQ_MASK.MASK : Fld := ⟨0x40400018, 0, 3, .rw, .live, 0, 1⟩
/-- MBOX_H2S.LEN RW LIVE, reset 0x0000 (R636). -/
def MBOX_H2S.LEN : Fld := ⟨0x40400020, 0, 13, .rw, .live, 0, 1⟩
/-- MBOX_H2S.RING WS LIVE, reset 0 (R636). -/
def MBOX_H2S.RING : Fld := ⟨0x40400020, 28, 1, .ws, .live, 0, 1⟩
/-- MBOX_H2S.ACK WS LIVE, reset 0 (R636). -/
def MBOX_H2S.ACK : Fld := ⟨0x40400020, 29, 1, .ws, .live, 0, 1⟩
/-- MBOX_H2S.DROP W1C, reset 0 (R636). -/
def MBOX_H2S.DROP : Fld := ⟨0x40400020, 30, 1, .w1c, .none, 0, 1⟩
/-- MBOX_H2S.FULL RO, reset 0 (R636). -/
def MBOX_H2S.FULL : Fld := ⟨0x40400020, 31, 1, .ro, .none, 0, 1⟩
/-- MBOX_S2H.LEN RW LIVE, reset 0x0000 (R636). -/
def MBOX_S2H.LEN : Fld := ⟨0x40400024, 0, 13, .rw, .live, 0, 1⟩
/-- MBOX_S2H.RING WS LIVE, reset 0 (R636). -/
def MBOX_S2H.RING : Fld := ⟨0x40400024, 28, 1, .ws, .live, 0, 1⟩
/-- MBOX_S2H.ACK WS LIVE, reset 0 (R636). -/
def MBOX_S2H.ACK : Fld := ⟨0x40400024, 29, 1, .ws, .live, 0, 1⟩
/-- MBOX_S2H.DROP W1C, reset 0 (R636). -/
def MBOX_S2H.DROP : Fld := ⟨0x40400024, 30, 1, .w1c, .none, 0, 1⟩
/-- MBOX_S2H.FULL RO, reset 0 (R636). -/
def MBOX_S2H.FULL : Fld := ⟨0x40400024, 31, 1, .ro, .none, 0, 1⟩
/-- HOST_ERR.OFFSET RO, reset 0x00_0000 (R636). -/
def HOST_ERR.OFFSET : Fld := ⟨0x40400028, 0, 23, .ro, .none, 0, 1⟩
/-- HOST_ERR.VALID W1C, reset 0 (R636). -/
def HOST_ERR.VALID : Fld := ⟨0x40400028, 31, 1, .w1c, .none, 0, 1⟩
/-- DMA_WIN.BASE RW LIVE, reset 0x00 (R636). -/
def DMA_WIN.BASE : Fld := ⟨0x40400030, 0, 8, .rw, .live, 0, 1⟩
/-- DMA_WIN.LIMIT RW LIVE, reset 0x00 (R636). -/
def DMA_WIN.LIMIT : Fld := ⟨0x40400030, 16, 8, .rw, .live, 0, 1⟩
/-- DMA_HADDR.HADDR RW LIVE, reset 0x0000_0000 (R636). -/
def DMA_HADDR.HADDR : Fld := ⟨0x40400040, 0, 32, .rw, .live, 0x20, 2⟩
/-- DMA_HADDR_HI.HADDR RW LIVE, reset 0x0000_0000 (R636). -/
def DMA_HADDR_HI.HADDR : Fld := ⟨0x40400044, 0, 32, .rw, .live, 0x20, 2⟩
/-- DMA_DADDR.DADDR RW LIVE, reset 0x0000_0000 (R636). -/
def DMA_DADDR.DADDR : Fld := ⟨0x40400048, 0, 32, .rw, .live, 0x20, 2⟩
/-- DMA_LEN.LEN RW LIVE, reset 0x0_0000 (R636). -/
def DMA_LEN.LEN : Fld := ⟨0x4040004C, 0, 21, .rw, .live, 0x20, 2⟩
/-- DMA_CTRL.STATUS RO, reset 0x0 (R636). -/
def DMA_CTRL.STATUS : Fld := ⟨0x40400050, 24, 4, .ro, .none, 0x20, 2⟩
/-- DMA_CTRL.BUSY RO, reset 0 (R636). -/
def DMA_CTRL.BUSY : Fld := ⟨0x40400050, 29, 1, .ro, .none, 0x20, 2⟩
/-- DMA_CTRL.DIR RW LIVE, reset 0 (R636). -/
def DMA_CTRL.DIR : Fld := ⟨0x40400050, 30, 1, .rw, .live, 0x20, 2⟩
/-- DMA_CTRL.START WS LIVE, reset 0 (R636). -/
def DMA_CTRL.START : Fld := ⟨0x40400050, 31, 1, .ws, .live, 0x20, 2⟩
/-- ID_CTRL.OVR RW LIVE, reset 0b00 (R636). -/
def ID_CTRL.OVR : Fld := ⟨0x404000A0, 0, 2, .rw, .live, 0, 1⟩
/-- ID_CTRL.REREAD WS LIVE, reset 0b00 (R636). -/
def ID_CTRL.REREAD : Fld := ⟨0x404000A0, 16, 2, .ws, .live, 0, 1⟩
/-- ID_STAT.STATE_A RO, reset 0b00 (R636). -/
def ID_STAT.STATE_A : Fld := ⟨0x404000A4, 0, 2, .ro, .none, 0, 1⟩
/-- ID_STAT.STATE_B RO, reset 0b00 (R636). -/
def ID_STAT.STATE_B : Fld := ⟨0x404000A4, 8, 2, .ro, .none, 0, 1⟩
/-- HOST_LC.LC_STATE RO, reset fuses (R636). -/
def HOST_LC.LC_STATE : Fld := ⟨0x404000B0, 0, 2, .ro, .none, 0, 1⟩
/-- HOST_LC.ROLLBACK RO, reset fuses (R636). -/
def HOST_LC.ROLLBACK : Fld := ⟨0x404000B0, 8, 7, .ro, .none, 0, 1⟩
/-- HOST_LC.FUSED RO, reset fuses (R636). -/
def HOST_LC.FUSED : Fld := ⟨0x404000B0, 20, 4, .ro, .none, 0, 1⟩
/-- HOST_LC.LC_REJ RO, reset 0x0 (R636). -/
def HOST_LC.LC_REJ : Fld := ⟨0x404000B0, 24, 4, .ro, .none, 0, 1⟩
/-- HOST_LC.REVOKED RO, reset fuses (R636). -/
def HOST_LC.REVOKED : Fld := ⟨0x404000B0, 28, 4, .ro, .none, 0, 1⟩
/-- LC_CMD.OP WO LIVE, reset 0x0 (R636). -/
def LC_CMD.OP : Fld := ⟨0x404000B4, 0, 4, .wo, .live, 0, 1⟩
/-- LC_CMD.N WO LIVE, reset 0x0 (R636). -/
def LC_CMD.N : Fld := ⟨0x404000B4, 4, 4, .wo, .live, 0, 1⟩
/-- LC_CMD.KEY WO LIVE, reset 0x0000 (R636). -/
def LC_CMD.KEY : Fld := ⟨0x404000B4, 16, 16, .wo, .live, 0, 1⟩
/-- UB_STAT.FAILS RO, reset 0x0 (R636). -/
def UB_STAT.FAILS : Fld := ⟨0x404000C0, 0, 4, .ro, .none, 0, 1⟩
/-- UB_STAT.HALTED RO, reset 0 (R636). -/
def UB_STAT.HALTED : Fld := ⟨0x404000C0, 29, 1, .ro, .none, 0, 1⟩
/-- UB_STAT.LOCKOUT RO, reset 0 (R636). -/
def UB_STAT.LOCKOUT : Fld := ⟨0x404000C0, 30, 1, .ro, .none, 0, 1⟩
/-- UB_STAT.UNLOCKED RO, reset 0 (R636). -/
def UB_STAT.UNLOCKED : Fld := ⟨0x404000C0, 31, 1, .ro, .none, 0, 1⟩
/-- UB_CTRL.DBG_BLOCK RW LIVE, reset 0 (R636). -/
def UB_CTRL.DBG_BLOCK : Fld := ⟨0x404000C4, 0, 1, .rw, .live, 0, 1⟩
/-- SPI_CMD.LEN RW LIVE, reset 0x000 (R636). -/
def SPI_CMD.LEN : Fld := ⟨0x404000E0, 0, 9, .rw, .live, 0, 1⟩
/-- SPI_CMD.OPCODE RW LIVE, reset 0x00 (R636). -/
def SPI_CMD.OPCODE : Fld := ⟨0x404000E0, 16, 8, .rw, .live, 0, 1⟩
/-- SPI_CMD.ADDR_EN RW LIVE, reset 0 (R636). -/
def SPI_CMD.ADDR_EN : Fld := ⟨0x404000E0, 28, 1, .rw, .live, 0, 1⟩
/-- SPI_CMD.DIR RW LIVE, reset 0 (R636). -/
def SPI_CMD.DIR : Fld := ⟨0x404000E0, 29, 1, .rw, .live, 0, 1⟩
/-- SPI_CMD.BUSY RO, reset 0 (R636). -/
def SPI_CMD.BUSY : Fld := ⟨0x404000E0, 30, 1, .ro, .none, 0, 1⟩
/-- SPI_CMD.START WS LIVE, reset 0 (R636). -/
def SPI_CMD.START : Fld := ⟨0x404000E0, 31, 1, .ws, .live, 0, 1⟩
/-- SPI_ADDR.ADDR RW LIVE, reset 0x00_0000 (R636). -/
def SPI_ADDR.ADDR : Fld := ⟨0x404000E4, 0, 24, .rw, .live, 0, 1⟩

/-- Fields of HOSTIF, part 0. -/
def rowsHOSTIF0 : List Fld :=
[HOST_STAT.LINK_UP, HOST_STAT.SPEED, HOST_STAT.WIDTH, HOST_BOOT.BOOT_GO, HOST_BOOT.LAST_ERR, HOST_BOOT.BOOT_SERVE,
   HOST_BOOT.SLOT, HOST_BOOT.SRC, HOST_BOOT.BOOTSEL, HOST_IRQ_STAT.STAT, HOST_IRQ_MASK.MASK, MBOX_H2S.LEN,
   MBOX_H2S.RING, MBOX_H2S.ACK, MBOX_H2S.DROP, MBOX_H2S.FULL, MBOX_S2H.LEN, MBOX_S2H.RING, MBOX_S2H.ACK,
   MBOX_S2H.DROP, MBOX_S2H.FULL, HOST_ERR.OFFSET, HOST_ERR.VALID, DMA_WIN.BASE, DMA_WIN.LIMIT, DMA_HADDR.HADDR,
   DMA_HADDR_HI.HADDR, DMA_DADDR.DADDR, DMA_LEN.LEN, DMA_CTRL.STATUS, DMA_CTRL.BUSY, DMA_CTRL.DIR, DMA_CTRL.START,
   ID_CTRL.OVR, ID_CTRL.REREAD, ID_STAT.STATE_A, ID_STAT.STATE_B, HOST_LC.LC_STATE, HOST_LC.ROLLBACK,
   HOST_LC.FUSED]
/-- Fields of HOSTIF, part 1. -/
def rowsHOSTIF1 : List Fld :=
[HOST_LC.LC_REJ, HOST_LC.REVOKED, LC_CMD.OP, LC_CMD.N, LC_CMD.KEY, UB_STAT.FAILS, UB_STAT.HALTED, UB_STAT.LOCKOUT,
   UB_STAT.UNLOCKED, UB_CTRL.DBG_BLOCK, SPI_CMD.LEN, SPI_CMD.OPCODE, SPI_CMD.ADDR_EN, SPI_CMD.DIR, SPI_CMD.BUSY,
   SPI_CMD.START, SPI_ADDR.ADDR]

/-- Fields of HOSTIF. -/
def rowsHOSTIF : List Fld := rowsHOSTIF0 ++ rowsHOSTIF1

end Sys2Proof.Machine.R
end

