-- ==== Sys2Proof/Machine/Store.lean ====
section
/-! DEFINITION. The one canonical form in which the model holds everything that has an address or a number: a list of
(key, value) pairs with keys strictly rising. A `Map Nat` that stands for storage lists no entry equal to 0, so that
equal contents are equal lists. -/

namespace Sys2Proof.Machine

/-- A sparse table: pairs of a key and a value. -/
abbrev Map (α : Type) := List (Nat × α)

/-- The value listed at a key. -/
def Map.find {α : Type} : Map α → Nat → Option α
  | [], _ => none
  | (k, v) :: m, i => if k = i then some v else Map.find m i

/-- The table without a key. -/
def Map.erase {α : Type} (m : Map α) (i : Nat) : Map α := m.filter (fun p => p.1 ≠ i)

/-- A pair put before the first larger key. -/
def Map.insert {α : Type} : Map α → Nat → α → Map α
  | [], i, v => [(i, v)]
  | (k, w) :: m, i, v => if i < k then (i, v) :: (k, w) :: m else (k, w) :: Map.insert m i v

/-- The table with `v` at key `i`. -/
def Map.put {α : Type} (m : Map α) (i : Nat) (v : α) : Map α := (m.erase i).insert i v

/-- The value at a key of storage, 0 where nothing is listed. -/
def Map.get (m : Map Nat) (i : Nat) : Nat := (m.find i).getD 0

/-- Storage with `v` at key `i`: writing 0 removes the entry. -/
def Map.set (m : Map Nat) (i v : Nat) : Map Nat := if v = 0 then m.erase i else m.put i v

/-- The table with the entry `v` at a key, or without one where `v` is the default `d`. -/
def Map.putD {α : Type} [DecidableEq α] (d : α) (m : Map α) (i : Nat) (v : α) : Map α :=
  if v = d then m.erase i else m.put i v

/-- The keys from `lo` up to but not including `hi`, taken from `src`; every other key from `m`. -/
def Map.restore {α : Type} (lo hi : Nat) (src m : Map α) : Map α :=
  m.filter (fun p => p.1 < lo) ++ (src.filter (fun p => lo ≤ p.1 ∧ p.1 < hi) ++ m.filter (fun p => hi ≤ p.1))

/-- Keys strictly rising. -/
def Map.sorted {α : Type} : Map α → Bool
  | [] => true
  | [_] => true
  | (k, _) :: (k', w) :: m => decide (k < k') && Map.sorted ((k', w) :: m)

/-- Storage in canonical form: keys strictly rising, no entry equal to what an unlisted key reads as. -/
def Map.wf (m : Map Nat) : Bool := m.sorted && m.all (fun p => p.2 ≠ 0)

end Sys2Proof.Machine
end

