-- ==== Sys2Proof/Machine/RegsReset.lean ====
section
/-! DEFINITION. The reset values of the register fields that are not 0, in rising order of address, from the register tables
of the spec (R13, R17 and each chapter). A field without an entry resets to 0. -/

namespace Sys2Proof.Machine.R

open Sys2Proof

/-- Reset values of SYS that are not 0. -/
def resetSYS : Map Nat :=
[((runF .sys).key, 1), ((runningF .sys).key, 1), ((cpSelF .sys).key, 1), ((SYS_DEVID.DEVICE_ID).key,
    0x5A1740B0), ((SYS_STATE.STATE).key, 0x1)]

/-- Reset values of CLK that are not 0. -/
def resetCLK : Map Nat :=
[((runF .clk).key, 1), ((runningF .clk).key, 1), ((cpSelF .clk).key, 1), ((CLK_XO_STAT.AMP_OK).key, 0x1),
    ((CLK_DPLL_CTRL.BW).key, 0x3), ((CLK_DPLL_CTRL.HOLD_AVG).key, 0x1), ((CLK_WIN.SOFT).key, 0x14),
    ((CLK_WIN.HARD).key, 0x5C), ((CLK_WIN.REF_AGREE).key, 0xA)] ++
(List.range 3).flatMap (fun i => [((CLK_REF_CFG.FREQ_HZ.ix i).key, 0x989680)]) ++
(List.range 4).flatMap (fun i => [((CLK_MON.LOA.ix i).key, 0x1), ((CLK_MON.HARD_OUT.ix i).key, 0x1)]) ++
(List.range 8).flatMap (fun i => [((CLK_MUX.CUR.ix i).key, 0x2), ((CLK_MUX.SWITCHING.ix i).key, 0x1)]) ++
[((FMEAS_CTRL.GATE_LOG2).key, 0x14)]

/-- Reset values of TIME that are not 0. -/
def resetTIME : Map Nat :=
[((runF .time).key, 1), ((runningF .time).key, 1), ((cpSelF .time).key, 1), ((TIME_CTRL.SW_SLEW).key, 0xA),
    ((TIME_CTRL.TIME_AGREE).key, 0x32)] ++
(List.range 2).flatMap (fun i => [((TD_CTRL.LEASE_S.ix i).key, 0x4), ((TD_CTRL.SLEW_RATE.ix i).key, 0x64)]) ++
[((PPS_OUT_CFG.WIDTH).key, 0x64)] ++
(List.range 4).flatMap (fun i => [((VTB_CFG.VF_WIDTH.ix i).key, 0x1F4), ((VTB_CFG.RATE.ix i).key, 0x5),
    ((VTB_CFG.RASTER.ix i).key, 0x3)])

/-- Reset values of SCHED that are not 0. -/
def resetSCHED : Map Nat :=
[((runF .sched).key, 1), ((runningF .sched).key, 1), ((cpSelF .sched).key, 1), ((SCHED_CTRL.TASK_LIMIT).key,
    0xF00)]

/-- Reset values of PWR that are not 0. -/
def resetPWR : Map Nat :=
[((runF .pwr).key, 1), ((runningF .pwr).key, 1), ((PWR_STAT.BAND).key, 0x1), ((cpSelF .pwr).key, 1),
    ((PWR_DOM_EN.EN).key, 0x1F), ((PWR_DOM_STAT.ON).key, 0x1F), ((PWR_RAIL.GOOD).key, 0x3FF),
    ((THERM_TEMP.TMAX).key, 0x8000)]

/-- Reset values of MADC that are not 0. -/
def resetMADC : Map Nat :=
[((cpSelF .madc).key, 1), ((MADC_CFG.RATE).key, 0x4), ((MADC_CFG.ORDER).key, 0x3), ((MADC_FS.FS_CODE).key,
    0x700000)] ++
(List.range 16).flatMap (fun i => [((MADC_GAIN.GAIN.ix i).key, 0x400000)])

/-- Reset values of EVENT that are not 0. -/
def resetEVENT : Map Nat :=
[((runF .event).key, 1), ((runningF .event).key, 1), ((cpSelF .event).key, 1), ((VOTE_STAT.EXCLUDED).key, 0x3),
    ((VOTE_CTRL.RESYNC_WAIT).key, 0x64), ((MEM_CTRL.SCRUB_LOG2).key, 0x6), ((MEM_CTRL.THRESH).key, 0x40),
    ((MEM_CTRL.LEAK_PERIOD).key, 0x3E8)]

/-- Reset values of PAIR that are not 0. -/
def resetPAIR : Map Nat :=
[((runF .pair).key, 1), ((runningF .pair).key, 1), ((cpSelF .pair).key, 1), ((PAIR_CFG.HB_PERIOD).key, 0x64),
    ((PAIR_CFG.SYNC_PERIOD).key, 0xA), ((PAIR_CFG.PSR_EN).key, 0x3), ((PAIR_CFG.REVERT).key, 0x1),
    ((PAIR_CFG.HB_POD_EN).key, 0x1), ((PAIR_TIMERS.KICK_MS).key, 0x64), ((PAIR_TIMERS.WTR_S).key, 0x12C),
    ((PAIR_MASK.FAULT_MASK).key, 0xF0D), ((PAIR_HEALTH.HEALTH).key, 0x10000000)]

/-- Reset values of PERF that are not 0. -/
def resetPERF : Map Nat :=
[((runF .perf).key, 1), ((runningF .perf).key, 1), ((cpSelF .perf).key, 1)] ++
(List.range 8).flatMap (fun i => [((HIST_CFG.W.ix i).key, 0x64)])

/-- Reset values of LEDGER that are not 0. -/
def resetLEDGER : Map Nat :=
[((runF .ledger).key, 1), ((runningF .ledger).key, 1), ((cpSelF .ledger).key, 1)]

/-- Reset values of TX that are not 0. -/
def resetTX (c : Carrier) : Map Nat :=
[((TX_STAT.MUTED.on c).key, 0x1), ((TX_STAT.MUTE_CTRL.on c).key, 0x1), ((TX_STAT.MUTE_GATE.on c).key, 0x1),
    ((TX_STAT.MUTE_STOP.on c).key, 0x1), ((TX_RATE.SYM_RATE.on c).key, 0x3A980), ((TX_MOD.ENTROPY.on c).key,
    0x28), ((TX_SHAPE.ROLLOFF.on c).key, 0xA), ((TX_SHAPE.SCALE.on c).key, 0x200), ((TX_PILOT.SEED_X.on c).key,
    0x1), ((TX_PILOT.SEED_Y.on c).key, 0x5A5A), ((TX_CTRL.MUTE.on c).key, 0x1), ((TX_FILL.FILL_MIN.on c).key,
    0xFFF)]

/-- Reset values of CONV that are not 0. -/
def resetCONV (c : Carrier) : Map Nat :=
(List.range 2).flatMap (fun i => [((CONV_RATE.RATE.ix i |>.on c).key, 0x41EB0)]) ++
[((CONV_CTRL.ADC_EN.on c).key, 0x1), ((CONV_CTRL.DAC_EN.on c).key, 0x1), ((CAL_CTRL.BG_MODE.on c).key, 0x1),
    ((CAL_CTRL.CAL_TOL.on c).key, 0x2), ((CAL_CTRL.CAL_DELTA.on c).key, 0x8), ((TIA_CTRL.AGC_TARGET.on c).key,
    0x50)] ++
(List.range 4).flatMap (fun i => [((TIA_CODE.CODE.ix i |>.on c).key, 0x200), ((TIA_CODE.CUR.ix i |>.on c).key,
    0x200)]) ++
[((DAC_EMPH.COLD.on c).key, 0xA), ((DAC_EMPH.MID.on c).key, 0xF), ((DAC_EMPH.HOT.on c).key, 0x16)]

/-- Reset values of RXDSP that are not 0. -/
def resetRXDSP (c : Carrier) : Map Nat :=
[((RXDSP_STAT.LOL.on c).key, 0x1), ((RX_RATE.SYM_RATE.on c).key, 0x3A980), ((RX_MOD.ENTROPY.on c).key, 0x28),
    ((RX_MOD.LLR_SCALE.on c).key, 0x1), ((RX_MOD.FOLLOW.on c).key, 0x1), ((RX_CD.TRACK.on c).key, 0x1),
    ((RX_FREQ.FREQ_GHZ.on c).key, 0x2F24C), ((RX_SHIFT.SH_FF.on c).key, 0x4), ((RX_SHIFT.SH_RS.on c).key, 0x4),
    ((RX_SHIFT.SH_CD.on c).key, 0x4), ((RX_SHIFT.SH_FFE.on c).key, 0x4), ((RX_SHIFT.SH_DFE.on c).key, 0x4),
    ((RX_FFE_CTRL.MU_CMA.on c).key, 0xA), ((RX_FFE_CTRL.MU_DD.on c).key, 0xB), ((RX_FFE_CTRL.MU_PIL.on c).key,
    0x9), ((RX_FFE_CTRL.LEAK.on c).key, 0xE), ((RX_DFE_CTRL.MU_DFE.on c).key, 0xC), ((RX_DFE_CTRL.DFE_EN.on
    c).key, 0x1), ((RX_CR_CTRL.CR_WIN.on c).key, 0x5), ((RX_CR_CTRL.PILOT_AVG.on c).key, 0x3),
    ((RX_CR_CTRL.FLL_BW.on c).key, 0x1), ((RX_CR_CTRL.TR_BW.on c).key, 0x1), ((RX_LOL_CTRL.LOL_THR.on c).key,
    0x40), ((RX_LOL_CTRL.LOL_HYST.on c).key, 0x10), ((RX_LOL_CTRL.LOL_CLR.on c).key, 0x40),
    ((RX_LOL_CTRL.LOL_SET.on c).key, 0x4), ((RX_SEED_CTRL.AUTO_SEED.on c).key, 0x1),
    ((RX_SEED_CTRL.SEED_REUSE.on c).key, 0x1), ((RX_SEED_CTRL.SEED_PERIOD.on c).key, 0x6),
    ((RX_ACQ_CTRL.ACQ_TIMEOUT.on c).key, 0x1E), (((RX_FF_COEF.COEF.ix 7).on c).key, 0x100),
    (((RX_FF_COEF.COEF.ix 23).on c).key, 0x100), (((RX_FF_COEF.COEF.ix 39).on c).key, 0x100),
    (((RX_FF_COEF.COEF.ix 55).on c).key, 0x100)]

/-- Reset values of DAWN that are not 0. -/
def resetDAWN (c : Carrier) : Map Nat :=
[((DAWN_CTRL.SYNC_WIN.on c).key, 0x7000), ((DAWN_CTRL.BUDGET_NS.on c).key, 0x5DC), (((DAWN_RATE.SYM_RATE.ix
    0).on c).key, 0x3A980), ((DAWN_RATE.EN.on c).key, 1), (((DAWN_RATE.SYM_RATE.ix 1).on c).key, 0x3A980),
    (((DAWN_RATE.SYM_RATE.ix 2).on c).key, 0x3A980), (((DAWN_RATE.SYM_RATE.ix 3).on c).key, 0x3A980),
    ((DAWN_DET.DET_THR.on c).key, 0xA0), ((DAWN_DET.METRIC_MARGIN.on c).key, 0x8), ((DAWN_DET.CAPTURE_DB.on
    c).key, 0x6), ((DAWN_AGC.PRESET.on c).key, 0x200), ((DAWN_AGC.TARGET.on c).key, 0x50),
    ((DAWN_AGC.BURST_THR.on c).key, 0x40), ((DAWN_SEED_CTRL.SEED_MIN_SNR.on c).key, 0x64),
    ((DAWN_SEED_CTRL.STALE_S.on c).key, 0x3C), ((DAWN_SSI_CAL.SLOPE.on c).key, 0x40), ((DAWN_BEXA.BEXA_THR.on
    c).key, 0x40), ((DAWN_BEXA.DWELL.on c).key, 0x10)]

/-- Reset values of FEC that are not 0. -/
def resetFEC (c : Carrier) : Map Nat :=
[((FEC_CODE.TX_RATE.on c).key, 0x1), ((FEC_CODE.RX_RATE.on c).key, 0x1), ((FEC_CODE.ENC_EN.on c).key, 0x1),
    ((FEC_CODE.DEC_EN.on c).key, 0x1), ((FEC_CODE.NORM.on c).key, 0x2), ((FEC_POOL_CTRL.POOL_CAP.on c).key,
    0x4000), ((FEC_POOL_CTRL.ITER_MAX.on c).key, 0x18), ((FEC_MON_CTRL.INTERVAL_LOG2.on c).key, 0x15),
    ((FEC_MON_CTRL.MARGIN_WARN.on c).key, 0x64)]

/-- Reset values of FRAMER that are not 0. -/
def resetFRAMER (c : Carrier) : Map Nat :=
[((FRM_STAT.SSF.on c).key, 0x1), ((FRM_CFG.N.on c).key, 0x14), ((FRM_CFG.PT_CHK.on c).key, 0x1),
    ((FRM_CFG.EXP_PT.on c).key, 0x8A), ((FRM_CFG.TX_PT.on c).key, 0x8A), ((FRM_DEG.DEGTHR.on c).key, 0x64),
    ((FRM_DEG.DEGM.on c).key, 0x7), ((FRM_ACT.PSR_MASK.on c).key, 0x1F), ((FRM_DUAL.WTR.on c).key, 0x5)]

/-- Reset values of CIPHER that are not 0. -/
def resetCIPHER (c : Carrier) : Map Nat :=
[((CIPH_CFG.SEG_KIB.on c).key, 0x80)]

/-- Reset values of CLIENT that are not 0. -/
def resetCLIENT : Map Nat :=
[((cpSelF .client).key, 1)] ++
(List.range 24).flatMap (fun i => [((CL_PORT_CFG.MTU.ix i).key, 0x2580)])

/-- Reset values of FLOW that are not 0. -/
def resetFLOW : Map Nat :=
[((cpSelF .flow).key, 1)]

/-- Reset values of STORE that are not 0. -/
def resetSTORE : Map Nat :=
[((cpSelF .store).key, 1), ((STORE_ECC_CTRL.THRESH).key, 0x40), ((STORE_ECC_CTRL.LEAK_PERIOD).key, 0x3E8),
    ((STORE_WEAR_CTRL.WEAR_SWAP).key, 0x1000), ((STORE_PTR_CTRL.PTR_PERIOD).key, 0x40)] ++
(List.range 16).flatMap (fun i => [((RPL_DEST.RW_SEQ.ix i).key, 0x1), ((RPL_DEST.RW_TS.ix i).key, 0x1)])

/-- Reset values of LANES that are not 0. -/
def resetLANES : Map Nat :=
[((cpSelF .lanes).key, 1)] ++
(List.range 48).flatMap (fun i => [((LN_CTRL.PAT_RATE.ix i).key, 0x3), ((LN_CTRL.AUTO_POL.ix i).key, 0x1),
    ((LN_FIR.MAIN.ix i).key, 0x3F), ((LN_STAT.STATE.ix i).key, 0x1), ((LN_PAT.CHK_SEL.ix i).key, 0x4),
    ((LN_PAT.GEN_SEL.ix i).key, 0x4)])

/-- Reset values of POD that are not 0. -/
def resetPOD : Map Nat :=
[((cpSelF .pod).key, 1), ((POD_CFG.TIME_PERIOD).key, 0x64), ((POD_CFG.RETRY_MAX).key, 0x3)]

/-- Reset values of HOSTIF that are not 0. -/
def resetHOSTIF : Map Nat :=
[((runF .hostif).key, 1), ((runningF .hostif).key, 1), ((cpSelF .hostif).key, 1)]

/-- Reset values of the lane registers of the Pod lanes, whose windows lie in POD (R410). -/
def resetPodLanes : Map Nat :=
  (List.range 24).flatMap (fun i => [(({ LN_CTRL.PAT_RATE with addr := LN_CTRL.PAT_RATE.addr + 0x10000 } : Fld).ix i |>.key, 0x3),
    (({ LN_CTRL.AUTO_POL with addr := LN_CTRL.AUTO_POL.addr + 0x10000 } : Fld).ix i |>.key, 0x1),
    (({ LN_FIR.MAIN with addr := LN_FIR.MAIN.addr + 0x10000 } : Fld).ix i |>.key, 0x3F),
    (({ LN_STAT.STATE with addr := LN_STAT.STATE.addr + 0x10000 } : Fld).ix i |>.key, 0x1),
    (({ LN_PAT.CHK_SEL with addr := LN_PAT.CHK_SEL.addr + 0x10000 } : Fld).ix i |>.key, 0x4),
    (({ LN_PAT.GEN_SEL with addr := LN_PAT.GEN_SEL.addr + 0x10000 } : Fld).ix i |>.key, 0x4)])

/-- Reset values of the seven sub-blocks of a carrier. -/
def resetCarrier (c : Carrier) : Map Nat :=
  resetTX c ++ resetCONV c ++ resetRXDSP c ++ resetDAWN c ++ resetFEC c ++ resetFRAMER c ++ resetCIPHER c

/-- Every reset value that is not 0, keys rising. -/
def resets : Map Nat :=
  resetSYS ++ resetCLK ++ resetTIME ++ resetSCHED ++ resetPWR ++ resetMADC ++ resetEVENT ++ resetPAIR ++ resetPERF ++ resetLEDGER ++
  resetCarrier .A ++ resetCarrier .B ++ resetCLIENT ++ resetFLOW ++ resetSTORE ++ resetLANES ++
  resetPOD ++ resetPodLanes ++ resetHOSTIF

end Sys2Proof.Machine.R
end

