-- ==== Sys2Proof/Machine/State.lean ====
section
/-! DEFINITION. The state of the device: every register field (`regs`, `shadow`), every piece of state that no register
shows, and the queue of commands. Plain data throughout. -/

namespace Sys2Proof.Machine

open Sys2Proof

/-- One value for each carrier. -/
structure AB (α : Type) where
  A : α
  B : α
  deriving DecidableEq, Repr

/-- The value of a carrier. -/
def AB.get {α : Type} (p : AB α) : Carrier → α
  | .A => p.A
  | .B => p.B

/-- The pair with a carrier's value replaced. -/
def AB.set {α : Type} (p : AB α) (c : Carrier) (v : α) : AB α :=
  match c with
  | .A => { p with A := v }
  | .B => { p with B := v }

/-- An entry of the event queue (R496): ID, COUNT, data and AON time of the first occurrence. -/
structure Ev where
  id : Nat
  count : Nat
  data : Nat
  time : Nat
  deriving DecidableEq, Repr

/-- The event queue (R496 to R499): entries oldest first, COUNT of the head at the owner's last snapshot, data and time
of the first raise of the head's ID after it. -/
structure EvQ where
  entries : List Ev
  snap : Option Nat
  recorded : Option (Nat × Nat)
  deriving DecidableEq, Repr

/-- The scales of a scheduler entry (R458, R468). -/
inductive Scale where
  | tbt | p | s
  deriving DecidableEq, Repr

/-- A launch handed to TX (R66, R462): the slot of its entry, its scale and time in ns, its frame count N. -/
structure Launch where
  idx : Nat
  scale : Scale
  time : Nat
  frames : Nat
  deriving DecidableEq, Repr

/-- A frame as TX sends it (R47, R70): HDR, modulation and entropy code, PILOT_GAIN, pilot seeds, and the bits that enter the
matcher, traffic blocks first. -/
structure TxFrame where
  header : Nat
  md : Nat
  ent : Nat
  gain : Nat
  seedX : Nat
  seedY : Nat
  bits : BitStr
  deriving DecidableEq, Repr

/-- What TX shapes: nothing, a preamble with its descriptor and PILOT_GAIN (R182), a line frame (R47), a frame of BEXA or of
ZR400 (R70). -/
inductive TxWave where
  | idle
  | preamble (desc gain : Nat)
  | line (f : TxFrame)
  | bexa (gain : Nat) (bits : BitStr)
  | zr (bits : BitStr)
  deriving DecidableEq, Repr

/-- TX (02_transmit_path.md): FCOUNT of the next frame (R48), frames in a row with FILL 0 and whether R52 has raised its
event since a frame with FILL above 0, the last header (R48), launches handed on (R462, R66), the lookup table words that
differ from the linear table (R59), the driver emphasis in force (R117), the register of the fill blocks' PRBS-31 (R51) and
of PRBS-31 and PRBS-23 of TX_DIAG (R87), what TX shapes now and what it shaped before (R46). -/
structure TxH where
  nextFcount : Nat
  fillZeroRun : Nat
  headroomRaised : Bool
  header : Nat
  launches : List Launch
  lut : Map Nat
  emph : Nat
  fillReg : Nat
  patReg : Nat
  pat23 : Nat
  wave : TxWave
  past : TxWave
  deriving DecidableEq, Repr

/-- TX after reset: the generators hold ones (log entry 95). -/
def TxH.reset : TxH := ⟨0, 0, false, 0, [], [], 15, 2 ^ 31 - 1, 2 ^ 31 - 1, 2 ^ 23 - 1, .idle, .idle⟩

/-- All trims 0 (R94). -/
def trimZero : Trim := ⟨0, 0, 0⟩

/-- The states of a background step (R98). -/
inductive StepSt where
  | idle | shadowIn | measure | ramp | verify | parked
  deriving DecidableEq, Repr

/-- The background step of one ADC (R98): state, slot, rounds done, match failures, what the spare still has to move,
the whole delta, the slice's old and new trims, whether the slice is on new trims, whether rotation has stopped, whether
every slice of the pass was accepted (R96), steps ended in this pass. -/
structure AdcStep where
  st : StepSt
  slot : Nat
  rounds : Nat
  fails : Nat
  left : Trim
  delta : Trim
  old : Trim
  new : Trim
  onNew : Bool
  stopped : Bool
  allOk : Bool
  steps : Nat
  deriving DecidableEq, Repr

/-- An ADC with no step. -/
def AdcStep.reset : AdcStep := ⟨.idle, 0, 0, 0, trimZero, trimZero, trimZero, trimZero, false, false, true, 0⟩

/-- The image job in progress (R110, R111). -/
inductive ImgJob where
  | none | snap | load
  deriving DecidableEq, Repr

/-- CONV (03_converters.md): the calibration sets, word by word as the image of R109 lays out words 8 to 802 (key = word
minus 8), which sets are valid (R106), the trims applied and the trims they move towards (R100, R107), keyed 65a + j for
slice j of ADC a and 260 + d for DAC d, the trims applied when the pass or foreground calibration started (R106), the
four steps, temperature of the last completed pass and of the pass or calibration in progress in 1/16 °C, its set, whether
foreground calibration belongs to a start (R92), the image job. -/
structure ConvH where
  sets : Map Nat
  setValid : Nat
  applied : Map Nat
  target : Map Nat
  atStart : Map Nat
  adc : List AdcStep
  tLast : Int
  tStart : Int
  setStart : Nat
  fgForStart : Bool
  job : ImgJob
  fgByWrite : Bool
  setOpen : Bool
  deriving DecidableEq, Repr

/-- CONV after reset: every trim 0, no set valid (R94). -/
def ConvH.reset : ConvH :=
  ⟨[], 0, [], [], [], [.reset, .reset, .reset, .reset], 0, 0, 0, false, .none, false, false⟩

/-- The thermal throttle of the receive equaliser (R154): off; waiting for the line-frame boundary at which the outer taps
stop; frames of the ramp done; outer taps gated off; waiting for FREEZE to be left; waiting for the boundary of release. -/
inductive ThrSt where
  | off | atBoundary | ramp (frames : Nat) | gated | atFreezeExit | release
  deriving DecidableEq, Repr

/-- What the stages of one polarisation hold (R132): the inputs of the dispersion filter before the next, newest first (R138);
its outputs that wait for a DSP cycle, oldest first (R133); the last 70 that the FFE has taken, oldest first (R140); the phase
in 1/2,048 turn at the last pilot, the products of the last pilots with their references, newest first, and what the
decision-directed estimate adds (R150). -/
structure PolH where
  cdPast : List (Int × Int)
  wait : List (Int × Int)
  past : List (Int × Int)
  phase : Int
  pilots : List (Int × Int)
  dd : Int
  deriving DecidableEq, Repr

/-- No samples yet, phase 0. -/
def PolH.reset : PolH := ⟨[], [], [], 0, [], 0⟩

/-- What the stages hold between commands (R132): the last 15 codes of each ADC, newest first (R136); the samples that the
resampler still needs of each, oldest first, and the place of its next output in 2^-32 sample (R137); the block size of the
dispersion filter (R138); both polarisations; the phase of the frequency removal as a fraction of 4 × SYM_RATE (R150); stages
that have saturated in the window and its DSP cycles (R135). -/
structure RxStream where
  front : List (List Int)
  rsBuf : List (List Int)
  pos : Nat
  block : Nat
  x : PolH
  y : PolH
  turn : Nat
  sat : Nat
  cycles : Nat
  deriving DecidableEq, Repr

/-- No samples yet. -/
def RxStream.reset : RxStream := ⟨[], [], 0, 131072, .reset, .reset, 0, 0, 0⟩

/-- RXDSP (04_receive_dsp.md): what its stages hold; line frames out of frame in a row and frames in the present state (R155);
squared errors and symbols of each polarisation since the last metrics, the taps then (R159); the header of the last frame;
runs of LOL windows below and above (R146), the state remembered by FREEZE (R155), MOD, ENTROPY, RATE and FILL of the previous
header (R152), the last header value reported as differing (R151), FCOUNT of the last in-frame header (R181), live FFE and DFE
taps by word of R180, applied dispersion in ps/nm, live frequency offset in 0.25 MHz, throttle and the outer taps at the start
of its ramp (R154), a deferred capture, an uncorrectable codeword since the last automatic capture (R148), AON time of the
exit from WAIT_LIGHT or FREEZE (R174), path of the attempt (R155), the timing loop's clock offset in 0.01 ppm (R137), the LLRs
of the last frame (R153), the last four decisions of each tributary (R141), the verdict on the header and on its CRC and the
lower SNR of the last frame in 0.01 dB (R200), frames in TRACK since the last period of capture (R148), frames since the
metrics (R159), AON time at which the acquisition timer started and at which the state was entered (R155), the dispersions
that CD_SEARCH searches (R139). -/
structure RxH where
  str : RxStream
  oof : Nat
  stFrames : Nat
  snrAcc : List (Nat × Nat)
  metTaps : Map Nat
  hdr : Nat
  below : Nat
  above : Nat
  remembered : Nat
  hdrMod : Nat
  hdrEnt : Nat
  hdrRate : Nat
  hdrFill : Nat
  mismatch : Option (Nat × Nat)
  lastFcount : Nat
  taps : Map Nat
  cd : Int
  fo : Int
  thr : ThrSt
  outer : Map Nat
  captureDue : Bool
  uncorrSeen : Bool
  tExit : Nat
  path : Nat
  ppm : Int
  llrs : List Int
  decided : List (List Int)
  hdrOk : Bool
  crcOk : Bool
  snr : Nat
  seedFrames : Nat
  metFrames : Nat
  timerAt : Nat
  enteredAt : Nat
  cdLo : Int
  cdHi : Int
  deriving DecidableEq, Repr

/-- RXDSP after reset: no taps yet, no seed. -/
def RxH.reset : RxH :=
  ⟨.reset, 0, 0, [], [], 0,
    0, 0, 0, 0, 40, 0, 0, none, 0, [], 0, 0, .off, [], false, false, 0, 0, 0, [], [], false, false, 0, 0, 0, 0, 0, 0, 0⟩

/-- DAWN (05_dawn_acquisition.md): metric and strength (dB) of the current candidate (R191), source, frames, loading and
rate code of the burst (R183), its flags as DAWN_BURST shows them (R221), its key slot (R199), frames received, TRACK
reached (R202), LIGHT's time, the latched SSI and ACQ_NS of the burst (R190, R207), whether its first corrected codeword
has been released, whether its entry was invalidated (R204), the expected source in force (R205), energy windows in a row
(R209), the write-back in progress: the entry and its words (R200 to R202), and the time in ns since power-on at which DAWN_MS
began (R223). -/
structure DawnH where
  candM : Nat
  candS : Int
  src : Nat
  n : Nat
  md : Nat
  ent : Nat
  rate : Nat
  flags : Nat
  keySlot : Nat
  frames : Nat
  tracked : Bool
  lightAt : Nat
  ssi : Nat
  acqNs : Option Nat
  released : Bool
  cancelled : Bool
  expect : Option Nat
  dwell : Nat
  wbEntry : Option Nat
  wb : Map Nat
  msBase : Nat
  deriving DecidableEq, Repr

/-- DAWN after reset. -/
def DawnH.reset : DawnH := ⟨0, 0, 0, 0, 0, 0, 0, 0, 0, 0, false, 0, 0, none, false, false, none, 0, none, [], 0⟩
/-- A codeword in the decoder (R233 to R241): its code (R225; 3 in BEXA) and NORM (R250), the RX DSP cycle of its deadline
(R239), its decisions at the input, posterior values and messages, iterations done, one in progress, decoding stopped,
converged, counted as a shortfall (R238), exempt from the pool (R241), whether it begins at an anchor frame (1), in DAWN-RX at
the first of a burst (2), or not (0, R230). In ZR400 (code 4) the posterior values are its LLRs. -/
structure Codeword where
  code : Nat
  norm : Nat
  due : Nat
  hard : Nat
  post : List (List Int)
  msgs : List (List (List Int))
  iters : Nat
  busy : Bool
  stopped : Bool
  conv : Bool
  short : Bool
  exempt : Bool
  anchor : Nat
  deriving DecidableEq, Repr

/-- The throttle of the decoder (R241): off, on, or released and waiting for the next codeword. -/
inductive PoolSt where
  | normal | throttled | released
  deriving DecidableEq, Repr

/-- FEC (06_fec.md): coded bits that wait for TX (R51), whether the encoder holds back until the next anchor frame (R230), the
last codeword and the last zero pad it delivered, codewords in the decoder in arrival order, the LLRs that wait for the rest
of their codeword, RATE and NORM of the codewords whose first bit has come, and whether it came at the beginning of an anchor
frame, as in `Codeword` (R229 to R231, R250), the RX DSP cycle, FCOUNT of the last frame as the decoder counts it, coded bits
received since the last anchor frame and in the run before it with B of the frame in which their last codeword ended (R231),
what the encoder, the decoder and the mapping of ZR400 hold (R247, R340), frames of the monitoring interval (R244), frame
phase of the Bexa hunt and uncorrectable codewords in a row (R246), the pool's throttle (R241), the sums of the monitoring
interval (R244), whether it has held a shortfall (R238), the last data delivered with its UNCORR flag, an uncorrectable
codeword since the last window of dFECX (R278). -/
structure FecH where
  encWait : BitStr
  encHeld : Bool
  encOut : Nat
  encPad : Nat
  cws : List Codeword
  llr : List Int
  coming : List (Nat × Nat × Nat)
  now : Nat
  rxFcount : Nat
  rxBits : Nat
  rxEndB : Nat
  prevBits : Nat
  prevEndB : Nat
  zrEnc : Nat
  zrDec : Nat
  zrMap : Nat
  zrDemap : Nat
  ivFrames : Nat
  huntPhase : Nat
  badRun : Nat
  pool : PoolSt
  ivCorr : Nat
  ivBits : Nat
  ivCw : Nat
  ivIter : Nat
  ivUncorr : Nat
  ivHist : Map Nat
  ivShort : Bool
  outData : Nat
  outUncorr : Bool
  winUncorr : Bool
  winFrames : Nat
  deriving DecidableEq, Repr

/-- FEC after reset. -/
def FecH.reset : FecH :=
  { encWait := ⟨0, 0⟩, encHeld := false, encOut := 0, encPad := 0, cws := [], llr := [], coming := [], now := 0
    rxFcount := 0, rxBits := 0, rxEndB := 0, prevBits := 0, prevEndB := 0, zrEnc := 0, zrDec := 0, zrMap := 0, zrDemap := 0
    ivFrames := 0, huntPhase := 0, badRun := 0
    pool := .normal, ivCorr := 0, ivBits := 0, ivCw := 0, ivIter := 0, ivUncorr := 0, ivHist := [], ivShort := false
    outData := 0, outUncorr := false, winUncorr := false, winFrames := 0 }
/-- An aligner of R268 beside its state: count of hits, misses in a row, matched polarisation of the line pattern. -/
structure Aligner where
  count : Nat
  miss : Nat
  pol : Nat
  deriving DecidableEq, Repr

/-- The overhead of the OTUCn frame being sent (R261, R265, R275 to R277). -/
structure TxOverhead where
  mfas : Nat
  tti : Nat
  psi : List Nat
  stat : Nat
  bip : List Nat
  bei : List Nat
  biae : Bool
  bdi : Bool
  iae : Bool
  dmp : Bool
  pmBip : List Nat
  pmBei : List Nat
  pmBdi : Bool
  deriving DecidableEq, Repr

/-- An OTUCn frame on its way from FRAMER through CIPHER (R262, R300): its words of 16 bytes that CIPHER has not drawn, before
encryption and scrambler; in REGEN the tag blocks that follow words of it, as (word, tag, counter), and counter and payload
bytes of the segment in progress at its start (R320); the owners of the frame units that go on in it and that begin in it
(R343). -/
structure OtuTx where
  words : List (List Nat)
  tags : List (Nat × Nat × Nat)
  start : Option (Nat × Nat)
  carried : List Nat
  begun : List Nat
  deriving DecidableEq, Repr

/-- What FRAMER has of a received OTUCn frame to send on in REGEN: its bytes, the tag blocks that follow words of it as (word,
tag, counter), counter and payload bytes of the segment in progress at its start (R37, R320, R402). -/
structure OtuFwd where
  bytes : List Nat
  tags : List (Nat × Nat × Nat)
  start : Option (Nat × Nat)
  deriving DecidableEq, Repr

/-- A value that must repeat before it counts: the last one and how often in a row it has come. -/
structure Repeat where
  last : Nat
  run : Nat
  deriving DecidableEq, Repr

/-- One second of a carrier until it is final (R286 to R288): ES and SES of both ends, unavailable so far as known, flags,
label and whether it is an AON label (R568). -/
structure SecRec where
  neEs : Bool
  neSes : Bool
  neUnav : Bool
  feEs : Bool
  feSes : Bool
  feUnav : Bool
  noSignal : Bool
  forced : Bool
  stopped : Bool
  label : Nat
  aon : Bool
  deriving DecidableEq, Repr

/-- The unavailability of one end (R286): as the seconds known so far give it, and seconds in a row towards a change. -/
structure Unav where
  now : Bool
  run : Nat
  since : Nat
  deriving DecidableEq, Repr

/-- FRAMER (07_line_framing.md): the line aligners of both outputs, for each the symbol position of its last check, while it
hunts the first one that it may test (R268), the FAS aligner with the MFAS of its last hit and the direct test of R272, the
multiframe aligner; MFAS of the next frame sent, the overhead of the last one started, the frames on their way through CIPHER
with the scrambler's register and the BIP-8 of the slices so far (R263, R276), the transmit slot map of the last frame, the
one before it while owners finish a frame on their old slots, and those owners, the receive slot map in force (R339); bits
handed on by the remover, with the place of the first of them in the stream, and whether that is a frame's first bit as tested
(R267); the last frame received, the last one that came in as a STREAM, and frames received (R402), OTUCn frames still to
start in the burst and in it altogether (R266), BIP-8 of the OPUC of the two last frames sent and received (R276); the TTI
being received, the last whole one and how often it came, whether one has been accepted (R273); likewise PT and MSI (R274);
STAT, BDI and IAE as repeats (R275, R276); the violations to report back; the delay measurement (R277); runs of FECX windows
and of bad seconds (R278); the sums of the second, the seconds not yet final, unavailability (R286); whether the aligners of
dLOF-L, dLOF and dLOM were last seen in SYNC (2), out of it (1) or not timed (0), whether the condition of the pair switch
request held (R278, R285); the DUAL mismatch runs, wait-to-restore and delay (R282 to R284). -/
structure FrmH where
  lfX : Aligner
  lfY : Aligner
  posX : Nat
  posY : Nat
  fas : Aligner
  fasMfas : Nat
  fasDirect : Bool
  mfExpect : Nat
  mf : Aligner
  txMfas : Nat
  txOh : TxOverhead
  txQ : List OtuTx
  txScr : Nat
  txBip : List Nat
  txMap : List Nat
  txOld : List Nat
  txHeld : List Nat
  rxMap : List Nat
  rxBits : BitStr
  rxHead : Nat
  tested : Bool
  rxFrame : OtuFwd
  stream : OtuFwd
  rxCount : Nat
  txLeft : Nat
  txBurst : Nat
  bips : List (List Nat)
  rxBips : List (List Nat)
  ttiBuf : Map Nat
  ttiWhole : Bool
  ttiPrev : Map Nat
  ttiRun : Nat
  ttiKnown : Bool
  pt : Repeat
  ptKnown : Bool
  msiBuf : Map Nat
  msiWhole : Bool
  msiPrev : Map Nat
  msiRun : Nat
  msiKnown : Bool
  stat : Repeat
  bdi : Repeat
  iae : Repeat
  beiOut : List Nat
  pmBeiOut : List Nat
  dmpRx : Bool
  dmPending : Bool
  dmRunning : Bool
  dmSentAt : Option Nat
  dmHits : Nat
  fecxBad : Nat
  fecxGood : Nat
  degBad : Nat
  degGood : Nat
  neErr : Nat
  feErr : Nat
  blocks : Nat
  neDef : Bool
  feDef : Bool
  secForced : Bool
  secStopped : Bool
  secs : List SecRec
  neUa : Unav
  feUa : Unav
  syncs : List Nat
  psrOn : Bool
  dmmBad : Nat
  dmmGood : Nat
  wtr : Nat
  delay : Option Nat
  deriving DecidableEq, Repr

/-- An aligner that has seen nothing. -/
def Aligner.reset : Aligner := ⟨0, 0, 0⟩
/-- No frame to send on. -/
def OtuFwd.none : OtuFwd := ⟨[], [], .none⟩

/-- FRAMER after reset: every aligner hunting, the second so far without a running FRAMER. -/
def FrmH.reset : FrmH where
  lfX := .reset
  lfY := .reset
  posX := 0
  posY := 0
  fas := .reset
  fasMfas := 0
  fasDirect := false
  mfExpect := 0
  mf := .reset
  txMfas := 0
  txOh := ⟨0, 0, [], 1, [], [], false, false, false, false, [], [], false⟩
  txQ := []
  txScr := 0xFFFF
  txBip := []
  txMap := []
  txOld := []
  txHeld := []
  rxMap := []
  rxBits := ⟨0, 0⟩
  rxHead := 0
  tested := false
  rxFrame := .none
  stream := .none
  rxCount := 0
  txLeft := 0
  txBurst := 0
  bips := []
  rxBips := []
  ttiBuf := []
  ttiWhole := false
  ttiPrev := []
  ttiRun := 0
  ttiKnown := false
  pt := ⟨0, 0⟩
  ptKnown := false
  msiBuf := []
  msiWhole := false
  msiPrev := []
  msiRun := 0
  msiKnown := false
  stat := ⟨0, 0⟩
  bdi := ⟨0, 0⟩
  iae := ⟨0, 0⟩
  beiOut := []
  pmBeiOut := []
  dmpRx := false
  dmPending := false
  dmRunning := false
  dmSentAt := none
  dmHits := 0
  fecxBad := 0
  fecxGood := 0
  degBad := 0
  degGood := 0
  neErr := 0
  feErr := 0
  blocks := 0
  neDef := false
  feDef := false
  secForced := false
  secStopped := true
  secs := []
  neUa := ⟨false, 0, 0⟩
  feUa := ⟨false, 0, 0⟩
  syncs := [0, 0, 0]
  psrOn := false
  dmmBad := 0
  dmmGood := 0
  wtr := 0
  delay := none
/-- The contents of a key slot that no register reads: key and salt (R312). -/
structure KeySlot where
  key : List Nat
  salt : Nat
  deriving DecidableEq, Repr

/-- A key or KEK operation in progress (R313, R314, R325). -/
inductive KeyJob where
  | none
  | key (target : Nat) (k : KeySlot) (id : Nat)
  | kek (clear : Bool) (k : List Nat)
  | exportKek
  deriving DecidableEq, Repr

/-- A word of 16 bytes in the data stream that CIPHER hands to FEC (R304): a tag block or OTUCn bytes; the bit of its OTUCn
frame that it is, or that follows the tag block; payload bytes of its segment before it, the segment's counter and KEY_ID. -/
structure Piece where
  tag : Bool
  pos : Nat
  off : Nat
  ctr : Nat
  key : Nat
  bytes : List Nat
  deriving DecidableEq, Repr

/-- The data of a codeword as the decoder releases it (R231, R235, R306): whether an anchor block begins it, as in `Codeword`,
whether the codeword was UNCORR. -/
structure RxBlock where
  bits : BitStr
  anchor : Nat
  uncorr : Bool
  deriving DecidableEq, Repr

/-- A received segment (R306, R309): counter and KEY_ID, payload bytes so far, the words received, each with the owner of its
slot, how many of them cut-through has handed on (R311), the tag block, whether a codeword of it was UNCORR, whether it ended
early, whether its first byte was received, AON time when its tag block had come. -/
structure SegRx where
  ctr : Nat
  key : Nat
  off : Nat
  words : List (Nat × List Nat)
  sent : Nat
  tag : Nat
  uncorr : Bool
  early : Bool
  whole : Bool
  came : Nat
  deriving DecidableEq, Repr

/-- The remover and the decipher behind it (R306 to R311): data blocks that wait, bits of the word or tag block in progress
and whether one of them came from an UNCORR codeword, whether they are a tag block's; bits before the next whole word; that
word's place in its OTUCn frame, the scrambler's register there, OTUCn frames left in a burst (R305); the segment in progress,
whether cut-through drops what is left of it (R311), whether its key's counter is not known yet (R317); segments that wait for
their verdict; in REGEN where in the stream a frame began, with counter and payload bytes of its segment there, and where tag
blocks came, with tag and counter (R320). -/
structure RemH where
  blocks : List RxBlock
  part : BitStr
  partBad : Bool
  tagging : Bool
  skip : Nat
  word : Nat
  scr : Nat
  left : Option Nat
  seg : SegRx
  dropping : Bool
  ctrOpen : Bool
  segs : List SegRx
  starts : List (Nat × Nat × Nat)
  tags : List (Nat × Nat × Nat)
  deriving DecidableEq, Repr

/-- A verified or failed copy of a segment at the selector of DUAL (R282): counter, KEY_ID, whether CIPHER passed it, its
words with their owners, AON time of its arrival. -/
structure DualCopy where
  ctr : Nat
  key : Nat
  good : Bool
  words : List (Nat × List Nat)
  came : Nat
  deriving DecidableEq, Repr

/-- CIPHER (08_cipher.md): the KEK (R313), the four slots (R312), the operation in progress; the switch in progress, its
target and the anchor blocks it has sent (R317), whether the counter's own switch has been tried (R318); the segment in
progress at transmit with its slot and counter, its ciphertext and its payload bytes so far; the words formed for FEC, of
which the encoder has taken so many bits (R304), in DUAL those that the other carrier still has to send (R320); the last
anchor block built and whether it waits for its codeword (R305); at receive the remover, the key that the next anchor point
brings (R317), the key of the last verified segment (R307), the last KEY_ID reported as a mismatch (R308), the last valid
anchor block; in DUAL the copies that wait for their output time, and the segments output without this carrier's copy, by
counter and key (R282, R284). -/
structure CiphH where
  kek : Option (List Nat)
  slots : List KeySlot
  job : KeyJob
  switchTo : Option Nat
  switchSent : Nat
  autoTried : Bool
  segOpen : Bool
  segSlot : Nat
  segCtr : Nat
  segText : List Nat
  segLen : Nat
  formed : List Piece
  fed : Nat
  echo : List Piece
  outAnchor : Nat
  anchorHeld : Bool
  rem : RemH
  rxNext : Option Nat
  verKey : Option Nat
  mismatch : Option Nat
  rxAnchor : Nat
  copies : List DualCopy
  missed : List (Nat × Nat)
  deriving DecidableEq, Repr

/-- An empty slot. -/
def KeySlot.empty : KeySlot := ⟨[], 0⟩

/-- No segment. -/
def SegRx.reset : SegRx := ⟨0, 0, 0, [], 0, 0, false, false, false, 0⟩
/-- A remover that waits for an anchor block. -/
def RemH.reset : RemH := ⟨[], ⟨0, 0⟩, false, false, 0, 0, 0xFFFF, none, .reset, false, false, [], [], []⟩

/-- CIPHER after reset: every slot empty, no KEK (R312). -/
def CiphH.reset : CiphH where
  kek := none
  slots := [.empty, .empty, .empty, .empty]
  job := .none
  switchTo := none
  switchSent := 0
  autoTried := false
  segOpen := false
  segSlot := 0
  segCtr := 0
  segText := []
  segLen := 0
  formed := []
  fed := 0
  echo := []
  outAnchor := 0
  anchorHeld := false
  rem := .reset
  rxNext := none
  verKey := none
  mismatch := none
  rxAnchor := 0
  copies := []
  missed := []

/-- The monitor of a reference (R418 to R420): measurements in a row outside and inside the soft window and the hard
window, one measurement completed since EN was set, no measurement since the monitor restarted. -/
structure RefMon where
  softBad : Nat
  softGood : Nat
  hardBad : Nat
  hardGood : Nat
  measured : Bool
  fresh : Bool
  deriving DecidableEq, Repr

/-- The comparison of two references (R421): measurements in a row apart and together, and whether they disagree. -/
structure RefPair where
  bad : Nat
  good : Nat
  on : Bool
  deriving DecidableEq, Repr

/-- CLK (12_clocks_references.md): clock-good (R413), and whether it has been reported since the rise of VDD_AON; SYSPLL
has lost lock and MUX0 has not returned (R416); the monitors of REFA, REFB, REFC and the PTP-derived reference (R418); the
pairs A-B, A-C, B-C, A-P, B-P, C-P (R421); the DPLL measures a phase offset (R425); the rates that each PLL runs at, as
sample rate times 2^20 plus symbol rate (R415). -/
structure ClkH where
  good : Bool
  goodOnce : Bool
  sysLost : Bool
  mons : List RefMon
  pairs : List RefPair
  absorbing : Bool
  rates : Map Nat
  deriving DecidableEq, Repr

/-- A monitor before its first measurement. -/
def RefMon.reset : RefMon := ⟨0, 0, 0, 0, false, false⟩
/-- A pair that agrees. -/
def RefPair.reset : RefPair := ⟨0, 0, false⟩

/-- CLK in BOOT: clock-good was needed to leave RESET (R39). -/
def ClkH.reset : ClkH where
  good := true
  goodOnce := true
  sysLost := false
  mons := List.replicate 4 .reset
  pairs := List.replicate 6 .reset
  absorbing := false
  rates := []

/-- The units of the time counts: 10^-9 of 2^-16 ns, in which every advance of R445 to R450 is a whole number. -/
def timeUnit : Nat := 65536000000000

/-- TIME (13_time_scheduling.md): AON time in ns, ns since reset modulo 2^32 ms (R223), the 48-bit counts of P and S in
`timeUnit`s (bits 63:48 stand in TD_EXT), the slew that remains for each (R446), the residual R (R450), measurements of DIFF
in a row outside and inside TIME_AGREE (R448), AON time of the last capture (R452), pulses given on PPS_OUT and on VFRAME0 to
VFRAME3 (R453, R457), the AON times that the device's timers count from (`Timer`, log entry 56), the second of PPS_OUT's source
and the frame of each timebase met last, the AON times at which their pulses began, and those at which the last SET (2d) and the
last STEP (2d + 1) of domain d acted (R446). -/
structure TimeH where
  aon : Nat
  up : Nat
  p : Nat
  s : Nat
  slewP : Int
  slewS : Int
  resid : Int
  bad : Nat
  good : Nat
  lastCap : Option Nat
  ppsOut : Nat
  frames : Map Nat
  marks : Map Nat
  ppsSec : Nat
  ppsAt : Option Nat
  vfFrame : Map Nat
  vfAt : Map Nat
  acted : Map Nat
  deriving DecidableEq, Repr

/-- TIME after reset: every domain at 0. -/
def TimeH.reset : TimeH := ⟨0, 0, 0, 0, 0, 0, 0, 0, 0, none, 0, [], [], 0, none, [], [], []⟩

/-- A scheduler entry (R459, R468), with the number of its insertion (R462) and whether it has been handed to its block. -/
structure SchedEntry where
  idx : Nat
  action : Nat
  scale : Scale
  late : Bool
  owner : Nat
  vtb : Nat
  fromPos : Bool
  time : Nat
  arg0 : Nat
  arg1 : Nat
  arg2 : Nat
  tag : Nat
  frame32 : Nat
  order : Nat
  handed : Bool
  deriving DecidableEq, Repr

/-- SCHED (13_time_scheduling.md): the queue (R460), insertions so far, an entry has been dropped in this freeze (R466). -/
structure SchedH where
  entries : List SchedEntry
  order : Nat
  dropped : Bool
  deriving DecidableEq, Repr

/-- SCHED after reset. -/
def SchedH.reset : SchedH := ⟨[], 0, false⟩

/-- What a ring has open: nothing, a unit being recorded, or a unit whose further packets are discarded (R365). -/
inductive OpenUnit where
  | none
  | unit (u : RUnit)
  | discard (rtpTs : Nat)
  deriving DecidableEq, Repr

/-- A ring beside its registers (R355, R358 to R363): its extents in ring order, the module that holds them, the extent being
written counted as in `RUnit.ext`, the bytes of it in use, SEQ and offset of the first unit header that starts in it, those of a unit
whose header falls in the next extent, those of the extents written before (R360), the unit open, the extent and offset of its header,
whether the marker packet of the first unit has been seen (R355), the units held, whether DISARM waits for a unit boundary, whether EV_TAP_OVERRATE has been raised since ARM, bytes
written and units closed in the window of R366, the two pointer copies, whether EV_STORE_DROP has been raised in this
overload. -/
structure RingH where
  exts : List Nat
  module : Nat
  pos : Nat
  off : Nat
  first : Option (Nat × Nat)
  next : Option (Nat × Nat)
  heads : Map (Nat × Nat)
  cur : OpenUnit
  openAt : Nat × Nat
  marked : Bool
  units : List RUnit
  stopping : Bool
  rated : Bool
  winBytes : Nat
  winUnits : Nat
  copyA : PtrCopy
  copyB : PtrCopy
  dropSeen : Bool
  deriving DecidableEq, Repr

/-- A module beside its registers (R356 to R369): the identity read in progress, ENDURANCE and MEDIA_RATE in use, fills of
each data extent, free data extents, transfers waiting for their ACK in order as (TAG, bytes, AON time of the last sending),
the next TAG, whether the drop level starts afresh at the next overload. -/
structure ModH where
  reading : Bool
  endurance : Nat
  mediaRate : Nat
  fills : Map Nat
  free : List Nat
  queue : List (Nat × Nat × Nat)
  nextTag : Nat
  levelFresh : Bool
  deriving DecidableEq, Repr

/-- What waits for the slots of an owner (R333, R341): frames whole, oldest first, and the bytes left of the frame unit being
sent. -/
structure Feed where
  queue : List (List Nat)
  rest : List Nat
  deriving DecidableEq, Repr

/-- Nothing waits. -/
def Feed.reset : Feed := ⟨[], []⟩

/-- A replay channel beside its registers (R371 to R373): the launch handed on by the scheduler, t_L in ns, the frame of the
launch position, units started, the unit being sent, its packets still to send with their index in the job, packets of the
units before it, CAPTURE of unit 0 and the RTP timestamp of its first packet, the first SEQ not yet read, packets lost to
uncorrectable lines as unit SEQ and index in the unit, the last frame sent; what goes to the slots of the channel (R336,
R370). -/
structure JobH where
  launch : Option (Nat × Option Nat)
  tL : Nat
  frame : Int
  started : Nat
  cur : Option RUnit
  left : List (Nat × Packet)
  base : Nat
  cap0 : Nat
  ts0 : Nat
  readTo : Nat
  lost : List (Nat × Nat)
  out : List Nat
  feed : Feed
  deriving DecidableEq, Repr

/-- FLOW and STORE (10_acorn_store.md): modules, rings, replay channels, the extents reserved for assist by module, the one in use
first, and the bytes that assist has written to each module's (R369, R374), the wraps of the 32 bits of ns that capture times count
(R359). -/
structure StoreH where
  mods : List ModH
  rings : Map RingH
  jobs : Map JobH
  assist : Map (List Nat)
  assistUsed : Nat
  wraps : Nat
  deriving DecidableEq, Repr

/-- A ring without extents. -/
def RingH.reset : RingH := ⟨[], 0, 0, 64, none, none, [], .none, (0, 64), false, [], false, false, 0, 0, .reset, .reset, false⟩
/-- No module. -/
def ModH.reset : ModH := ⟨false, 0, 0, [], [], [], 0, true⟩
/-- A channel with no job. -/
def JobH.reset : JobH := ⟨none, 0, 0, 0, none, [], 0, 0, 0, 0, [], [], .reset⟩
/-- STORE after reset: every module absent. -/
def StoreH.reset : StoreH := ⟨[.reset, .reset, .reset, .reset], [], [], [], 0, 0⟩


/-- A serial lane beside its registers (R388 to R395, R406): its state code, power-up in progress, started by its port (else
by the pattern), the logical lane found, hits counted in PRESYNC, markers missed in a row, valid headers in a row, positions
that failed, blocks and bad headers in the window of 1,024, INJ_ONE not yet sent, the register of the pattern generator with the
bits it has sent, the last 1,024 of them on the pins, the register of the checker, the last block of 132 bits on its transmit pins
(R390, R407), the rate at which it runs (R388), whether its polarity is fixed until the next LOCKING (R389), the place of its
last COMMA in bits, or AM in blocks (R394, R395). -/
structure LaneH where
  st : Nat
  powering : Bool
  byPort : Bool
  num : Nat
  count : Nat
  miss : Nat
  hdrs : Nat
  slips : Nat
  wcnt : Nat
  wbad : Nat
  inj : Nat
  genReg : Nat
  genAt : Nat
  genOut : Nat
  chkReg : Nat
  line : Nat
  rate : Nat
  polFixed : Bool
  pos : Nat
  deriving DecidableEq, Repr

/-- A transfer being received (R398, R402): the fields of its START block, its data payload, the tag blocks with their
offsets, the offset of a TAGPOS block not yet used, whether a block in it was discarded. -/
structure PodRx where
  kind : Nat
  tag : Nat
  len : Nat
  addr : Nat
  data : List Nat
  tags : List (Nat × Nat)
  tagPos : Option Nat
  bad : Bool
  deriving DecidableEq, Repr

/-- A Pod port beside its registers (R397 to R405): the transfer coming in, the transfer complete with TAG and CRC of its END
block, failures in a row by TAG, the last MSG or TIME block sent, T_TX of the last TIME block received and when it came in;
blocks of the port's stream since the markers and the registers of the scramblers by logical lane, received and sent (R392,
R393), the BIP-8 of each lane's blocks since its last AM (R391), AON time at which the stream began and the blocks sent in it since
(R393), the MSG, ACK and TIME blocks that wait to be taken (R391). -/
structure PodPortH where
  rx : Option PodRx
  fin : Option (PodRx × Nat × Nat)
  fails : Map Nat
  sent : Nat
  echoTx : Nat
  echoRx : Nat
  rxAt : Nat
  rxScr : Map Nat
  txAt : Nat
  txScr : Map Nat
  txBip : Map Nat
  txSince : Nat
  txSlots : Nat
  inbox : List Nat
  deriving DecidableEq, Repr

/-- LANES and POD (11_serial_lanes.md): lanes CL0 to CL23 as 0 to 23, PD0 to PD23 as 24 to 47, and the Pod ports. -/
structure LinkH where
  lanes : Map LaneH
  ports : Map PodPortH
  deriving DecidableEq, Repr

/-- A lane that is off. -/
def LaneH.reset : LaneH := ⟨0, false, false, 0, 0, 0, 0, 0, 0, 0, 0, 0, 0, 0, 0, 0, 0, false, 0⟩
/-- A port without traffic. -/
def PodPortH.reset : PodPortH := ⟨none, none, [], 0, 0, 0, 0, [], 0, [], [], 0, 0, []⟩
/-- Every lane off. -/
def LinkH.reset : LinkH := ⟨[], []⟩

/-- What the transmit lanes of a client port carry: nothing (a stopped port, or no signal in replacement), frames with idle
between them, idle, the local fault ordered set (R333, R342). -/
inductive PortSignal where
  | silent | frames | idle | fault
  deriving DecidableEq, Repr

/-- A frame unit that a port receives (R341, R343): LENGTH and ERR of its header, whether a byte of the header came in a failed
segment. -/
structure RxUnit where
  len : Nat
  err : Bool
  bad : Bool
  deriving DecidableEq, Repr

/-- A client port beside its registers (R333, R341 to R343, R567): IMP sync, good and bad headers in a row; the ingress buffer
with the unit being sent; the bytes received from its slots, each with whether its segment failed, bytes to pass over before
the next header, the frame unit begun; in ZR400 the frames received; the last frame sent at egress, whether what was sent last
ended with the error control character, the signal sent, what the second so far holds (an SES condition, a counted error, a
moment stopped, a moment running), its seconds until they are final. -/
structure PortH where
  sync : Bool
  good : Nat
  bad : Nat
  feed : Feed
  rxIn : List (Nat × Bool)
  skip : Nat
  unit : Option RxUnit
  zrIn : List (List Nat)
  outFrame : List Nat
  cut : Bool
  signal : PortSignal
  ses : Bool
  err : Bool
  stopped : Bool
  ran : Bool
  ua : Unav
  secs : List SecRec
  deriving DecidableEq, Repr

/-- CLIENT (09_client_ports.md): the ports, and the timestamp FIFO as (port, domain, sequenceId, ns), oldest first (R344). -/
structure ClientH where
  ports : Map PortH
  ts : List (Nat × Nat × Nat × Nat)
  deriving DecidableEq, Repr

/-- A port not running. -/
def PortH.reset : PortH where
  sync := false
  good := 0
  bad := 0
  feed := .reset
  rxIn := []
  skip := 0
  unit := none
  zrIn := []
  outFrame := []
  cut := false
  signal := .silent
  ses := true
  err := false
  stopped := true
  ran := false
  ua := ⟨false, 0, 0⟩
  secs := []
/-- CLIENT after reset. -/
def ClientH.reset : ClientH := ⟨[], []⟩
/-- PAIR (16_protection_pair.md) beside its registers: the transmit enable (R545), the PAIRPOS and PAIRPREF straps, the
read-back faults and WDOG, health bits 15:0 at the last check (R548), the sequence number and the last beat sent on each
path (R546), the miss timers: running, misses in a row (R547), back-off expired, peer stuck reported, the claim made on a
peer release, collision reported as unresolved (R550), AON time at which the revert count began, REQ (R556), the last SYNC
image sent (R557), the beat period in force (R560) and the back-off loaded (R550), in ns. -/
structure PairH where
  txEnable : Bool
  pos : Nat
  pref : Nat
  hbSelf : Bool
  claimSense : Bool
  wdog : Bool
  faults : Nat
  seq : Nat
  beatPin : Nat
  beatPod : Nat
  pinRun : Bool
  podRun : Bool
  pinMiss : Nat
  podMiss : Nat
  expired : Bool
  stuck : Bool
  viaRelease : Bool
  unresolved : Bool
  wtr : Option Nat
  req : Bool
  syncOut : Map Nat
  period : Nat
  backoff : Nat
  deriving DecidableEq, Repr

/-- PAIR after reset: straps 0, no claim, no beat yet. -/
def PairH.reset : PairH :=
  { txEnable := false, pos := 0, pref := 0, hbSelf := false, claimSense := false, wdog := false, faults := 0, seq := 0,
    beatPin := 0, beatPod := 0, pinRun := false, podRun := false, pinMiss := 0, podMiss := 0, expired := false,
    stuck := false, viaRelease := false, unresolved := false, wtr := none, req := false, syncOut := [],
    period := 100000, backoff := 0 }

/-- PWR, THERM, MADC and the device's reset (18_power_thermal_monitor.md): Night phase (0 none, 1 entry, 2 wake; R590, R592),
a wake that waits for the entry's end, AON time of the wake condition, domains waiting to power on and the one that ramps
(R586), domains draining for power-off (R587) and for a clock gate (R492), readings of 118 °C or more in a row (R598), a
reading taken since VDD_AON rose (R596), readings below 90 °C in a row (R599), the throttle set by temperature (R597), PORST_N
low (R39), the MADC calibration in progress with the sum and number of its raw results (R605). -/
structure PwrH where
  night : Nat
  wakePend : Bool
  wakeAt : Nat
  queue : List Nat
  ramp : Option Nat
  drains : List Nat
  gates : List Nat
  hot : Nat
  seen : Bool
  cool : Nat
  throttleHot : Bool
  porstLow : Bool
  cal : Option Bool
  calSum : Int
  calN : Nat
  deriving DecidableEq, Repr

/-- PWR after reset. -/
def PwrH.reset : PwrH :=
  { night := 0, wakePend := false, wakeAt := 0, queue := [], ramp := none, drains := [], gates := [], hot := 0,
    seen := false, cool := 0, throttleHot := false, porstLow := false, cal := none, calSum := 0, calN := 0 }

/-- An open booking (R572): number, object, customer reference, totals of AS, ES, SES, UAS. -/
structure Booking where
  no : Nat
  obj : Nat
  cref : Nat
  asT : Nat
  es : Nat
  ses : Nat
  uas : Nat
  deriving DecidableEq, Repr

/-- An interval that is being counted (R568, R571): first label, an AON label in it, seconds and their classes, STEP,
SHORT, whether its end has come and it waits for a place in the buffer (R573). -/
structure Interval where
  first : Nat
  aon : Bool
  booking : Nat
  len : Nat
  asC : Nat
  es : Nat
  ses : Nat
  uas : Nat
  flagged : Nat
  nosig : Nat
  step : Bool
  short : Bool
  due : Bool
  deriving DecidableEq, Repr

/-- An object of the ledger (R568 to R570): label of its last record, ticks since it, MISSING, the open interval. -/
structure LdgObj where
  lastLabel : Option Nat
  lastAon : Bool
  ticks : Nat
  missing : Bool
  cur : Option Interval
  deriving DecidableEq, Repr

/-- A copy of the chain head (R576): RECNUM and SHA-256 of the newest record, RECNUM last removed, open bookings, CRC holds. -/
structure ChainHead where
  recnum : Nat
  hash : List Nat
  removed : Nat
  bookings : List Booking
  nextNo : Nat
  valid : Bool
  deriving DecidableEq, Repr

/-- The ledger partition (17_ledger.md): the two chain-head copies and whether B is the newer one, the record buffer with
records of 128 bytes, objects (0 and 1 the carriers, 0x10 + p the ports), final-second records on their way to the core
(R566), the open bookings with their totals as the core counts them (R572, R574), whether the signing seed and the wrap key are
blown (R624). -/
structure LdgH where
  headA : ChainHead
  headB : ChainHead
  newerB : Bool
  buf : List (List Nat)
  objs : Map LdgObj
  inbox : List (Nat × SecRec)
  bookings : List Booking
  blown : Bool
  deriving DecidableEq, Repr

/-- An object without records. -/
def LdgObj.reset : LdgObj := ⟨none, false, 0, false, none⟩
/-- A chain-head copy without a valid CRC. -/
def ChainHead.reset : ChainHead := ⟨0, [], 0, [], 1, false⟩
/-- The ledger partition before its first start. -/
def LdgH.reset : LdgH := ⟨.reset, .reset, false, [], [], [], [], false⟩


/-- A control channel (R476, R509 to R513): g1 to g15, PC, the special registers, its SRAMs by address (R514) in the one
canonical form of memory, a TIMER exception that is pending (R520). -/
structure Chan where
  g : Map Nat
  pc : Nat
  sr : Map Nat
  mem : List Host.Cell
  timer : Bool
  deriving DecidableEq, Repr

/-- The control complex (14_control_complex.md, 15_instruction_set.md): the channels Morning, Noon and Evening; whether they
have been started and not reset since; the wake latch (R532), bit 0 EVQ, bit 1 MARK; a wake condition since the last
instruction boundary (R518); WFE waiting, with its limit in cycles; control cycles since the start; the snapshots of wide
results by access path and address (R431, R432); the resynchronisation was forced (R480); a bank switch waits (R538); the task
position under check (R537); TAG of a MARK that came due in RESYNC (R483); a halt
requested in RESYNC (R633); the histograms' bins (R502). -/
structure CtlH where
  chans : List Chan
  started : Bool
  wakeLatch : Nat
  evSeen : Bool
  wfe : Option Nat
  cycles : Nat
  sigAt : Nat
  snaps : Map Nat
  forced : Bool
  switchDue : Bool
  taskAt : Nat
  markDue : Option Nat
  haltDue : Bool
  hist : Map Nat
  deriving DecidableEq, Repr

/-- s0 after reset: OWNER 0x1F, supervisor, no exception (R513). -/
def srReset : Map Nat := [(0, 0x1F0000)]
/-- A channel after reset: everything else 0 (log entry 5). -/
def Chan.reset : Chan := ⟨[], 0, srReset, [], false⟩
/-- The control complex in BOOT: no program runs yet. -/
def CtlH.reset : CtlH where
  chans := [.reset, .reset, .reset]
  started := false
  wakeLatch := 0
  evSeen := false
  wfe := none
  cycles := 0
  sigAt := 0
  snaps := []
  forced := false
  switchDue := false
  taskAt := 0
  markDue := none
  haltDue := false
  hist := []

/-- What the boot engine does (R619 to R622): nothing; reading the flash headers; reading a flash slot; checking the image in
bank 0; waiting for a host load; waiting for a peer; an image has passed and the optics reads are awaited (R623). -/
inductive BootPh where
  | idle | headers | slot | verify | host | peer | passed
  deriving DecidableEq, Repr

/-- A DMA job as its registers stood at its start (R617): device to host, host address, device address, bytes. -/
structure DmaJob where
  toHost : Bool
  haddr : Nat
  addr : Nat
  len : Nat
  deriving DecidableEq, Repr

/-- HOSTIF, boot, debug and JTAG (19_host_boot_debug.md, 20_pins_electrical.md): MSI-X messages sent by vector, the MSI-X
table; PCIE_PERST_N low; fused hashes of the key slots; the boot engine's phase, the source it uses, the flash slots still to
try, the slot tried, the Pod port of the next BOOT_REQ, whether it is a control restart (R485); NACKs in a row of the optics
masters, an optics read in progress per carrier (R627); the unlock challenge, the response words, the last Ubant response as
ACK times 2^32 plus DATA (R630, R632); DCTRL.CH, the reason of the halt, a step under way, the breakpoints and watchpoints
(R633); the instruction in the TAP (R635); the last boot image served, with its port (R622); by DMA
channel the job and the words last sent to host memory with their address (R617); the bytes of the last flash command sent and the
number of bytes it reads (R629). -/
structure HostH where
  msixSent : Map Nat
  msixTable : Map Nat
  perst : Bool
  hashes : Map (List Nat)
  boot : BootPh
  bootSrc : Nat
  bootLeft : List Nat
  bootSlot : Nat
  reqPort : Nat
  restart : Bool
  nacks : AB Nat
  reading : AB Bool
  chal : Nat
  resp : Map Nat
  ubOut : Nat
  dbgCh : Nat
  dbgReason : Nat
  step : Bool
  bp : Map Nat
  wp : Map Nat
  ir : Nat
  served : Option (Nat × List Nat)
  jobs : Map DmaJob
  dmaOut : Map (Nat × List Nat)
  spiOut : List Nat
  spiIn : Nat
  deriving DecidableEq, Repr

/-- HOSTIF in BOOT, with the straps at flash (R619). -/
def HostH.reset : HostH where
  msixSent := []
  msixTable := []
  perst := false
  hashes := []
  boot := .headers
  bootSrc := 0
  bootLeft := []
  bootSlot := 0
  reqPort := 0
  restart := false
  nacks := ⟨0, 0⟩
  reading := ⟨false, false⟩
  chal := 0
  resp := []
  ubOut := 0
  dbgCh := 0
  dbgReason := 0
  step := false
  bp := []
  wp := []
  ir := 0
  served := none
  jobs := []
  dmaOut := []
  spiOut := []
  spiIn := 0

/-- The state of the device. `regs` holds the value of every register field and window word, `shadow` the shadow copies
that differ from the active values (R9). `named` are the blocks that a scheduler COMMIT has named and that wait for their
line-frame commit point (R18), `waiting` the blocks whose RUN waits (R35, R666, R672), `stops` the blocks that are stopping
(R666). `freeCtr` is the model's own supply of free values (log entry 7), `pending` the queue of commands. -/
structure State where
  pending : List Instr
  regs : Map Nat
  shadow : Map Nat
  freeCtr : Nat
  named : List Blk
  waiting : List Blk
  stops : List Blk
  ev : EvQ
  tx : AB TxH
  conv : AB ConvH
  rx : AB RxH
  dawn : AB DawnH
  fec : AB FecH
  frm : AB FrmH
  ciph : AB CiphH
  ctl : CtlH
  clk : ClkH
  store : StoreH
  client : ClientH
  link : LinkH
  time : TimeH
  sched : SchedH
  pair : PairH
  pwr : PwrH
  ldg : LdgH
  host : HostH
  deriving DecidableEq, Repr

/-- The device right after reset, in BOOT (R39): log entry 3. -/
def State.reset : State where
  pending := []
  regs := R.resets
  shadow := []
  freeCtr := 0
  named := []
  waiting := []
  stops := []
  ev := ⟨[], none, none⟩
  tx := ⟨TxH.reset, TxH.reset⟩
  conv := ⟨ConvH.reset, ConvH.reset⟩
  rx := ⟨RxH.reset, RxH.reset⟩
  dawn := ⟨DawnH.reset, DawnH.reset⟩
  fec := ⟨FecH.reset, FecH.reset⟩
  frm := ⟨FrmH.reset, FrmH.reset⟩
  ciph := ⟨CiphH.reset, CiphH.reset⟩
  ctl := CtlH.reset
  clk := ClkH.reset
  store := StoreH.reset
  client := ClientH.reset
  link := LinkH.reset
  time := TimeH.reset
  sched := SchedH.reset
  pair := PairH.reset
  pwr := PwrH.reset
  ldg := LdgH.reset
  host := HostH.reset


/-- Faults: the spec names no condition that stops the block, so there is none. -/
inductive Fault where
  deriving DecidableEq, Repr

/-- Refusals. -/
inductive Refusal where
  /-- Answered by an arm of `exec` for a command without a meaning. Safe: nothing is said of the device. -/
  | notModelled (mnemonic : String)
  deriving DecidableEq, Repr

end Sys2Proof.Machine
end

