-- ==== Sys2Proof/Machine/Ops.lean ====
section
/-! DEFINITION. The named operations that every command is written with: reading and writing a register field, counting
in one, free values, raising an event (R496 to R499), staging and transferring shadow copies (R9, R16 to R18). -/

namespace Sys2Proof.Machine

open Sys2Proof

/-! Register fields. -/

/-- The value of a register field. -/
def State.get (s : State) (f : Fld) : Nat := s.regs.get f.key

/-- The state with a register field at `v`, cut to the field's width. -/
def State.set (s : State) (f : Fld) (v : Nat) : State := { s with regs := s.regs.set f.key (v % 2 ^ f.width) }

/-- A one-bit field read as a condition. -/
def State.on (s : State) (f : Fld) : Bool := s.get f != 0

/-- A one-bit field written from a condition. -/
def State.setB (s : State) (f : Fld) (b : Bool) : State := s.set f (b2n b)

/-- A field of a carrier's window. -/
def State.getC (s : State) (c : Carrier) (f : Fld) : Nat := s.get (f.on c)
/-- A one-bit field of a carrier's window. -/
def State.onC (s : State) (c : Carrier) (f : Fld) : Bool := s.on (f.on c)
/-- A field of a carrier's window written. -/
def State.setC (s : State) (c : Carrier) (f : Fld) (v : Nat) : State := s.set (f.on c) v
/-- A one-bit field of a carrier's window written. -/
def State.setBC (s : State) (c : Carrier) (f : Fld) (b : Bool) : State := s.setB (f.on c) b

/-- A field increased by `n`, held at its maximum. -/
def State.addSat (s : State) (f : Fld) (n : Nat) : State := s.set f (satTo f.width (s.get f + n))
/-- A field increased by 1, held at its maximum. -/
def State.bump (s : State) (f : Fld) : State := s.addSat f 1
/-- A field of a carrier increased by 1, held at its maximum. -/
def State.bumpC (s : State) (c : Carrier) (f : Fld) : State := s.bump (f.on c)
/-- A field increased by `n`, wrapping. -/
def State.addWrap (s : State) (f : Fld) (n : Nat) : State := s.set f (s.get f + n)

/-- The field at the value it resets to. -/
def resetValue (f : Fld) : Nat := R.resets.get f.key

/-! Free values (log entry 7). -/

/-- The next free value. -/
def State.free (s : State) : Nat := Config.freeValue s.freeCtr
/-- The supply of free values advanced. -/
def State.freeNext (s : State) : State := { s with freeCtr := s.freeCtr + 1 }
/-- A field at a value that the spec leaves open. -/
def State.setFree (s : State) (f : Fld) : State := (s.set f s.free).freeNext

/-! Events (R496 to R499). -/

/-- The mask bit of an event ID (R504). -/
def State.masked (s : State) (id : Nat) : Bool := bitOf (s.get (R.EV_MASK.MASK.ix (id / 32))) (id % 32)

/-- The ID has an entry in the queue. -/
def EvQ.pendingId (q : EvQ) (id : Nat) : Bool := q.entries.any (fun e => e.id == id)

/-- R496: one more occurrence counted in the entry of a pending ID. -/
def EvQ.count (q : EvQ) (id : Nat) : List Ev :=
  q.entries.map (fun e => if e.id = id then { e with count := min 255 (e.count + 1) } else e)

/-- Ordinary entries: all but EV_LOST (R497). -/
def EvQ.ordinary (q : EvQ) : Nat := (q.entries.filter (fun e => e.id ≠ E.LOST)).length

/-- R498, R532: a queued event or a changed count wakes a WFE while the supervisor owns the queue. -/
def State.wakeEvq (s : State) : State :=
  if s.on R.EV_CTRL.OWNER then s
  else { s with ctl := { s.ctl with wakeLatch := setBit s.ctl.wakeLatch 0, evSeen := true } }

/-- R498: a new entry sends its MSI-X vector while the host owns the queue. -/
def State.msixEvent (s : State) (id : Nat) : State :=
  if s.on R.EV_CTRL.OWNER then
    { s with host := { s.host with msixSent := s.host.msixSent.set (id / 16) (s.host.msixSent.get (id / 16) + 1) } }
  else s

/-- An entry added at the tail with COUNT 1, the data and the AON time (R496); HWM follows the depth (R504). -/
def State.enqueueEvent (s : State) (e : Ev) : State :=
  let q := s.ev.entries ++ [e]
  let s := { s with ev := { s.ev with entries := q } }
  let s := s.set R.EV_STAT.HWM (satTo 6 (max (s.get R.EV_STAT.HWM) q.length))
  (s.msixEvent e.id).wakeEvq

/-- An occurrence of a pending ID: it is counted, and the first one after the owner's snapshot of the head is
recorded with its data and time (R496, R499). -/
def State.countEvent (s : State) (id data : Nat) : State :=
  let isHead := (s.ev.entries.head?.map (·.id)) == some id
  let rec' :=
    if isHead && s.ev.snap.isSome && s.ev.recorded.isNone then some (data, s.time.aon) else s.ev.recorded
  { s with ev := { s.ev with entries := s.ev.count id, recorded := rec' } }.wakeEvq

/-- R497: the loss of an ordinary event. -/
def State.loseEvent (s : State) (id : Nat) : State :=
  let s := s.bump R.EV_STAT.LOST_TOTAL
  if s.ev.pendingId E.LOST then s.countEvent E.LOST id
  else if s.masked E.LOST then s
  else s.enqueueEvent ⟨E.LOST, 1, id, s.time.aon⟩

/-- Raising an event: pending, masked, queued or lost (R496, R497). -/
def State.raise (s : State) (id data : Nat) : State :=
  let data := data % 2 ^ 32
  if s.ev.pendingId id then s.countEvent id data
  else if s.masked id then s
  else if 63 ≤ s.ev.ordinary ∧ id ≠ E.LOST then s.loseEvent id
  else s.enqueueEvent ⟨id, 1, data, s.time.aon⟩

/-- A carrier's event: the ID of Carrier B is 0x040 higher. -/
def State.raiseC (s : State) (c : Carrier) (id data : Nat) : State := s.raise (id + 0x40 * c.num) data

/-! Client ports and replay channels (R343, R350, R371, R567). -/

/-- A client port beside its registers. -/
def State.port (s : State) (p : Nat) : PortH := (s.client.ports.find p).getD .reset
/-- That port replaced. -/
def State.setPort (s : State) (p : Nat) (h : PortH) : State :=
  { s with client := { s.client with ports := Map.putD .reset s.client.ports p h } }
/-- A replay channel beside its registers. -/
def jb (s : State) (c : Nat) : JobH := (s.store.jobs.find c).getD .reset
/-- A replay channel replaced. -/
def setJb (s : State) (c : Nat) (h : JobH) : State :=
  { s with store := { s.store with jobs := Map.putD .reset s.store.jobs c h } }
/-- A counter of port errors counts `n`; the second of a running port holds an error. -/
def State.portErr (s : State) (f : Fld) (p n : Nat) : State :=
  if n = 0 then s else ((s.addSat (f.ix p) n).setPort p { s.port p with err := true })

/-! Shadow copies and commits (R9, R16 to R18). -/

/-- A write to a STAGED field goes to its shadow copy. -/
def State.stage (s : State) (f : Fld) (v : Nat) : State :=
  let v := v % 2 ^ f.width
  if v = s.get f then { s with shadow := s.shadow.erase f.key } else { s with shadow := s.shadow.put f.key v }

/-- A read of a STAGED field returns its shadow copy. -/
def State.staged (s : State) (f : Fld) : Nat := (s.shadow.find f.key).getD (s.get f)

/-- The first key of a block's window. -/
def blkLo (b : Blk) : Nat := blkBase b * 64
/-- The first key after a block's window. -/
def blkHi (b : Blk) : Nat := (blkBase b + 0x10000) * 64

/-- A key lies in a block's window. -/
def inBlk (b : Blk) (k : Nat) : Bool := decide (blkLo b ≤ k ∧ k < blkHi b)

/-- COMMIT_PENDING: at least one shadow copy of the block differs from the active value (R16). -/
def State.commitPending (s : State) (b : Blk) : Bool := s.shadow.any (fun p => inBlk b p.1)

/-- All shadow copies of a block transfer together; COMMIT_REQ clears (R9, R16). -/
def State.transfer (s : State) (b : Blk) : State :=
  { s with
    regs := ((s.shadow.filter (fun p => inBlk b p.1)).foldl (fun m p => m.set p.1 p.2) s.regs).set (commitReqF b).key 0
    shadow := s.shadow.filter (fun p => !inBlk b p.1)
    named := s.named.filter (· ≠ b) }

/-- A commit point of a carrier sub-block has passed: a COMMIT that named the block counts no longer (R18). -/
def State.commitPassed (s : State) (b : Blk) : State := { s with named := s.named.filter (· ≠ b) }

/-- A line-frame commit point of a carrier sub-block takes place as CP_SEL says (R18). -/
def State.commitDue (s : State) (b : Blk) : Bool :=
  if s.get (cpSelF b) = 0 then s.commitPending b || s.on (commitReqF b) else s.named.contains b

/-! Running, stopping, waiting to start (R13, R35, R666, R672). -/

/-- BLK_STAT.RUNNING. -/
def State.running (s : State) (b : Blk) : Bool := s.on (runningF b)
/-- BLK_CTRL.RUN. -/
def State.runBit (s : State) (b : Blk) : Bool := s.on (runF b)
/-- RUN has been cleared and RUNNING still reads 1 (R666). -/
def State.stopping (s : State) (b : Blk) : Bool := s.stops.contains b
/-- The block waits with RUN set (R35, R666, R672). -/
def State.waits (s : State) (b : Blk) : Bool := s.waiting.contains b

/-- The block is to start later. -/
def State.wait (s : State) (b : Blk) : State := { s with waiting := b :: s.waiting.filter (· ≠ b) }
/-- The block waits no longer. -/
def State.unwait (s : State) (b : Blk) : State := { s with waiting := s.waiting.filter (· ≠ b) }

/-- Clearing RUN: a running block begins its stop, a waiting start is withdrawn (R13, R666, R672). -/
def State.clearRun (s : State) (b : Blk) : State :=
  let s := (s.set (runF b) 0).unwait b
  if s.running b then { s with stops := b :: s.stops.filter (· ≠ b) } else s

/-- The stop point is reached: RUNNING falls, and a start written meanwhile waits for the next cycle (R666). -/
def State.stopPoint (s : State) (b : Blk) : State :=
  let s := { s.set (runningF b) 0 with stops := s.stops.filter (· ≠ b) }
  if s.runBit b then s.wait b else s

/-! Device state and mode. -/

/-- SYS_STATE.STATE codes (R30). -/
def stBOOT : Nat := 1
/-- RUN. -/
def stRUN : Nat := 2
/-- STANDBY. -/
def stSTANDBY : Nat := 3
/-- NIGHT. -/
def stNIGHT : Nat := 4
/-- THERMAL-OFF. -/
def stTHERMALOFF : Nat := 5

/-- The device state; 0 stands for RESET (R39). -/
def State.dev (s : State) : Nat := s.get R.SYS_STATE.STATE

/-- A change of device state raises EV_STATE_CHANGE (R39). -/
def State.goto (s : State) (st : Nat) : State :=
  if s.dev = st then s else
    let old := s.dev
    (s.set R.SYS_STATE.STATE st).raise E.STATE_CHANGE (st + 256 * old)

/-- SYS_CMODE.MODE of a carrier (R32, R34). -/
def State.mode (s : State) (c : Carrier) : Nat := s.get (R.SYS_CMODE.MODE.ix c.num)

/-- Mode codes of R34. -/
def mCONT : Nat := 0
/-- DUAL. -/
def mDUAL : Nat := 1
/-- DAWN-RX. -/
def mDAWNRX : Nat := 2
/-- DAWN-TX. -/
def mDAWNTX : Nat := 3
/-- REGEN. -/
def mREGEN : Nat := 4
/-- BEXA. -/
def mBEXA : Nat := 5
/-- ZR400. -/
def mZR400 : Nat := 6
/-- DIAG. -/
def mDIAG : Nat := 7

/-- The claim interlock and the device state let the carriers transmit (R65, R545). -/
def State.txEnabled (s : State) : Bool := s.pair.txEnable && s.dev == stRUN

/-- The throttle indication of R597, which lowers margins (R1). -/
def State.throttled (s : State) : Bool := s.on R.PWR_STAT.THROTTLE

/-! Time that has passed (log entry 56). -/

/-- ns of AON time since a moment, modulo 2^48. -/
def nsSince (s : State) (t : Nat) : Nat := (s.time.aon + 2 ^ 48 - t % 2 ^ 48) % 2 ^ 48

/-- What the device times from a past moment, beside the acquisition of R155: defects 1 to 3 of R278, the pair switch request
(R285), wait-to-restore (R283), the delay measurement (R277), the last late copy (R284), the detection of a burst (R193), the
lease of a time domain (R447); by module the leak of the bucket (R368), overload and calm (R365); by ring the pointer saves
(R361) and the rate windows (R366); the PCS lock of a client lane (R389); by Pod port LINK_ID and TIME blocks (R397, R405),
and the bond (R403); the oscillator, SYSPLL, ACQUIRE and LOCKED of the DPLL, the gate of FMEAS and the references (R412 to
R425); differences of the time domains (R448); the memory bucket, DUPLEX, RESYNC, scrubbers, clock gates and drains (R480 to
R492, R587); beats, their miss timers, back-off, claim, collision, KICK and SYNC transfers (R546 to R557); the ledger's second
(R566), the entry to NIGHT (R590), the sensor (R594), MADC (R603), a peer boot and its requests (R619, R622), the polls of the
optics (R627). -/
inductive Timer where
  | sync (c : Carrier) (d : Nat)
  | psr (c : Carrier)
  | wtr (c : Carrier)
  | delay (c : Carrier)
  | late (c : Carrier)
  | detect (c : Carrier)
  | lease (d : Nat)
  | storeLeak (m : Nat)
  | level (m : Nat)
  | calm (m : Nat)
  | pointers (r : Nat)
  | rate (r : Nat)
  | lane (n : Nat)
  | linkId (k : Nat)
  | podTime (k : Nat)
  | bond
  | crystal
  | sysPll
  | acquire
  | locked
  | gate
  | refs
  | diff
  | memLeak
  | duplex
  | resync
  | scrub (m : Nat)
  | cgate (d : Nat)
  | drain (d : Nat)
  | beat
  | pinBeat
  | podBeat
  | backoff
  | claim
  | collided
  | kick
  | syncTx
  | ledger
  | night
  | sensor
  | madc
  | boot
  | bootReq
  | hold
  | poll (c : Carrier)
  deriving DecidableEq, Repr

/-- The timers numbered. -/
def Timer.key : Timer → Nat
  | .sync c d => 8 * c.num + d
  | .psr c => 8 * c.num + 4
  | .wtr c => 8 * c.num + 5
  | .delay c => 8 * c.num + 6
  | .late c => 8 * c.num + 7
  | .detect c => 16 + c.num
  | .lease d => 18 + d
  | .storeLeak m => 20 + m
  | .level m => 24 + m
  | .calm m => 28 + m
  | .pointers r => 256 + r
  | .rate r => 512 + r
  | .lane n => 128 + n
  | .linkId k => 192 + k
  | .podTime k => 200 + k
  | .bond => 208
  | .crystal => 209
  | .sysPll => 210
  | .acquire => 211
  | .locked => 212
  | .gate => 213
  | .refs => 214
  | .diff => 215
  | .memLeak => 216
  | .duplex => 217
  | .resync => 218
  | .scrub m => 640 + m
  | .cgate d => 672 + d
  | .drain d => 704 + d
  | .beat => 219
  | .pinBeat => 220
  | .podBeat => 221
  | .backoff => 222
  | .claim => 223
  | .collided => 224
  | .kick => 225
  | .syncTx => 226
  | .ledger => 227
  | .night => 228
  | .sensor => 229
  | .madc => 230
  | .boot => 231
  | .bootReq => 232
  | .poll c => 233 + c.num
  | .hold => 235

/-- A timer counts from now. -/
def State.mark (s : State) (t : Timer) : State :=
  { s with time := { s.time with marks := s.time.marks.set t.key s.time.aon } }

/-- ns that a timer has counted. -/
def State.age (s : State) (t : Timer) : Nat := nsSince s (s.time.marks.get t.key)

/-- A period of `p` ns has ended: it counts on from its end. None while it has not. -/
def State.lap (s : State) (t : Timer) (p : Nat) : Option State :=
  if s.age t < p then none
  else some { s with time := { s.time with marks := s.time.marks.set t.key ((s.time.aon + 2 ^ 48 - s.age t % p) % 2 ^ 48) } }

/-- What recurs every `p` ns from a first time that falls at once. -/
def State.every (s : State) (t : Timer) (p : Nat) : Option State :=
  match s.time.marks.find t.key with
  | some _ => s.lap t p
  | none =>
    let m : Map Nat := Map.put s.time.marks t.key s.time.aon
    some { s with time := { s.time with marks := m } }

/-! Clocks of a block's traffic (R427, R668, R672). -/

/-- The mux runs from its PLL and passes a clock. -/
def State.muxOnPll (s : State) (n : Nat) : Bool :=
  s.get (R.CLK_MUX.CUR.ix n) != 2 && !s.on (R.CLK_MUX.MUX_STALL.ix n)

/-- The muxes that give a block its traffic clocks. -/
def trafficMuxes (s : State) : Blk → List Nat
  | .tx c => [4 + 2 * c.num]
  | .rxdsp c | .dawn c => [5 + 2 * c.num]
  | .fec c => [4 + 2 * c.num, 5 + 2 * c.num]
  | .conv c =>
    (if s.onC c R.CONV_CTRL.DAC_EN then [4 + 2 * c.num] else []) ++
    (if s.onC c R.CONV_CTRL.ADC_EN then [5 + 2 * c.num] else [])
  | .framer _ | .cipher _ => [1]
  | .client | .flow => [2]
  | .store => [3]
  | _ => []

/-- Every traffic clock of the block comes from its PLL (R672). -/
def State.clockReady (s : State) (b : Blk) : Bool := (trafficMuxes s b).all s.muxOnPll

/-- MODE_ERR holds the sub-blocks of both carriers (R35). -/
def State.modeErr (s : State) : Bool := s.on (R.SYS_CMODE.MODE_ERR.ix 0)

end Sys2Proof.Machine
end

