-- ==== Sys2Proof/Machine/Conv.lean ====
section
/-! DEFINITION. The line converters of a carrier and their calibration (R89 to R131). -/

namespace Sys2Proof

open Machine

/-! Trims. -/

/-- A trim word as the image holds it: OFFSET, GAIN, SKEW in bytes 0 to 2 (R109). -/
def Trim.pack (t : Trim) : Nat := ofSigned 8 t.offset + 256 * ofSigned 8 t.gain + 65536 * ofSigned 8 t.skew
/-- The trims of an image word. -/
def Trim.unpack (v : Nat) : Trim :=
  ⟨toSigned 8 (bitsOf v 7 0), toSigned 8 (bitsOf v 15 8), toSigned 8 (bitsOf v 23 16)⟩
/-- Trims moved, held in their 8-bit range (R94). -/
def Trim.add (t d : Trim) : Trim :=
  ⟨clampSigned 8 (t.offset + d.offset), clampSigned 8 (t.gain + d.gain), clampSigned 8 (t.skew + d.skew)⟩
/-- The change from `o` to `n`. -/
def Trim.diff (n o : Trim) : Trim := ⟨n.offset - o.offset, n.gain - o.gain, n.skew - o.skew⟩
/-- The reverse change. -/
def Trim.neg (d : Trim) : Trim := ⟨-d.offset, -d.gain, -d.skew⟩
/-- The sign of each part: a move of at most one code per trim (R100). -/
def Trim.sign (d : Trim) : Trim := ⟨d.offset.sign, d.gain.sign, d.skew.sign⟩
/-- At most one code in each trim (R98). -/
def Trim.small (d : Trim) : Bool := decide (d.offset.natAbs ≤ 1 ∧ d.gain.natAbs ≤ 1 ∧ d.skew.natAbs ≤ 1)

/-- The mean of two runs, rounded half away from zero (R96). -/
def meanRun (a b : Int) : Int := divRoundI (a + b) 2

/-- The mean of two runs of trims. -/
def Trim.mean (a b : Trim) : Trim :=
  ⟨meanRun a.offset b.offset, meanRun a.gain b.gain, meanRun a.skew b.skew⟩

end Sys2Proof

namespace Sys2Proof.Machine

open Sys2Proof

/-- The converter state of a carrier that no register shows. -/
def State.cvh (s : State) (c : Carrier) : ConvH := s.conv.get c
/-- That state replaced. -/
def State.setCvh (s : State) (c : Carrier) (h : ConvH) : State := { s with conv := s.conv.set c h }

/-- CAL_TOL, where 0 acts as 1 (R122). -/
def calTol (s : State) (c : Carrier) : Nat := max 1 (s.getC c R.CAL_CTRL.CAL_TOL)

/-- R96: two runs agree within the tolerance in every quantity. -/
def runsAgree (tol : Nat) (a b : Trim) : Bool :=
  let d := a.diff b
  decide (d.offset.natAbs ≤ tol ∧ d.gain.natAbs ≤ tol ∧ d.skew.natAbs ≤ tol)

/-- The diode temperature in 1/16 °C (R594). -/
def State.temp (s : State) : Int := toSigned 16 (s.get R.THERM_TEMP.TEMP)

/-- The key of entry `i` of set `n` (R109). -/
def setKey (n i : Nat) : Nat := 265 * n + 1 + i

/-- Word `k` of the sets as the image holds it: anchors of 16 bits, three trims of a slice, two of a DAC; in VOLATILE set 0
alone (R109). -/
def setWord (banded : Bool) (k v : Nat) : Nat :=
  if !banded && decide (265 ≤ k) then 0
  else if k % 265 = 0 ∨ 261 ≤ k % 265 then v % 2 ^ 16
  else v % 2 ^ 24

/-- R106: the pass or calibration in progress takes the set of its start: once, before its first result, in BANDED every
entry is copied from the trims applied at its start and the anchor is the temperature of its start; the set is valid. What the
spec leaves open here (when within a pass the set becomes valid, and what it holds for slices not accepted) is chosen so (log
entry 102). -/
def ConvH.open (h : ConvH) (banded : Bool) : ConvH :=
  if h.setOpen then h
  else
    let n := if banded then h.setStart else 0
    let copied := (List.range 264).foldl (fun m i => Map.set m (setKey n i) (h.atStart.get i)) h.sets
    { h with
      sets := if banded then copied.set (265 * n) (ofSigned 16 h.tStart) else h.sets
      setValid := setBit h.setValid n
      setOpen := true }

/-- An accepted result enters the set of its pass or calibration (R105, R106). -/
def ConvH.record (h : ConvH) (banded : Bool) (i : Nat) (t : Trim) : ConvH :=
  let h := h.open banded
  { h with sets := h.sets.set (setKey (if banded then h.setStart else 0) i) t.pack }

/-- R107: the value of a trim between two anchors, rounded half away from zero. -/
def interpolate (v1 v2 t1 t2 t : Int) : Int :=
  if t2 = t1 then v2 else divRoundI (v1 * (t2 - t1) + (v2 - v1) * (t - t1)) (t2 - t1).toNat

/-- The valid sets in order of anchor temperature: (anchor, set). -/
def validSets (h : ConvH) : List (Int × Nat) :=
  ((List.range 3).filter (fun n => bitOf h.setValid n)).map (fun n => (toSigned 16 (h.sets.get (265 * n)), n))
    |>.mergeSort (fun a b => decide (a.1 ≤ b.1))

/-- R107: the trims of entry `i` at temperature `t`, from the valid sets in order of anchor. -/
def bandedTrim (h : ConvH) (t : Int) (i : Nat) : List (Int × Nat) → Trim
  | [] => trimZero
  | [(_, n)] => .unpack (h.sets.get (setKey n i))
  | (t1, n1) :: (t2, n2) :: rest =>
    let v1 := Trim.unpack (h.sets.get (setKey n1 i))
    let v2 := Trim.unpack (h.sets.get (setKey n2 i))
    if t ≤ t1 then v1
    else if t ≤ t2 then
      ⟨interpolate v1.offset v2.offset t1 t2 t, interpolate v1.gain v2.gain t1 t2 t,
        interpolate v1.skew v2.skew t1 t2 t⟩
    else bandedTrim h t i ((t2, n2) :: rest)

/-- The trims that the storage model calls for: the single set (R105) or the interpolation (R107). -/
def wantedTrims (s : State) (c : Carrier) : Map Nat :=
  let h := s.cvh c
  let vs := validSets h
  (List.range 264).foldl (fun m i =>
    m.set i (if s.onC c R.CAL_CTRL.MODEL then (bandedTrim h s.temp i vs).pack else h.sets.get (setKey 0 i))) []

/-! Start and stop (R92, R93). -/

/-- The power domain bit of an ADC or DAC part (R491). -/
def adcDom (c : Carrier) : Nat := 5 + 5 * c.num
/-- The DAC part's. -/
def dacDom (c : Carrier) : Nat := 6 + 5 * c.num
/-- A power domain is on (R608). -/
def State.domOn (s : State) (d : Nat) : Bool := bitOf (s.get R.PWR_DOM_STAT.ON) d

/-- A sample rate within R90. -/
def convRateOk (r : Nat) : Bool := decide (60000 ≤ r ∧ r ≤ 270000)

/-- R92: the start checks in ascending order of code (R19); 0 when all pass. -/
def convCfgCode (s : State) (c : Carrier) : Nat :=
  let adc := s.onC c R.CONV_CTRL.ADC_EN
  let dac := s.onC c R.CONV_CTRL.DAC_EN
  if adc && !convRateOk (s.get ((R.CONV_RATE.RATE.ix 0).on c)) then 1
  else if dac && !convRateOk (s.get ((R.CONV_RATE.RATE.ix 1).on c)) then 2
  else if (adc && !s.domOn (adcDom c)) || (dac && !s.domOn (dacDom c)) then 3
  else if s.onC c R.CONV_CTRL.LPBK && s.mode c != mDIAG then 4
  else 0

/-- The four steps with one function applied to each. -/
def ConvH.mapAdc (h : ConvH) (f : AdcStep → AdcStep) : ConvH := { h with adc := h.adc.map f }

/-- Passes run in this mode (R104); 0b11 acts as OFF. -/
def bgOn (s : State) (c : Carrier) : Bool :=
  s.getC c R.CAL_CTRL.BG_MODE == 1 || s.getC c R.CAL_CTRL.BG_MODE == 2

/-- A step for slot `k` begins, in a pass of 65 steps (R98, R103); after slot 63 comes slot 0 again (log entry 102). -/
def AdcStep.begin (a : AdcStep) (k : Nat) : AdcStep :=
  if a.stopped ∨ a.st = .parked ∨ 65 ≤ a.steps then a else { a with st := .shadowIn, slot := k % 64, rounds := 0, onNew := false }

/-- A background pass starts: its band and temperature are those of its start (R104, R106). Every pass begins at slot 0, also
one after a pass that was interrupted, and ADC steps run whether or not ADC_EN is 1 (log entry 102). An ADC whose rotation has
stopped has no slice calibrated in it (R96, R98). -/
def passStart (s : State) (c : Carrier) : State :=
  let h := s.cvh c
  let h := { h with tStart := s.temp, setStart := s.get R.PWR_STAT.BAND, atStart := h.applied, setOpen := false }
  let h := h.mapAdc (fun a => { ({ a with steps := 0 } : AdcStep).begin 0 with allOk := !a.stopped && a.st != .parked })
  (s.setCvh c h).setBC c R.CONV_STAT.BG_BUSY true

/-- A pass is asked for: it starts, or is kept for after the one in progress; while CONV is stopped it is ignored
(R104). -/
def passRequest (s : State) (c : Carrier) : State :=
  if !s.running (.conv c) || !bgOn s c then s
  else if s.onC c R.CONV_STAT.BG_BUSY then s.setBC c R.CONV_STAT.BG_PENDING true
  else passStart s c

/-- CONV runs: shadow copies transferred, its enabled parts active, a first pass (R92, R104). -/
def convRun (s : State) (c : Carrier) : State :=
  let s := (s.transfer (.conv c)).unwait (.conv c)
  let s := (s.set (runningF (.conv c)) 1).setBC c R.CONV_STAT.CFG_ERR false
  let s := (s.setBC c R.CONV_STAT.ADC_ACTIVE (s.onC c R.CONV_CTRL.ADC_EN)).setBC c R.CONV_STAT.DAC_ACTIVE
    (s.onC c R.CONV_CTRL.DAC_EN)
  passRequest s c

/-- Foreground calibration begins, for a start or by a write: its band and temperature are those of its start (R97, R106). -/
def fgBegin (s : State) (c : Carrier) (forStart : Bool) : State :=
  let h := s.cvh c
  (s.setCvh c
    { h with
      tStart := s.temp, setStart := s.get R.PWR_STAT.BAND, atStart := h.applied, setOpen := false, fgForStart := forStart
      fgByWrite := !forStart }).setBC c R.CONV_STAT.FG_BUSY true

/-- A start that needs foreground calibration says so (R112). -/
def fgEvent (s : State) (c : Carrier) : State := s.raiseC c E.CAL_FOREGROUND (s.getC c R.CAL_IMG_CTRL.REJ_CODE)

/-- The start of CONV once RUN reads 1 (R35, R92, R672, R112). A foreground calibration in progress is waited for, since it runs
only while CONV does not (R97). -/
def convTryStart (s : State) (c : Carrier) : State :=
  if s.modeErr then s.wait (.conv c)
  else
    let code := convCfgCode s c
    if code ≠ 0 then
      (((s.unwait (.conv c)).setBC c R.CONV_STAT.CFG_ERR true).setC c R.CONV_STAT.CFG_CODE code).raiseC c
        E.CONV_CFG_ERR code
    else if !s.clockReady (.conv c) then s.wait (.conv c)
    else if s.onC c R.CONV_STAT.FG_BUSY then
      let t := (s.unwait (.conv c)).setCvh c { s.cvh c with fgForStart := true }
      if s.onC c R.CONV_STAT.CAL_VALID || (s.cvh c).fgForStart then t else fgEvent t c
    else if s.onC c R.CONV_STAT.CAL_VALID then convRun s c
    else fgEvent (fgBegin (s.unwait (.conv c)) c true) c

/-- The slice takes its slot back with its old trims, the spare goes off line (R98). -/
def AdcStep.abandon (a : AdcStep) : AdcStep :=
  if a.st = .parked then a else { a with st := .idle, onNew := false, left := trimZero, delta := trimZero }

/-- The applied and wanted value of one trim entry. -/
def ConvH.put (h : ConvH) (i : Nat) (t : Trim) : ConvH :=
  { h with applied := h.applied.set i t.pack, target := h.target.set i t.pack }

/-- Steps in progress are abandoned: a slice on new trims goes back to its old ones. -/
def ConvH.abandonSteps (h : ConvH) : ConvH :=
  let h' := (List.range 4).foldl (fun h n =>
    match h.adc[n]? with
    | some a => if a.st ≠ .parked ∧ a.onNew then h.put (65 * n + a.slot) a.old else h
    | none => h) h
  h'.mapAdc AdcStep.abandon

/-- CONV_RUN_CLEAR: both parts stop, the pins go to zero, a step and a pass are abandoned (R93, R98, R104); a start that
waits or calibrates is withdrawn. That BG_PENDING clears, and that a foreground calibration of the withdrawn start runs on to its
end and keeps its results, is the model's choice (log entry 102). -/
def convStop (s : State) (c : Carrier) : State :=
  let s := (s.set (runF (.conv c)) 0).unwait (.conv c)
  let s := s.setCvh c { (s.cvh c).abandonSteps with fgForStart := false }
  let s := (s.setBC c R.CONV_STAT.BG_BUSY false).setBC c R.CONV_STAT.BG_PENDING false
  let s := (s.setBC c R.CONV_STAT.ADC_ACTIVE false).setBC c R.CONV_STAT.DAC_ACTIVE false
  s.set (runningF (.conv c)) 0

/-! Acceptance and foreground calibration (R96, R97). -/

/-- Fail bits take their new values; the newly set ones are reported together (R96). -/
def putFails (s : State) (c : Carrier) (adc dac : Nat) : State :=
  let newA := adc &&& (adc ^^^ s.getC c R.CAL_STAT.ADC_FAIL)
  let newD := dac &&& (dac ^^^ s.getC c R.CAL_STAT.DAC_FAIL)
  let s := (s.setC c R.CAL_STAT.ADC_FAIL adc).setC c R.CAL_STAT.DAC_FAIL dac
  if newA = 0 ∧ newD = 0 then s else s.raiseC c E.CAL_FAIL (newA + 256 * newD)

/-- The two runs of entry `i`: a DAC has no SKEW (R94). -/
def entryRuns (i : Nat) (r : Trim × Trim) : Trim × Trim :=
  if i < 260 then r else ({ r.1 with skew := 0 }, { r.2 with skew := 0 })

/-- One result of foreground calibration: accepted, it enters the set and is applied; rejected, the entry keeps its
previous value, in BANDED the one applied at the start (R96, R97, R106). -/
def fgOne (banded : Bool) (tol : Nat) (i : Nat) (h : ConvH) (r : Trim × Trim) : ConvH :=
  let r := entryRuns i r
  if runsAgree tol r.1 r.2 then (h.record banded i (r.1.mean r.2)).put i (r.1.mean r.2) else h.open banded

/-- All results in order of entry: 65 slices of each ADC, then the four DACs. -/
def fgAll (banded : Bool) (tol : Nat) : Nat → List (Trim × Trim) → ConvH → ConvH
  | _, [], h => h
  | i, r :: rs, h => fgAll banded tol (i + 1) rs (fgOne banded tol i h r)

/-- The converters of which some result was rejected: bit a for an ADC, bit 4 + d for a DAC. -/
def fgRejects (tol : Nat) : Nat → List (Trim × Trim) → Nat
  | _, [] => 0
  | i, r :: rs =>
    let rest := fgRejects tol (i + 1) rs
    let r := entryRuns i r
    if runsAgree tol r.1 r.2 then rest else setBit rest (if i < 260 then i / 65 else i - 256)

/-- FG_CAL_DONE with the two runs of each slice and DAC: acceptance (R96), CAL_VALID, SPARE_FAULT and rotation of the
ADCs all of whose slices are accepted (R97, R98), then the start it belongs to (R92). -/
def fgDone (s : State) (c : Carrier) (runs : List (Trim × Trim)) : State :=
  if !s.onC c R.CONV_STAT.FG_BUSY then s
  else
    let tol := calTol s c
    let runs := runs.take 264
    let rej := fgRejects tol 0 runs
    let h := (fgAll (s.onC c R.CAL_CTRL.MODEL) tol 0 runs (s.cvh c)).open (s.onC c R.CAL_CTRL.MODEL)
    let h := { h with
      adc := h.adc.mapIdx (fun n a => if bitOf rej n then a else { a with st := .idle, fails := 0, stopped := false }) }
    let forStart := h.fgForStart
    let s := s.setCvh c { h with fgForStart := false, fgByWrite := false }
    let s := putFails s c (bitsOf rej 3 0) (bitsOf rej 7 4)
    let s := s.setC c R.CAL_STAT.SPARE_FAULT (s.getC c R.CAL_STAT.SPARE_FAULT &&& bitsOf rej 3 0)
    let s := (s.setBC c R.CONV_STAT.CAL_VALID true).setBC c R.CONV_STAT.FG_BUSY false
    if forStart && s.runBit (.conv c) then convRun s c else s

/-- A HALTED write that was discarded with a differing value: CFG_DISCARD and EV_CFG_BUSY with the address (R11). -/
def haltedDiscard (s : State) (b : Blk) (addr : Nat) : State := (s.set (cfgDiscardF b) 1).raise E.CFG_BUSY addr

/-- FG_START: a HALTED action; while CONV runs it is discarded (R97, R11). -/
def fgStart (s : State) (c : Carrier) : State :=
  if s.running (.conv c) then haltedDiscard s (.conv c) (R.CAL_CTRL.FG_START.on c).addr
  else if s.onC c R.CONV_STAT.FG_BUSY then s
  else fgBegin s c false

/-! Background rotation (R98 to R104). -/

/-- The step of ADC `n`. -/
def ConvH.adcAt (h : ConvH) (n : Nat) : AdcStep := (h.adc[n]?).getD .reset
/-- The step of ADC `n` replaced. -/
def ConvH.setAdc (h : ConvH) (n : Nat) (a : AdcStep) : ConvH := { h with adc := h.adc.set n a }

/-- The trims applied to entry `i`. -/
def ConvH.trim (h : ConvH) (i : Nat) : Trim := .unpack (h.applied.get i)

/-- The rotation of ADC `n` stops: SPARE_FAULT and its event, bit 8 set when parked (R98, R131). -/
def spareFault (s : State) (c : Carrier) (n : Nat) (parked : Bool) : State :=
  (s.setC c R.CAL_STAT.SPARE_FAULT (setBit (s.getC c R.CAL_STAT.SPARE_FAULT) n)).raiseC c E.CAL_SPARE_FAULT
    (n + 256 * b2n parked)

/-- The end of a step with the slice back in its slot: its result enters its set and stands at once, the next slot follows (R98,
R105, R106, R107). In BANDED a rejected slice takes the value applied at the start of the pass. -/
def stepEnd (h : ConvH) (banded : Bool) (n : Nat) : ConvH :=
  let a := h.adcAt n
  let i := 65 * n + a.slot
  let h := if a.onNew then (h.record banded i a.new).put i a.new else h.open banded
  h.setAdc n ({ a with st := .idle, fails := 0, onNew := false, steps := a.steps + 1 } |>.begin (a.slot + 1))

/-- BG_ROUND_END in SHADOW_IN: the spare takes the slot, is moved by the full residual, or the step is abandoned (R98). -/
def roundShadow (s : State) (c : Carrier) (n : Nat) (res : Trim) : State :=
  let h := s.cvh c
  let a := h.adcAt n
  let rounds := a.rounds + 1
  if res.small then
    s.setCvh c (h.setAdc n { a with st := .measure, rounds := 0, old := h.trim (65 * n + a.slot), onNew := false })
  else if rounds < 4 then
    s.setCvh c ((h.put (65 * n + 64) ((h.trim (65 * n + 64)).add res)).setAdc n { a with rounds := rounds })
  else
    let fails := a.fails + 1
    let a := { a with st := StepSt.idle, fails := fails, stopped := decide (3 ≤ fails), allOk := false, steps := a.steps + 1 }
    let s := s.setCvh c (h.setAdc n (a.begin (a.slot + 1)))
    if 3 ≤ fails then spareFault s c n false else s

/-- BG_ROUND_END in VERIFY: the slice takes its slot back, the spare follows one code, the slice returns to its old
trims, or the spare keeps the slot (R98). -/
def roundVerify (s : State) (c : Carrier) (n : Nat) (res : Trim) : State :=
  let h := s.cvh c
  let a := h.adcAt n
  let rounds := a.rounds + 1
  if res.small then s.setCvh c (stepEnd h (s.onC c R.CAL_CTRL.MODEL) n)
  else if rounds < 4 then
    s.setCvh c ((h.put (65 * n + 64) ((h.trim (65 * n + 64)).add res.sign)).setAdc n { a with rounds := rounds })
  else if a.onNew then
    let d := a.delta.neg
    s.setCvh c ((h.put (65 * n + a.slot) a.old).setAdc n
      { a with st := .ramp, rounds := 0, onNew := false, delta := d, left := d, allOk := false })
  else
    spareFault (s.setCvh c ((h.open (s.onC c R.CAL_CTRL.MODEL)).setAdc n { a with st := .parked, stopped := true, allOk := false }))
      c n true

/-- BG_ROUND_END: a round of 2^18 slice samples of ADC `n` ends with a residual (R98). -/
def bgRoundEnd (s : State) (c : Carrier) (n : Nat) (res : Trim) : State :=
  match ((s.cvh c).adcAt n).st with
  | .shadowIn => roundShadow s c n res
  | .verify => roundVerify s c n res
  | _ => s

/-- Loss of light for the skew estimator: the carrier's indication, and in DAWN-RX the gaps between bursts (R101). -/
def skewHeld (s : State) (c : Carrier) : Bool :=
  s.onC c R.RXDSP_STAT.LOL || (s.mode c == mDAWNRX && !s.onC c R.DAWN_STAT.LIGHT)

/-- BG_MEASURE_DONE: both measurement runs of the slice are done (R96, R98). During loss of light the slice keeps its
skew and only offset and gain decide (R101). -/
def bgMeasureDone (s : State) (c : Carrier) (n : Nat) (r1 r2 : Trim) : State :=
  let h := s.cvh c
  let a := h.adcAt n
  if a.st ≠ .measure then s
  else
    let lol := skewHeld s c
    let r1 := if lol then { r1 with skew := a.old.skew } else r1
    let r2 := if lol then { r2 with skew := a.old.skew } else r2
    if runsAgree (calTol s c) r1 r2 then
      let new := r1.mean r2
      let d := new.diff a.old
      let st := if d = trimZero then StepSt.verify else .ramp
      s.setCvh c ((h.put (65 * n + a.slot) new).setAdc n
        { a with st := st, rounds := 0, new := new, onNew := true, delta := d, left := d })
    else
      let s := s.setCvh c (h.setAdc n
        { a with st := .verify, rounds := 0, onNew := false, delta := trimZero, left := trimZero, allOk := false })
      putFails s c (setBit (s.getC c R.CAL_STAT.ADC_FAIL) n) (s.getC c R.CAL_STAT.DAC_FAIL)

/-- One ramp interval of ADC `n`: the spare moves by at most one code per trim; when it has moved by delta, VERIFY
follows (R98, R100). -/
def rampAdc (h : ConvH) (n : Nat) : ConvH :=
  let a := h.adcAt n
  if a.st ≠ .ramp then h
  else
    let m := a.left.sign
    let left := a.left.diff m
    (h.put (65 * n + 64) ((h.trim (65 * n + 64)).add m)).setAdc n
      { a with left := left, st := if left = trimZero then .verify else .ramp, rounds := 0 }

/-- Entry `i` waits because its slice, or the spare, is inside a step (R100). A parked slice and the spare that keeps its slot
count as inside the step (log entry 102). -/
def ConvH.inStep (h : ConvH) (i : Nat) : Bool :=
  if 260 ≤ i then false
  else
    let a := h.adcAt (i / 65)
    a.st != .idle && (i % 65 == a.slot || i % 65 == 64)

/-- One ramp interval of an entry that moves towards its wanted value by at most one code per trim (R100, R102). -/
def rampEntry (h : ConvH) (i : Nat) : ConvH :=
  if h.inStep i then h
  else
    let t := h.trim i
    let w := Trim.unpack (h.target.get i)
    { h with applied := h.applied.set i (t.add (w.diff t).sign).pack }

/-- RAMP_INTERVAL of the carrier's converters. -/
def rampInterval (s : State) (c : Carrier) : State :=
  let h := (s.cvh c).target.foldl (fun h p => rampEntry h p.1) (s.cvh c)
  let h := h.applied.foldl (fun h p => if (h.target.find p.1).isSome then h else rampEntry h p.1) h
  s.setCvh c ((List.range 4).foldl rampAdc h)

/-- TRIM_INTERPOLATE: in BANDED the wanted trims are recomputed from the latest temperature (R107). -/
def trimInterpolate (s : State) (c : Carrier) : State :=
  if s.onC c R.CAL_CTRL.MODEL then s.setCvh c { s.cvh c with target := wantedTrims s c } else s

/-- The DAC results of a pass in order of DAC, and the fail bits they leave (R96, R102): an accepted change is reached under
R100. -/
def dacResults (banded : Bool) (tol : Nat) : Nat → List (Trim × Trim) → ConvH × Nat → ConvH × Nat
  | _, [], x => x
  | d, r :: rs, (h, fail) =>
    let r := entryRuns (260 + d) r
    if runsAgree tol r.1 r.2 then
      let h := h.record banded (260 + d) (r.1.mean r.2)
      dacResults banded tol (d + 1) rs ({ h with target := h.target.set (260 + d) (r.1.mean r.2).pack }, clrBit fail d)
    else dacResults banded tol (d + 1) rs (h.open banded, setBit fail d)

/-- BG_PASS_END: the pass is complete once every ADC that rotates has had its steps: T_LAST, the fail bits of converters wholly
accepted (R96), and the next pass, pending or continuous (R104). -/
def bgPassEnd (s : State) (c : Carrier) (dac : List (Trim × Trim)) : State :=
  let busy := fun a : AdcStep => a.st != .idle && a.st != .parked
  if !s.onC c R.CONV_STAT.BG_BUSY || (s.cvh c).adc.any busy then s
  else
    let r := dacResults (s.onC c R.CAL_CTRL.MODEL) (calTol s c) 0 (dac.take 4) (s.cvh c, s.getC c R.CAL_STAT.DAC_FAIL)
    let fails := (List.range 4).foldl (fun m n => if (r.1.adcAt n).allOk then clrBit m n else m)
      (s.getC c R.CAL_STAT.ADC_FAIL)
    let s := putFails (s.setCvh c { r.1 with tLast := r.1.tStart }) c fails r.2
    let s := s.setBC c R.CONV_STAT.BG_BUSY false
    let more := s.onC c R.CONV_STAT.BG_PENDING || s.getC c R.CAL_CTRL.BG_MODE == 2
    let s := s.setBC c R.CONV_STAT.BG_PENDING false
    if more then passRequest s c else s

/-- A temperature trigger in TRIG: the diode differs from T_LAST, the temperature at the start of the last completed pass, by
CAL_DELTA °C or more (R104). -/
def bgTrigger (s : State) (c : Carrier) : State :=
  let h := s.cvh c
  let delta := 16 * max 1 (s.getC c R.CAL_CTRL.CAL_DELTA)
  if s.getC c R.CAL_CTRL.BG_MODE = 1 ∧ delta ≤ (s.temp - h.tLast).natAbs then passRequest s c else s

/-! Storage model and image (R105 to R113). -/

/-- MODEL_CHANGE: HALTED; the sets are converted as R108 states. -/
def modelChange (s : State) (c : Carrier) (banded : Bool) : State :=
  if s.running (.conv c) then
    if s.onC c R.CAL_CTRL.MODEL = banded then s else haltedDiscard s (.conv c) (R.CAL_CTRL.MODEL.on c).addr
  else if s.onC c R.CAL_CTRL.MODEL = banded then s
  else
    let h := s.cvh c
    let s := s.setBC c R.CAL_CTRL.MODEL banded
    if banded then
      let b := s.get R.PWR_STAT.BAND
      let sets := (List.range 264).foldl (fun m i => Map.set m (setKey b i) (h.sets.get (setKey 0 i))) []
      s.setCvh c { h with sets := sets.set (265 * b) (ofSigned 16 s.temp), setValid := if bitOf h.setValid 0 then setBit 0 b else 0 }
    else
      let sets := (List.range 264).foldl (fun m i => Map.set m (setKey 0 i) (h.applied.get i)) []
      s.setCvh c { h with sets := sets, target := h.applied, setValid := if h.setValid = 0 then 0 else 1 }

/-- Word `w` of the calibration window (R109). -/
def imgWord (c : Carrier) (w : Nat) : Fld := (wordAt (0x40118000 + 4 * w)).on c

/-- Words 0 to 802 of the window in byte-address order. -/
def imgBytes (s : State) (c : Carrier) : List Nat := (List.range 803).flatMap (fun w => leBytes 4 (s.get (imgWord c w)))

/-- The word of SNAP's image at index `w`, GENERATION and CRC apart (R109, R110). -/
def imgContent (s : State) (c : Carrier) (w : Nat) : Nat :=
  let h := s.cvh c
  if w = 0 then 0xCA1B5EED
  else if w = 1 then
    0x0001 + 2 ^ 16 * s.getC c R.CAL_CTRL.MODEL + 2 ^ 17 * c.num + 2 ^ 18 * h.setValid
  else if w = 3 then s.getC c R.CONV_DIE_TAG.DIE_TAG
  else if w = 4 then 804
  else if 8 ≤ w ∧ w < 803 then h.sets.get (w - 8)
  else 0

/-- CAL_SNAP: the export starts and fills the window; ignored while BUSY (R110). -/
def calSnap (s : State) (c : Carrier) : State :=
  if s.onC c R.CAL_IMG_CTRL.BUSY then s
  else
    let s := (List.range 803).foldl (fun t w => t.set (imgWord c w) (imgContent s c w)) s
    (s.setCvh c { s.cvh c with job := .snap }).setBC c R.CAL_IMG_CTRL.BUSY true

/-- CAL_SNAP_DONE: GENERATION, CAL_GEN, the CRC; BUSY clears (R110). -/
def calSnapDone (s : State) (c : Carrier) : State :=
  if (s.cvh c).job ≠ .snap then s
  else
    let gen := satTo 32 (s.getC c R.CAL_GEN.GEN + 1)
    let s := (s.set (imgWord c 2) gen).setC c R.CAL_GEN.GEN gen
    let s := s.set (imgWord c 803) (crc32 (imgBytes s c))
    (s.setCvh c { s.cvh c with job := .none }).setBC c R.CAL_IMG_CTRL.BUSY false

/-- R111: the first check of an image that fails, in the order of its table; 0 when it passes. -/
def calRejCode (s : State) (c : Carrier) : Nat :=
  let w := fun i => s.get (imgWord c i)
  if w 0 ≠ 0xCA1B5EED then 1
  else if w 803 ≠ crc32 (imgBytes s c) then 2
  else if w 2 < max (s.getC c R.CAL_GEN.GEN) (s.getC c R.CAL_GEN_FLOOR.FLOOR) then 3
  else if w 3 ≠ s.getC c R.CONV_DIE_TAG.DIE_TAG then 4
  else if bitsOf (w 1) 17 17 ≠ c.num then 5
  else if bitsOf (w 1) 15 0 ≠ 1 ∨ w 4 ≠ 804 then 6
  else if bitsOf (w 1) 16 16 ≠ s.getC c R.CAL_CTRL.MODEL ∨ bitsOf (w 1) 20 18 = 0 then 7
  else 0

/-- CAL_LOAD: HALTED while either part runs (R111); an image that fails a check is rejected and changes nothing else. -/
def calLoad (s : State) (c : Carrier) : State :=
  if s.running (.conv c) || s.onC c R.CONV_STAT.ADC_ACTIVE || s.onC c R.CONV_STAT.DAC_ACTIVE then
    haltedDiscard s (.conv c) (R.CAL_IMG_CTRL.LOAD.on c).addr
  else if s.onC c R.CAL_IMG_CTRL.BUSY then s
  else
    let code := calRejCode s c
    if code ≠ 0 then (s.setC c R.CAL_IMG_CTRL.REJ_CODE code).raiseC c E.CAL_IMPORT_REJ code
    else (s.setCvh c { s.cvh c with job := .load }).setBC c R.CAL_IMG_CTRL.BUSY true

/-- CAL_LOAD_DONE: the accepted image is installed and applied at once; CAL_GEN, CAL_VALID, REJ_CODE, the fail bits and
SPARE_FAULT follow (R111). That every slice is in its slot again and rotation resumes, as SPARE_FAULT clears, is the model's
choice (log entry 102). -/
def calLoadDone (s : State) (c : Carrier) : State :=
  if (s.cvh c).job ≠ .load then s
  else
    let banded := s.onC c R.CAL_CTRL.MODEL
    let sets := (List.range 795).foldl (fun m k => Map.set m k (setWord banded k (s.get (imgWord c (8 + k))))) []
    let h := { s.cvh c with
      sets := sets, setValid := if banded then bitsOf (s.get (imgWord c 1)) 20 18 else 1, job := .none }
    let s := s.setCvh c (h.mapAdc (fun _ => AdcStep.reset))
    let t := wantedTrims s c
    let s := s.setCvh c { s.cvh c with applied := t, target := t }
    let s := (s.setC c R.CAL_GEN.GEN (s.get (imgWord c 2))).setBC c R.CONV_STAT.CAL_VALID true
    let s := (s.setC c R.CAL_IMG_CTRL.REJ_CODE 0).setBC c R.CAL_IMG_CTRL.BUSY false
    ((s.setC c R.CAL_STAT.ADC_FAIL 0).setC c R.CAL_STAT.DAC_FAIL 0).setC c R.CAL_STAT.SPARE_FAULT 0

/-! Levels, gain and bias outputs (R114 to R116, R128). -/

/-- The fast gain loop of DAWN drives the TIA outputs (R115). -/
def fastLoopOwns (s : State) (c : Carrier) : Bool :=
  s.mode c == mDAWNRX || (s.mode c == mBEXA && s.on (R.SYS_CMODE.BEXA_BURST.ix c.num))

/-- The SLOW loop owns the outputs (R115). -/
def slowOwns (s : State) (c : Carrier) : Bool := s.getC c R.TIA_CTRL.OWNER == 1 && !fastLoopOwns s c

/-- One code of gain up or down, held in the code's range; POL = 0 means that a higher code gives more gain (R114). -/
def gainStep (s : State) (c : Carrier) (cur : Nat) (more : Bool) : Nat :=
  if more != s.onC c R.TIA_CTRL.POL then min 1023 (cur + 1) else cur - 1

/-- ADC `n` of a carrier: its level, and one move of the SLOW loop (R115, R128). -/
def adcLevel (s : State) (c : Carrier) (n rms clip : Nat) : State :=
  let s := (s.set ((R.ADC_LEVEL.RMS.ix n).on c) (satTo 16 rms)).set ((R.ADC_LEVEL.CLIP.ix n).on c) (satTo 16 (clip / 16))
  let cur := s.get ((R.TIA_CODE.CUR.ix n).on c)
  let want := 64 * s.getC c R.TIA_CTRL.AGC_TARGET
  if !slowOwns s c || s.onC c R.RXDSP_STAT.LOL || rms = want then s
  else s.set ((R.TIA_CODE.CUR.ix n).on c) (gainStep s c cur (decide (rms < want)))

/-- The DAC domain is powered: the trims that the storage model calls for reach the DACs at once (R105, R107, R111). -/
def dacPowered (s : State) (c : Carrier) : State :=
  let t := wantedTrims s c
  let h := s.cvh c
  let put := fun m : Map Nat => (List.range 4).foldl (fun m d => Map.set m (260 + d) (t.get (260 + d))) m
  s.setCvh c { h with applied := put h.applied, target := put h.target }

/-- ADC_LEVEL_UPDATE: every 2^24 ADC samples, (RMS in 1/256 code, samples at the limits) of each ADC (R128). -/
def adcLevelUpdate (s : State) (c : Carrier) (levels : List (Nat × Nat)) : State :=
  foldIdx (fun n s l => adcLevel s c n l.1 l.2) 0 s (levels.take 4)

/-- In MANUAL each TIA output follows its CODE (R115). -/
def tiaFollow (s : State) (c : Carrier) : State :=
  if fastLoopOwns s c || slowOwns s c then s
  else (List.range 4).foldl (fun s n => s.set ((R.TIA_CODE.CUR.ix n).on c) (s.get ((R.TIA_CODE.CODE.ix n).on c))) s

/-- BIAS_STEP: every microsecond each bias output moves one code towards its CODE while the DAC domain is powered
(R116). -/
def biasStep (s : State) (c : Carrier) : State :=
  if !s.domOn (dacDom c) then s
  else
    (List.range 10).foldl (fun s n =>
      let cur := s.get ((R.BIAS.CUR.ix n).on c)
      let code := s.get ((R.BIAS.CODE.ix n).on c)
      s.set ((R.BIAS.CUR.ix n).on c) (if cur < code then cur + 1 else if code < cur then cur - 1 else cur)) s

end Sys2Proof.Machine
end

