-- ==== Sys2Proof/Machine/Code.lean ====
section
/-! DEFINITION. The soft-decision codes of R225 to R228 and R246: the quasi-cyclic LDPC matrix, its encoder, one iteration
of the layered decoder (R233), the BCH code and its decoder (R235), and the margin of R244. A codeword is a number whose bit
i is c_i. -/

namespace Sys2Proof.Machine

/-- A code: base rows, information columns, and whether the BCH code of R228 lies inside it. -/
structure Code where
  rows : Nat
  info : Nat
  bch : Bool
  deriving DecidableEq, Repr

/-- The codes: RATE 0b00 to 0b10 of R225, and 3 for the code of BEXA (R246). -/
def codeOf (r : Nat) : Code :=
  if r = 0 then ⟨15, 105, true⟩ else if r = 1 then ⟨20, 100, true⟩ else if r = 2 then ⟨24, 96, true⟩ else ⟨12, 48, false⟩

/-- Base columns. -/
def Code.cols (cd : Code) : Nat := cd.info + cd.rows
/-- Codeword length. -/
def Code.len (cd : Code) : Nat := 256 * cd.cols
/-- LDPC information bits k. -/
def Code.k (cd : Code) : Nat := 256 * cd.info
/-- Data bits per codeword (R225). -/
def Code.dataBits (cd : Code) : Nat := if cd.bch then cd.k - 60 else cd.k

/-- The base matrix of R227: (row, shift) of the entries of column `j`. -/
def Code.column (cd : Code) (j : Nat) : List (Nat × Nat) :=
  if j < cd.info then
    let d := if j % 5 = 0 then 4 else 3
    (List.range d).map (fun t =>
      let r := (j + t * (cd.rows / d)) % cd.rows
      (r, (r + 1) * (2 * j + 1) * 97 % 256))
  else if j = cd.info then [(0, 1), (cd.rows / 2, 0), (cd.rows - 1, 1)]
  else [(j - cd.info - 1, 0), (j - cd.info, 0)]

/-- The entries of base row `r`: (column, shift), columns rising. -/
def Code.row (cd : Code) (r : Nat) : List (Nat × Nat) :=
  (List.range cd.cols).flatMap (fun j => ((cd.column j).filter (fun e => e.1 == r)).map (fun e => (j, e.2)))

/-- A 256-bit block through the identity shifted by `p`: bit a of the result is bit (a + p) mod 256 (R227). -/
def rotBlock (p v : Nat) : Nat := ((v >>> p) ||| (v <<< (256 - p))) % 2 ^ 256

/-- Block `j` of a codeword (R226). -/
def blockOf (cw j : Nat) : Nat := bitsOf cw (256 * j + 255) (256 * j)

/-- The checks of row `r` that a word leaves unsatisfied, as a 256-bit mask. -/
def Code.syndromeRow (cd : Code) (cw r : Nat) : Nat :=
  (cd.row r).foldl (fun x e => x ^^^ rotBlock e.2 (blockOf cw e.1)) 0

/-- Bits set below `n`. -/
def countBits : Nat → Nat → Nat
  | 0, _ => 0
  | n + 1, v => countBits n v + b2n (v.testBit n)

/-- Unsatisfied checks of a word. -/
def Code.unsatisfied (cd : Code) (cw : Nat) : Nat :=
  (List.range cd.rows).foldl (fun n r => n + countBits 256 (cd.syndromeRow cw r)) 0

/-- Every parity check is satisfied (R234). -/
def Code.satisfied (cd : Code) (cw : Nat) : Bool := (List.range cd.rows).all (fun r => cd.syndromeRow cw r == 0)

/-- Bits `0` to `n` - 1 in index order. -/
def bitsUp (n v : Nat) : List Bool := (List.range n).map v.testBit

/-- g(x) of R228 without its highest term: the least common multiple of the minimal polynomials of α, α^3, α^5, α^7. -/
def bchG : Nat := 0x744EDB8B36FB1D1

/-- The BCH parity of the data bits, placed from bit k − 60 on, highest power first (R228). -/
def bchParity (n v : Nat) : Nat :=
  let r := crcOf 60 bchG 0 (bitsUp n v)
  (List.range 60).foldl (fun m i => putBit m (n + i) (r.testBit (59 - i))) 0

/-- The information part of a codeword: data bits, then BCH parity (R226). -/
def Code.infoPart (cd : Code) (v : Nat) : Nat :=
  let v := v % 2 ^ cd.dataBits
  if cd.bch then v + bchParity cd.dataBits v else v

/-- The encoder: the first parity block is the sum of all rows' information, the others follow row by row (R227). -/
def Code.encode (cd : Code) (v : Nat) : Nat :=
  let inf := cd.infoPart v
  let s := (List.range cd.rows).map (cd.syndromeRow inf)
  let p0 := s.foldl (· ^^^ ·) 0
  let step := fun (acc : Nat × Nat) (r : Nat) =>
    -- acc: the codeword so far, the block of the column before row r's own
    let x := acc.2 ^^^ s.getD r 0 ^^^ (if r = 0 then rotBlock 1 p0 else 0) ^^^ (if r = cd.rows / 2 then p0 else 0)
    (acc.1 + x * 2 ^ (256 * (cd.info + 1 + r)), x)
  ((List.range (cd.rows - 1)).foldl step (inf + p0 * 2 ^ cd.k, 0)).1

/-! The layered normalised min-sum decoder (R233). A vector holds the 256 values of one block. -/

/-- A value held within ±127. -/
def sat8 (x : Int) : Int := if x > 127 then 127 else if x < -127 then -127 else x

/-- A vector shifted as `rotBlock` shifts a block. -/
def rotVec (p : Nat) (v : List Int) : List Int := v.drop p ++ v.take p

/-- What a check node keeps: smallest and second-smallest magnitude, index of the smallest, parity of the signs. -/
structure CheckSt where
  min1 : Nat
  min2 : Nat
  idx : Nat
  neg : Bool
  deriving DecidableEq, Repr

/-- An incoming value of edge `e` at a check node. -/
def CheckSt.take (e : Nat) (n : CheckSt) (q : Int) : CheckSt :=
  let neg := xor n.neg (decide (q < 0))
  if q.natAbs < n.min1 then ⟨q.natAbs, n.min1, e, neg⟩ else ⟨n.min1, min n.min2 q.natAbs, n.idx, neg⟩

/-- The outgoing message on edge `e`, normalised by (10 + norm) / 16, rounded down, at most 63 (R233, R252). -/
def CheckSt.out (norm e : Nat) (n : CheckSt) (q : Int) : Int :=
  let m := min 63 ((if e = n.idx then n.min2 else n.min1) * (10 + norm) / 16)
  if xor n.neg (decide (q < 0)) then -(m : Int) else (m : Int)

/-- One layer: a base row's edges, the posterior vectors by column, the row's messages by edge. -/
def layer (norm : Nat) (edges : List (Nat × Nat)) (post msgs : List (List Int)) : List (List Int) × List (List Int) :=
  let qs := (edges.zip msgs).map (fun p => List.zipWith (fun a b => sat8 (a - b)) (rotVec p.1.2 (post.getD p.1.1 [])) p.2)
  let nodes := foldIdx (fun e ns q => List.zipWith (CheckSt.take e) ns q)
    0 (List.replicate 256 (⟨255, 255, 0, false⟩ : CheckSt)) qs
  let news := qs.zipIdx.map (fun q => List.zipWith (fun n x => CheckSt.out norm q.2 n x) nodes q.1)
  let post' := ((edges.zip qs).zip news).foldl (fun p x =>
    p.set x.1.1.1 (rotVec ((256 - x.1.1.2) % 256) (List.zipWith (fun a b => sat8 (a + b)) x.1.2 x.2))) post
  (post', news)

/-- One iteration: every layer in row order; posterior vectors by column and messages by row and edge. -/
def Code.iterate (cd : Code) (norm : Nat) (post : List (List Int)) (msgs : List (List (List Int))) :
    List (List Int) × List (List (List Int)) :=
  let step := fun (acc : List (List Int) × List (List (List Int))) (r : Nat) =>
    let x := layer norm (cd.row r) acc.1 (msgs.getD r [])
    (x.1, acc.2 ++ [x.2])
  (List.range cd.rows).foldl step (post, [])

/-- No messages yet. -/
def Code.noMsgs (cd : Code) : List (List (List Int)) :=
  (List.range cd.rows).map (fun r => (cd.row r).map (fun _ => List.replicate 256 0))

/-- The decision on values: a non-negative value decides 0 (R234). -/
def decide256 (post : List (List Int)) : Nat :=
  post.reverse.foldl (fun w v => w * 2 ^ 256 + v.reverse.foldl (fun b x => 2 * b + b2n (decide (x < 0))) 0) 0

/-- Input LLRs, 6 bits each, as posterior vectors of twice their values; missing ones are erasures (R233). -/
def postOf (cols : Nat) (llr : List Int) : List (List Int) :=
  (List.range cols).map (fun j => (List.range 256).map (fun a => 2 * clampSigned 6 ((llr.drop (256 * j)).getD a 0)))

/-! The BCH decoder (R228, R235) over GF(2^15) with x^15 + x + 1. -/

/-- Multiplication in GF(2^15), over the bits of `b` from the highest. -/
def gfMul (a b : Nat) : Nat :=
  (msbFirst 15 b).foldl (fun r bit =>
    let r2 := r <<< 1
    let r2 := if r2.testBit 15 then r2 ^^^ 0x8003 else r2
    if bit then r2 ^^^ a else r2) 0

/-- Powers in GF(2^15), the exponent's bits from the highest. -/
def gfPow (a e : Nat) : Nat := (msbFirst 16 e).foldl (fun r bit => let r2 := gfMul r r; if bit then gfMul r2 a else r2) 1

/-- The inverse of a non-zero element. -/
def gfInv (a : Nat) : Nat := gfPow a 32766

/-- Syndrome at α^j of the bits in index order, the first the highest power. -/
def bchSyndrome (j : Nat) (bits : List Bool) : Nat :=
  let x := gfPow 2 j
  bits.foldl (fun acc b => gfMul acc x ^^^ b2n b) 0

/-- The state of Berlekamp and Massey's algorithm: locator, previous locator, degree, gap, previous discrepancy. -/
structure BmSt where
  c : List Nat
  b : List Nat
  l : Nat
  m : Nat
  d : Nat
  deriving DecidableEq, Repr

/-- One step of the algorithm on syndrome `n`. -/
def bmStep (syn : List Nat) (st : BmSt) (n : Nat) : BmSt :=
  let d := (List.range (st.l + 1)).foldl (fun x i => x ^^^ gfMul (st.c.getD i 0) (syn.getD (n - i) 0)) 0
  if d = 0 then { st with m := st.m + 1 }
  else
    let f := gfMul d (gfInv st.d)
    let shifted := List.replicate st.m 0 ++ st.b.map (gfMul f)
    let c' := (List.range (max st.c.length shifted.length)).map (fun i => st.c.getD i 0 ^^^ shifted.getD i 0)
    if 2 * st.l ≤ n then ⟨c', st.c, n + 1 - st.l, 1, d⟩ else { st with c := c', m := st.m + 1 }

/-- The error positions of a word of `n` bits, or none where no pattern of weight four or less explains its syndrome. -/
def bchErrors (n v : Nat) : Option (List Nat) :=
  let bits := bitsUp n v
  let s1 := bchSyndrome 1 bits
  let s3 := bchSyndrome 3 bits
  let s5 := bchSyndrome 5 bits
  let s7 := bchSyndrome 7 bits
  if s1 = 0 ∧ s3 = 0 ∧ s5 = 0 ∧ s7 = 0 then some []
  else
    let s2 := gfMul s1 s1
    let s4 := gfMul s2 s2
    let syn := [s1, s2, s3, s4, s5, gfMul s3 s3, s7, gfMul s4 s4]
    let st := (List.range 8).foldl (bmStep syn) ⟨[1], [1], 0, 1, 1⟩
    let inv := gfInv 2
    -- position i stands for the power n - 1 - i: the locator is taken at α^-(n - 1 - i)
    let step := fun (acc : Nat × List Nat) (e : Nat) =>
      let val := st.c.reverse.foldl (fun y co => gfMul y acc.1 ^^^ co) 0
      (gfMul acc.1 inv, if val = 0 then (n - 1 - e) :: acc.2 else acc.2)
    let roots := ((List.range n).foldl step (1, [])).2
    if st.l ≤ 4 ∧ roots.length = st.l then some roots else none

/-! Margins (R244), in fixed point with 200 fraction bits. -/

/-- One. -/
def fxOne : Nat := 2 ^ 200
/-- ln 10. -/
def fxLn10 : Nat := 3700111586075757022815855548858213034251116522195805159045647
/-- The square root of 2π. -/
def fxSqrt2Pi : Nat := 4027996337319827116642962989623696569982349042520938485862620

/-- e^x by its series. -/
def fxExp (x : Nat) : Nat :=
  ((List.range 100).foldl (fun (acc : Nat × Nat) n => (acc.1 + acc.2, acc.2 * x / fxOne / (n + 1))) (0, fxOne)).1

/-- 10^(k / 4000). -/
def fxTen (k : Int) : Nat :=
  let e := fxExp (k.natAbs * fxLn10 / 4000)
  if k < 0 then fxOne * fxOne / e else e

/-- The tail ½·erfc(q / √2), by the series of the integral. -/
def fxTail (q : Nat) : Int :=
  let q2 := q * q / fxOne
  let step := fun (acc : Int × Int) (n : Nat) => (acc.1 + acc.2 / (2 * n + 1 : Nat), -(acc.2 * q2 / (2 * fxOne * (n + 1) : Nat)))
  let sum := ((List.range 400).foldl step (0, (q : Int))).1
  (fxOne : Int) / 2 - sum * fxOne / fxSqrt2Pi

/-- The q whose tail is `t` (fixed point), by halving [0, 8]. -/
def fxTailInv (t : Int) : Nat :=
  ((List.range 110).foldl (fun (acc : Nat × Nat) _ =>
    let m := acc.1 + acc.2
    if fxTail m ≥ t then (m, acc.2 / 2) else (acc.1, acc.2 / 2)) (0, 4 * fxOne)).1

/-- R242: the threshold of a rate in units of 1e-5, with the pool or throttled. -/
def fecThreshold (rate : Nat) (throttled : Bool) : Nat :=
  if rate = 0 then (if throttled then 1050 else 1300)
  else if rate = 1 then (if throttled then 1600 else 2000)
  else (if throttled then 1950 else 2400)

/-- Q_dB(corr / bits) − Q_dB(thr · 1e-5) in 0.01 dB, to the nearest, held within ±12.00 dB (R244). -/
def marginCdb (corr bits thr : Nat) : Int :=
  let x : Int := (corr * fxOne / bits : Nat)
  let qt := fxTailInv ((thr * fxOne / 100000 : Nat) : Int)
  -- n is reached when the tail at qt · 10^((2n - 1) / 4000) is not below x
  let ok := fun (n : Int) => decide (x ≤ fxTail (qt * fxTen (2 * n - 1) / fxOne))
  ((List.range 12).foldl (fun (acc : Int × Nat) _ =>
    if acc.1 + acc.2 ≤ 1200 ∧ ok (acc.1 + acc.2) then (acc.1 + acc.2, acc.2 / 2) else (acc.1, acc.2 / 2)) (-1200, 2048)).1

end Sys2Proof.Machine
end

