-- ==== Sys2Proof/Machine/Tx.lean ====
section
/-! DEFINITION. The line transmit path of a carrier (R46 to R88): start and its checks, line frames and their headers, the
samples and DAC codes they become, mute, stop, Dawn bursts. -/

namespace Sys2Proof.Machine

open Sys2Proof

/-- The transmit state of a carrier that no register shows. -/
def State.txh (s : State) (c : Carrier) : TxH := s.tx.get c
/-- That state replaced. -/
def State.setTxh (s : State) (c : Carrier) (h : TxH) : State := { s with tx := s.tx.set c h }
/-- The FEC state of a carrier that no register shows. -/
def State.fh (s : State) (c : Carrier) : FecH := s.fec.get c
/-- That state replaced. -/
def State.setFh (s : State) (c : Carrier) (h : FecH) : State := { s with fec := s.fec.set c h }
/-- The CIPHER state of a carrier that no register shows. -/
def State.ch (s : State) (c : Carrier) : CiphH := s.ciph.get c
/-- That state replaced. -/
def State.setCh (s : State) (c : Carrier) (h : CiphH) : State := { s with ciph := s.ciph.set c h }

/-- The symbol rate in force in MBd: BEXA and ZR400 force their own (R34, R70, R668). -/
def txSymRate (s : State) (c : Carrier) : Nat :=
  if s.mode c = mBEXA then 130000 else if s.mode c = mZR400 then 59840 else s.getC c R.TX_RATE.SYM_RATE

/-- R53: MOD and ENTROPY name a modulation the mapper accepts. -/
def modValid (md ent : Nat) : Bool :=
  if md = 0 ∨ md = 1 then true
  else if md = 2 then decide (40 ≤ ent ∧ ent ≤ 78)
  else if md = 3 then decide (40 ≤ ent ∧ ent ≤ 118)
  else false

/-- The entropy code a header carries: 40 for DP-QPSK, 80 for DP-16QAM (R48). -/
def entropyCode (md ent : Nat) : Nat := if md = 0 then 40 else if md = 1 then 80 else ent

/-- R53: coded bits per pilot block, floor(62 × H) with H = ENTROPY × 0.05. -/
def blockBits (md ent : Nat) : Nat := 62 * entropyCode md ent / 20

/-- R57: the roll-off and its two limits against the DAC sample rate. -/
def rolloffOk (rolloff sym dac : Nat) : Bool :=
  decide (2 ≤ rolloff ∧ rolloff ≤ 20 ∧ (100 + rolloff) * sym ≤ 100 * dac ∧ 10 * dac ≤ 51 * sym)

/-- R60: the start checks in ascending order of code (R19); 0 when all pass. BEXA ignores TX_MOD and forces the rate;
ZR400 ignores SYM_RATE, TX_MOD and TX_PILOT (R70). -/
def txCfgCode (s : State) (c : Carrier) : Nat :=
  let own := s.mode c != mBEXA && s.mode c != mZR400
  let rate := s.getC c R.TX_RATE.SYM_RATE
  if own && !decide (53000 ≤ rate ∧ rate ≤ 240000) then 1
  else if !rolloffOk (s.getC c R.TX_SHAPE.ROLLOFF) (txSymRate s c) (s.get ((R.CONV_RATE.RATE.ix 1).on c)) then 2
  else if own && !modValid (s.staged (R.TX_MOD.MOD.on c)) (s.staged (R.TX_MOD.ENTROPY.on c)) then 3
  else if s.mode c != mZR400 && (s.getC c R.TX_PILOT.SEED_X == 0 || s.getC c R.TX_PILOT.SEED_Y == 0) then 4
  else 0

/-- The causes of mute as BLOCK_STATUS reports them (R65, R71). -/
def txMuteCauses (s : State) (c : Carrier) : State :=
  let s := s.setBC c R.TX_STAT.MUTE_CTRL (s.onC c R.TX_CTRL.MUTE)
  let s := s.setBC c R.TX_STAT.MUTE_GATE (!s.txEnabled)
  let s := s.setBC c R.TX_STAT.MUTE_STOP (!s.running (.tx c))
  s.setBC c R.TX_STAT.MUTE_GAP (s.running (.tx c) && s.mode c == mDAWNTX && !s.onC c R.TX_STAT.BURST)

/-- Some cause of mute holds (R65). -/
def txMuteHeld (s : State) (c : Carrier) : Bool :=
  s.onC c R.TX_STAT.MUTE_CTRL || s.onC c R.TX_STAT.MUTE_GATE || s.onC c R.TX_STAT.MUTE_STOP ||
  s.onC c R.TX_STAT.MUTE_GAP

/-- Mute begins as soon as a cause holds (R65). -/
def txMuteNow (s : State) (c : Carrier) : State :=
  let s := txMuteCauses s c
  if txMuteHeld s c then s.setBC c R.TX_STAT.MUTED true else s

/-- Output resumes only at a frame boundary or at a preamble (R65). -/
def txMuteBoundary (s : State) (c : Carrier) : State :=
  let s := txMuteCauses s c
  s.setBC c R.TX_STAT.MUTED (txMuteHeld s c)

/-- A Dawn burst is over: nothing of it is left to send (R66, R81). -/
def txBurstOver (s : State) (c : Carrier) : State :=
  ((s.setBC c R.TX_STAT.BURST false).setBC c R.TX_BURST.ACTIVE false).setC c R.TX_BURST.FRAMES_LEFT 0

/-- R69: MUTE or a gated transmit enable ends a burst in progress at once. -/
def txAbortIfMuted (s : State) (c : Carrier) : State :=
  if s.onC c R.TX_STAT.BURST && (s.onC c R.TX_CTRL.MUTE || !s.txEnabled) then
    let left := s.getC c R.TX_BURST.FRAMES_LEFT
    ((txBurstOver s c).bumpC c R.TX_BURST_CNT.ABORTS).raiseC c E.TX_BURST_ABORT left
  else s

/-- The transmit enable or MUTE has changed: bursts end, mute begins (R65, R69). -/
def txGate (s : State) (c : Carrier) : State := txMuteNow (txAbortIfMuted s c) c

/-- Both carriers meet a change of the transmit enable. -/
def txGateBoth (s : State) : State := txGate (txGate s .A) .B

/-- A configuration error of TX: CFG_ERR, CFG_CODE and the event (R60, R62). -/
def txCfgErr (s : State) (c : Carrier) (code : Nat) : State :=
  ((s.setBC c R.TX_STAT.CFG_ERR true).setC c R.TX_STAT.CFG_CODE code).raiseC c E.TX_CFG_ERR code

/-- TX_MOD rules the frames of this mode: BEXA and ZR400 ignore it (R70). -/
def txOwnMod (s : State) (c : Carrier) : Bool := s.mode c != mBEXA && s.mode c != mZR400

/-- The transfer of TX's shadow copies: a transfer that would make MOD or ENTROPY invalid keeps the active TX_MOD and
reports code 3 (R62); the shadow copies of TX_MOD that were refused are discarded (log entry 26). LUT_BANK follows BANK_SEL
(R71). -/
def txTransfer (s : State) (c : Carrier) : State :=
  let md := R.TX_MOD.MOD.on c
  let en := R.TX_MOD.ENTROPY.on c
  let bad := txOwnMod s c && !modValid (s.staged md) (s.staged en)
  let s := if bad then { s with shadow := (s.shadow.erase md.key).erase en.key } else s
  let s := s.transfer (.tx c)
  let s := s.setC c R.TX_STAT.LUT_BANK (s.getC c R.TX_LUT_CTRL.BANK_SEL)
  if bad then txCfgErr s c 3 else s

/-- The delay from the matcher input to the DAC pins, which the configuration fixes; the spec gives no value (R86). -/
def txLatencyPs (s : State) (c : Carrier) : Nat :=
  Config.txLatency (s.mode c) (txSymRate s c) (s.get ((R.CONV_RATE.RATE.ix 1).on c)) (s.getC c R.TX_SHAPE.ROLLOFF)

/-- TX runs: shadow copies transferred, FCOUNT from 0, LATENCY_PS as the configuration fixes it, CFG_ERR cleared (R60, R86).
An EV_TX_NO_HEADROOM already raised still waits for a frame with FILL above 0 (R52). -/
def txRun (s : State) (c : Carrier) : State :=
  let s := (s.transfer (.tx c)).unwait (.tx c)
  let s := s.setC c R.TX_STAT.LUT_BANK (s.getC c R.TX_LUT_CTRL.BANK_SEL)
  let s := (s.set (runningF (.tx c)) 1).setBC c R.TX_STAT.CFG_ERR false
  let s := s.setC c R.TX_LATENCY.LATENCY_PS (txLatencyPs s c)
  let s := s.setTxh c { s.txh c with nextFcount := 0, fillZeroRun := 0, wave := .idle, past := .idle }
  let s := (s.setFh c { s.fh c with encWait := .nil, encHeld := false, encPad := 0 }).setCh c { s.ch c with anchorHeld := false }
  txMuteNow s c

/-- The start of TX once RUN reads 1: held while MODE_ERR is 1 (R35), checked (R60), held until its clock comes from its
PLL (R672), then run. -/
def txTryStart (s : State) (c : Carrier) : State :=
  if s.modeErr then s.wait (.tx c)
  else
    let code := txCfgCode s c
    if code ≠ 0 then txCfgErr (s.unwait (.tx c)) c code
    else if !s.clockReady (.tx c) then s.wait (.tx c)
    else txRun s c

/-- R48: the header of a frame, HDR[127:0], with its CRC. -/
def txHeader (md ent rate fcount fill src : Nat) : Nat :=
  let hi := (((((md * 128 + entropyCode md ent) * 4 + rate) * 16) * 2 ^ 24 + fcount) * 4096 + fill) * 2 +
    (if fill = 4088 then 1 else 0)
  let body := (hi * 65536 + src) * 2 ^ 43
  body * 65536 + crcOf 16 0x1021 0xFFFF (msbFirst 112 body)

/-- B of the loading in force (R53). -/
def txBlockBits (s : State) (c : Carrier) : Nat := blockBits (s.getC c R.TX_MOD.MOD) (s.getC c R.TX_MOD.ENTROPY)

/-- The frame with this FCOUNT is the last before an anchor frame: before a multiple of 64, in DAWN-TX also the last of its
burst (R230). -/
def txLastBeforeAnchor (s : State) (c : Carrier) (fcount : Nat) : Bool :=
  fcount % 64 == 63 || (s.mode c == mDAWNTX && s.getC c R.TX_BURST.FRAMES_LEFT == 0)

/-- The coded bits that wait for the frame with this FCOUNT: zero pad ends the pilot block of the last codeword before an
anchor frame, also where the loading has changed since the codeword was sent (R51, R230). -/
def txWaiting (s : State) (c : Carrier) (fcount : Nat) : BitStr :=
  let w := (s.fh c).encWait
  if (s.fh c).encHeld || txLastBeforeAnchor s c fcount || !s.onC c R.FEC_STAT.ENC_ACTIVE then w.padTo (txBlockBits s c) else w

/-- R51: FILL, the smallest value for which the waiting coded bits fill every traffic block; 4,088 while the encoder
does not run, once the codeword in progress at its stop has gone (R249). -/
def txFill (s : State) (c : Carrier) (waiting : Nat) : Nat :=
  if s.onC c R.FEC_STAT.ENC_ACTIVE || (s.fh c).encWait.len != 0 then 4088 - min 4088 (waiting / txBlockBits s c) else 4088

/-- The next `n` bits of a PRBS whose O.150 form is the register's output inverted (R51, R87; log entry 95). -/
def prbsInv (len tap n r : Nat) : BitStr := bitsStr ((prbsBits len tap n r).map (1 - ·))

/-- The matcher's input in DIAG where PAT_SEL names a pattern, and TX after it (R87); the pattern takes the place of every
block's bits. PRBS-31 and PRBS-23 have a register each, which goes on only while its pattern is selected (log entry 95). -/
def txPattern (h : TxH) (mode sel n : Nat) : Option (BitStr × TxH) :=
  if mode ≠ mDIAG then none
  else
    match sel with
    | 1 => some (prbsInv 31 28 n h.patReg, { h with patReg := prbsAfter 31 28 n h.patReg })
    | 2 => some (prbsInv 23 18 n h.pat23, { h with pat23 := prbsAfter 23 18 n h.pat23 })
    | 3 => some (⟨n, 0⟩, h)
    | _ => none

/-- The matcher's input of a frame with FILL: the traffic blocks' coded bits, which leave the encoder's output, and the fill
blocks' bits from the PRBS-31 that runs on across frames (R51). Where a pattern takes their place, the bits that wait are taken
all the same, FILL and IDLE are those of the encoder's bits, and the fill blocks' generator runs on (log entry 95). -/
def txDraw (s : State) (c : Carrier) (waiting : BitStr) (fill : Nat) : State × BitStr :=
  let b := txBlockBits s c
  let n := (4088 - fill) * b
  let h := s.txh c
  let bits := (waiting.take n).app (prbsInv 31 28 (fill * b) h.fillReg)
  let f := s.fh c
  let s := if n = 0 then s else s.setFh c { f with encWait := waiting.drop n }
  let s := s.setTxh c { h with fillReg := prbsAfter 31 28 (fill * b) h.fillReg }
  match txPattern (s.txh c) (s.mode c) (s.getC c R.TX_DIAG.PAT_SEL) (4088 * b) with
  | some p => (s.setTxh c p.2, p.1)
  | none => (s, bits)

/-! From symbols to DAC codes (R46, R56 to R59). -/

/-- The symbol values of XI, XQ, YI and YQ that TX shapes. -/
def waveDims : TxWave → List (List Int)
  | .idle => [[], [], [], []]
  | .zr bits => (List.range 4).map (fun d => Config.zrSymbols d bits.val)
  | .preamble d g => dims (preambleSyms g d)
  | .line f => dims (lineFrameSyms f.gain f.header f.seedX f.seedY f.md (blockBits f.md f.ent) f.bits)
  | .bexa g bits => dims (bexaFrameSyms g bits)
where
  dims (x : Section) : List (List Int) :=
    [x.x.map (·.1), x.x.map (·.2), x.y.map (·.1), x.y.map (·.2)]

/-- Dimension `d` of the shaper's output, in 12-bit two's complement (R56). -/
def txShaped (s : State) (c : Carrier) (d : Nat) : List Int :=
  let h := s.txh c
  (Config.shaped (s.getC c R.TX_SHAPE.ROLLOFF) (txSymRate s c) (s.get ((R.CONV_RATE.RATE.ix 1).on c))
    ((waveDims h.past).getD d []) ((waveDims h.wave).getD d [])).map (toSigned 12)

/-- The product with SCALE, 10 fractional bits, before saturation (R56); the fraction is dropped (log entry 96). -/
def scaleSample (scale : Nat) (x : Int) : Int := x * scale / 1024

/-- A value saturates to the 10-bit range −512 to +511 (R56). -/
def clips10 (x : Int) : Bool := decide (x < -512 ∨ 511 < x)

/-- Samples that SCALE brings to saturation, over all four DACs (R56, R85). -/
def txClipped (s : State) (c : Carrier) : Nat :=
  (List.range 4).foldl (fun n d =>
    n + ((txShaped s c d).filter (fun x => clips10 (scaleSample (s.getC c R.TX_SHAPE.SCALE) x))).length) 0

/-- The saturated samples of dimension `d`. -/
def txScaled (s : State) (c : Carrier) (d : Nat) : List Int :=
  (txShaped s c d).map (fun x => clampSigned 10 (scaleSample (s.getC c R.TX_SHAPE.SCALE) x))

/-- R58: Q with its delay, gain and phase correction, from I and Q; the result is held to 10 bits (log entry 96). -/
def iqCorrect (gain phase : Int) (i q : Int) : Int := clampSigned 10 ((q * (4096 + gain) + phase * i) / 4096)

/-- A delay of 0 leaves the samples as they are. -/
def delayBy (tenths : Int) (rate : Nat) (xs : List Int) : List Int := if tenths = 0 then xs else Config.delayed tenths rate xs

/-- R58: the 10-bit samples of XI, XQ, YI, YQ after pre-compensation. -/
def txSamples (s : State) (c : Carrier) : List (List Int) :=
  let rate := s.get ((R.CONV_RATE.RATE.ix 1).on c)
  let pair := fun (p : Nat) =>
    let i := txScaled s c (2 * p)
    let q := delayBy (toSigned 8 (s.get ((R.TX_IQ.SKEW.ix p).on c))) rate (txScaled s c (2 * p + 1))
    [i, List.zipWith (iqCorrect (toSigned 10 (s.get ((R.TX_IQ.GAIN.ix p).on c)))
      (toSigned 10 (s.get ((R.TX_IQ.PHASE.ix p).on c)))) i q]
  let xy := toSigned 10 (s.getC c R.TX_XYSKEW.XY_SKEW)
  pair 0 ++ (pair 1).map (delayBy xy rate)

/-- R52: sixteen frames with FILL 0 in a row raise EV_TX_NO_HEADROOM, once until a frame with FILL above 0. -/
def txHeadroom (s : State) (c : Carrier) (fill fcount : Nat) : State :=
  let h := s.txh c
  if fill ≠ 0 then s.setTxh c { h with fillZeroRun := 0, headroomRaised := false }
  else
    let n := min 16 (h.fillZeroRun + 1)
    if n = 16 ∧ !h.headroomRaised then
      (s.setTxh c { h with fillZeroRun := n, headroomRaised := true }).raiseC c E.TX_NO_HEADROOM fcount
    else s.setTxh c { h with fillZeroRun := n }

/-- The line-frame commit points of the transmit path of a carrier, for one of FEC, FRAMER and CIPHER (R18). -/
def lineCommit (s : State) (b : Blk) : State := (if s.commitDue b then s.transfer b else s).commitPassed b

/-- What TX shapes next; saturated samples are counted (R56). -/
def txSend (s : State) (c : Carrier) (w : TxWave) : State :=
  let s := s.setTxh c { s.txh c with wave := w, past := (s.txh c).wave }
  s.addSat (R.TX_CLIP.CLIP_CNT.on c) (txClipped s c)

/-- One frame of the modes that have headers and fill blocks (R47 to R52): FILL, the header, the counters, the frame. -/
def txSendFrame (s : State) (c : Carrier) : State :=
  let fcount := (s.txh c).nextFcount
  let waiting := txWaiting s c fcount
  let fill := txFill s c waiting.len
  let hdr := txHeader (s.getC c R.TX_MOD.MOD) (s.getC c R.TX_MOD.ENTROPY) (s.getC c R.FEC_CODE.TX_RATE) fcount fill
    (s.getC c R.TX_DAWN.SRC_ID)
  let s := s.setTxh c { s.txh c with nextFcount := (fcount + 1) % 2 ^ 24, header := hdr }
  let s := (s.setC c R.TX_FILL.FILL_LAST fill).setC c R.TX_FILL.FILL_MIN (min fill (s.getC c R.TX_FILL.FILL_MIN))
  let s := txHeadroom (s.setC c R.TX_FCOUNT.FCOUNT fcount) c fill fcount
  let x := txDraw s c waiting fill
  txSend x.1 c (.line ⟨hdr, x.1.getC c R.TX_MOD.MOD, x.1.getC c R.TX_MOD.ENTROPY, x.1.getC c R.TX_SHAPE.PILOT_GAIN,
    x.1.getC c R.TX_PILOT.SEED_X, x.1.getC c R.TX_PILOT.SEED_Y, x.2⟩)

/-- The first `n` coded bits that wait, taken by a frame without fill blocks; bits that do not wait are values the spec does
not state (log entry 7). -/
def txTake (s : State) (c : Carrier) (n : Nat) : State × BitStr :=
  let f := s.fh c
  let got := f.encWait.take n
  let bits := if got.len = n then got else got.app (BitStr.of (n - got.len) s.free)
  ((if got.len = n then s else s.freeNext).setFh c { f with encWait := f.encWait.drop n }, bits)

/-- A frame of BEXA or of ZR400 (R70): no header of R48, no fill blocks. TX_FCOUNT and TX_FILL, which name fields of that
header, keep what they show (log entry 98). -/
def txPlainFrame (s : State) (c : Carrier) : State :=
  let s := s.setTxh c { s.txh c with nextFcount := ((s.txh c).nextFcount + 1) % 2 ^ 24 }
  if s.mode c = mBEXA then
    let x := txTake s c 523264
    txSend x.1 c (.bexa (x.1.getC c R.TX_SHAPE.PILOT_GAIN) x.2)
  else
    let x := txTake s c Config.zrFrameBits
    txSend x.1 c (.zr x.2)

/-! The encoder's output, as TX draws from it (R226, R229, R230). -/

/-- Modes in which CIPHER is bypassed (R320). -/
def ciphBypassed (s : State) (c : Carrier) : Bool := s.mode c == mBEXA || s.mode c == mZR400 || s.mode c == mDIAG

/-- The mode uses the native code. -/
def fecNative (s : State) (c : Carrier) : Bool := s.mode c != mBEXA && s.mode c != mZR400

/-- The code that the encoder uses: TX_RATE, 3 in BEXA; ZR400 has its agreement's (R225, R246, R247). -/
def encCode (s : State) (c : Carrier) : Nat := if s.mode c = mBEXA then 3 else s.getC c R.FEC_CODE.TX_RATE

/-- Data bits of the encoder's next block. -/
def encDataBits (s : State) (c : Carrier) : Nat :=
  if s.mode c = mZR400 then Config.zrDataBits else (codeOf (encCode s c)).dataBits

/-- Coded bits that still have room before the next anchor frame: the frames not yet started up to it, in DAWN-TX those of the
burst, less what waits already (R230). -/
def encRoom (s : State) (c : Carrier) : Nat :=
  let n := 64 - (s.txh c).nextFcount % 64
  let n := if s.mode c = mDAWNTX then (if s.onC c R.TX_STAT.BURST then min n (s.getC c R.TX_BURST.FRAMES_LEFT) else 0) else n
  n * 4088 * txBlockBits s c - (s.fh c).encWait.len

/-- Data bits that CIPHER has formed and the encoder has not taken. -/
def formedLeft (h : CiphH) : Nat := 128 * h.formed.length - h.fed

/-- The next `k` of them. -/
def formedBits (h : CiphH) (k : Nat) : BitStr := ((byteStr (h.formed.flatMap (·.bytes))).drop h.fed).take k

/-- The next codeword begins at an anchor frame: it begins with an anchor block (R230, R304). -/
def anchorDue (s : State) (c : Carrier) : Bool :=
  fecNative s c && !ciphBypassed s c && (s.txh c).nextFcount % 64 == 0 && (s.fh c).encWait.len == 0

/-- The encoder takes the next `k` data bits, an anchor block that is due first (R304). Words stay until no change of the code
rate can call for them again (R229). -/
def encTake (s : State) (c : Carrier) (k : Nat) : Option (State × Nat) :=
  let h := s.ch c
  let a := if h.anchorHeld && anchorDue s c then bitsStr ((msbFirst 192 h.outAnchor).map b2n) else .nil
  if formedLeft h + a.len < k then none
  else
    let fed := h.fed + (k - a.len)
    let gone := (fed - ((s.fh c).encWait.len / 30720 + 1) * 26820) / 128
    some (s.setCh c { h with formed := h.formed.drop gone, fed := fed - 128 * gone, anchorHeld := false },
      (a.app (formedBits h (k - a.len))).val)

/-- A codeword goes to TX. -/
def encSend (s : State) (c : Carrier) (len cw : Nat) : State :=
  let h := s.fh c
  s.setFh c { h with encWait := h.encWait.app (BitStr.of len cw), encHeld := false, encPad := 0, encOut := cw }

/-- Zero pad to the end of the pilot block in which the last codeword before an anchor ends (R230). -/
def encPadOut (s : State) (c : Carrier) : State :=
  let h := s.fh c
  let w := h.encWait.padTo (txBlockBits s c)
  if h.encHeld then s else s.setFh c { h with encWait := w, encHeld := true, encPad := w.len - h.encWait.len }

/-- The native encoder sends the codeword of the next data block, or zero pad where that would end after the next anchor frame
begins (R230); the one that begins at an anchor frame waits for its anchor block (R304). The reserved TX_RATE 0b11 has no code and
sends nothing (log entry 99). -/
def encNext (s : State) (c : Carrier) : State :=
  if encCode s c = 3 then s
  else if encRoom s c < 30720 then encPadOut s c
  else if anchorDue s c && !(s.ch c).anchorHeld then s
  else
    match encTake s c (encDataBits s c) with
    | none => s
    | some (s, d) => encSend s c 30720 ((codeOf (encCode s c)).encode d)

/-- The coded bits that wait, without the zero pad. -/
def encBody (h : FecH) : BitStr := if h.encHeld then h.encWait.take (h.encWait.len - h.encPad) else h.encWait

/-- Bits of a codeword of the mode's code. -/
def encBlockBits (s : State) (c : Carrier) : Nat :=
  if s.mode c = mBEXA then 15360 else if s.mode c = mZR400 then Config.zrCodedBits else 30720

/-- The encoder stops: what waits of the codeword in progress, whose first bit TX has taken, goes out, padded to its pilot
block; codewords that have not begun do not (R229, R249; log entry 113). -/
def encRest (s : State) (c : Carrier) : State :=
  let w := encBody (s.fh c)
  s.setFh c { s.fh c with encWait := w.take (w.len % encBlockBits s c), encHeld := true, encPad := 0 }

/-- At a boundary that changes the code rate or the loading, the codewords that have not begun are encoded anew: a codeword has
the rate of the frame in which its first bit falls, and none starts that would end after the next anchor frame begins (R229,
R230). The encoder takes their data again, at an anchor frame with its anchor block. `rate` is the rate before. -/
def encRedo (s : State) (c : Carrier) (rate : Nat) : State :=
  let h := s.fh c
  let w := encBody h
  let n := w.len / 30720
  let a := !ciphBypassed s c && (s.txh c).nextFcount % 64 == 0 && n != 0
  let s := s.setFh c { h with encWait := w.take (w.len % 30720), encHeld := false, encPad := 0 }
  let x := s.ch c
  let back := n * (codeOf rate).dataBits - (if a then 192 else 0)
  let s := s.setCh c { x with fed := x.fed - back, anchorHeld := x.anchorHeld || a }
  (List.range (back / encDataBits s c + 1)).foldl (fun s _ => encNext s c) s

/-- The commit points that a transmitted frame brings: TX itself outside DAWN-TX (R61, R67), then FEC and FRAMER (R18);
CIPHER's is taken with TX_SLOT's own effect (R317). Where the code rate or the loading changes, so do the codewords that have not
begun (R229). -/
def txCommits (s : State) (c : Carrier) : State :=
  let t := if s.mode c != mDAWNTX then (if s.commitDue (.tx c) then txTransfer s c else s).commitPassed (.tx c) else s
  let t := lineCommit (lineCommit t (.fec c)) (.framer c)
  let rate := s.getC c R.FEC_CODE.TX_RATE
  if fecNative s c && (rate != t.getC c R.FEC_CODE.TX_RATE || txBlockBits s c != txBlockBits t c) then encRedo t c rate else t

/-- The next transmit boundary of the carrier starts a frame: TX runs, is not stopping, and in DAWN-TX has frames of a
burst left (R64, R66). -/
def txBoundary (s : State) (c : Carrier) : Bool :=
  s.running (.tx c) &&
  (if s.mode c = mDAWNTX then s.onC c R.TX_STAT.BURST && s.getC c R.TX_BURST.FRAMES_LEFT != 0 else !s.stopping (.tx c))

/-- R117: the driver emphasis of the current temperature band takes effect at a frame boundary, in DAWN-TX at a preamble. -/
def txEmphasis (s : State) (c : Carrier) : State :=
  s.setTxh c { s.txh c with
    emph := [s.getC c R.DAC_EMPH.COLD, s.getC c R.DAC_EMPH.MID, s.getC c R.DAC_EMPH.HOT].getD (s.get R.PWR_STAT.BAND) 0 }

/-- TX_FRAME_START: a transmit line-frame boundary. A stopping TX sends no further frame (R64); in DAWN-TX frames are sent
only within a burst, which ends at the boundary after its last frame (R66). -/
def txFrameStart (s : State) (c : Carrier) : State :=
  if !txBoundary s c then
    if s.running (.tx c) && s.mode c == mDAWNTX && s.onC c R.TX_STAT.BURST then txMuteNow (txBurstOver s c) c else s
  else if s.mode c = mDAWNTX then
    let s := txCommits s c
    txSendFrame (s.setC c R.TX_BURST.FRAMES_LEFT (s.getC c R.TX_BURST.FRAMES_LEFT - 1)) c
  else
    let s := txEmphasis (txMuteBoundary (txCommits s c) c) c
    if s.mode c = mBEXA ∨ s.mode c = mZR400 then txPlainFrame s c else txSendFrame s c

/-- Setting RUN: during a stop it is kept for after the stop (R666), a running block keeps running. -/
def setRun (s : State) (b : Blk) (try' : State → State) : State :=
  let s := s.set (runF b) 1
  if s.running b then s else try' s

/-- TX_STOP_DONE: the last symbol has left the pins; RUNNING falls and the output is at mute. A burst with frames still to
start has not sent its last symbol (R64). -/
def txStopDone (s : State) (c : Carrier) : State :=
  if s.running (.tx c) && s.stopping (.tx c) && s.getC c R.TX_BURST.FRAMES_LEFT == 0 then txMuteNow (txBurstOver (s.stopPoint (.tx c)) c) c else s

/-- TX_MUTE_WRITE: MUTE = 1 mutes at once and ends a burst (R65, R69); MUTE = 0 is met at the next boundary. -/
def txMuteWrite (s : State) (c : Carrier) (mute : Bool) : State := txGate (s.setBC c R.TX_CTRL.MUTE mute) c

/-- R68: why TX refuses a launch, in ascending order (R19); 0 when it does not. A TX whose RUN has been cleared begins no
further burst (R64); it refuses with reason 4 (log entry 98). -/
def txLaunchReason (s : State) (c : Carrier) : Nat :=
  if s.mode c ≠ mDAWNTX then 1
  else if s.onC c R.TX_STAT.BURST then 2
  else if s.onC c R.TX_CTRL.MUTE || !s.txEnabled then 3
  else if !s.running (.tx c) || s.stopping (.tx c) then 4
  else 0

/-- A burst of `n` frames begins: the commit point of DAWN-TX (R67), the preamble leaves with its descriptor (R66, R183). The
encoder begins anew at frame 0, and so does the segment (R230, R320). -/
def txBurstBegin (s : State) (c : Carrier) (n : Nat) : State :=
  let s := if s.commitPending (.tx c) || s.on (commitReqF (.tx c)) || s.named.contains (.tx c) then txTransfer s c else s
  let s := (s.commitPassed (.tx c)).setFh c { s.fh c with encWait := .nil, encHeld := false }
  let s := s.setCh c { s.ch c with formed := [], fed := 0, anchorHeld := false, segOpen := false, segText := [], segLen := 0 }
  let s := s.setTxh c { s.txh c with nextFcount := 0 }
  let md := s.getC c R.TX_MOD.MOD
  let s := txSend s c (.preamble (descriptorWord (s.getC c R.TX_DAWN.SRC_ID) n md (entropyCode md (s.getC c R.TX_MOD.ENTROPY))
    (s.getC c R.FEC_CODE.TX_RATE)) (s.getC c R.TX_SHAPE.PILOT_GAIN))
  let s := (s.setBC c R.TX_STAT.BURST true).setBC c R.TX_BURST.ACTIVE true
  txMuteBoundary (((txEmphasis s c).setC c R.TX_BURST.FRAMES_LEFT n).bumpC c R.TX_BURST_CNT.LAUNCHES) c

/-- A launch leaves the list of those handed to TX and is checked; `late` ns after its time where TX received it too late
(R68). -/
def txLaunchCheck (s : State) (c : Carrier) (l : Launch) (late : Nat) : State :=
  let s := s.setTxh c { s.txh c with launches := (s.txh c).launches.filter (· ≠ l) }
  let r := txLaunchReason s c
  if r ≠ 0 then s.raiseC c E.TX_LAUNCH_REFUSED r
  else
    let s := txBurstBegin s c l.frames
    if late = 0 then s
    else (s.setBC c R.TX_BURST.LATE true).raiseC c E.TX_LAUNCH_LATE (min late 0xFFFF)

/-! The lookup table window (R59). -/

/-- The byte of entry `v` of the linear table: floor(v / 4) of the signed index (R59). -/
def linearEntry (v : Nat) : Nat := ofSigned 8 (toSigned 10 v / 4)

/-- Word `w` of a table of 1,024 entries as the linear table holds it; the four DACs have the same. -/
def linearWord (w : Nat) : Nat :=
  let e := 4 * (w % 256)
  linearEntry e + 256 * linearEntry (e + 1) + 65536 * linearEntry (e + 2) + 16777216 * linearEntry (e + 3)

/-- A word of the window, by its index from the first word of bank 0. -/
def txLutRead (s : State) (c : Carrier) (w : Nat) : Nat := ((s.txh c).lut.find w).getD (linearWord w)

/-- R59: the DAC code of DAC `d` for a 10-bit sample: the entry of the active bank, or of the linear table with LUT_EN = 0. -/
def txCode (s : State) (c : Carrier) (d : Nat) (x : Int) : Nat :=
  let e := ofSigned 10 x
  if s.onC c R.TX_LUT_CTRL.LUT_EN then
    txLutRead s c (1024 * s.getC c R.TX_STAT.LUT_BANK + 256 * d + e / 4) / 256 ^ (e % 4) % 256
  else linearEntry e

/-- R65: what each DAC receives at mute, its entry for sample 0. -/
def txMuteCodes (s : State) (c : Carrier) : List Nat := (List.range 4).map (fun d => txCode s c d 0)

/-- The codes that the four DACs receive, each as long as what TX shapes; at mute one code each (R46, R65). -/
def txDacCodes (s : State) (c : Carrier) : List (List Nat) :=
  if s.onC c R.TX_STAT.MUTED then (txMuteCodes s c).map (fun v => [v])
  else foldIdx (fun d l xs => l ++ [xs.map (txCode s c d)]) 0 [] (txSamples s c)

/-- A word of the window written; a word that equals the linear table's is not listed. -/
def txLutWrite (s : State) (c : Carrier) (w v : Nat) : State :=
  let h := s.txh c
  s.setTxh c { h with lut := Map.putD (linearWord w) h.lut w (v % 2 ^ 32) }

end Sys2Proof.Machine
end

