-- ==== Sys2Proof/Machine/RxChain.lean ====
section
/-! DEFINITION. The stages of the receive path and their numbers (R132 to R142, R150, R153): what each makes of the samples
or symbols that reach it. -/

namespace Sys2Proof.Machine

open Sys2Proof

/-- The receive state of a carrier that no register shows. -/
def State.rxh (s : State) (c : Carrier) : RxH := s.rx.get c
/-- That state replaced. -/
def State.setRxh (s : State) (c : Carrier) (h : RxH) : State := { s with rx := s.rx.set c h }

/-- The receive symbol rate in force (R160, R668). -/
def rxSymRate (s : State) (c : Carrier) : Nat :=
  if s.mode c = mBEXA then 130000 else if s.mode c = mZR400 then 59840 else s.getC c R.RX_RATE.SYM_RATE

/-- CONV's own loopback is in use (R118). -/
def convLoopback (s : State) (c : Carrier) : Bool := s.mode c == mDIAG && s.onC c R.CONV_CTRL.LPBK
/-- The TX loopback of R87 is in use. -/
def txLoopback (s : State) (c : Carrier) : Bool := s.mode c == mDIAG && s.onC c R.TX_DIAG.LPBK

/-! Acquisition states (R155). -/

/-- STOPPED. -/
def aSTOPPED : Nat := 0
/-- WAIT_LIGHT. -/
def aWAIT : Nat := 1
/-- FREQ_COARSE. -/
def aFREQ : Nat := 2
/-- CD_SEARCH. -/
def aCD : Nat := 3
/-- CLOCK. -/
def aCLOCK : Nat := 4
/-- BLIND. -/
def aBLIND : Nat := 5
/-- FRAME. -/
def aFRAME : Nat := 6
/-- PILOT. -/
def aPILOT : Nat := 7
/-- DD. -/
def aDD : Nat := 8
/-- TRACK. -/
def aTRACK : Nat := 9
/-- FREEZE. -/
def aFREEZE : Nat := 10
/-- RESUME. -/
def aRESUME : Nat := 11
/-- SEEDED. -/
def aSEEDED : Nat := 12

/-- ACQ_STATE. -/
def acqState (s : State) (c : Carrier) : Nat := s.getC c R.RXDSP_STAT.ACQ_STATE

/-! Taps (R140, R141, R180). -/

/-- The word of FFE filter `f`, tap `t` (R180). -/
def ffeWord (f t : Nat) : Nat := 0x80 * f + t
/-- The word of DFE tributary `r`, tap `t` (R180). -/
def dfeWord (r t : Nat) : Nat := 0x200 + 4 * r + t

/-- A word that holds an FFE tap. -/
def isFfe (w : Nat) : Bool := decide (w < 0x200 ∧ w % 0x80 < 71)
/-- A word that holds a DFE tap. -/
def isDfe (w : Nat) : Bool := decide (0x200 ≤ w ∧ w < 0x210)
/-- An outer FFE tap: all but taps 12 to 58 (R154). -/
def isOuter (w : Nat) : Bool := isFfe w && !decide (12 ≤ w % 0x80 ∧ w % 0x80 ≤ 58)

/-- Every tap word (R180). -/
def tapWords : List Nat :=
  (List.range 4).flatMap (fun f => (List.range 71).map (ffeWord f)) ++ (List.range 16).map (0x200 + ·)

/-- Real and imaginary part of an FFE tap (R180). -/
def tapPart (w : Nat) : Int × Int := (toSigned 16 (bitsOf w 15 0), toSigned 16 (bitsOf w 31 16))

/-! Stages 1 to 3: from the samples of the four ADCs to the dispersion filter's outputs (R132). -/

/-- R134: a sum of products with `frac` fractional bits, times 2^sh / 2^unit; the fraction is dropped (log entry 96). -/
def stageOut (frac unit sh : Nat) (x : Int) : Int := x * 2 ^ sh / 2 ^ (frac + unit)

/-- A stage's output with its saturation (R135), and whether any sample saturated. -/
def saturate (w : Nat) (xs : List Int) : List Int × Bool :=
  (xs.map (clampSigned w), xs.any (fun x => clampSigned w x != x))

/-- Complex samples saturated component by component. -/
def saturateC (w : Nat) (xs : List (Int × Int)) : List (Int × Int) × Bool :=
  (xs.map (fun v => (clampSigned w v.1, clampSigned w v.2)), xs.any (fun v => (clampSigned w v.1, clampSigned w v.2) != v))

/-- The products of coefficients with the newest sample and those before it, newest first. -/
def firAt (cs : List Int) (recent : List Int) : Int := (List.zipWith (· * ·) cs recent).foldl (· + ·) 0

/-- A filter along a stream, `recent` the samples before it, newest first. -/
def fir (cs : List Int) : List Int → List Int → List Int
  | _, [] => []
  | recent, x :: xs =>
    let r := (x :: recent).take cs.length
    firAt cs r :: fir cs r xs

/-- The sum of two complex numbers. -/
def cadd (a b : Int × Int) : Int × Int := (a.1 + b.1, a.2 + b.2)
/-- The product of two complex numbers. -/
def cmul (a b : Int × Int) : Int × Int := (a.1 * b.1 - a.2 * b.2, a.1 * b.2 + a.2 * b.1)
/-- The conjugate. -/
def conj (a : Int × Int) : Int × Int := (a.1, -a.2)

/-- A complex filter with `n` coefficients along a stream. -/
def cfir (h : Nat → Int × Int) (n : Nat) : List (Int × Int) → List (Int × Int) → List (Int × Int)
  | _, [] => []
  | recent, x :: xs =>
    let r := (x :: recent).take n
    foldIdx (fun i a v => cadd a (cmul (h i) v)) 0 (0, 0) r :: cfir h n r xs

/-- The samples that stage 1 or, with the TX loopback, stage 2 takes: those of the ADC pins, TX's own 10-bit samples (R87,
R136), or with CONV's loopback what the ADCs make of the carrier's own DACs (R118). -/
def rxSamples (s : State) (c : Carrier) (adc : List (List Int)) : List (List Int) :=
  if txLoopback s c then txSamples s c
  else if convLoopback s c then
    (txDacCodes s c).map (Config.dieLoop (s.get ((R.CONV_RATE.RATE.ix 1).on c)) (s.get ((R.CONV_RATE.RATE.ix 0).on c)))
  else adc

/-- The coefficients of the front filter of ADC `a` (R136, R179). -/
def frontCoefs (s : State) (c : Carrier) (a : Nat) : List Int :=
  (List.range 16).map (fun t => toSigned 10 (s.get ((R.RX_FF_COEF.COEF.ix (16 * a + t)).on c)))

/-- R136: stage 1 of ADC `a` after the codes `past`, 7-bit ADC codes to 10 bits; with the TX loopback the samples pass. -/
def frontStage (s : State) (c : Carrier) (a : Nat) (past adc : List Int) : List Int × Bool :=
  if txLoopback s c then (adc, false)
  else saturate 10 ((fir (frontCoefs s c a) past adc).map (stageOut 8 1 (s.getC c R.RX_SHIFT.SH_FF)))

/-- The timing NCO's advance for one output in 2^-32 input sample: 9/8 outputs per symbol of the remote transmitter, whose
clock is `ppm` hundredths of a ppm off (R133, R137; log entry 96). -/
def ncoStep (rate sym : Nat) (ppm : Int) : Nat :=
  rate * 8 * 2 ^ 32 * 10 ^ 8 / (9 * sym * (10 ^ 8 + ppm).toNat)

/-- R137: one output of the resampler: twelve samples with the coefficients of one of 256 branches. -/
def branchAt (branch : Nat) (win : List Int) : Int :=
  foldIdx (fun t a x => a + Config.resampleRom branch t * x) 0 0 (win.take 12)

/-- R137: outputs as long as twelve samples are at hand: the outputs, the place of the next and the samples it needs. -/
def resampleRun (step : Nat) : Nat → Nat → List Int → List Int × Nat × List Int
  | 0, pos, buf => ([], pos, buf)
  | n + 1, pos, buf =>
    let b := buf.drop (pos / 2 ^ 32)
    if b.length < 12 then ([], pos, buf)
    else
      let r := resampleRun step n (pos % 2 ^ 32 + step) b
      (branchAt (pos % 2 ^ 32 / 2 ^ 24) b :: r.1, r.2)

/-- R133, R137: stage 2 of one ADC: its outputs, whether one saturated, where the next stands, the samples held. -/
def resampleStage (s : State) (c : Carrier) (buf xs : List Int) : List Int × Bool × Nat × List Int :=
  let rate := s.get ((R.CONV_RATE.RATE.ix (b2n (txLoopback s c))).on c)
  let h := s.rxh c
  let r := resampleRun (ncoStep rate (rxSymRate s c) h.ppm) (2 * (buf.length + xs.length)) h.str.pos (buf ++ xs)
  let o := saturate 12 (r.1.map (stageOut 16 2 (s.getC c R.RX_SHIFT.SH_RS)))
  (o.1, o.2, r.2)

/-- R138: the block size of the dispersion filter: 131,072 samples at 120 GBd and above, proportionally smaller below. -/
def cdBlock (sym : Nat) : Nat := min 131072 (131072 * sym / 120000)

/-- R138: stage 3 of a polarisation after the inputs `past`: the part of a block that an overlap-save filter can hold as its
response is half of it (log entry 96). -/
def cdStage (s : State) (c : Carrier) (past xs : List (Int × Int)) : List (Int × Int) × Bool :=
  let h := s.rxh c
  let ys := cfir (Config.cdTap (s.getC c R.RX_FREQ.FREQ_GHZ) (rxSymRate s c) h.cd) (h.str.block / 2) past xs
  let sh := s.getC c R.RX_SHIFT.SH_CD
  saturateC 12 (ys.map (fun v => (stageOut 16 4 sh v.1, stageOut 16 4 sh v.2)))

/-- A polarisation takes dispersion filter inputs: its outputs wait for the next DSP cycles. -/
def PolH.intake (p : PolH) (block : Nat) (xs ys : List (Int × Int)) : PolH :=
  { p with cdPast := (xs.reverse ++ p.cdPast).take (block / 2), wait := p.wait ++ ys }

/-- Stages 1 to 3 on the samples that arrive (R132); the bits of `sat` are those of R181's mask. -/
def streamIn (s : State) (c : Carrier) (adc : List (List Int)) : RxStream :=
  let t := (s.rxh c).str
  let xs := rxSamples s c adc
  let ff := (List.range 4).map (fun a => frontStage s c a (t.front.getD a []) (xs.getD a []))
  let rs := (List.range 4).map (fun a => resampleStage s c (t.rsBuf.getD a []) (ff.getD a ([], false)).1)
  let col := fun (i : Nat) => (rs.map (·.1)).getD i []
  let ix := (col 0).zip (col 1)
  let iy := (col 2).zip (col 3)
  let cx := cdStage s c t.x.cdPast ix
  let cy := cdStage s c t.y.cdPast iy
  { t with
    front := (List.range 4).map (fun a => ((xs.getD a []).reverse ++ t.front.getD a []).take 15)
    rsBuf := rs.map (·.2.2.2)
    pos := (rs.map (·.2.2.1)).headD t.pos
    x := t.x.intake t.block ix cx.1
    y := t.y.intake t.block iy cy.1
    sat := t.sat ||| (b2n (ff.any (·.2)) + 2 * b2n (rs.any (·.2.1)) + 4 * b2n (cx.2 || cy.2)) }

/-! Stage 4, the FFE (R140). A DSP cycle takes 288 samples of each polarisation to 256 symbols (R133). -/

/-- One sample per symbol from 9/8: symbol k at sample ⌊9k/8⌋ (log entry 96). -/
def decimate : List (Int × Int) → List (Int × Int)
  | a :: b :: c :: d :: e :: f :: g :: h :: _ :: l => a :: b :: c :: d :: e :: f :: g :: h :: decimate l
  | _ => []

/-- The sample that tap `t` meets for each symbol of a cycle: `buf` holds the 70 samples before the cycle and its own. -/
def tapInput (buf : List (Int × Int)) (t : Nat) : List (Int × Int) := decimate ((buf.drop (70 - t)).take 288)

/-- The 70 samples before a cycle and its own, oldest first; before the first samples there are zeros. -/
def PolH.buffer (p : PolH) : List (Int × Int) :=
  List.replicate (70 - p.past.length) (0, 0) ++ p.past ++ p.wait.take 288

/-- The sums of the two filters of output `out`, 0 X and 1 Y. -/
def ffeSums (taps : Map Nat) (xb yb : List (Int × Int)) (out : Nat) : List (Int × Int) :=
  (taps.filter (fun p => isFfe p.1 && p.1 / 0x80 / 2 == out)).foldl (fun acc p =>
    List.zipWith cadd acc ((tapInput (if p.1 / 0x80 % 2 = 0 then xb else yb) (p.1 % 0x80)).map (cmul (tapPart p.2))))
    (List.replicate 256 (0, 0))

/-- R134, R140: the FFE's output `out` over a cycle. -/
def ffeStage (s : State) (c : Carrier) (taps : Map Nat) (xb yb : List (Int × Int)) (out : Nat) : List (Int × Int) × Bool :=
  let sh := s.getC c R.RX_SHIFT.SH_FFE
  saturateC 12 ((ffeSums taps xb yb out).map (fun v => (stageOut 14 4 sh v.1, stageOut 14 4 sh v.2)))

/-! Decisions (R141). -/

/-- The loading of the frame being received: its header's, RX_MOD's with FOLLOW = 0, the burst's in the Dawn modes; in BEXA and
in ZR400 the DP-16QAM of the mode (R70, R151, R199). -/
def rxLoading (s : State) (c : Carrier) : Nat × Nat :=
  if s.mode c = mBEXA ∨ s.mode c = mZR400 then (1, 80)
  else if s.onC c R.RX_MOD.FOLLOW || s.mode c == mDAWNRX then ((s.rxh c).hdrMod, (s.rxh c).hdrEnt)
  else (s.getC c R.RX_MOD.MOD, s.getC c R.RX_MOD.ENTROPY)

/-- The positive levels of a loading at the FFE output, where the RMS of a dimension is 512 (R134). -/
def levelsOf (md ent : Nat) : List Int :=
  let e := if md = 0 then 124 else if md = 1 then 620 else compEnergy (composition md (blockBits md ent - 124))
  let n := if md = 0 then 1 else if md = 3 then 4 else 2
  (List.range n).map (fun i => 2 * (mapAmp e (2 * i + 1) : Int))

/-- The slicer's levels for the modulation in force (R141). -/
def rxLevels (s : State) (c : Carrier) : List Int := levelsOf (rxLoading s c).1 (rxLoading s c).2

/-- The level next to a value's magnitude, with the value's sign. -/
def slice (levels : List Int) (x : Int) : Int :=
  let m := (x.natAbs : Int)
  let best := levels.foldl (fun b l => if (m - l).natAbs < (m - b).natAbs then l else b) (levels.getD 0 0)
  if x < 0 then -best else best

/-- The decision on a symbol. -/
def sliceC (levels : List Int) (z : Int × Int) : Int × Int := (slice levels z.1, slice levels z.2)

/-! Stage 5, carrier recovery (R150). Phases are in 1/2,048 turn; how they are rounded is log entry 96's. -/

/-- The angle of a vector; that of the zero vector is 0. -/
def turnOf (v : Int × Int) : Int :=
  let q : Nat × (Int × Int) :=
    if 0 < v.1 ∧ 0 ≤ v.2 then (0, v)
    else if v.1 ≤ 0 ∧ 0 < v.2 then (1, (v.2, -v.1))
    else if v.1 < 0 ∧ v.2 ≤ 0 then (2, (-v.1, -v.2))
    else if 0 ≤ v.1 ∧ v.2 < 0 then (3, (-v.2, v.1))
    else (0, (1, 0))
  let n := [256, 128, 64, 32, 16, 8, 4, 2, 1].foldl (fun (n b : Nat) =>
    if -cosTurn (n + b + 512) * q.2.1 ≤ cosTurn (n + b) * q.2.2 then n + b else n) 0
  ((512 * q.1 + n : Nat) : Int)

/-- A difference of phases within half a turn. -/
def wrapTurn (d : Int) : Int := (d + 1024) % 2048 - 1024

/-- A symbol rotated back by a phase, in 12 bits (R134). -/
def rotateBack (p : Int) (z : Int × Int) : Int × Int :=
  if p % 2048 = 0 then z
  else
    let n := (p % 2048).toNat
    let v := cmul z (cosTurn n, cosTurn (n + 512))
    (clampSigned 12 (v.1 / 2 ^ 30), clampSigned 12 (v.2 / 2 ^ 30))

/-- An error turned to where the FFE's output stands. -/
def rotateOn (p : Int) (z : Int × Int) : Int × Int := rotateBack (-p) z

/-- A vector averaged over a list. -/
def vecSum (l : List (Int × Int)) : Int × Int := l.foldl cadd (0, 0)

/-- The window of the decision-directed phase estimate as a power of two (R170). -/
def crWindow (v : Nat) : Nat := min 6 (max 3 v)

/-- A list cut into pieces of `n`. -/
def pieces {α : Type} (n : Nat) : Nat → List α → List (List α)
  | 0, _ => []
  | k + 1, l => l.take n :: pieces n k (l.drop n)

/-- The phase that the frequency loop's offset has reached at each symbol of a cycle (R150). -/
def freqPhases (sym : Nat) (fo : Int) (turn : Nat) : List Int :=
  (List.range 256).map (fun i => 2048 * (((turn : Int) + fo * ((i : Nat) : Int)) % (4 * (sym : Int))) / (4 * (sym : Int)))

/-- What carrier recovery makes of a polarisation over a cycle: what it holds, the symbols, the phases removed, slips. -/
structure Recovered where
  pol : PolH
  z : List (Int × Int)
  ph : List Int
  slips : Nat
  deriving DecidableEq, Repr

/-- The references of the pilots of cycle `k` of a frame, eight per polarisation, at the FFE output (R49, R134): the remote
transmitter's generator, seeds and gain are taken to be those of the carrier's own TX_PILOT and PILOT_GAIN (log entry 96). -/
def pilotRefs (s : State) (c : Carrier) (pol k : Nat) : List (Int × Int) :=
  if k = 0 then []
  else
    let seed := s.getC c (if pol = 0 then R.TX_PILOT.SEED_X else R.TX_PILOT.SEED_Y)
    (qpsk (2 * pilotMag (s.getC c R.TX_SHAPE.PILOT_GAIN)) (prbsBits 15 14 (16 * k) seed)).drop (8 * (k - 1))

/-- R150: the phase of each of a cycle's eight pilot blocks, from the average of PILOT_AVG pilots, reached linearly over the
block's 32 symbols from that of the block before. A cycle without pilots keeps the last phase (log entry 96). -/
def pilotPhases (avg : Nat) (pol : PolH) (refs z : List (Int × Int)) : PolH × List Int :=
  if refs.isEmpty then (pol, List.replicate 256 pol.phase)
  else
    (List.zip refs (pieces 32 8 z)).foldl (fun (acc : PolH × List Int) b =>
      let ps := (cmul (conj b.1) (b.2.headD (0, 0)) :: acc.1.pilots).take avg
      let d := wrapTurn (turnOf (vecSum ps) - acc.1.phase)
      ({ acc.1 with pilots := ps, phase := (acc.1.phase + d) % 2048 },
        acc.2 ++ (List.range 32).map (fun i => acc.1.phase + d * ((i + 1 : Nat) : Int) / 32))) (pol, [])

/-- R150: a window of the decision-directed estimate: what it adds to the pilots' phase; where the two stand more than a
quarter turn apart the pilots' holds and it counts. -/
def ddWindow (levels : List Int) (dd : Int) (z : List (Int × Int)) : Int × Nat :=
  let r := z.map (rotateBack dd)
  let d := wrapTurn (dd + turnOf (vecSum (r.map (fun v => cmul (conj (sliceC levels v)) v))))
  if 512 < d.natAbs then (0, 1) else (d, 0)

/-- R150: the decision-directed estimate along a cycle, its windows 2^w symbols long. -/
def ddPhases (levels : List Int) (w : Nat) (dd : Int) (z : List (Int × Int)) : Int × List Int × Nat :=
  (pieces (2 ^ w) (256 / 2 ^ w) z).foldl (fun (acc : Int × List Int × Nat) x =>
    let d := ddWindow levels acc.1 x
    (d.1, acc.2.1 ++ List.replicate (2 ^ w) d.1, acc.2.2 + d.2)) (dd, [], 0)

/-- R150, BEXA: the phase within a quarter turn that brings a window's symbols nearest to the constellation, out of 64, taken
in the quarter next to the phase before. -/
def blindWindow (levels : List Int) (phase : Int) (z : List (Int × Int)) : Int :=
  let cost := fun (j : Nat) => (z.map (fun v =>
    let r := rotateBack (8 * ((j : Nat) : Int)) v
    let d := sliceC levels r
    (r.1 - d.1) * (r.1 - d.1) + (r.2 - d.2) * (r.2 - d.2))).foldl (· + ·) 0
  let best := (List.range 64).foldl (fun (b : Nat) j => if cost j < cost b then j else b) 0
  phase + ((8 * ((best : Nat) : Int) - phase + 256) % 512 - 256)

/-- R150, BEXA: the phases along a cycle by blind search; at a frame's start the sync word resolves the quadrant. -/
def blindPhases (levels : List Int) (w : Nat) (pol : PolH) (sync z : List (Int × Int)) : PolH × List Int :=
  let r := (pieces (2 ^ w) (256 / 2 ^ w) z).foldl (fun (acc : Int × List Int) x =>
    let p := blindWindow levels acc.1 x
    (p, acc.2 ++ List.replicate (2 ^ w) p)) (pol.phase, [])
  let t := turnOf (vecSum (List.zipWith (fun a b => cmul (conj a) b) sync (List.zipWith rotateBack r.2 z)))
  let q := if sync.isEmpty then 0 else 512 * ((t + 256) / 512)
  ({ pol with phase := (r.1 + q) % 2048 }, r.2.map (· + q))

/-- R145, R147, R150: the phases of a polarisation over cycle `k` of a frame: by pilots, in DD and TRACK (`dd`) refined by
decisions; in BEXA by blind search, held during an idle frame; held during loss of light; in ZR400 by the pilots of its frame
(log entry 97). -/
def cyclePhases (s : State) (c : Carrier) (pol k : Nat) (dd idle : Bool) (levels : List Int) (p : PolH)
    (z : List (Int × Int)) : PolH × List Int × Nat :=
  let avg := s.getC c R.RX_CR_CTRL.PILOT_AVG + 1
  let w := crWindow (s.getC c R.RX_CR_CTRL.CR_WIN)
  if s.onC c R.RXDSP_STAT.LOL || (idle && s.mode c == mBEXA) then (p, List.replicate 256 (p.phase + p.dd), 0)
  else if s.mode c = mZR400 then (p, Config.zrPhases avg z, 0)
  else if s.mode c = mBEXA then
    let sync := if k = 0 then (let x := syncWord 0 128; if pol = 0 then x.x else x.y) else []
    let r := blindPhases levels w p sync z
    (r.1, r.2, 0)
  else
    let r := pilotPhases avg p (pilotRefs s c pol k) z
    if dd then
      let d := ddPhases levels w p.dd (List.zipWith rotateBack r.2 z)
      ({ r.1 with dd := d.1 }, List.zipWith (· + ·) r.2 d.2.1, d.2.2)
    else ({ r.1 with dd := 0 }, r.2, 0)

/-- Stage 5 on a cycle of a polarisation: the frequency offset and the phase removed (R150). -/
def recoverStage (s : State) (c : Carrier) (pol k : Nat) (dd idle : Bool) (levels fr : List Int) (p : PolH)
    (y : List (Int × Int)) : Recovered :=
  let z := List.zipWith rotateBack fr y
  let r := cyclePhases s c pol k dd idle levels p z
  let ph := List.zipWith (· + ·) fr r.2.1
  ⟨r.1, List.zipWith rotateBack ph y, ph, r.2.2⟩

/-! Stage 6, the DFE (R141). -/

/-- R141: stage 6 along a tributary, `past` its last four decisions, newest first: the outputs before saturation. -/
def dfeRun (levels taps : List Int) (sh : Nat) : List Int → List Int → List Int
  | _, [] => []
  | past, x :: xs =>
    let y := stageOut 9 4 sh (x * 512 - firAt taps past)
    y :: dfeRun levels taps sh ((slice levels (clampSigned 12 y) :: past).take 4) xs

/-- The DFE of tributary `r` (R134, R141): `en` where acquisition has enabled it (R155), else it subtracts nothing. -/
def dfeStage (s : State) (c : Carrier) (taps : Map Nat) (en : Bool) (levels past : List Int) (r : Nat) (xs : List Int) :
    List Int × Bool :=
  let cs := if en then (List.range 4).map (fun t => toSigned 10 (taps.get (dfeWord r t))) else []
  saturate 12 (dfeRun levels cs (s.getC c R.RX_SHIFT.SH_DFE) past xs)

/-! The soft demapper (R153). -/

/-- The smallest squared distance of a value to a set of levels. -/
def nearSq (x : Int) (ls : List Int) : Int :=
  ls.foldl (fun m l => min m ((x - l) * (x - l))) ((x - ls.getD 0 0) * (x - ls.getD 0 0))

/-- An LLR: half the difference of two squared distances over the noise variance, in units of 2^-scale nat, rounded half
away from zero and held within ±31 (R153). -/
def llrOf (scale noise : Nat) (d1 d0 : Int) : Int :=
  max (-31) (min 31 (divRoundI ((d1 - d0) * 2 ^ scale) (2 * max 1 noise)))

/-- The max-log LLR of the sign bit of a dimension; a positive value favours 0, the positive levels. -/
def signLlr (scale noise : Nat) (ls : List Int) (x : Int) : Int :=
  llrOf scale noise (nearSq x (ls.map (fun l => -l))) (nearSq x ls)

/-- The max-log LLR of the amplitude bit of DP-16QAM: 0 the inner level, 1 the outer (R54, R55). -/
def ampLlr (scale noise : Nat) (ls : List Int) (x : Int) : Int :=
  let a := ls.getD 0 0
  let b := ls.getD 1 0
  llrOf scale noise (nearSq x [b, -b]) (nearSq x [a, -a])

/-- R153: the LLRs of a traffic block of 124 dimensions, B of them in the order of R54. The trellis of the dematcher is a
value the spec does not fix (log entry 96). -/
def blockLlrs (md ent scale : Nat) (noise : List Nat) (dims : List Int) : List Int :=
  let ls := levelsOf md ent
  let n := fun (i : Nat) => noise.getD (i % 4) 1
  let sg := foldIdx (fun i acc x => acc ++ [signLlr scale (n i) ls x]) 0 [] dims
  let amp :=
    if md = 0 then []
    else if md = 1 then foldIdx (fun i acc x => acc ++ [ampLlr scale (n i) ls x]) 0 [] dims
    else (List.range (blockBits md ent - 124)).map (fun i => max (-31) (min 31 (Config.dematched md ent scale noise dims i)))
  sg ++ amp

/-- The dimensions XI, XQ, YI, YQ of symbols in order. -/
def symDims (xs ys : List (Int × Int)) : List Int :=
  (List.zipWith (fun x y => [x.1, x.2, y.1, y.2]) xs ys).flatten

/-- The symbols of a frame as the DFE delivers them. -/
abbrev FrameSyms := List (Int × Int) × List (Int × Int)

/-- The errors of a polarisation's symbols over a frame: those of its pilots against their references and, with `dec`, those of
its payload against the decisions (R153, R159). BEXA has no pilots. -/
def frameErrors (s : State) (c : Carrier) (pol : Nat) (dec : Bool) (levels : List Int) (z : List (Int × Int)) :
    List (Int × Int) :=
  let err := fun (v : Int × Int) => (v.1 - (sliceC levels v).1, v.2 - (sliceC levels v).2)
  if s.mode c = mBEXA then if dec then (z.drop 128).map err else []
  else if s.mode c = mZR400 then if dec then z.map err else []
  else
    let seed := s.getC c (if pol = 0 then R.TX_PILOT.SEED_X else R.TX_PILOT.SEED_Y)
    let refs := qpsk (2 * pilotMag (s.getC c R.TX_SHAPE.PILOT_GAIN)) (prbsBits 15 14 8176 seed)
    (List.zip refs (pieces 32 4088 (z.drop 256))).flatMap (fun b =>
      (b.2.take 1).map (fun v => (v.1 - b.1.1, v.2 - b.1.2)) ++ if dec then (b.2.drop 1).map err else [])

/-- The mean square of values, at least 1 (R153; log entry 96). -/
def meanSquare (xs : List Int) : Nat := max 1 ((xs.map (fun x => (x * x).toNat)).foldl (· + ·) 0 / max 1 xs.length)

/-- R153: the noise variance of XI, XQ, YI, YQ over a frame, from pilots and decisions. -/
def rxNoise (s : State) (c : Carrier) (e : FrameSyms) : List Nat :=
  let x := frameErrors s c 0 true (rxLevels s c) e.1
  let y := frameErrors s c 1 true (rxLevels s c) e.2
  [meanSquare (x.map (·.1)), meanSquare (x.map (·.2)), meanSquare (y.map (·.1)), meanSquare (y.map (·.2))]

/-- R153: the LLRs of a received frame: those of its traffic blocks, of the Bexa payload, or of the agreement's frame. -/
def frameLlrs (s : State) (c : Carrier) (e : FrameSyms) : List Int :=
  let scale := s.getC c R.RX_MOD.LLR_SCALE
  let noise := rxNoise s c e
  if s.mode c = mZR400 then (Config.zrLlrs scale (symDims e.1 e.2)).map (fun v => max (-31) (min 31 v))
  else if s.mode c = mBEXA then
    let ls := levelsOf 1 80
    (List.zipWith (fun x y =>
      let d := [x.1, x.2, y.1, y.2]
      foldIdx (fun i acc v => acc ++ [signLlr scale (noise.getD i 1) ls v]) 0 [] d ++
        foldIdx (fun i acc v => acc ++ [ampLlr scale (noise.getD i 1) ls v]) 0 [] d) (e.1.drop 128) (e.2.drop 128)).flatten
  else
    let l := rxLoading s c
    (List.range (4088 - min 4088 (s.rxh c).hdrFill)).flatMap (fun j =>
      blockLlrs l.1 l.2 scale noise
        ((symDims ((e.1.drop (257 + 32 * j)).take 31) ((e.2.drop (257 + 32 * j)).take 31) ++ List.replicate 124 0).take 124))

/-! SNR (R159). -/

/-- Squared errors and symbols of a polarisation over a frame; during idle fill from the pilots alone (R159). -/
def frameSnr (s : State) (c : Carrier) (pol : Nat) (idle : Bool) (z : List (Int × Int)) : Nat × Nat :=
  let e := frameErrors s c pol (!idle || s.mode c == mBEXA) (rxLevels s c) z
  ((e.map (fun v => (v.1 * v.1 + v.2 * v.2).toNat)).foldl (· + ·) 0, e.length)

/-- 1,000·log10(p / m) to the nearest integer (0.01 dB), within 0 to 65,535, which an error of 0 reads; for n counted bit by
bit, 2n − 1 ≤ 2,000·log10(p / m) exactly when 10^(2n − 1)·m^2000 ≤ p^2000. -/
def snrOf (p m : Nat) : Nat :=
  if m = 0 then 65535
  else [32768, 16384, 8192, 4096, 2048, 1024, 512, 256, 128, 64, 32, 16, 8, 4, 2, 1].foldl (fun n b =>
    if 10 ^ (2 * (n + b) - 1) * m ^ 2000 ≤ p ^ 2000 then n + b else n) 0

/-- The SNR of squared errors over a count of symbols: the payload's power is that of the RMS of R134 in both dimensions. -/
def snrSum (v : Nat × Nat) : Nat := snrOf (2 * 512 * 512 * v.2) v.1

/-! The header as received (R48). -/

/-- Bits of HDR from symbols 192 to 255: the signs of I and Q of both polarisations together (log entry 95). -/
def hdrBits (x y : List (Int × Int)) : Nat :=
  (List.zipWith (fun x y => [decide (x.1 + y.1 < 0), decide (x.2 + y.2 < 0)]) ((x.drop 192).take 64)
    ((y.drop 192).take 64)).flatten.foldl (fun v b => 2 * v + b2n b) 0

/-! LMS (R142). -/

/-- A tap component after a step of 2^-mu along a gradient in units of the tap, rounded half away from zero and held to its
width (log entry 96). -/
def lmsStep (w mu : Nat) (h g : Int) : Int := clampSigned w (h + divRoundI g (2 ^ mu))

/-- A tap word after steps along pairs of exponent and gradient (R142). -/
def lmsWord (w : Nat) (steps : List (Nat × (Int × Int))) (h : Nat) : Nat :=
  if isDfe w then ofSigned 10 (steps.foldl (fun v g => lmsStep 10 g.1 v g.2.1) (toSigned 10 h))
  else
    let p := tapPart h
    ofSigned 16 (steps.foldl (fun v g => lmsStep 16 g.1 v g.2.1) p.1) +
      65536 * ofSigned 16 (steps.foldl (fun v g => lmsStep 16 g.1 v g.2.2) p.2)

/-- R159: the energy of the outer taps below the total in 0.1 dB, held within 0 to 1,023; without any outer energy the
highest value. For n counted by the list, 2n − 1 ≤ 200·log10(total / outer) exactly when 10^(2n − 1)·outer^200 ≤ total^200. -/
def outerDb (taps : Map Nat) : Nat :=
  let e := fun (m : Map Nat) => m.foldl (fun n p => let q := tapPart p.2; n + (q.1 * q.1 + q.2 * q.2).toNat) 0
  let total := e (taps.filter (fun p => isFfe p.1))
  let outer := e (taps.filter (fun p => isOuter p.1))
  if outer = 0 then 1023
  else ((List.range 1023).filter (fun n => decide (10 ^ (2 * n + 1) * outer ^ 200 ≤ total ^ 200))).length

end Sys2Proof.Machine
end

