-- ==== Sys2Proof/Machine/Rx.lean ====
section
/-! DEFINITION. Continuous receive processing of a carrier (R132 to R181): loss of light, acquisition, line-frame headers,
taps and the carrier seed, throttle, metrics. -/

namespace Sys2Proof.Machine

open Sys2Proof

/-- DAWN governs acquisition: in DAWN-RX, and in BEXA with BEXA_BURST = 1 (R196). -/
def dawnGoverned (s : State) (c : Carrier) : Bool := fastLoopOwns s c

/-- An estimate held within the range in which it is searched. -/
def within (lo hi x : Int) : Int := max lo (min hi x)

/-! Acquisition states (R155). -/

/-- A change of acquisition state; LOCKED reads 1 in TRACK alone (R162). -/
def setAcq (s : State) (c : Carrier) (st : Nat) : State :=
  ((s.setC c R.RXDSP_STAT.ACQ_STATE st).setBC c R.RXDSP_STAT.LOCKED (st == aTRACK)).setRxh c
    { s.rxh c with enteredAt := s.time.aon, stFrames := 0, oof := 0 }

/-! Taps (R140, R141, R144). -/

/-- R140: without a seed hxx and hyy hold 0.5 at the centre tap, every other FFE tap is 0. -/
def initFfe (taps : Map Nat) : Map Nat :=
  Map.set (Map.set (taps.filter (fun p => !isFfe p.1)) (ffeWord 0 35) 0x2000) (ffeWord 3 35) 0x2000

/-- The FFE initialised (R140); outer taps on the ramp of R154 are 0 with it and stay so. -/
def rxInitFfe (s : State) (c : Carrier) : State :=
  s.setRxh c { s.rxh c with taps := initFfe (s.rxh c).taps, outer := [] }

/-- A component moved towards another by 2^-leak, rounded half away from zero (R144). -/
def leakTo (leak : Nat) (h t : Int) : Int := divRoundI (h * 2 ^ leak + (t - h)) (2 ^ leak)

/-- A tap word moved towards its seed word (R144). -/
def leakWord (leak w h t : Nat) : Nat :=
  if isDfe w then ofSigned 10 (leakTo leak (toSigned 10 h) (toSigned 10 t))
  else ofSigned 16 (leakTo leak (toSigned 16 (bitsOf h 15 0)) (toSigned 16 (bitsOf t 15 0))) +
    65536 * ofSigned 16 (leakTo leak (toSigned 16 (bitsOf h 31 16)) (toSigned 16 (bitsOf t 31 16)))

/-- Leakage of the taps that `sel` names towards the seed that `seed` reads (R144). -/
def leakTaps (leak : Nat) (sel : Nat → Bool) (seed : Nat → Nat) (taps : Map Nat) : Map Nat :=
  tapWords.foldl (fun m w => if sel w then m.set w (leakWord leak w (m.get w) (seed w)) else m) taps

/-! The seed and snapshot windows (R148, R149, R178, R180). -/

/-- Word `w` of the seed window. -/
def seedF (c : Carrier) (w : Nat) : Fld := (wordAt (0x40125000 + 4 * w)).on c
/-- Word `w` of the snapshot window. -/
def snapF (c : Carrier) (w : Nat) : Fld := (wordAt (0x40124000 + 4 * w)).on c

/-- The bits that a word of these windows holds; unused offsets hold none (R180). -/
def seedMask (w : Nat) : Nat :=
  if isFfe w then 0xFFFFFFFF
  else if isDfe w then 0x3FF
  else if w = 0x210 then 0xFFFFF
  else if w = 0x211 then 0xFFFF
  else if w = 0x212 then 0x8003FFFF
  else 0

/-- The taps, dispersion, offset and rate in force written into a window through `f` (R148, R178). In DAWN-RX the rate shown is
RX_RATE.SYM_RATE, as R180 says, although a burst may have its own (log entry 100). -/
def writeTaps (s : State) (c : Carrier) (f : Nat → Fld) : State :=
  let h := s.rxh c
  let s := tapWords.foldl (fun s w => s.set (f w) (h.taps.get w)) s
  let s := (s.set (f 0x210) (ofSigned 20 h.cd)).set (f 0x211) (ofSigned 16 h.fo)
  s.set (f 0x212) (2 ^ 31 + rxSymRate s c)

/-- The carrier seed captured (R148). -/
def captureSeed (s : State) (c : Carrier) : State :=
  ((writeTaps s c (seedF c)).setBC c R.RXDSP_STAT.SEED_VALID true).setRxh c { s.rxh c with captureDue := false }

/-- R148: a frame on which an automatic capture may take place. -/
def captureOk (s : State) (c : Carrier) : Bool :=
  !s.onC c R.RXDSP_STAT.IDLE && !s.onC c R.RXDSP_STAT.LOL && !s.onC c R.RXDSP_STAT.THROTTLED

/-- An automatic capture takes place, or waits for the next frame that qualifies (R148). -/
def autoCapture (s : State) (c : Carrier) : State :=
  if captureOk s c then captureSeed s c else s.setRxh c { s.rxh c with captureDue := true }

/-- R149: the seed may be used. -/
def seedUsable (s : State) (c : Carrier) : Bool :=
  !dawnGoverned s c && s.onC c R.RX_SEED_CTRL.SEED_REUSE && s.onC c R.RXDSP_STAT.SEED_VALID &&
  s.get (seedF c 0x212) % 2 ^ 18 == rxSymRate s c

/-! Throttle (R154). -/

/-- The outer taps at 0. -/
def zeroOuter (taps : Map Nat) : Map Nat := taps.filter (fun p => !isOuter p.1)

/-- What the ramp of R154 scales where taps are loaded during it: the loaded outer taps (log entry 100). -/
def rampFrom (t : ThrSt) (taps outer : Map Nat) : Map Nat :=
  match t with
  | .ramp _ => taps.filter (fun p => isOuter p.1)
  | _ => outer

/-- Taps loaded as a whole: gated outer taps stay at 0 (R154), and with DFE_EN = 0 every DFE tap is 0 (R141). -/
def loadTaps (s : State) (c : Carrier) (src : Nat → Nat) : State :=
  let h := s.rxh c
  let taps := tapWords.foldl (fun m w => m.set w (src w)) h.taps
  let taps := if h.thr = .gated then zeroOuter taps else taps
  s.setRxh c { h with
    taps := if s.onC c R.RX_DFE_CTRL.DFE_EN then taps else taps.filter (fun p => !isDfe p.1)
    outer := rampFrom h.thr taps h.outer }

/-- The seed loaded into taps, dispersion and frequency loop (R155). -/
def loadSeed (s : State) (c : Carrier) : State :=
  let s := loadTaps s c (fun w => s.get (seedF c w))
  s.setRxh c { s.rxh c with cd := toSigned 20 (s.get (seedF c 0x210)), fo := toSigned 16 (s.get (seedF c 0x211)) }

/-- Entry: THROTTLED and its event (R154). -/
def thrEnter (s : State) (c : Carrier) : State := (s.setBC c R.RXDSP_STAT.THROTTLED true).raiseC c E.RX_THROTTLE 1

/-- The outer taps gated off at once. -/
def thrGateNow (s : State) (c : Carrier) : State :=
  thrEnter (s.setRxh c { s.rxh c with thr := .gated, taps := zeroOuter (s.rxh c).taps }) c

/-- The throttle indication has changed, or FREEZE has been left (R154). -/
def rxThrottle (s : State) (c : Carrier) : State :=
  let h := s.rxh c
  let st := acqState s c
  if s.throttled then
    match h.thr with
    | .off =>
      if st = aPILOT ∨ st = aDD ∨ st = aTRACK then s.setRxh c { h with thr := .atBoundary }
      else if st = aFREEZE then s.setRxh c { h with thr := .atFreezeExit }
      else thrGateNow s c
    | .atFreezeExit => if st = aFREEZE then s else thrGateNow s c
    | .release => s.setRxh c { h with thr := .gated, taps := zeroOuter h.taps }
    | _ => s
  else
    match h.thr with
    | .off => s
    | .atBoundary | .atFreezeExit => s.setRxh c { h with thr := .off }
    | _ => s.setRxh c { h with thr := .release }

/-- A component of an outer tap after `n` of the 64 frames of the ramp, from its value at the start. -/
def rampPart (n : Nat) (v : Nat) : Nat := ofSigned 16 (divRoundI (toSigned 16 v * ((64 - n : Nat) : Int)) 64)

/-- The line-frame boundary as the throttle sees it (R154). -/
def thrFrame (s : State) (c : Carrier) : State :=
  let h := s.rxh c
  match h.thr with
  | .atBoundary => thrEnter (s.setRxh c { h with thr := .ramp 0, outer := h.taps.filter (fun p => isOuter p.1) }) c
  | .ramp n =>
    if 63 ≤ n then s.setRxh c { h with thr := .gated, taps := zeroOuter h.taps, outer := [] }
    else
      s.setRxh c { h with
        thr := .ramp (n + 1)
        taps := h.outer.foldl (fun m p =>
          m.set p.1 (rampPart (n + 1) (bitsOf p.2 15 0) + 65536 * rampPart (n + 1) (bitsOf p.2 31 16))) h.taps }
  | .release =>
    ((s.setRxh c { h with thr := .off, outer := [], taps := zeroOuter h.taps }).setBC c R.RXDSP_STAT.THROTTLED false).raiseC c E.RX_THROTTLE 0
  | _ => s

/-! Start and stop (R160, R161). -/

/-- R138: a dispersion within the range of the symbol rate. -/
def cdInRange (sym : Nat) (cd : Int) : Bool :=
  decide (cd.natAbs ≤ 400000 ∧ cd.natAbs * (sym * sym) ≤ 100000 * (240000 * 240000))

/-- R133: 1.125 ≤ rate / symbol rate ≤ 1.25. -/
def ratioOk (rate sym : Nat) : Bool := decide (9 * sym ≤ 8 * rate ∧ 4 * rate ≤ 5 * sym)

/-- R160: the start checks in ascending order of code (R19); 0 when all pass. -/
def rxCfgCode (s : State) (c : Carrier) : Nat :=
  let sym := rxSymRate s c
  let own := s.mode c != mBEXA && s.mode c != mZR400
  let lp := s.onC c R.TX_DIAG.LPBK
  let rate := s.get ((R.CONV_RATE.RATE.ix (b2n lp)).on c)
  let cdm := s.getC c R.RX_CD.CD_MODE
  if !decide (53000 ≤ sym ∧ sym ≤ 240000) then 1
  else if !ratioOk rate sym then 2
  else if (cdm == 1 || cdm == 2) && !cdInRange sym (toSigned 20 (s.getC c R.RX_CD.CD_PSNM)) then 3
  else if own && s.staged (R.RX_MOD.FOLLOW.on c) == 0 &&
      !modValid (s.staged (R.RX_MOD.MOD.on c)) (s.staged (R.RX_MOD.ENTROPY.on c)) then 4
  else if !s.onC c R.CONV_STAT.ADC_ACTIVE && !txLoopback s c then 5
  else if !decide (180000 ≤ s.getC c R.RX_FREQ.FREQ_GHZ ∧ s.getC c R.RX_FREQ.FREQ_GHZ ≤ 200000) then 6
  else 0

/-- DFE_EN = 0 sets every DFE tap to 0 (R141). -/
def rxDfeEn (s : State) (c : Carrier) : State :=
  if s.onC c R.RX_DFE_CTRL.DFE_EN then s
  else s.setRxh c { s.rxh c with taps := (s.rxh c).taps.filter (fun p => !isDfe p.1) }

/-- RXDSP's shadow copies transfer (R9). -/
def rxTransfer (s : State) (c : Carrier) : State := rxDfeEn (s.transfer (.rxdsp c)) c

/-- LOL takes a value; each change raises EV_RX_LOL (R146, R181). -/
def setLol (s : State) (c : Carrier) (v : Bool) : State :=
  if s.onC c R.RXDSP_STAT.LOL = v then s else (s.setBC c R.RXDSP_STAT.LOL v).raiseC c E.RX_LOL (b2n v)

/-- RXDSP_RUN_CLEAR: RXDSP stops; snapshot and seed are kept; LOL reads 1 (R146, R161). -/
def rxStop (s : State) (c : Carrier) : State :=
  let s := ((s.set (runF (.rxdsp c)) 0).unwait (.rxdsp c)).set (runningF (.rxdsp c)) 0
  setLol (rxThrottle (setAcq s c aSTOPPED) c) c true

/-! Acquisition (R155). -/

/-- Acquisition under R155 alone; in the Dawn modes the DAWN block governs it instead (R196). -/
def rxOwnAcq (s : State) (c : Carrier) : Bool := !dawnGoverned s c

/-- WAIT_LIGHT or FREEZE is left: the acquisition timer starts, and the time that ACQ_TIME_US counts from (R155, R174). -/
def acqExit (s : State) (c : Carrier) : State := s.setRxh c { s.rxh c with tExit := s.time.aon, timerAt := s.time.aon }

/-- SEEDED where the seed is usable, else FREQ_COARSE. -/
def acqSeedOrFreq (s : State) (c : Carrier) : State :=
  if seedUsable s c then setAcq s c aSEEDED
  else setAcq (s.setRxh c { s.rxh c with path := 1 }) c aFREQ

/-- The state after leaving a state that may have held the throttle back (R154). -/
def acqLeave (s : State) (c : Carrier) : State := rxThrottle s c

/-- LOL has cleared: WAIT_LIGHT and FREEZE are left (R155). -/
def acqLight (s : State) (c : Carrier) : State :=
  let st := acqState s c
  if !rxOwnAcq s c then s
  else if st = aWAIT then
    let s := acqExit s c
    if seedUsable s c then setAcq s c aSEEDED
    else setAcq (rxInitFfe (s.setRxh c { s.rxh c with path := 1 }) c) c aFREQ
  else if st = aFREEZE then
    let s := acqExit s c
    acqLeave (if (s.rxh c).remembered = aTRACK then setAcq s c aRESUME else acqSeedOrFreq s c) c
  else s

/-- LOL has set: states 2 to 9, RESUME and SEEDED freeze and are remembered (R155). -/
def acqDark (s : State) (c : Carrier) : State :=
  let st := acqState s c
  if !rxOwnAcq s c then s
  else if (2 ≤ st ∧ st ≤ 9) ∨ st = aRESUME ∨ st = aSEEDED then
    setAcq (s.setRxh c { s.rxh c with remembered := st }) c aFREEZE
  else s

/-- The delay from the ADC pins to the demapper output: at most 2,400 ns, in the Dawn modes with the datapath at 240,000 MBd
at most 450 ns; the configuration fixes it and the spec gives no value (R177, R196). -/
def rxLatencyNs (s : State) (c : Carrier) : Nat :=
  min (if dawnGoverned s c && rxSymRate s c == 240000 then 450 else 2400)
    (Config.rxLatency (s.mode c) (rxSymRate s c) (s.get ((R.CONV_RATE.RATE.ix 0).on c)))

/-- RXDSP runs, in WAIT_LIGHT (R160). With the TX loopback in use LOL is not set, and its clearing leaves WAIT_LIGHT (R146,
R155); a throttle in force gates the outer taps (R154). -/
def rxRun (s : State) (c : Carrier) : State :=
  let s := (rxTransfer s c).unwait (.rxdsp c)
  let s := (s.set (runningF (.rxdsp c)) 1).setBC c R.RXDSP_STAT.CFG_ERR false
  let s := s.setC c R.RX_LATENCY.LATENCY_NS (rxLatencyNs s c)
  let s := s.setRxh c { s.rxh c with
    below := 0, above := 0, decided := [], str := { RxStream.reset with block := cdBlock (rxSymRate s c) } }
  let s := rxThrottle (setAcq s c aWAIT) c
  if txLoopback s c then acqLight (setLol s c false) c else s

/-- The start of RXDSP once RUN reads 1 (R35, R160, R672). -/
def rxTryStart (s : State) (c : Carrier) : State :=
  if s.modeErr then s.wait (.rxdsp c)
  else
    let code := rxCfgCode s c
    if code ≠ 0 then
      (((s.unwait (.rxdsp c)).setBC c R.RXDSP_STAT.CFG_ERR true).setC c R.RXDSP_STAT.CFG_CODE code).raiseC c
        E.RX_CFG_ERR code
    else if !s.clockReady (.rxdsp c) then s.wait (.rxdsp c)
    else rxRun s c

/-- LOL_WINDOW: one window of 1,024 DSP cycles with the RMS of the four ADC inputs in 1/16 ADC code (R146). -/
def lolWindow (s : State) (c : Carrier) (rms : Nat) : State :=
  if !s.running (.rxdsp c) then s
  else
    let thr := s.getC c R.RX_LOL_CTRL.LOL_THR
    let h := s.rxh c
    if rms < thr then
      let n := h.below + 1
      let s := s.setRxh c { h with below := n, above := 0 }
      if max 1 (s.getC c R.RX_LOL_CTRL.LOL_SET) ≤ n ∧ !txLoopback s c ∧ !s.onC c R.RXDSP_STAT.LOL then
        acqDark (setLol s c true) c
      else s
    else if thr + s.getC c R.RX_LOL_CTRL.LOL_HYST ≤ rms then
      let n := h.above + 1
      let s := s.setRxh c { h with below := 0, above := n }
      if max 1 (s.getC c R.RX_LOL_CTRL.LOL_CLR) ≤ n ∧ s.onC c R.RXDSP_STAT.LOL then acqLight (setLol s c false) c
      else s
    else s.setRxh c { h with below := 0, above := 0 }

/-- The TX loopback has come into use: LOL is not set with it (R146). -/
def rxLoopFollow (s : State) (c : Carrier) : State :=
  if txLoopback s c && s.running (.rxdsp c) && s.onC c R.RXDSP_STAT.LOL then acqLight (setLol s c false) c else s

/-- The burst in progress has reached TRACK (R202). -/
def State.setDawnTracked (s : State) (c : Carrier) : State :=
  { s with dawn := s.dawn.set c { s.dawn.get c with tracked := true } }

/-- Entry to TRACK: LOCKED, ACQ_TIME_US, LAST_PATH, the event, the seed (R148, R155, R174). -/
def acqTrack (s : State) (c : Carrier) (path : Nat) : State :=
  let us := satTo 16 (nsSince s (s.rxh c).tExit / 1000)
  let s := (s.setC c R.RX_ACQ_STAT.ACQ_TIME_US us).setC c R.RX_ACQ_STAT.LAST_PATH path
  let s := (setAcq s c aTRACK).raiseC c E.RX_ACQ_DONE us
  let s := (s.setDawnTracked c).setRxh c { s.rxh c with seedFrames := 0, uncorrSeen := false }
  if s.onC c R.RX_SEED_CTRL.AUTO_SEED && !dawnGoverned s c then autoCapture s c else s

/-- The dispersion that bounds the range of R138 at a symbol rate. -/
def cdLimit (sym : Nat) : Nat := min 400000 (100000 * (240000 * 240000) / (sym * sym))

/-- What CD_SEARCH searches, read at its entry: CD_PSNM ± 2,000 ps/nm with HINT, else the whole range of R138 (R139). -/
def cdWindow (s : State) (c : Carrier) : Int × Int :=
  let l : Int := cdLimit (rxSymRate s c)
  let p := toSigned 20 (s.getC c R.RX_CD.CD_PSNM)
  if s.getC c R.RX_CD.CD_MODE = 1 then (p - 2000, p + 2000) else (-l, l)

/-- R185: a dispersion as DAWN-RX allows it, within ±10,000 ps/nm. -/
def dawnCd (s : State) (c : Carrier) (cd : Int) : Int := if s.mode c = mDAWNRX then within (-10000) 10000 cd else cd

/-- ACQ_FREQ_READY: the coarse estimate in 0.25 MHz, within ±3.5 GHz (R150, R155); FIXED applies CD_PSNM and skips the search
(R139). -/
def acqFreqReady (s : State) (c : Carrier) (fo : Int) : State :=
  if acqState s c ≠ aFREQ then s
  else
    let s := s.setRxh c { s.rxh c with fo := within (-14000) 14000 fo }
    if s.getC c R.RX_CD.CD_MODE = 2 then
      setAcq (s.setRxh c { s.rxh c with cd := dawnCd s c (toSigned 20 (s.getC c R.RX_CD.CD_PSNM)) }) c aCLOCK
    else
      let w := cdWindow s c
      setAcq (s.setRxh c { s.rxh c with cdLo := w.1, cdHi := w.2 }) c aCD

/-- ACQ_CD_READY: the dispersion estimate in ps/nm, from the range searched, is loaded (R139, R155). -/
def acqCdReady (s : State) (c : Carrier) (cd : Int) : State :=
  if acqState s c ≠ aCD then s
  else setAcq (s.setRxh c { s.rxh c with cd := dawnCd s c (within (s.rxh c).cdLo (s.rxh c).cdHi cd) }) c aCLOCK

/-- A transition of R155 from one state to the next on a condition of the signal. -/
def acqMove (s : State) (c : Carrier) (frm dst : Nat) : State :=
  if acqState s c ≠ frm then s else setAcq s c dst

/-- ACQ_DD_STABLE: the SNR stable over 64 line frames of DD; TRACK by the path of this attempt, full or seeded (R155). -/
def acqDdStable (s : State) (c : Carrier) : State :=
  if acqState s c ≠ aDD ∨ (s.rxh c).stFrames < 64 then s else acqTrack s c (s.rxh c).path

/-- ACQ_PILOT_STABLE: pilot phase locked and the SNR stable over 16 line frames of PILOT (R155). -/
def acqPilotStable (s : State) (c : Carrier) : State :=
  if (s.rxh c).stFrames < 16 then s else acqMove s c aPILOT aDD

/-- ACQ_LOCK_LOST: 256 line frames in a row out of frame in TRACK (R155). -/
def acqLockLost (s : State) (c : Carrier) : State :=
  if acqState s c ≠ aTRACK ∨ (s.rxh c).oof < 256 then s
  else (acqSeedOrFreq (s.setRxh c { s.rxh c with timerAt := s.time.aon }) c).raiseC c E.RX_LOCK_LOST (s.rxh c).lastFcount

/-- RESUME_TIMEOUT: 1 ms in RESUME without in-frame (R155). -/
def resumeTimeout (s : State) (c : Carrier) : State :=
  if acqState s c ≠ aRESUME ∨ nsSince s (s.rxh c).enteredAt < 1000000 then s else acqSeedOrFreq s c

/-- SEEDED_TIMEOUT: 2 ms in SEEDED without in-frame (R155). -/
def seededTimeout (s : State) (c : Carrier) : State :=
  if acqState s c ≠ aSEEDED ∨ !rxOwnAcq s c ∨ nsSince s (s.rxh c).enteredAt < 2000000 then s
  else setAcq (rxInitFfe (s.setRxh c { s.rxh c with path := 1 }) c) c aFREQ

/-- ACQ_TIMEOUT: the acquisition timer reaches ACQ_TIMEOUT milliseconds, 0 acting as 1, in states 2 to 8, RESUME or SEEDED
(R155, R173). In the Dawn modes seeded bursts meet it as well as COLD ones (log entry 101). -/
def acqTimeout (s : State) (c : Carrier) : State :=
  let st := acqState s c
  if ((2 ≤ st ∧ st ≤ 8) ∨ st = aRESUME ∨ st = aSEEDED) ∧
      1000000 * max 1 (s.getC c R.RX_ACQ_CTRL.ACQ_TIMEOUT) ≤ nsSince s (s.rxh c).timerAt then
    let s := (s.setC c R.RX_ACQ_STAT.FAIL_STATE st).bumpC c R.RX_ACQ_STAT.ATTEMPTS
    (setAcq (s.setRxh c { s.rxh c with path := 1, timerAt := s.time.aon }) c aFREQ).raiseC c E.RX_ACQ_FAIL st
  else s

/-- ACQ_RESTART in any state but STOPPED (R155). -/
def acqRestart (s : State) (c : Carrier) : State :=
  if acqState s c = aSTOPPED ∨ (dawnGoverned s c ∧ acqState s c = aWAIT) then s
  else
    let s := rxInitFfe (s.setRxh c { s.rxh c with path := 1 }) c
    acqLeave (setAcq s c (if s.onC c R.RXDSP_STAT.LOL then aWAIT else aFREQ)) c

/-- The FFE rows exchanged: hxx with hyx, hxy with hyy (R155). -/
def swapRows (taps : Map Nat) : Map Nat :=
  (List.range 142).foldl (fun m i =>
    let a := ffeWord (i / 71) (i % 71)
    let b := ffeWord (2 + i / 71) (i % 71)
    (m.set a (taps.get b)).set b (taps.get a)) taps

/-- The line-frame alignment of both outputs reaches in-frame, X on the sync word of polarisation `px` and Y on that of `py`,
0 X and 1 Y. Where both have the same, hxy and hyx restart at 0, which is orthogonal to hxx and hyy (R155, log entry 100). -/
def acqInFrame (s : State) (c : Carrier) (px py : Nat) : State :=
  let st := acqState s c
  let h := s.rxh c
  if st = aFRAME then
    if px = py then
      setAcq (s.setRxh c { h with
        taps := (List.range 71).foldl (fun m t => (m.set (ffeWord 1 t) 0).set (ffeWord 2 t) 0) h.taps }) c aBLIND
    else if px = 0 then setAcq s c aPILOT
    else setAcq (s.setRxh c { h with taps := swapRows h.taps }) c aPILOT
  else if st = aRESUME ∧ px ≠ py then acqTrack s c 2
  else if st = aSEEDED ∧ px ≠ py then setAcq (loadSeed (s.setRxh c { h with path := 3 }) c) c aPILOT
  else s

/-! Line frames (R143 to R152). -/

/-- The CRC of a header is right (R48). -/
def hdrCrc (hdr : Nat) : Bool := crcOf 16 0x1021 0xFFFF (msbFirst 112 (hdr >>> 16)) == hdr % 65536

/-- R152: a header whose CRC is right and whose MOD and ENTROPY R53 accepts. -/
def hdrGood (hdr : Nat) : Bool := hdrCrc hdr && modValid (bitsOf hdr 127 125) (bitsOf hdr 124 118)

/-- The mode's line frames carry headers of R48. -/
def hasHeaders (s : State) (c : Carrier) : Bool := s.mode c != mBEXA && s.mode c != mZR400

/-- Both line aligners are in frame (R155, R268). -/
def rxInFrame (s : State) (c : Carrier) : Bool := s.getC c R.FRM_STAT.LF_X == 2 && s.getC c R.FRM_STAT.LF_Y == 2

/-- R143: the frame counts as idle; in BEXA FRAMER says so (R274), in ZR400 none does. -/
def frameIdle (s : State) (c : Carrier) (hdr : Nat) : Bool :=
  if s.mode c = mBEXA then s.onC c R.FRM_STAT.BEXA_IDLE else if s.mode c = mZR400 then false
  else !hdrGood hdr || bitOf hdr 75

/-- R151: with FOLLOW = 0 a valid header that differs from RX_MOD is reported once for each new value; the value reported last
is kept across matching headers, so its return is no new value (log entry 100). -/
def hdrFollow (s : State) (c : Carrier) (md ent : Nat) : State :=
  let follow := s.onC c R.RX_MOD.FOLLOW
  let differs := !follow && (md != s.getC c R.RX_MOD.MOD ||
    entropyCode md ent != entropyCode (s.getC c R.RX_MOD.MOD) (s.getC c R.RX_MOD.ENTROPY))
  let s := s.setBC c R.RXDSP_STAT.HDR_MISMATCH differs
  if differs && (s.rxh c).mismatch != some (md, ent) then
    (s.setRxh c { s.rxh c with mismatch := some (md, ent) }).raiseC c E.RX_HDR_MISMATCH (ent + 256 * md)
  else s

/-- The header of the frame: followed, or counted bad with the previous frame's values kept (R151, R152). -/
def rxHeader (s : State) (c : Carrier) (hdr : Nat) : State :=
  if hdrGood hdr then
    let md := bitsOf hdr 127 125
    let ent := bitsOf hdr 124 118
    let s := s.setRxh c { s.rxh c with
      hdrMod := md, hdrEnt := ent, hdrRate := bitsOf hdr 117 116, hdrFill := bitsOf hdr 87 76, hdrOk := true, crcOk := true
      lastFcount := if rxInFrame s c then bitsOf hdr 111 88 else (s.rxh c).lastFcount }
    hdrFollow s c md ent
  else (s.setRxh c { s.rxh c with hdrOk := false, crcOk := hdrCrc hdr }).bumpC c R.RX_HDR_CNT.HDR_BAD

/-- Symbol `i` of DSP cycle `k` of a frame carries payload (R47, R70). -/
def isPayload (s : State) (c : Carrier) (k i : Nat) : Bool :=
  if s.mode c = mBEXA then decide (128 ≤ 256 * k + i) else if s.mode c = mZR400 then true else k != 0 && i % 32 != 0

/-- The states of R142 in which taps adapt. -/
def adapting (s : State) (c : Carrier) : Bool :=
  let st := acqState s c
  st == aBLIND || st == aPILOT || st == aDD || st == aTRACK

/-- R142, R144, R145: whether adaptation may change a tap word in this frame. -/
def mayAdapt (s : State) (c : Carrier) (idle : Bool) (w : Nat) : Bool :=
  let st := acqState s c
  let ffe := !s.onC c R.RX_FFE_CTRL.FREEZE
  let dfe := !s.onC c R.RX_DFE_CTRL.FREEZE && s.onC c R.RX_DFE_CTRL.DFE_EN
  let gatedOuter := isOuter w && s.onC c R.RXDSP_STAT.THROTTLED
  if s.onC c R.RXDSP_STAT.LOL || gatedOuter then false
  else if idle && s.mode c == mBEXA then false
  else if isFfe w then ffe && (st == aBLIND || st == aPILOT || st == aDD || st == aTRACK)
  else if isDfe w then dfe && !idle && (st == aDD || st == aTRACK)
  else false

/-- The errors of output `out` over a cycle that the regime takes, each with its step exponent, turned to where the FFE's output
stands (R142). `y` are the FFE's outputs, `z` the recovered symbols, `ph` the phases removed, `e` the DFE's outputs; a cycle
with neither pilots nor payload gives none. During an idle frame the decisions' are left out (R144). -/
def ffeErrors (s : State) (c : Carrier) (k out : Nat) (idle : Bool) (levels : List Int) (y : List (Int × Int))
    (r : Recovered) (e : List (Int × Int)) : List (Nat × List (Int × Int)) :=
  let st := acqState s c
  let refs := pilotRefs s c out k
  let pil := List.zipWith rotateOn r.ph (padTo 256 ((List.zip refs (pieces 32 8 r.z)).flatMap (fun b =>
    let v := b.2.headD (0, 0)
    (b.1.1 - v.1, b.1.2 - v.2) :: List.replicate 31 (0, 0))))
  let dec := List.zipWith rotateOn r.ph (foldIdx (fun i acc v =>
    let d := sliceC levels v
    acc ++ [if isPayload s c k i then (d.1 - v.1, d.2 - v.2) else (0, 0)]) 0 [] e)
  if st = aBLIND then [(s.getC c R.RX_FFE_CTRL.MU_CMA, y.map modulusError)]
  else if st = aPILOT ∨ idle then [(s.getC c R.RX_FFE_CTRL.MU_PIL, pil)]
  else [(s.getC c R.RX_FFE_CTRL.MU_PIL, pil), (s.getC c R.RX_FFE_CTRL.MU_DD, dec)]
where
  /-- Zeros after a list up to a length. -/
  padTo (n : Nat) (l : List (Int × Int)) : List (Int × Int) := l ++ List.replicate (n - l.length) (0, 0)
  /-- The modulus error of an output, in 12 bits, whose mean square is 2 × 512² (R134; log entry 96). -/
  modulusError (v : Int × Int) : Int × Int :=
    let g := 524288 - (v.1 * v.1 + v.2 * v.2)
    (v.1 * g / 2 ^ 22, v.2 * g / 2 ^ 22)

/-- The step of one FFE tap over a cycle: the sums of error times conjugate input (R142). -/
def ffeStep (errs : List (Nat × List (Int × Int))) (buf : List (Int × Int)) (w h : Nat) : Nat :=
  let xs := tapInput buf (w % 0x80)
  lmsWord w (errs.map (fun e => (e.1 + 8, vecSum (List.zipWith (fun a x => cmul a (conj x)) e.2 xs)))) h

/-- The step of tap `t` of a tributary's DFE over a cycle, from the decision errors and the decisions before each (R142): `ds`
holds the four decisions before the cycle and its own, oldest first. -/
def dfeStep (mu : Nat) (errs ds : List Int) (w h : Nat) : Nat :=
  let past := ds.drop (3 - w % 4)
  lmsWord w [(mu + 13, (-((List.zipWith (· * ·) errs past).foldl (· + ·) 0), 0))] h

/-- What a frame's cycles have come to: the receive state, the symbols at the DFE's output, the slips. -/
structure RxRun where
  h : RxH
  out : FrameSyms
  slips : Nat
  deriving DecidableEq, Repr

/-- The DFE subtracts once DD has been reached, and in RESUME, where it goes on from TRACK (R155; log entry 96). -/
def dfeActive (s : State) (c : Carrier) : Bool :=
  let st := acqState s c
  st == aDD || st == aTRACK || st == aRESUME

/-- DSP cycle `k` of a frame: stages 4 to 6 on 288 samples of each polarisation (R132, R133), then the steps of the taps (R142),
of the frequency loop, which an idle Bexa frame holds (R145, R150), and of the timing loop within ±200 ppm (R137); loss of
light holds them all (R147). -/
def rxCycle (s : State) (c : Carrier) (idle : Bool) (levels : List Int) (run : RxRun) (k : Nat) : RxRun :=
  let h := run.h
  let t := h.str
  let sym := rxSymRate s c
  let xb := t.x.buffer
  let yb := t.y.buffer
  let fx := ffeStage s c h.taps xb yb 0
  let fy := ffeStage s c h.taps xb yb 1
  let fr := freqPhases sym h.fo t.turn
  let st := acqState s c
  let dd := st == aDD || st == aTRACK
  let rx := recoverStage s c 0 k dd idle levels fr t.x fx.1
  let ry := recoverStage s c 1 k dd idle levels fr t.y fy.1
  let dims := [rx.z.map (·.1), rx.z.map (·.2), ry.z.map (·.1), ry.z.map (·.2)]
  let past := fun (r : Nat) => (h.decided.getD r []).take 4
  let d := (List.range 4).map (fun r => dfeStage s c h.taps (dfeActive s c) levels (past r) r (dims.getD r []))
  let col := fun (r : Nat) => (d.map (·.1)).getD r []
  let ex := (col 0).zip (col 1)
  let ey := (col 2).zip (col 3)
  let decs := fun (r : Nat) => List.replicate (4 - (past r).length) 0 ++ (past r).reverse ++ (col r).map (slice levels)
  let derr := fun (r : Nat) => foldIdx (fun i acc v =>
    acc ++ [if isPayload s c k i then slice levels v - v else 0]) 0 [] (col r)
  let gx := ffeErrors s c k 0 idle levels fx.1 rx ex
  let gy := ffeErrors s c k 1 idle levels fy.1 ry ey
  let step := fun (m : Map Nat) (w : Nat) =>
    if !mayAdapt s c idle w then m
    else if isDfe w then
      let r := (w - 0x200) / 4
      m.set w (dfeStep (s.getC c R.RX_DFE_CTRL.MU_DFE) (derr r) (decs r) w (m.get w))
    else m.set w (ffeStep (if w < 0x100 then gx else gy) (if w / 0x80 % 2 = 0 then xb else yb) w (m.get w))
  let taps := if adapting s c then tapWords.foldl step h.taps else h.taps
  let adv := wrapTurn (rx.pol.phase - t.x.phase) + wrapTurn (ry.pol.phase - t.y.phase)
  let lol := s.onC c R.RXDSP_STAT.LOL
  let fo := if lol || (idle && s.mode c == mBEXA) then h.fo else Config.freqLoop (s.getC c R.RX_CR_CTRL.FLL_BW) h.fo adv
  let next := fun (p q : PolH) (b : List (Int × Int)) => { q with wait := p.wait.drop 288, past := b.drop (b.length - 70) }
  let sat := 8 * b2n (fx.2 || fy.2) + 16 * b2n (d.any (·.2))
  { h := { h with
      taps := taps
      fo := fo
      ppm := if lol then h.ppm else within (-20000) 20000 (Config.timingLoop (s.getC c R.RX_CR_CTRL.TR_BW) h.ppm (xb.drop 70) (yb.drop 70))
      decided := (List.range 4).map (fun r => ((col r).reverse.take 4).map (slice levels))
      str := { t with
        x := next t.x rx.pol xb
        y := next t.y ry.pol yb
        turn := (((t.turn : Int) + 256 * h.fo) % (4 * (sym : Int))).toNat
        sat := t.sat ||| sat
        cycles := t.cycles + 1 } }
    out := (run.out.1 ++ ex, run.out.2 ++ ey)
    slips := run.slips + rx.slips + ry.slips }

/-- DSP cycles that the held samples allow, within a frame of the mode: 512, in BEXA 256 (R47, R70). The length of the agreement's
frame is not the spec's to say (log entry 97). -/
def frameCycles (s : State) (c : Carrier) : Nat :=
  let t := (s.rxh c).str
  let n := min t.x.wait.length t.y.wait.length / 288
  if s.mode c = mZR400 then n else min n (if s.mode c = mBEXA then 256 else 512)

/-- The symbols of a frame's first cycle as carrier recovery gives them; `h` holds the samples. -/
def firstCycle (s : State) (c : Carrier) (pol : Nat) : List (Int × Int) :=
  let h := s.rxh c
  let t := h.str
  let y := (ffeStage s c h.taps t.x.buffer t.y.buffer pol).1
  let st := acqState s c
  (recoverStage s c pol 0 (st == aDD || st == aTRACK) false (rxLevels s c) (freqPhases (rxSymRate s c) h.fo t.turn)
    (if pol = 0 then t.x else t.y) y).z

/-- The samples of a frame taken through stages 1 to 3. -/
def rxIntake (s : State) (c : Carrier) (adc : List (List Int)) : State :=
  s.setRxh c { s.rxh c with str := streamIn s c adc }

/-- R48: the header that the samples of a frame carry. -/
def rxHdr (s : State) (c : Carrier) (adc : List (List Int)) : Nat :=
  let s := rxIntake s c adc
  if frameCycles s c = 0 then 0 else hdrBits (firstCycle s c 0) (firstCycle s c 1)

/-- The cycles of a frame from number `k0` on. -/
def rxCycles (s : State) (c : Carrier) (idle : Bool) (k0 n : Nat) (run : RxRun) : RxRun :=
  ((List.range n).map (· + k0)).foldl (rxCycle s c idle (rxLevels s c)) run

/-- Leakage at the end of an idle frame towards a valid seed (R144, R145, R147). -/
def leakage (s : State) (c : Carrier) (seedValid : Bool) (seed : Nat → Nat) : State :=
  let leak := s.getC c R.RX_FFE_CTRL.LEAK
  if leak = 0 ∨ !seedValid ∨ s.onC c R.RXDSP_STAT.LOL ∨ !hasHeaders s c then s
  else
    let sel := fun w =>
      if isFfe w then !s.onC c R.RX_FFE_CTRL.FREEZE && !(isOuter w && s.onC c R.RXDSP_STAT.THROTTLED)
      else !s.onC c R.RX_DFE_CTRL.FREEZE && s.onC c R.RX_DFE_CTRL.DFE_EN
    let h := s.rxh c
    s.setRxh c { h with taps := leakTaps leak sel seed h.taps }

/-- R138: the range of the symbol rate; in DAWN-RX ±10,000 ps/nm as well (R185). -/
def cdAllowed (s : State) (c : Carrier) (cd : Int) : Bool :=
  cdInRange (rxSymRate s c) cd && (s.mode c != mDAWNRX || decide (cd.natAbs ≤ 10000))

/-- R139: dispersion tracking in TRACK by at most 50 ps/nm a frame towards the residual that the FFE taps show; a move out of
the range is reported instead. -/
def cdTrack (s : State) (c : Carrier) : State :=
  let resid := Config.tapResidual (rxSymRate s c) (s.rxh c).taps
  if acqState s c ≠ aTRACK ∨ s.onC c R.RXDSP_STAT.LOL ∨ !s.onC c R.RX_CD.TRACK ∨ resid.natAbs ≤ 200 then s
  else
    let h := s.rxh c
    let cd := h.cd + (if resid > 0 then 50 else -50)
    if cdAllowed s c cd then s.setRxh c { h with cd := cd }
    else s.raiseC c E.RX_CD_LIMIT (ofSigned 20 h.cd)

/-- The end of a line frame: leakage, dispersion, throttle, a capture that is due (R139, R144, R148, R154). -/
def rxFrameEnd (s : State) (c : Carrier) (idle seedValid : Bool) (seed : Nat → Nat) : State :=
  let s := if idle then leakage s c seedValid seed else s
  let s := cdTrack s c
  let s := s.setC c R.RX_CD_EST.CD_EST (ofSigned 20 (s.rxh c).cd)
  let s := thrFrame s c
  if (s.rxh c).captureDue && captureOk s c && acqState s c == aTRACK && !dawnGoverned s c then captureSeed s c else s

/-- What the frame's symbols give: its LLRs, slips, the SNR of the frame and the sums of the metrics (R153, R150, R159). -/
def rxDeliver (s : State) (c : Carrier) (idle : Bool) (e : FrameSyms) (slips : Nat) : State :=
  let h := s.rxh c
  let m := [frameSnr s c 0 idle e.1, frameSnr s c 1 idle e.2]
  let acc := (List.range 2).map (fun p =>
    let a := h.snrAcc.getD p (0, 0)
    let b := m.getD p (0, 0)
    (a.1 + b.1, a.2 + b.2))
  let lol := s.onC c R.RXDSP_STAT.LOL
  let s := s.setRxh c { h with
    llrs := frameLlrs s c e, snr := (m.map snrSum).foldl min 65535
    snrAcc := if lol then h.snrAcc else acc
    metFrames := if lol then h.metFrames else h.metFrames + 1
    seedFrames := if acqState s c = aTRACK then h.seedFrames + 1 else 0
    stFrames := h.stFrames + 1, oof := if rxInFrame s c then 0 else h.oof + 1 }
  s.addSat (R.RX_SLIP_CNT.SLIPS.on c) slips

/-- The DSP cycles of a frame: the first with the loading of the frame before, its header precedes the payload; the others with
its own (R151). The state keeps what the cycles change. -/
def rxDemod (s : State) (c : Carrier) (idle : Bool) : State × FrameSyms × Nat :=
  let n := frameCycles s c
  let r := rxCycles s c idle 0 (min 1 n) ⟨s.rxh c, ([], []), 0⟩
  let r := rxCycles s c idle 1 (n - 1) r
  (s.setRxh c { s.rxh c with str := r.h.str, taps := r.h.taps, fo := r.h.fo, ppm := r.h.ppm, decided := r.h.decided },
    r.out, r.slips)

/-- RX_LINE_FRAME: the samples of the four ADCs over a line frame. `seedValid` and `seed` are the seed of R144. While LOL is set
every loop, tap and metric holds (R147); a frame arrives then in a burst of the Dawn modes alone (R196; log entry 100). -/
def rxLineFrame (s : State) (c : Carrier) (adc : List (List Int)) (seedValid : Bool) (seed : Nat → Nat) : State :=
  let hdr := rxHdr s c adc
  let idle := frameIdle s c hdr
  let s := rxIntake s c adc
  let s := s.setRxh c { s.rxh c with hdr := hdr }
  let s := s.setBC c R.RXDSP_STAT.IDLE idle
  let s := if idle then s.bumpC c R.RX_HDR_CNT.IDLE_FRAMES else s
  let s := if hasHeaders s c then rxHeader s c hdr else s.setRxh c { s.rxh c with hdrOk := true, crcOk := true }
  let d := rxDemod s c idle
  rxFrameEnd (rxDeliver d.1 c idle d.2.1 d.2.2) c idle seedValid seed

/-! Seed commands, metrics, saturation, snapshot (R135, R148, R149, R159, R178). -/

/-- SEED_AUTO_CAPTURE: 2^(SEED_PERIOD + 10) frames of TRACK have passed; captured when no codeword of them was uncorrectable
(R148, R172). -/
def seedAutoCapture (s : State) (c : Carrier) : State :=
  let bad := (s.rxh c).uncorrSeen
  if (s.rxh c).seedFrames < 2 ^ (s.getC c R.RX_SEED_CTRL.SEED_PERIOD + 10) then s
  else
  let s := s.setRxh c { s.rxh c with uncorrSeen := false, seedFrames := 0 }
  if acqState s c = aTRACK ∧ s.onC c R.RX_SEED_CTRL.AUTO_SEED ∧ !dawnGoverned s c ∧ !bad then autoCapture s c else s

/-- SEED_CAPTURE in TRACK; ignored elsewhere and frozen by LOL (R147, R148). -/
def seedCapture (s : State) (c : Carrier) : State :=
  if acqState s c = aTRACK ∧ !s.onC c R.RXDSP_STAT.LOL ∧ !dawnGoverned s c then captureSeed s c else s

/-- SEED_CLEAR makes the seed invalid (R148). -/
def seedClear (s : State) (c : Carrier) : State :=
  (s.setBC c R.RXDSP_STAT.SEED_VALID false).set (seedF c 0x212) (s.get (seedF c 0x212) % 2 ^ 31)

/-- SEED_WINDOW_WRITE: while RUNNING is 0; otherwise handled as R11. SEED_META carries the seed's validity (R149). -/
def seedWindowWrite (s : State) (c : Carrier) (w v : Nat) : State :=
  let v := v &&& seedMask w
  if s.running (.rxdsp c) then
    if v = s.get (seedF c w) then s else haltedDiscard s (.rxdsp c) (seedF c w).addr
  else if seedMask w = 0 then s
  else
    let s := s.set (seedF c w) v
    if w = 0x212 then s.setBC c R.RXDSP_STAT.SEED_VALID (bitOf v 31) else s

/-- TAP_SNAP: the taps of one cycle copied into the snapshot window (R178, R180). -/
def tapSnap (s : State) (c : Carrier) : State := writeTaps s c (snapF c)

/-- The five saturation counts in the order of EV_RX_SAT's data (R176, R181). -/
def satFields : List Fld :=
  [R.RX_SAT.SAT_FF, R.RX_SAT.SAT_RS, R.RX_SAT.SAT_CD, R.RX_SAT.SAT_FFE, R.RX_SAT.SAT_DFE]

/-- The mask of counts at 63. -/
def satFull (s : State) (c : Carrier) : Nat :=
  foldIdx (fun i m f => if s.getC c f = 63 then setBit m i else m) 0 0 satFields

/-- RX_SAT_WINDOW: 1,024 DSP cycles have passed since the last; the count of every stage that saturated in them advances, and
a count that reaches 63 raises EV_RX_SAT (R135). The counts hold while LOL is set (R147). -/
def rxSatWindow (s : State) (c : Carrier) : State :=
  let h := s.rxh c
  if !s.running (.rxdsp c) || s.onC c R.RXDSP_STAT.LOL || decide (h.str.cycles < 1024) then s
  else
    let before := satFull s c
    let s := foldIdx (fun i s f => if bitOf h.str.sat i then s.bumpC c f else s) 0 s satFields
    let s := s.setRxh c { h with str := { h.str with sat := 0, cycles := h.str.cycles - 1024 } }
    if satFull s c = before then s else s.raiseC c E.RX_SAT (satFull s c)

/-- RX_METRIC_UPDATE: 1,024 line frames have passed since the last; held during loss of light (R147, R159). An estimate
outside its field is held at the field's end (log entry 100). -/
def rxMetricUpdate (s : State) (c : Carrier) : State :=
  let h := s.rxh c
  if !s.running (.rxdsp c) || s.onC c R.RXDSP_STAT.LOL || decide (h.metFrames < 1024) then s
  else
    let sym := rxSymRate s c
    let s := s.setRxh c { h with metFrames := 0, snrAcc := [], metTaps := h.taps }
    let s := (s.setC c R.RX_SNR.SNR_X (snrSum (h.snrAcc.getD 0 (0, 0)))).setC c R.RX_SNR.SNR_Y
      (snrSum (h.snrAcc.getD 1 (0, 0)))
    let s := (s.setC c R.RX_FO.FO_EST (ofSigned 16 (clampSigned 16 h.fo))).setC c R.RX_FO.CLK_PPM
      (ofSigned 16 (clampSigned 16 h.ppm))
    let s := (s.setC c R.RX_PMD.DGD_EST (satTo 12 (Config.tapDgd sym h.taps))).setC c R.RX_PMD.PDL_EST
      (satTo 8 (Config.tapPdl sym h.taps))
    (s.setC c R.RX_EQ_STAT.OUTER_E (outerDb h.taps)).setC c R.RX_EQ_STAT.SOP_RATE
      (satTo 16 (Config.sopRate sym h.metTaps h.taps))

end Sys2Proof.Machine
end

