-- ==== Sys2Proof/Machine/Dawn.lean ====
section
/-! DEFINITION. Dawn burst acquisition and the Seed table of a carrier (R182 to R224). -/

namespace Sys2Proof.Machine

open Sys2Proof

/-- The burst state of a carrier that no register shows. -/
def State.dh (s : State) (c : Carrier) : DawnH := s.dawn.get c
/-- That state replaced. -/
def State.setDh (s : State) (c : Carrier) (h : DawnH) : State := { s with dawn := s.dawn.set c h }

/-! States (R191). -/

/-- STOPPED. -/
def dSTOPPED : Nat := 0
/-- SEARCH. -/
def dSEARCH : Nat := 1
/-- QUALIFY. -/
def dQUALIFY : Nat := 2
/-- LATCHED. -/
def dLATCHED : Nat := 3
/-- PRELOAD. -/
def dPRELOAD : Nat := 4
/-- BURST. -/
def dBURST : Nat := 5
/-- COLD. -/
def dCOLD : Nat := 6
/-- WRITEBACK. -/
def dWRITEBACK : Nat := 7
/-- DISCARD. -/
def dDISCARD : Nat := 8

/-- DAWN_STAT.STATE. -/
def dawnState (s : State) (c : Carrier) : Nat := s.getC c R.DAWN_STAT.STATE
/-- A change of state. -/
def setDawn (s : State) (c : Carrier) (st : Nat) : State := s.setC c R.DAWN_STAT.STATE st

/-- The mode is BEXA with burst receive (R209). -/
def bexaBurst (s : State) (c : Carrier) : Bool := s.mode c == mBEXA && s.on (R.SYS_CMODE.BEXA_BURST.ix c.num)

/-! The flags of a burst (R221). -/

/-- COLD. -/
def fCOLD : Nat := 7
/-- UNEXPECTED. -/
def fUNEXPECTED : Nat := 6
/-- STALE. -/
def fSTALE : Nat := 5
/-- CAPTURED. -/
def fCAPTURED : Nat := 4
/-- INTRUDED. -/
def fINTRUDED : Nat := 3
/-- TRUNC. -/
def fTRUNC : Nat := 2
/-- WROTE_BACK. -/
def fWROTEBACK : Nat := 1
/-- LOAD_CHG. -/
def fLOADCHG : Nat := 0

/-- The burst flagged. -/
def dawnFlag (s : State) (c : Carrier) (f : Nat) : State := s.setDh c { s.dh c with flags := setBit (s.dh c).flags f }

/-! The Seed table (R197). The entries stand beside the register space, one after another; the window of the DAWN block
shows the one that DAWN_SEED_SEL selects. -/

/-- The word at offset `off` of entry `e`. -/
def seedWord (c : Carrier) (e off : Nat) : Fld := wordAt (0x80000000 + carrierStep * c.num + 0x1000 * e + off)

/-- The bits a word of an entry holds; all other offsets hold none (R180, R197). -/
def entryMask (off : Nat) : Nat :=
  if off = 0x848 then 0xE003FFFF
  else if off < 0x848 then seedMask (off / 4)
  else if off = 0x900 then 0xFFFF
  else if off = 0x904 then 0x0731007F
  else if off = 0x908 ∨ off = 0x90C then 0x03FF03FF
  else if off = 0x910 then 0xFFFF
  else if off = 0x914 then 0xFFFFFFFF
  else if off = 0x918 then 0xFFFF00FF
  else 0

/-- A part of an entry's word. -/
def entryBits (s : State) (c : Carrier) (e off msb lsb : Nat) : Nat := bitsOf (s.get (seedWord c e off)) msb lsb
/-- VALID of an entry. -/
def entryValid (s : State) (c : Carrier) (e : Nat) : Bool := bitOf (s.get (seedWord c e 0x848)) 31
/-- FROZEN of an entry. -/
def entryFrozen (s : State) (c : Carrier) (e : Nat) : Bool := bitOf (s.get (seedWord c e 0x848)) 30
/-- SYM_RATE of an entry. -/
def entryRate (s : State) (c : Carrier) (e : Nat) : Nat := entryBits s c e 0x848 17 0

/-- The valid entries that hold a source, rising (R198). -/
def entriesOf (s : State) (c : Carrier) (src : Nat) : List Nat :=
  (List.range 64).filter (fun e => entryValid s c e && entryBits s c e 0x900 15 0 == src)

/-- The expected entry (R205). -/
def expectedEntry (s : State) (c : Carrier) : Option Nat :=
  match (s.dh c).expect with
  | none => none
  | some src => (entriesOf s c src).head?

/-- The four TIA codes of an entry in the order XI, XQ, YI, YQ (R89, R197). -/
def entryCodes (s : State) (c : Carrier) (e : Nat) : List Nat :=
  [entryBits s c e 0x908 9 0, entryBits s c e 0x908 25 16, entryBits s c e 0x90C 9 0, entryBits s c e 0x90C 25 16]

/-- The seed that a seeded burst uses in R144 (R196). -/
def entryTap (s : State) (c : Carrier) (e w : Nat) : Nat := s.get (seedWord c e (4 * w))

/-- DAWN_MS: milliseconds since the block's reset, wrapping (R223). -/
def dawnMs (s : State) (c : Carrier) : Nat := (s.time.up - (s.dawn.get c).msBase) / 1000000 % 2 ^ 32

/-! Decibels and gain (R188, R190, R194). -/

/-- 200·log10(a / b), to the nearest integer (0.1 dB), within ±1,200. For n counted by the list, 2n − 1 ≤ 400·log10(a / b)
exactly when 10^(2n − 1)·b^400 ≤ a^400. -/
def db10 (a b : Nat) : Int :=
  let a4 := a ^ 400
  let b4 := b ^ 400
  let ok := fun k : Nat =>
    -- k stands for n = k - 1200
    if 1200 < k then decide (10 ^ (2 * k - 2401) * b4 ≤ a4) else decide (b4 ≤ a4 * 10 ^ (2401 - 2 * k))
  (((List.range 2401).filter ok).length : Int) - 1201

/-- The four TIA outputs driven with codes (R115). -/
def setTia (s : State) (c : Carrier) (codes : List Nat) : State :=
  foldIdx (fun n s v => s.set ((R.TIA_CODE.CUR.ix n).on c) (min 1023 v)) 0 s (codes.take 4)

/-- The codes being driven. -/
def tiaCodes (s : State) (c : Carrier) : List Nat := (List.range 4).map (fun n => s.get ((R.TIA_CODE.CUR.ix n).on c))

/-- A code moved by a signed number of codes, held within its range. -/
def moveCode (code : Nat) (d : Int) : Nat := min 1023 ((code : Int) + d).toNat

/-- Codes that make up a gain of `g` tenths of a dB at SLOPE/1,024 dB a code; with POL = 1 a higher code gives less gain
(R114, R115). With SLOPE = 0 no number of codes does, and the limit `lim` is taken. -/
def gainCodes (s : State) (c : Carrier) (g : Int) (lim : Nat) : Int :=
  let slope := s.getC c R.DAWN_SSI_CAL.SLOPE
  let d := if slope = 0 then g * (lim : Int) else divRoundI (g * 1024) (10 * slope)
  let d := if d > (lim : Int) then (lim : Int) else if d < -(lim : Int) then -(lim : Int) else d
  if s.onC c R.TIA_CTRL.POL then -d else d

/-- The rest values of R188: the expected entry's codes, or PRESET. -/
def tiaRest (s : State) (c : Carrier) : State :=
  match expectedEntry s c with
  | some e => setTia s c (entryCodes s c e)
  | none => setTia s c (List.replicate 4 (s.getC c R.DAWN_AGC.PRESET))

/-- DAWN_EXPECT takes effect (R205). -/
def applyExpect (s : State) (c : Carrier) : State :=
  s.setDh c { s.dh c with
    expect := if s.onC c R.DAWN_EXPECT.VALID then some (s.getC c R.DAWN_EXPECT.SRC_ID) else none }

/-- Entry to SEARCH: DAWN_EXPECT takes effect, the outputs rest, acquisition reads WAIT_LIGHT (R188, R191, R196, R205). -/
def toSearch (s : State) (c : Carrier) : State :=
  let s := applyExpect (setDawn s c dSEARCH) c
  let s := s.setDh c { s.dh c with flags := 0, dwell := 0, wbEntry := none, wb := [], cancelled := false }
  let s := s.setBC c R.DAWN_STAT.IN_USE false
  tiaRest (setAcq s c aWAIT) c

/-! Start and stop (R210, R211). -/

/-- Search rate `k` is enabled. -/
def rateOn (s : State) (c : Carrier) (k : Nat) : Bool := s.on ((R.DAWN_RATE.EN.ix k).on c)
/-- Search rate `k` in MBd. -/
def rateOf (s : State) (c : Carrier) (k : Nat) : Nat := s.get ((R.DAWN_RATE.SYM_RATE.ix k).on c)
/-- Search dispersion of rate `k`. -/
def cdsOf (s : State) (c : Carrier) (k : Nat) : Int := toSigned 20 (s.get ((R.DAWN_CDS.CDS.ix k).on c))

/-- R210: the start checks in ascending order of code; 0 when all pass. -/
def dawnCfgCode (s : State) (c : Carrier) : Nat :=
  let on := (List.range 4).filter (rateOn s c)
  if !dawnGoverned s c then 1
  else if s.mode c == mDAWNRX && on.isEmpty then 2
  else if !on.all (fun k => decide (53000 ≤ rateOf s c k ∧ rateOf s c k ≤ s.getC c R.RX_RATE.SYM_RATE)) then 3
  else if !on.all (fun k => decide ((cdsOf s c k).natAbs ≤ 10000)) then 4
  else if !s.running (.rxdsp c) then 5
  else 0

/-- The start of DAWN once RUN reads 1 (R35, R210, R672). -/
def dawnTryStart (s : State) (c : Carrier) : State :=
  if s.modeErr then s.wait (.dawn c)
  else
    let code := dawnCfgCode s c
    if code ≠ 0 then
      (((s.unwait (.dawn c)).setBC c R.DAWN_STAT.CFG_ERR true).setC c R.DAWN_STAT.CFG_CODE code).raiseC c
        E.DAWN_CFG_ERR code
    else if !s.clockReady (.dawn c) then s.wait (.dawn c)
    else
      let s := (s.transfer (.dawn c)).unwait (.dawn c)
      toSearch ((s.set (runningF (.dawn c)) 1).setBC c R.DAWN_STAT.CFG_ERR false) c

/-- DAWN_RUN_CLEAR: STOPPED, the burst abandoned without write-back, its entry released, the TIA codes held (R211). -/
def dawnStop (s : State) (c : Carrier) : State :=
  let s := ((s.set (runF (.dawn c)) 0).unwait (.dawn c)).set (runningF (.dawn c)) 0
  let s := (setDawn s c dSTOPPED).setBC c R.DAWN_STAT.IN_USE false
  let s := s.setDh c { s.dh c with flags := 0, dwell := 0, wbEntry := none, wb := [], cancelled := false }
  if dawnGoverned s c && s.running (.rxdsp c) then setAcq s c aWAIT else s

/-! Light, gain, detection (R186 to R195). -/

/-- In SEARCH with LIGHT = 0 the outputs follow their rest values (R188). -/
def dawnRest (s : State) (c : Carrier) : State :=
  if s.running (.dawn c) && dawnState s c == dSEARCH && !s.onC c R.DAWN_STAT.LIGHT then tiaRest s c else s

/-- LIGHT keeps its value while DAWN is stopped (log entry 101). DAWN_LIGHT_SET: the RMS of the four ADC inputs together over
256 samples, in 1/16 code, against BURST_THR (R186). -/
def dawnLightSet (s : State) (c : Carrier) (rms : Nat) : State :=
  if !s.running (.dawn c) || s.onC c R.DAWN_STAT.LIGHT || decide (rms < s.getC c R.DAWN_AGC.BURST_THR) then s
  else (s.setBC c R.DAWN_STAT.LIGHT true).setDh c { s.dh c with lightAt := s.time.aon }

/-- DAWN_LIGHT_CLEAR: 4,096 consecutive samples, the highest RMS among them in 1/16 code below BURST_THR; in SEARCH the
outputs return to rest (R186, R188). While DAWN is stopped LIGHT keeps its value (log entry 101). -/
def dawnLightClear (s : State) (c : Carrier) (rms : Nat) : State :=
  if !s.running (.dawn c) || decide (s.getC c R.DAWN_AGC.BURST_THR ≤ rms) then s
  else dawnRest (s.setBC c R.DAWN_STAT.LIGHT false) c

/-- DAWN_GAIN_UPDATE: in SEARCH with LIGHT each code moves in one step towards TARGET, from the RMS of its ADC in 1/16
code over the last 4 ns; the step is limited to ±128 codes (R188). The ratio is rounded to 0.1 dB and the codes to whole
ones (log entry 33). An RMS of 0 takes the whole limit. -/
def dawnGainUpdate (s : State) (c : Carrier) (rms : List Nat) : State :=
  if !s.running (.dawn c) || dawnState s c ≠ dSEARCH || !s.onC c R.DAWN_STAT.LIGHT then s
  else
    let want := 4 * s.getC c R.DAWN_AGC.TARGET
    foldIdx (fun n s r =>
      let f := (R.TIA_CODE.CUR.ix n).on c
      let g := if r = want then 0 else if r = 0 then 1200 else if want = 0 then -1200 else db10 want r
      s.set f (moveCode (s.get f) (gainCodes s c g 128))) 0 s (rms.take 4)

/-- The rate of the burst in MBd: the detected rate, or 130,000 in BEXA. -/
def burstRate (s : State) (c : Carrier) : Nat :=
  if bexaBurst s c then 130000 else rateOf s c (s.getC c R.DAWN_STAT.DET_RATE)

/-- The pre-centre of R189 loaded into the frequency loop and the training dispersion. -/
def loadPreCentre (s : State) (c : Carrier) : State :=
  let k := s.getC c R.DAWN_STAT.DET_RATE
  let h := s.rxh c
  match expectedEntry s c with
  | some e =>
    if entryRate s c e = burstRate s c then
      s.setRxh c { h with fo := toSigned 16 (entryBits s c e 0x844 15 0), cd := toSigned 20 (entryBits s c e 0x840 19 0) }
    else s.setRxh c { h with fo := 0, cd := cdsOf s c k }
  | none => s.setRxh c { h with fo := 0, cd := cdsOf s c k }

/-- A candidate adopted: its rate, metric and strength, the pre-centre, the SYNC_WIN timer, QUALIFY (R191, R194). -/
def adopt (s : State) (c : Carrier) (k m : Nat) (str : Int) (flags : Nat) : State :=
  let s := ((setDawn s c dQUALIFY).setC c R.DAWN_STAT.DET_RATE k).mark (.detect c)
  loadPreCentre (s.setDh c { s.dh c with
    candM := m, candS := str, flags := flags, frames := 0, tracked := false, released := false, acqNs := none
    cancelled := false }) c

/-- A capture: the new candidate takes over and every code steps once by −(S − Sc) (R194). -/
def capture (s : State) (c : Carrier) (k m : Nat) (str : Int) (kind : Nat) : State :=
  let d := gainCodes s c (-(10 * (str - (s.dh c).candS))) 1023
  let s := setTia s c ((tiaCodes s c).map (fun v => moveCode v d))
  let s := adopt s c k m str (setBit (s.dh c).flags fCAPTURED)
  (s.bumpC c R.DAWN_CNT1.CAPTURES).raiseC c E.DAWN_CAPTURE kind

/-- A detection: rate, metric M in 1/256, strength S in dB (R187). -/
def detectionOk (s : State) (c : Carrier) (d : Nat × Nat × Int) : Bool :=
  decide (d.1 < 4) && rateOn s c d.1 && decide (s.getC c R.DAWN_DET.DET_THR ≤ d.2.1)

/-- R187: of the rates that detect in one cycle the one with the higher M, on a tie the lower index. -/
def bestDetection (s : State) (c : Carrier) (ds : List (Nat × Nat × Int)) : Option (Nat × Nat × Int) :=
  (ds.filter (detectionOk s c)).foldl (fun (b : Option (Nat × Nat × Int)) d =>
    match b with
    | none => some d
    | some e => if e.2.1 < d.2.1 ∨ (e.2.1 = d.2.1 ∧ d.1 < e.1) then some d else some e) none

/-- The detection at rate `k` with metric `m` and strength `str` in dB (R191, R194, R195). One that meets both conditions of R194
is reported as a metric capture, the first that the rule names (log entry 101). -/
def dawnTake (s : State) (c : Carrier) (k m : Nat) (str : Int) : State :=
  let st := dawnState s c
  let h := s.dh c
  if st = dSEARCH then (adopt s c k m str 0).bumpC c R.DAWN_CNT0.DETECTS
  else if st = dDISCARD then adopt s c k m str 0
  else if st = dQUALIFY then
    if h.candM + s.getC c R.DAWN_DET.METRIC_MARGIN ≤ m then capture s c k m str 1
    else if h.candS + (max 1 (s.getC c R.DAWN_DET.CAPTURE_DB) : Nat) ≤ str then capture s c k m str 2
    else s
  else if st = dPRELOAD ∨ st = dBURST ∨ st = dCOLD then
    ((dawnFlag s c fINTRUDED).bumpC c R.DAWN_CNT1.INTRUSIONS).raiseC c E.DAWN_INTRUSION
      (ofSigned 32 (clampSigned 8 (str - h.candS)))
  else s

/-- DAWN_DETECTION: what the detectors show in a DSP cycle (R187, R191). -/
def dawnDetection (s : State) (c : Carrier) (ds : List (Nat × Nat × Int)) : State :=
  if !s.running (.dawn c) || bexaBurst s c then s
  else
    match bestDetection s c ds with
    | some d => dawnTake s c d.1 d.2.1 d.2.2
    | none => s

/-- DAWN_SYNC_WIN_EXPIRY: SYNC_WIN symbols of the detected rate have passed; a false alarm, and the search resumes (R193,
R213). In BEXA SYNC_WIN does not apply, and the end of the three frames in which the qualifier must succeed resumes the
search, 196,608 symbols after the energy (R209; log entry 101). -/
def syncWinExpiry (s : State) (c : Carrier) : State :=
  if dawnState s c ≠ dQUALIFY then s
  else if bexaBurst s c then if s.age (.detect c) * 130000 < 1000 * 196608 then s else toSearch s c
  else if s.age (.detect c) * burstRate s c < 1000 * max 4096 (s.getC c R.DAWN_CTRL.SYNC_WIN) then s
  else
    let k := s.getC c R.DAWN_STAT.DET_RATE
    toSearch ((s.bumpC c R.DAWN_CNT0.FALSE_ALARM).raiseC c E.DAWN_FALSE_ALARM k) c

/-- SSI of R190 from the RMS in 1/16 code and the mean of the four codes; the spec gives none for an RMS of 0 or outside
the 16 bits of the field. The logarithm and the term with SLOPE are rounded to 0.1 dB each, half away from zero (log entry 33). -/
def ssiOf (s : State) (c : Carrier) (rms : Nat) : Option Nat :=
  let sum : Nat := (tiaCodes s c).foldl (· + ·) 0
  let t := divRoundI (10 * (s.getC c R.DAWN_SSI_CAL.SLOPE : Int) * ((sum : Int) - 2048)) 4096
  let t := if s.onC c R.TIA_CTRL.POL then -t else t
  let v := toSigned 16 (s.getC c R.DAWN_SSI_CAL.OFFSET) + db10 rms 1024 - t
  if rms = 0 ∨ clampSigned 16 v ≠ v then none else some (ofSigned 16 v)

/-- SSI latched. -/
def latchSsi (s : State) (c : Carrier) (rms : Nat) : State :=
  match ssiOf s c rms with
  | some v => s.setDh c { s.dh c with ssi := v }
  | none => (s.setDh c { s.dh c with ssi := s.free % 65536 }).freeNext

/-- The estimates of a burst: the frequency within ±1.2 GHz and the dispersion within ±4,000 ps/nm of the pre-centre (R189),
the dispersion in DAWN-RX within ±10,000 ps/nm (R185). -/
def burstEstimates (s : State) (c : Carrier) (fo cd : Int) : State :=
  let h := s.rxh c
  let cd := within (h.cd - 4000) (h.cd + 4000) cd
  s.setRxh c { h with
    fo := within (h.fo - 4800) (h.fo + 4800) fo
    cd := if s.mode c = mDAWNRX then within (-10000) 10000 cd else cd }

/-- DAWN_SYNC_LATCH: frequency offset in 0.25 MHz and dispersion in ps/nm freeze, SSI is latched (R189, R190). -/
def syncLatch (s : State) (c : Carrier) (fo cd : Int) (rms : Nat) : State :=
  if dawnState s c ≠ dQUALIFY ∨ bexaBurst s c then s
  else latchSsi (setDawn (burstEstimates s c fo cd) c dLATCHED) c rms

/-! The descriptor (R183, R184, R198, R199, R203). -/

/-- R184: the RM(2,5) codeword of an information word. -/
def rmEncode (w : Nat) : Nat := (List.range 32).foldl (fun m j => putBit m j (rmBit w j == 1)) 0

/-- Bits of a 32-bit codeword that differ. -/
def distance (a b : Nat) : Nat := ((List.range 32).filter (fun j => bitOf a j != bitOf b j)).length

/-- One coefficient by majority over its check sums: `v` are the variables of its monomial, `cw` the received word. -/
def rmVote (v : Nat) (cw : Nat) : Bool :=
  let free := (List.range 32).filter (fun j => j &&& v == 0)
  let sums := free.map (fun base => (List.range 32).foldl (fun p j =>
    if (j &&& (31 ^^^ v)) == base then xor p (bitOf cw j) else p) false)
  decide (free.length < 2 * (sums.filter id).length)

/-- The monomials' variables in R184's order. -/
def rmVars : List Nat := [0, 1, 2, 4, 8, 16, 3, 5, 9, 17, 6, 10, 18, 12, 20, 24]

/-- Majority decoding, degree 2 first, then 1, then 0. -/
def rmMajority (cw : Nat) : Nat :=
  let deg := fun (i0 n : Nat) (w : Nat) =>
    let rest := cw ^^^ rmEncode w
    (List.range n).foldl (fun acc k => putBit acc (i0 + k) (rmVote (rmVars.getD (i0 + k) 0) rest)) w
  deg 0 1 (deg 1 5 (deg 6 10 0))

/-- A received codeword with up to three errors decoded; with more the spec gives no result (R184). -/
def rmDecode (cw : Nat) : Option Nat :=
  let w := rmMajority cw
  if distance (rmEncode w) cw ≤ 3 then some w else none

/-- The 128 coded bits as received, W3's codeword in bits 31:0, decoded to D[63:0]. A word beyond correction is a free
value. -/
def descriptorOf (s : State) (coded : Nat) : Nat :=
  let w := fun k => (rmDecode (bitsOf coded (32 * k + 31) (32 * k))).getD ((s.free >>> (16 * k)) % 65536)
  ((w 0 * 65536 + w 1) * 65536 + w 2) * 65536 + w 3

/-- R183: the descriptor's CRC is right. -/
def descriptorOk (d : Nat) : Bool := crcOf 16 0x1021 0xFFFF (msbFirst 48 (d >>> 16)) == d % 65536

/-- The entry selected at the latch: in use, not cancelled (R204). -/
def selectEntry (s : State) (c : Carrier) (e : Nat) : State :=
  (s.setBC c R.DAWN_STAT.IN_USE true).setC c R.DAWN_STAT.CUR_ENTRY e

/-- R203: the entry is stale. -/
def entryStale (s : State) (c : Carrier) (e : Nat) : Bool :=
  let lim := s.getC c R.DAWN_SEED_CTRL.STALE_S
  lim != 0 && decide (1000 * lim < (dawnMs s c + 2 ^ 32 - s.get (seedWord c e 0x914)) % 2 ^ 32)

/-- Staleness flagged and raised (R203). -/
def flagStale (s : State) (c : Carrier) (e : Nat) : State :=
  if entryStale s c e then (dawnFlag s c fSTALE).raiseC c E.DAWN_STALE e else s

/-- COLD begins: the FFE as R140, acquisition in state 2 (R191, R196). -/
def toCold (s : State) (c : Carrier) : State :=
  let s := (dawnFlag (setDawn s c dCOLD) c fCOLD).bumpC c R.DAWN_CNT2.COLD_BURSTS
  let s := s.setDh c { s.dh c with keySlot := s.getC c R.DAWN_SEED_CTRL.LEARN_KEY }
  let s := rxInitFfe (s.setRxh c { s.rxh c with
    path := 1, tExit := s.time.aon, timerAt := s.time.aon, crcOk := false, hdrOk := false, snr := 0 }) c
  setAcq s c aFREQ

/-- R198: a second valid entry with the source; of several higher ones the event carries the lowest (log entry 101). -/
def flagDup (s : State) (c : Carrier) (src : Nat) : State :=
  match entriesOf s c src with
  | _ :: e2 :: _ => (s.setBC c R.DAWN_STAT.DUP_ID true).raiseC c E.DAWN_SEED_DUP e2
  | _ => s

/-- R224: an expected entry exists and the source differs from it. -/
def flagUnexpected (s : State) (c : Carrier) (src : Nat) : State :=
  match expectedEntry s c with
  | some e =>
    if entryBits s c e 0x900 15 0 = src then s else (dawnFlag s c fUNEXPECTED).raiseC c E.DAWN_UNEXPECTED src
  | none => s

/-- The entry that the descriptor selects: the lowest valid one with its source (R198), where its rate is the detected one
(R191). -/
def selected (s : State) (c : Carrier) (src : Nat) : Option Nat :=
  match (entriesOf s c src).head? with
  | some e => if entryRate s c e = burstRate s c then some e else none
  | none => none

/-- The loading of an entry differs from the descriptor's (R199). -/
def loadDiffers (s : State) (c : Carrier) (e : Nat) : Bool :=
  let h := s.dh c
  entryBits s c e 0x904 26 24 != h.md || entryBits s c e 0x904 6 0 != h.ent || entryBits s c e 0x904 21 20 != h.rate

/-- The write-back of a seeded entry that fails its tests: BAD increases and nothing else changes (R200). -/
def wbBad (s : State) (c : Carrier) (e : Nat) : Map Nat :=
  let w := s.get (seedWord c e 0x918)
  [(0x918, w - w % 256 + satTo 8 (w % 256 + 1))]

/-- What every write-back stores: offset, dispersion, codes, SSI, STAMP, BURSTS + 1, BAD = 0 (R200, R201). -/
def wbCommon (s : State) (c : Carrier) (bursts : Nat) : Map Nat :=
  let t := tiaCodes s c
  [(0x840, ofSigned 20 (s.rxh c).cd), (0x844, ofSigned 16 (s.rxh c).fo),
   (0x908, t.getD 0 0 + 65536 * t.getD 1 0), (0x90C, t.getD 2 0 + 65536 * t.getD 3 0),
   (0x910, (s.dh c).ssi), (0x914, dawnMs s c), (0x918, 65536 * satTo 16 (bursts + 1))]

/-- The taps and the descriptor's loading as well (R200). -/
def wbFull (s : State) (c : Carrier) (bursts keyBits : Nat) (loading : Nat) : Map Nat :=
  tapWords.map (fun w => (4 * w, (s.rxh c).taps.get w)) ++ [(0x904, loading + keyBits)] ++ wbCommon s c bursts

/-- The descriptor's loading as word 0x904 holds it. -/
def loadingWord (h : DawnH) : Nat := h.md * 2 ^ 24 + h.rate * 2 ^ 20 + h.ent

/-- The write-back prepared: its entry and the words it will store. -/
def setWb (s : State) (c : Carrier) (e : Nat) (w : Map Nat) (wrote : Bool) : State :=
  let s := s.setDh c { s.dh c with wbEntry := some e, wb := w }
  if wrote then dawnFlag s c fWROTEBACK else s

/-- R200: the entry may be written back. -/
def wbEntryOk (s : State) (c : Carrier) (e : Nat) : Bool :=
  let h := s.dh c
  !entryFrozen s c e && !h.cancelled && !bitOf h.flags fINTRUDED && !bitOf h.flags fTRUNC

/-- R200: the frame tests, on the header CRC of the last frame, which is N − 1, and the lower SNR over it; SEED_MIN_SNR is in
0.1 dB, the SNR in 0.01 dB. -/
def frameTests (s : State) (c : Carrier) : Bool :=
  (s.rxh c).crcOk && decide (10 * s.getC c R.DAWN_SEED_CTRL.SEED_MIN_SNR ≤ (s.rxh c).snr)

/-- A probe's write-back: R200 without the frame tests, and the taps stay (R201). -/
def wbProbe (s : State) (c : Carrier) (e : Nat) : State :=
  let s := setAcq (setDawn s c dWRITEBACK) c aWAIT
  if wbEntryOk s c e then setWb s c e (wbCommon s c (entryBits s c e 0x918 31 16)) true
  else setWb s c e (wbBad s c e) false

/-- A seeded burst's write-back (R200). In BEXA no descriptor gives a loading and the entry's stays (R209). -/
def wbSeeded (s : State) (c : Carrier) (e : Nat) : State :=
  let w4 := s.get (seedWord c e 0x904)
  let key := bitsOf w4 16 16 * 65536
  let loading := if bexaBurst s c then w4 - key else loadingWord (s.dh c)
  if wbEntryOk s c e && frameTests s c then
    setWb s c e (wbFull s c (entryBits s c e 0x918 31 16) key loading) true
  else setWb s c e (wbBad s c e) false

/-- R202: a cold burst that may be learned fills the lowest entry with VALID = 0, or the table is full. The entry begins with
BURSTS = 1 and FROZEN cleared, whatever that entry held, FROZEN too (log entry 101). A Bexa burst has no descriptor: SRC_ID 0 and
the loading held last (log entry 101). -/
def wbCold (s : State) (c : Carrier) : State :=
  let h := s.dh c
  if s.onC c R.DAWN_SEED_CTRL.LEARN && h.tracked && !bitOf h.flags fINTRUDED && !bitOf h.flags fTRUNC &&
      frameTests s c then
    match (List.range 64).find? (fun e => !entryValid s c e) with
    | some e =>
      let key := s.getC c R.DAWN_SEED_CTRL.LEARN_KEY * 65536
      (setWb s c e (wbFull s c 0 key (loadingWord h) ++ [(0x848, 2 ^ 31 + 2 ^ 29 + burstRate s c), (0x900, h.src)])
        true).raiseC c E.DAWN_SEED_LEARNED e
    | none => s.raiseC c E.DAWN_TABLE_FULL h.src
  else s

/-- The end of a burst in BURST or COLD: WRITEBACK with what R200 to R202 let be written. -/
def burstEnds (s : State) (c : Carrier) : State :=
  let st := dawnState s c
  let e := s.getC c R.DAWN_STAT.CUR_ENTRY
  if st = dBURST then wbSeeded (setAcq (setDawn s c dWRITEBACK) c aWAIT) c e
  else if st = dCOLD then wbCold (setAcq (setDawn s c dWRITEBACK) c aWAIT) c
  else s

/-- DAWN_DESCRIPTOR with the 128 coded bits received: PRELOAD, COLD or DISCARD (R191, R198, R199, R203, R224). -/
def dawnDescriptor (s : State) (c : Carrier) (coded : Nat) : State :=
  if dawnState s c ≠ dLATCHED ∨ bexaBurst s c then s
  else
    let d := descriptorOf s coded
    let s := s.freeNext
    if !descriptorOk d then
      ((setDawn s c dDISCARD).bumpC c R.DAWN_CNT2.DESC_BAD).raiseC c E.DAWN_DESC_BAD (s.getC c R.DAWN_STAT.DET_RATE)
    else
      let src := bitsOf d 63 48
      let s := s.setDh c { s.dh c with
        src := src, n := bitsOf d 47 32, md := bitsOf d 31 29, ent := bitsOf d 28 22, rate := bitsOf d 21 20 }
      let s := flagUnexpected (flagDup s c src) c src
      match selected s c src with
      | some e =>
        let s := flagStale (selectEntry s c e) c e
        setDawn (if loadDiffers s c e then dawnFlag s c fLOADCHG else s) c dPRELOAD
      | none =>
        let s := s.raiseC c E.DAWN_UNKNOWN_SRC (src + 65536 * b2n (!(entriesOf s c src).isEmpty))
        let h := s.dh c
        toCold (s.setRxh c { s.rxh c with hdrMod := h.md, hdrEnt := h.ent, hdrRate := h.rate }) c

/-- DAWN_PRELOAD_DONE: a probe (N = 0) goes on to its write-back (R191, R201); else taps, loading and key slot are loaded and
RXDSP enters PILOT (R191, R196, R199). -/
def preloadDone (s : State) (c : Carrier) : State :=
  let e := s.getC c R.DAWN_STAT.CUR_ENTRY
  let h := s.dh c
  if dawnState s c ≠ dPRELOAD then s
  else if h.n = 0 ∧ !bexaBurst s c then wbProbe s c e
  else
    let s := s.setDh c { h with keySlot := entryBits s c e 0x904 16 16 }
    let s := loadTaps s c (entryTap s c e)
    let s := s.setRxh c { s.rxh c with
      path := 3, tExit := s.time.aon, timerAt := s.time.aon, seedFrames := 0, crcOk := false, hdrOk := false, snr := 0 }
    let s := if bexaBurst s c then s
      else s.setRxh c { s.rxh c with hdrMod := h.md, hdrEnt := h.ent, hdrRate := h.rate }
    setAcq (setDawn s c dBURST) c aPILOT

/-- DAWN_BURST_END: the last symbol of frame N − 1 has left the demapper (R191, R200, R202). In BEXA the end is LOL (R209). -/
def dawnBurstEnd (s : State) (c : Carrier) : State :=
  if bexaBurst s c then s else burstEnds s c

/-- LOL has set: a burst is truncated and not written back, DISCARD ends; in BEXA the burst ends and is judged by its last
complete frame (R191, R209). -/
def dawnDark (s : State) (c : Carrier) : State :=
  let st := dawnState s c
  if !s.running (.dawn c) then s
  else if st = dBURST ∨ st = dCOLD then
    if bexaBurst s c then burstEnds s c
    else burstEnds ((dawnFlag s c fTRUNC).raiseC c E.DAWN_TRUNC (s.dh c).frames) c
  else if st = dDISCARD then toSearch s c
  else s

/-- DAWN_WRITEBACK_DONE: the entry is written and released, the last-burst registers are updated, SEARCH (R191, R200 to
R202, R207, R221). -/
def writebackDone (s : State) (c : Carrier) : State :=
  if dawnState s c ≠ dWRITEBACK then s
  else
    let h := s.dh c
    let s := match h.wbEntry with
      | some e => h.wb.foldl (fun (s : State) (p : Nat × Nat) => s.set (seedWord c e p.1) (p.2 &&& entryMask p.1)) s
      | none => s
    let wrote := bitOf h.flags fWROTEBACK
    let s := if wrote then s.bumpC c R.DAWN_CNT3.WRITEBACKS else s
    let s := ((s.setC c R.DAWN_BURST.SRC_ID h.src).setC c R.DAWN_BURST.ENTRY (h.wbEntry.getD 0)).setC c
      R.DAWN_BURST.FLAGS h.flags
    let s := ((s.setC c R.DAWN_BURST_N.N h.n).setC c R.DAWN_BURST_N.RATE_IDX (s.getC c R.DAWN_STAT.DET_RATE)).setC c
      R.DAWN_SSI.SSI h.ssi
    let s := match h.acqNs with
      | some a =>
        (s.setC c R.DAWN_ACQ.ACQ_NS (satTo 16 a)).setC c R.DAWN_ACQ.ACQ_MAX
          (max (s.getC c R.DAWN_ACQ.ACQ_MAX) (satTo 16 a))
      | none => s
    toSearch s c

/-- The first corrected codeword of a seeded burst is released, which in a short burst falls into its write-back: ACQ_NS and
the budget (R207). -/
def dawnReleased (s : State) (c : Carrier) : State :=
  let h := s.dh c
  let st := dawnState s c
  if !s.running (.dawn c) || h.released || !(st == dBURST || (st == dWRITEBACK && !bitOf h.flags fCOLD)) then s
  else
    let a := nsSince s h.lightAt + 12
    let s := s.setDh c { h with released := true, acqNs := some a }
    if s.getC c R.DAWN_CTRL.BUDGET_NS < a then
      (s.bumpC c R.DAWN_CNT3.OVER_BUDGET).raiseC c E.DAWN_OVER_BUDGET (satTo 16 a)
    else s

/-! Commands on the table and on DAWN_EXPECT (R204, R205). -/

/-- DAWN_EXPECT_WRITE: in SEARCH at once, otherwise at the next entry to SEARCH (R205). -/
def expectWrite (s : State) (c : Carrier) (v : Nat) : State :=
  let s := (s.setC c R.DAWN_EXPECT.SRC_ID (v % 65536)).setBC c R.DAWN_EXPECT.VALID (bitOf v 31)
  if dawnState s c = dSEARCH then tiaRest (applyExpect s c) c else s

/-- A bit of an entry's word 0x848 put. -/
def entryPut (s : State) (c : Carrier) (e i : Nat) (b : Bool) : State :=
  s.set (seedWord c e 0x848) (putBit (s.get (seedWord c e 0x848)) i b)

/-- The entry is in use (R204). -/
def entryInUse (s : State) (c : Carrier) (e : Nat) : Bool :=
  s.onC c R.DAWN_STAT.IN_USE && s.getC c R.DAWN_STAT.CUR_ENTRY == e

/-- SEED_FREEZE (R204). -/
def seedFreeze (s : State) (c : Carrier) (e : Nat) : State := entryPut s c e 30 true
/-- SEED_THAW (R204). -/
def seedThaw (s : State) (c : Carrier) (e : Nat) : State := entryPut s c e 30 false

/-- SEED_INVALIDATE; the write-back of an entry in use is cancelled (R200, R204). -/
def seedInvalidate (s : State) (c : Carrier) (e : Nat) : State :=
  let s := entryPut s c e 31 false
  if entryInUse s c e then
    let s := s.setDh c { s.dh c with cancelled := true }
    if dawnState s c = dWRITEBACK ∧ bitOf (s.dh c).flags fWROTEBACK then
      s.setDh c { s.dh c with flags := clrBit (s.dh c).flags fWROTEBACK, wb := wbBad s c e }
    else s
  else dawnRest s c

/-- DAWN_SEED_WRITE at an offset of the window: the selected entry, or discarded while it is in use (R11, R197, R204). In
SEARCH the outputs keep the expected entry's codes (R188). -/
def dawnSeedWrite (s : State) (c : Carrier) (off v : Nat) : State :=
  let e := s.getC c R.DAWN_SEED_SEL.ENTRY
  let v := v &&& entryMask off
  if entryInUse s c e then
    if v = s.get (seedWord c e off) then s else haltedDiscard s (.dawn c) (blkBase (.dawn c) + 0x8000 + off)
  else if entryMask off = 0 then s
  else
    dawnRest (s.set (seedWord c e off) v) c

/-! Bexa burst receive (R209). -/

/-- BEXA_ENERGY: a window of 256 samples with its RMS in 1/16 code; DWELL windows in a row declare energy. Without an expected
entry DAWN_CDS0 is the pre-centre: R209 names none (log entry 101). -/
def bexaEnergy (s : State) (c : Carrier) (rms : Nat) : State :=
  if !s.running (.dawn c) || !bexaBurst s c || dawnState s c ≠ dSEARCH then s
  else if rms < s.getC c R.DAWN_BEXA.BEXA_THR then s.setDh c { s.dh c with dwell := 0 }
  else
    let n := (s.dh c).dwell + 1
    if max 1 (s.getC c R.DAWN_BEXA.DWELL) ≤ n then
      (adopt (s.setDh c { s.dh c with dwell := 0 }) c 0 0 0 0).bumpC c R.DAWN_CNT0.DETECTS
    else s.setDh c { s.dh c with dwell := n }

/-- BEXA_QUALIFY within three Bexa frames, 196,608 symbols, of the energy: the qualification latches SSI; the entry is the
expected entry, else the burst runs as COLD (R209). -/
def bexaQualify (s : State) (c : Carrier) (fo cd : Int) (rms : Nat) : State :=
  if !s.running (.dawn c) || !bexaBurst s c || dawnState s c ≠ dQUALIFY ||
      decide (1000 * 196608 < s.age (.detect c) * 130000) then s
  else
    let s := latchSsi (burstEstimates s c fo cd) c rms
    match expectedEntry s c with
    | some e =>
      let s := s.setDh c { s.dh c with src := entryBits s c e 0x900 15 0, n := 0 }
      setDawn (flagStale (selectEntry s c e) c e) c dPRELOAD
    | none => toCold (s.setDh c { s.dh c with src := 0, n := 0 }) c

/-! Receive commands as DAWN sees them. -/

/-- LOL_WINDOW with its effect on a burst in progress (R146, R191). -/
def dawnLolWindow (s : State) (c : Carrier) (rms : Nat) : State :=
  let before := s.onC c R.RXDSP_STAT.LOL
  let s := lolWindow s c rms
  if s.onC c R.RXDSP_STAT.LOL && !before then dawnDark s c else s

/-- RXDSP delivers LLRs: with light (R147); in the Dawn modes within a burst, whatever LOL shows of the gap before it, and only
there (R196, R210). -/
def rxDelivers (s : State) (c : Carrier) : Bool :=
  s.running (.rxdsp c) &&
  (if dawnGoverned s c then dawnState s c == dBURST || dawnState s c == dCOLD else !s.onC c R.RXDSP_STAT.LOL)

/-- A received line frame: in the Dawn modes only within a burst, with the burst's entry as the seed (R144, R196). -/
def dawnLineFrame (s : State) (c : Carrier) (adc : List (List Int)) : State :=
  let st := dawnState s c
  if !rxDelivers s c then s
  else if !dawnGoverned s c then
    rxLineFrame s c adc (s.onC c R.RXDSP_STAT.SEED_VALID) (fun w => s.get (seedF c w))
  else
    let s := s.setDh c { s.dh c with frames := (s.dh c).frames + 1 }
    rxLineFrame s c adc (st == dBURST) (entryTap s c (s.getC c R.DAWN_STAT.CUR_ENTRY))

end Sys2Proof.Machine
end

