-- ==== Sys2Proof/Machine/Fec.lean ====
section
/-! DEFINITION. Soft-decision coding of a carrier and the iteration pool (R225 to R260). -/

namespace Sys2Proof.Machine

open Sys2Proof

/-! Start and stop (R248, R249). -/

/-- R248: the start checks; 0 when all pass. -/
def fecCfgCode (s : State) (c : Carrier) : Nat :=
  if fecNative s c && (s.staged (R.FEC_CODE.TX_RATE.on c) == 3 || s.staged (R.FEC_CODE.RX_RATE.on c) == 3) then 1
  else if !s.onC c R.FEC_CODE.ENC_EN && !s.onC c R.FEC_CODE.DEC_EN then 2
  else 0

/-- DSP cycles of a symbol rate in ns: one cycle carries 256 symbols (R243). -/
def cyclesNs (n sym : Nat) : Nat := divRound (n * 256000) sym

/-- The encoder runs or rests as its enable and TX say; its latency is reported (R243, R248). -/
def encNeighbour (s : State) (c : Carrier) : State :=
  let on := s.running (.fec c) && s.onC c R.FEC_CODE.ENC_EN && s.running (.tx c)
  if on = s.onC c R.FEC_STAT.ENC_ACTIVE then s
  else
    let s := s.setBC c R.FEC_STAT.ENC_ACTIVE on
    if on then
      let s := (s.setC c R.FEC_LATENCY.ENC_NS (cyclesNs 192 (txSymRate s c))).setFh c { s.fh c with zrEnc := 0, zrMap := 0 }
      s.setCh c { s.ch c with formed := [], fed := 0, anchorHeld := false }
    else encRest s c

/-- R243: the decoder latency; the spec gives none for BEXA and ZR400. -/
def setDecNs (s : State) (c : Carrier) : State :=
  if fecNative s c then
    s.setC c R.FEC_LATENCY.DEC_NS (cyclesNs (if s.mode c = mDAWNRX then 600 else 1500) (rxSymRate s c))
  else s.setFree (R.FEC_LATENCY.DEC_NS.on c)

/-- C takes a value; CREDIT_MIN follows its lowest (R254). -/
def setCredit (s : State) (c : Carrier) (v : Nat) : State :=
  (s.setC c R.FEC_POOL_STAT.CREDIT v).setC c R.FEC_POOL_STAT.CREDIT_MIN
    (min v (s.getC c R.FEC_POOL_STAT.CREDIT_MIN))

/-- The segment in progress has ended early where any of it has come (R309). -/
def RemH.cut (r : RemH) : RemH :=
  if r.tagging || !r.seg.words.isEmpty then { r with segs := r.segs ++ [{ r.seg with early := true }] } else r

/-- The remover waits for a valid anchor block: IN_SYNC falls, the segment in progress has ended early (R306). -/
def remLost (s : State) (c : Carrier) : State :=
  let h := s.ch c
  let r := if s.onC c R.CIPH_STAT.IN_SYNC then h.rem.cut else h.rem
  (s.setBC c R.CIPH_STAT.IN_SYNC false).setCh c { h with rem := { r with
    part := .nil, partBad := false, tagging := false, skip := 0, left := none, seg := .reset, dropping := false } }

/-- Codewords in flight are gone and alignment is lost, the remover's with it (R231, R249, R306). -/
def dropAlignment (s : State) (c : Carrier) : State :=
  let s := remLost ((s.setBC c R.FEC_STAT.ALIGNED false).setFh c
    { s.fh c with cws := [], llr := [], coming := [], huntPhase := 0, badRun := 0, zrDec := 0, zrDemap := 0 }) c
  s.setCh c { s.ch c with rem := { (s.ch c).rem with blocks := [] } }

/-- The decoder runs or rests as its enable and RXDSP say; without it C is 0 (R243, R248, R249). -/
def decNeighbour (s : State) (c : Carrier) : State :=
  let on := s.running (.fec c) && s.onC c R.FEC_CODE.DEC_EN && s.running (.rxdsp c)
  if on = s.onC c R.FEC_STAT.DEC_ACTIVE then s
  else
    let s := dropAlignment (s.setBC c R.FEC_STAT.DEC_ACTIVE on) c
    if on then setDecNs s c else setCredit s c 0

/-- Each part starts when its neighbour runs (R248). -/
def fecNeighbours (s : State) (c : Carrier) : State := decNeighbour (encNeighbour s c) c

/-- The throttle indication as the decoder meets it (R241): C is 0, a codeword past its guaranteed iterations with none in
progress stops; at release everything waits for the next codeword. -/
def fecThrottle (s : State) (c : Carrier) : State :=
  let h := s.fh c
  if s.throttled && h.pool != .throttled then
    let hit := fun (w : Codeword) => w.code != 3 && !w.busy && !w.stopped && decide (6 ≤ w.iters)
    let s := s.addSat (R.FEC_CAP.CAPPED.on c) (h.cws.filter hit).length
    let s := s.setFh c { h with
      pool := .throttled
      cws := h.cws.map (fun w => if hit w then { w with stopped := true } else w) }
    ((s.setBC c R.FEC_STAT.THROTTLED true).setC c R.FEC_POOL_STAT.CREDIT 0).setC c R.FEC_POOL_STAT.CREDIT_MIN 0
  else if !s.throttled && h.pool == .throttled then
    (s.setBC c R.FEC_STAT.THROTTLED false).setFh c { h with
      pool := .released, cws := h.cws.map (fun w => { w with exempt := true }) }
  else s

/-- The start of FEC once RUN reads 1 (R35, R248, R672). -/
def fecTryStart (s : State) (c : Carrier) : State :=
  if s.modeErr then s.wait (.fec c)
  else
    let code := fecCfgCode s c
    if code ≠ 0 then
      (((s.unwait (.fec c)).setBC c R.FEC_STAT.CFG_ERR true).setC c R.FEC_STAT.CFG_CODE code).raiseC c
        E.FEC_CFG_ERR code
    else if !s.clockReady (.fec c) then s.wait (.fec c)
    else
      let s := (s.transfer (.fec c)).unwait (.fec c)
      let s := (s.set (runningF (.fec c)) 1).setBC c R.FEC_STAT.CFG_ERR false
      fecThrottle (fecNeighbours s c) c

/-- FEC_RUN_CLEAR: the encoder ends its codeword and stops, the decoder drops its codewords, C returns to 0 (R249). -/
def fecStop (s : State) (c : Carrier) : State :=
  fecNeighbours (((s.set (runF (.fec c)) 0).unwait (.fec c)).set (runningF (.fec c)) 0) c

/-! Encoder (R226, R229, R230, R232). -/

/-- What a data bit that meets a full buffer costs: ENC_DROP and the event (R232). -/
def encDrop (s : State) (c : Carrier) : State :=
  (s.bumpC c R.FEC_DROP.ENC_DROP).raiseC c E.FEC_ENC_OVERRUN (s.getC c R.TX_FCOUNT.FCOUNT)

/-- The port that CL_ZR names for a carrier is a running 400GbE port (R340). -/
def zrServed (s : State) (c : Carrier) : Bool :=
  let p := s.get (match c with | .A => R.CL_ZR.ZR_PORT_A | .B => R.CL_ZR.ZR_PORT_B)
  decide (p < 24) && s.on (R.CL_PORT_STAT.RUNNING.ix p) && s.get (R.CL_PORT_CFG.RATE.ix p) == 2

/-- The next data block of ZR400: the frames that the port named in CL_ZR has received, as the agreement maps them; without
that port, the agreement's replacement signal (R340). -/
def zrBlock (s : State) (c : Carrier) : State × Nat :=
  if zrServed s c then
    let p := s.get (match c with | .A => R.CL_ZR.ZR_PORT_A | .B => R.CL_ZR.ZR_PORT_B)
    let f := (s.port p).feed
    let x := Config.zrMap (s.fh c).zrMap f.queue
    ((s.setFh c { s.fh c with zrMap := x.2.1 }).setPort p { s.port p with feed := { f with queue := f.queue.drop x.2.2 } }, x.1)
  else (s, Config.zrReplacement Config.zrDataBits)

/-- The encoder of ZR400 sends the coded block of its next data block; its staircase runs on (R247). -/
def encSendZr (s : State) (c : Carrier) : State :=
  let d := zrBlock s c
  let x := Config.zrEncode (d.1.fh c).zrEnc d.2
  encSend (d.1.setFh c { d.1.fh c with zrEnc := x.2 }) c Config.zrCodedBits x.1

/-- In BEXA codewords follow one another (R246). -/
def encSendBexa (s : State) (c : Carrier) : State :=
  match encTake s c (encDataBits s c) with
  | none => s
  | some (s, d) => encSend s c 15360 ((codeOf 3).encode d)

/-! The pool (R237 to R241). -/

/-- ITER_MAX in force (R240). -/
def iterMax (s : State) (c : Carrier) : Nat := min 24 (max 6 (s.getC c R.FEC_POOL_CTRL.ITER_MAX))
/-- POOL_CAP in force (R253). -/
def poolCap (s : State) (c : Carrier) : Nat := max 1024 (s.getC c R.FEC_POOL_CTRL.POOL_CAP)

/-- RSV: what the unfinished codewords of the pool may still claim; an iteration in progress has claimed its own (R237). -/
def reserve (s : State) (c : Carrier) : Nat :=
  (s.fh c).cws.foldl (fun n w =>
    if w.code = 3 ∨ w.stopped ∨ w.conv ∨ w.exempt then n else n + (6 - (w.iters + b2n w.busy))) 0

/-- C − RSV ≥ 1. -/
def mayBorrow (s : State) (c : Carrier) : Bool := decide (reserve s c < s.getC c R.FEC_POOL_STAT.CREDIT)

/-- Codeword `i` in flight replaced. -/
def setCw (s : State) (c : Carrier) (i : Nat) (w : Codeword) : State :=
  s.setFh c { s.fh c with cws := (s.fh c).cws.set i w }

/-- A codeword stops as a shortfall: 0 by the pool, 1 by its deadline (R238). -/
def shortfall (s : State) (c : Carrier) (i : Nat) (w : Codeword) (kind : Nat) : State :=
  let s := (setCw s c i { w with busy := false, stopped := true, short := true }).bumpC c R.FEC_SHORT.SHORT
  if (s.fh c).ivShort then s
  else (s.setFh c { s.fh c with ivShort := true }).raiseC c E.FEC_POOL_EXHAUST kind

/-- Engines that are not gated off (R233, R241). -/
def enginesOn (s : State) (c : Carrier) : Nat := if (s.fh c).pool = .normal then 24 else 16

/-- A codeword that waits for an engine. -/
def ready (w : Codeword) : Bool := !w.busy && !w.stopped

/-- The iteration limit of a Bexa codeword (R246). -/
def bexaLimit (s : State) (c : Carrier) : Nat := if (s.fh c).pool = .throttled then 8 else 12

/-- An iteration that starts now ends before the codeword's deadline: an engine works one layer per DSP cycle (R233, R239). -/
def fitsDeadline (s : State) (c : Carrier) (w : Codeword) : Bool := decide ((s.fh c).now + (codeOf w.code).rows ≤ w.due)

/-- A codeword stops; one exempt from the pool and unconverged counts in CAPPED (R241). -/
def stopCw (s : State) (c : Carrier) (i : Nat) (w : Codeword) : State :=
  let s := setCw s c i { w with busy := false, stopped := true }
  if w.exempt && !w.conv then s.bumpC c R.FEC_CAP.CAPPED else s

/-- An engine starts an iteration and charges it (R237, R241). -/
def startIter (s : State) (c : Carrier) (i : Nat) (w : Codeword) : State :=
  let s := setCw s c i { w with busy := true }
  if w.code = 3 ∨ w.exempt ∨ (s.fh c).pool ≠ .normal then s
  else setCredit s c (s.getC c R.FEC_POOL_STAT.CREDIT - 1)

/-- A codeword that has had its guaranteed iterations asks for a further one: it starts, or the codeword stops by its limit,
by its deadline or because the pool refuses (R237, R238, R240, R246). -/
def borrow (s : State) (c : Carrier) (i : Nat) (w : Codeword) : State :=
  if w.code = 3 then (if bexaLimit s c ≤ w.iters then stopCw s c i w else startIter s c i w)
  else if iterMax s c ≤ w.iters ∨ w.exempt then stopCw s c i w
  else if !fitsDeadline s c w then shortfall s c i w 1
  else if mayBorrow s c then startIter s c i w
  else shortfall s c i w 0

/-- One free engine: the oldest codeword with guaranteed iterations outstanding, else the oldest that asks to borrow (R239). -/
def engage (s : State) (c : Carrier) : State :=
  let ws := (s.fh c).cws
  if enginesOn s c ≤ (ws.filter (·.busy)).length then s
  else
    match ws.findIdx? (fun w => ready w && decide (w.iters < 6)) with
    | some i => match ws[i]? with
      | some w => startIter s c i w
      | none => s
    | none =>
      match ws.findIdx? ready with
      | some i => match ws[i]? with
        | some w => borrow s c i w
        | none => s
      | none => s

/-- The free engines take codewords. -/
def engageAll (s : State) (c : Carrier) : State := (List.range 64).foldl (fun s _ => engage s c) s

/-- RATE and NORM of a codeword whose first bit comes now: the header's RATE where frames are followed, else RX_RATE; in DAWN-RX
the burst's (R229, R250). -/
def rxCode (s : State) (c : Carrier) : Nat × Nat :=
  (if s.mode c = mDAWNRX then (s.dh c).rate
    else if s.onC c R.RX_MOD.FOLLOW then (s.rxh c).hdrRate else s.getC c R.FEC_CODE.RX_RATE,
   s.getC c R.FEC_CODE.NORM)

/-- A deposit; the first codeword after a throttle finds the pool at 0 (R237, R241). -/
def deposit (s : State) (c : Carrier) : State :=
  match (s.fh c).pool with
  | .throttled => s
  | .normal => setCredit s c (min (poolCap s c) (s.getC c R.FEC_POOL_STAT.CREDIT + 10))
  | .released => setCredit (s.setFh c { s.fh c with pool := .normal }) c 10

/-- A codeword in flight from its input LLRs, its checks evaluated before the first iteration (R233, R234). -/
def newCodeword (r norm due anchor : Nat) (llr : List Int) : Codeword :=
  let cd := codeOf r
  let post := postOf cd.cols llr
  let hard := decide256 post
  let conv := cd.satisfied hard
  ⟨r, norm, due, hard, post, cd.noMsgs, 0, false, conv, conv, false, false, anchor⟩

/-- A block of the 400ZR agreement in flight: its LLRs (R247). -/
def zrCodeword (llr : List Int) : Codeword := ⟨4, 0, 0, 0, [llr], [], 0, false, true, false, false, false, 0⟩

/-- Where the first codeword begins in frame `p` of the 15 that 511 codewords fill, in coded bits: a frame holds 34 codewords and
1,024 bits of the next (R246). -/
def bexaStart (p : Nat) : Nat := (15360 - 1024 * p) % 15360

/-- Codewords whose first bits come now: `n` of a code and NORM, the first of them at the beginning of an anchor frame or not,
as in `Codeword`. -/
def comings (x : Nat × Nat) (anchor n : Nat) : List (Nat × Nat × Nat) :=
  (List.range n).map (fun i => (x.1, x.2, if i = 0 then anchor else 0))

/-- The frame phase being tested: the LLRs held are those of one frame, and fewer than 10 % of the 3,072 checks of the first
codeword that the phase places in it unsatisfied lock it; else the next phase is tested (R246). -/
def bexaHunt (s : State) (c : Carrier) : State :=
  let h := s.fh c
  let cd := codeOf 3
  let rest := h.llr.drop (bexaStart h.huntPhase)
  if rest.length < 15360 then s
  else if 10 * cd.unsatisfied (decide256 (postOf cd.cols (rest.take 15360))) < 3072 then
    (s.setBC c R.FEC_STAT.ALIGNED true).setFh c { h with
      llr := rest, coming := comings (3, s.getC c R.FEC_CODE.NORM) 0 ((rest.length + 15359) / 15360) }
  else s.setFh c { h with huntPhase := (h.huntPhase + 1) % 15 }

/-- The latency of a codeword from its last LLR to its release in DSP cycles (R239). -/
def cwLatency (s : State) (c : Carrier) : Nat := if s.mode c = mDAWNRX then 600 else 1500

/-- A codeword joins those in flight. -/
def addCw (s : State) (c : Carrier) (w : Codeword) : State := s.setFh c { s.fh c with cws := (s.fh c).cws ++ [w] }

/-- A codeword of the native code whose first bit was counted has arrived whole: the deposit, and its decoding begins (R237).
A codeword of the reserved RATE 0b11 has no code and is not decoded (log entry 99). -/
def arriveNative (s : State) (c : Carrier) : State :=
  let h := s.fh c
  match h.coming with
  | [] => s
  | x :: rest =>
    let w := newCodeword x.1 x.2.1 (h.now + cwLatency s c - 48) x.2.2 (h.llr.take 30720)
    let s := s.setFh c { h with llr := h.llr.drop 30720, coming := rest }
    if x.1 = 3 then s else engageAll (addCw (deposit s c) c w) c

/-- A Bexa codeword has arrived: it is the hunt's while there is no alignment, else it is decoded with the NORM of the frame
of its first bit, and after a throttle its arrival ungates the engines (R241, R246, R250). -/
def arriveBexa (s : State) (c : Carrier) : State :=
  let h := s.fh c
  let s := s.setFh c { h with pool := if h.pool = .released then PoolSt.normal else h.pool }
  if !s.onC c R.FEC_STAT.ALIGNED then bexaHunt s c
  else
    match h.coming with
    | [] => s
    | x :: rest =>
      engageAll (addCw (s.setFh c { s.fh c with llr := h.llr.drop 15360, coming := rest }) c
        (newCodeword 3 x.2.1 0 0 (h.llr.take 15360))) c

/-- FEC_CODEWORD_ARRIVE at RX DSP cycle `now`: the last LLR of the next codeword of the queue has come. -/
def codewordArrive (s : State) (c : Carrier) (now : Nat) : State :=
  if !s.onC c R.FEC_STAT.DEC_ACTIVE then s
  else
    let s := s.setFh c { s.fh c with now := now }
    if s.mode c = mZR400 then
      addCw (s.setFh c { s.fh c with llr := (s.fh c).llr.drop Config.zrCodedBits }) c
        (zrCodeword ((s.fh c).llr.take Config.zrCodedBits))
    else if s.mode c = mBEXA then arriveBexa s c
    else arriveNative s c

/-- What becomes of a codeword after an iteration: it stops when it has converged, at its limit, or by the throttle's cap; else it
waits for its next one (R234, R240, R241, R246). -/
def afterIter (s : State) (c : Carrier) (i : Nat) (w : Codeword) : State :=
  if w.conv then setCw s c i { w with stopped := true }
  else if w.code = 3 ∨ w.iters < 6 then setCw s c i w
  else if w.exempt ∨ iterMax s c ≤ w.iters then stopCw s c i w
  else if (s.fh c).pool = .throttled then (setCw s c i { w with stopped := true }).bumpC c R.FEC_CAP.CAPPED
  else setCw s c i w

/-- FEC_ITERATION_END of the codeword `i`-th in arrival order at RX DSP cycle `now`: the iteration's arithmetic, the checks, and
what follows (R233, R234). -/
def iterationEnd (s : State) (c : Carrier) (i now : Nat) : State :=
  match (s.fh c).cws[i]? with
  | none => s
  | some w =>
    if !w.busy then s
    else
      let s := s.setFh c { s.fh c with now := now }
      let cd := codeOf w.code
      let x := cd.iterate w.norm w.post w.msgs
      let w := { w with
        post := x.1, msgs := x.2, iters := w.iters + 1, busy := false, conv := cd.satisfied (decide256 x.1) }
      engageAll (afterIter s c i w) c

/-- FEC_DEADLINE: the deadline of codeword `i`; one that still asks for iterations stops (R238, R239). -/
def fecDeadline (s : State) (c : Carrier) (i : Nat) : State :=
  match (s.fh c).cws[i]? with
  | none => s
  | some w =>
    if w.stopped then s
    else
      let s := s.setFh c { s.fh c with now := max (s.fh c).now w.due }
      if w.code = 3 ∨ w.iters < 6 ∨ w.exempt ∨ iterMax s c ≤ w.iters then engageAll (stopCw s c i w) c
      else engageAll (shortfall s c i w 1) c

/-! Release (R235, R236, R246, R247). -/

/-- A codeword is counted: converged iterations, corrected bits, the interval's sums (R236, R244, R257). -/
def countCodeword (s : State) (c : Carrier) (iters corr bits : Nat) (uncorr : Bool) : State :=
  let s := s.addWrap (R.FEC_CW.CW.on c) 1
  let h := s.fh c
  let h := { h with ivCw := h.ivCw + 1, ivIter := h.ivIter + iters, ivHist := h.ivHist.set iters (h.ivHist.get iters + 1) }
  if uncorr then
    ((s.setFh c { h with ivUncorr := h.ivUncorr + 1, winUncorr := true }).bumpC c R.FEC_UNCORR.UNCORR).setRxh c
      { s.rxh c with uncorrSeen := true }
  else
    ((s.setFh c { h with ivCorr := h.ivCorr + corr, ivBits := h.ivBits + bits }).addWrap (R.FEC_CORR.CORR.on c) corr).addWrap
      (R.FEC_BITS.BITS.on c) bits

/-- Sixteen uncorrectable Bexa codewords in a row restart the hunt (R246). -/
def bexaRehunt (s : State) (c : Carrier) (uncorr : Bool) : State :=
  let n := if uncorr then (s.fh c).badRun + 1 else 0
  if n < 16 then s.setFh c { s.fh c with badRun := n }
  else ((dropAlignment s c).bumpC c R.FEC_CAP.REALIGN).raiseC c E.FEC_REALIGN 1

/-- The final decision of a codeword and whether it is uncorrectable (R235, R246). -/
def finalDecision (w : Codeword) : Nat × Bool :=
  let cd := codeOf w.code
  let ldpc := decide256 w.post
  if cd.bch then
    match bchErrors cd.k ldpc with
    | some es => (es.foldl (fun v i => v ^^^ 2 ^ i) ldpc, false)
    | none => (ldpc, true)
  else (ldpc, !w.conv)

/-- A block of ZR400 is released: bits corrected by both stages, errors left, the alignment (R247). -/
def releaseZr (s : State) (c : Carrier) (llr : List Int) : State :=
  let x := Config.zrDecode (s.fh c).zrDec llr
  let bad := x.2.2.1
  let s := ((s.addWrap (R.FEC_CORR.CORR.on c) x.2.1).addWrap (R.FEC_CW.CW.on c) 1).setBC c R.FEC_STAT.ALIGNED x.2.2.2.1
  let h := s.fh c
  let s := s.setFh c { h with
    cws := h.cws.drop 1, ivCw := h.ivCw + 1, ivCorr := h.ivCorr + x.2.1, outData := x.1, outUncorr := bad
    ivUncorr := h.ivUncorr + b2n bad, winUncorr := h.winUncorr || bad
    winFrames := h.winFrames + 1, zrDec := x.2.2.2.2 }
  if bad then (s.bumpC c R.FEC_UNCORR.UNCORR).setRxh c { s.rxh c with uncorrSeen := true } else s

/-- A data block goes to the remover (R264, R306). -/
def remPush (s : State) (c : Carrier) (b : RxBlock) : State :=
  let h := s.ch c
  s.setCh c { h with rem := { h.rem with blocks := h.rem.blocks ++ [b] } }

/-- FEC_CODEWORD_RELEASE: the oldest codeword passes BCH and is delivered with its flag (R235, R236, R239). -/
def codewordRelease (s : State) (c : Carrier) : State :=
  if !s.onC c R.FEC_STAT.DEC_ACTIVE then s
  else
    match (s.fh c).cws with
    | [] => s
    | w :: rest =>
      if w.code = 4 then releaseZr s c (w.post.headD [])
      else
      let cd := codeOf w.code
      let f := finalDecision w
      let s := s.setFh c { s.fh c with
        cws := rest, outData := f.1 % 2 ^ cd.dataBits, outUncorr := f.2, now := max (s.fh c).now (w.due + 48) }
      let s := remPush s c ⟨BitStr.of cd.dataBits f.1, if ciphBypassed s c then 0 else w.anchor, f.2⟩
      let s := countCodeword s c w.iters (countBits cd.len (f.1 ^^^ w.hard)) cd.len f.2
      let s := if w.short && f.2 then s.bumpC c R.FEC_SHORT.SHORT_FAIL else s
      let s := if w.code = 3 then bexaRehunt s c f.2 else s
      let s := if f.2 then s else dawnReleased s c
      engageAll s c

/-! Alignment (R230, R231). -/

/-- B of the frame being received (R53). -/
def rxBlockBits (s : State) (c : Carrier) : Nat := blockBits (rxLoading s c).1 (rxLoading s c).2

/-- Coded bits of a received frame, from its loading and FILL (R231). -/
def frameBits (s : State) (c : Carrier) : Nat := (4088 - min 4088 (s.rxh c).hdrFill) * rxBlockBits s c

/-- An anchor frame in the decoder's count: a codeword begins with its first coded bit; the pad, or a partial codeword, before it
is discarded (R230, R231). -/
def countAnchor (s : State) (c : Carrier) (f : FecH) : FecH :=
  let n := frameBits s c
  let part := f.rxBits % 30720
  let on := s.onC c R.FEC_STAT.ALIGNED
  { f with
    prevBits := f.rxBits, prevEndB := f.rxEndB, rxBits := n, rxEndB := if 30720 ≤ n then rxBlockBits s c else 0
    coming := (if !on then [] else if part = 0 then f.coming else f.coming.dropLast) ++
      comings (rxCode s c) (if s.mode c = mDAWNRX ∧ f.rxFcount = 0 then 2 else 1) ((n + 30719) / 30720)
    llr := (if on then f.llr.take (f.llr.length - part) else []) ++ (s.rxh c).llrs }

/-- A frame between anchors in the decoder's count, followed while there is alignment (R231). -/
def countFrame (s : State) (c : Carrier) (f : FecH) : FecH :=
  let n := frameBits s c
  let p := f.rxBits
  if !s.onC c R.FEC_STAT.ALIGNED then f
  else { f with
    rxBits := p + n, rxEndB := if p / 30720 < (p + n) / 30720 then rxBlockBits s c else f.rxEndB
    coming := f.coming ++ comings (rxCode s c) 0 ((p + n + 30719) / 30720 - (p + 30719) / 30720)
    llr := f.llr ++ (s.rxh c).llrs }

/-- A Bexa frame: its LLRs are the hunt's, one frame at a time, or follow those that wait, with NORM as it stands for the
codewords whose first bit they bring (R246, R250). -/
def bexaFrame (s : State) (c : Carrier) (f : FecH) : FecH :=
  let l := (s.rxh c).llrs
  if !s.onC c R.FEC_STAT.ALIGNED then { f with llr := l }
  else
    let all := f.llr ++ l
    { f with llr := all, coming := f.coming ++
        comings (3, s.getC c R.FEC_CODE.NORM) 0 ((all.length + 15359) / 15360 - f.coming.length) }

/-- A received frame as the decoder meets it: counted for the interval (R244), its LLRs queued, FCOUNT of a header-lost frame
one more than the last (R231). -/
def fecRxFrame (s : State) (c : Carrier) (hdr : Nat) : State :=
  if !s.onC c R.FEC_STAT.DEC_ACTIVE then s
  else
    let f := { s.fh c with ivFrames := (s.fh c).ivFrames + 1, winFrames := (s.fh c).winFrames + b2n (s.mode c != mZR400) }
    if s.mode c = mZR400 then s.setFh c { f with llr := f.llr ++ (s.rxh c).llrs }
    else if s.mode c = mBEXA then s.setFh c (bexaFrame s c f)
    else
      let fc := if (s.rxh c).hdrOk then bitsOf hdr 111 88 else (f.rxFcount + 1) % 2 ^ 24
      let f := { f with rxFcount := fc }
      s.setFh c (if fc % 64 = 0 then countAnchor s c f else countFrame s c f)

/-- The running count places a codeword start at the anchor: what is left over after the last codeword is pad of the pilot block
in which it ended (R230, R231). -/
def onCount (s : State) (c : Carrier) : Bool := decide ((s.fh c).prevBits % 30720 < max 1 (s.fh c).prevEndB)

/-- FEC_ANCHOR_ALIGN: a received anchor frame; a realignment makes the remover wait for an anchor block (R231, R306). -/
def anchorAlign (s : State) (c : Carrier) : State :=
  if !s.onC c R.FEC_STAT.DEC_ACTIVE || !fecNative s c || s.onC c R.RXDSP_STAT.LOL || (s.fh c).rxFcount % 64 != 0 then s
  else if !s.onC c R.FEC_STAT.ALIGNED then s.setBC c R.FEC_STAT.ALIGNED true
  else if onCount s c then s
  else ((remLost s c).bumpC c R.FEC_CAP.REALIGN).raiseC c E.FEC_REALIGN 0

/-- LOL has set: nothing more is delivered until the next anchor frame (R231). -/
def fecDark (s : State) (c : Carrier) : State := dropAlignment s c

/-- A Dawn burst is over. A codeword that has begun and is not complete is discarded and counted: what is left of the count is
its bits, or, at a burst's own end, the pad of the pilot block in which the last codeword ended (R230, R231). Where the burst
was cut off, the segment in progress is incomplete (R320). -/
def fecBurstEnd (s : State) (c : Carrier) (cut : Bool) : State :=
  let h := s.fh c
  let part := h.rxBits % 30720
  let partial' := part != 0 && (cut || decide (h.rxEndB ≤ part))
  let s := if partial' && s.onC c R.FEC_STAT.DEC_ACTIVE && s.onC c R.FEC_STAT.ALIGNED then s.bumpC c R.FEC_DROP.RX_PARTIAL else s
  let s := s.setFh c { h with
    coming := if part = 0 then h.coming else h.coming.dropLast, llr := h.llr.take (h.llr.length - part), rxBits := 0 }
  let s := s.setBC c R.FEC_STAT.ALIGNED false
  if cut then remLost s c else s

/-! Monitoring intervals (R244, R245). -/

/-- The rate in force at the interval's end (R244). -/
def rateInForce (s : State) (c : Carrier) : Nat := (rxCode s c).1

/-- The two margins of an interval, in 0.01 dB: against the threshold in force and against the throttled one. -/
def margins (s : State) (c : Carrier) : Int × Int :=
  let h := s.fh c
  if !fecNative s c then (0, 0)
  else if h.ivUncorr ≠ 0 then (-1200, -1200)
  else if h.ivCorr = 0 then (1200, 1200)
  else
    let r := rateInForce s c
    (marginCdb h.ivCorr h.ivBits (fecThreshold r (s.onC c R.FEC_STAT.THROTTLED)),
      marginCdb h.ivCorr h.ivBits (fecThreshold r true))

/-- BER_E7; an interval whose codewords were all uncorrectable counted no bits, and the spec states no BER for it. -/
def setBer (s : State) (c : Carrier) : State :=
  let h := s.fh c
  if h.ivBits = 0 then s.setFree (R.FEC_BER.BER_E7.on c)
  else s.setC c R.FEC_BER.BER_E7 (min 1048575 (divRound (h.ivCorr * 10000000) h.ivBits))

/-- MARGIN_LOW and the events of an interval's end (R245). -/
def intervalEvents (s : State) (c : Carrier) (m : Int) : State :=
  let warn := toSigned 16 (s.getC c R.FEC_MON_CTRL.MARGIN_WARN)
  let s :=
    if m < warn ∧ !s.onC c R.FEC_STAT.MARGIN_LOW then
      (s.setBC c R.FEC_STAT.MARGIN_LOW true).raiseC c E.FEC_MARGIN_LOW (ofSigned 16 m)
    else if warn + 50 ≤ m then s.setBC c R.FEC_STAT.MARGIN_LOW false
    else s
  let n := (s.fh c).ivUncorr
  if n = 0 then s else s.raiseC c E.FEC_UNCORR (satTo 16 n)

/-- Frames of a monitoring interval; INTERVAL_LOG2 below 10 acts as 10, above 26 as 26 (R244, R255). -/
def intervalFrames (s : State) (c : Carrier) : Nat := 2 ^ min 26 (max 10 (s.getC c R.FEC_MON_CTRL.INTERVAL_LOG2))

/-- FEC_INTERVAL_END: the frames of an interval have come (R238, R244, R245). -/
def intervalEnd (s : State) (c : Carrier) : State :=
  if !s.onC c R.FEC_STAT.DEC_ACTIVE || decide ((s.fh c).ivFrames < intervalFrames s c) then s
  else
    let h := s.fh c
    let clear := fun (s : State) => s.setFh c { s.fh c with
      ivCorr := 0, ivBits := 0, ivCw := 0, ivIter := 0, ivUncorr := 0, ivHist := [], ivShort := false, ivFrames := 0 }
    let s := s.setBC c R.FEC_STAT.POOL_EXH h.ivShort
    if h.ivCw = 0 then clear (s.setBC c R.FEC_STAT.MON_VALID false)
    else
      let s := setBer (s.setBC c R.FEC_STAT.MON_VALID true) c
      let s := s.setC c R.FEC_BER.ITER_MEAN (satTo 9 (divRound (16 * h.ivIter) h.ivCw))
      let s := (List.range 25).foldl (fun s i =>
        s.set ((R.FEC_HIST.COUNT.ix i).on c) (if s.mode c = mZR400 then 0 else satTo 32 (h.ivHist.get i))) s
      let m := margins s c
      let s := (s.setC c R.FEC_MARGIN.MARGIN (ofSigned 16 m.1)).setC c R.FEC_MARGIN.MARGIN_THR (ofSigned 16 m.2)
      clear (intervalEvents s c m.1)

end Sys2Proof.Machine
end

