-- ==== Sys2Proof/Machine/Imp.lean ====
section
/-! DEFINITION. IMP units and the words that the slots of an OTUCn frame take from their owners (R333, R336, R339, R341). -/

namespace Sys2Proof.Machine

open Sys2Proof

/-! Units (R341). -/

/-- An IMP header: LENGTH, CSF, ERR and the HEC. -/
def impHdr (len : Nat) (csf err : Bool) : Nat :=
  let v := (len * 65536 + b2n csf * 512 + b2n err * 256) / 256
  v * 256 + crcOf 8 0x07 0x00 (msbFirst 24 v)

/-- Zero pad behind `n` frame bytes, up to the next 4-byte boundary. -/
def impPad (n : Nat) : Nat := (4 - n % 4) % 4

/-- A frame unit: header, frame bytes, zero pad to the next 4-byte boundary. -/
def impUnit (f : List Nat) : List Nat :=
  beBytes 4 (impHdr f.length false false) ++ (f ++ List.replicate (impPad f.length) 0)

/-- HEC of an IMP header is good. -/
def impGood (hdr : Nat) : Bool := crcOf 8 0x07 0x00 (msbFirst 24 (hdr / 256)) == hdr % 256

/-! Slots (R336). -/

/-- A slot is assigned. -/
def occ (b : Nat) : Bool := bitOf b 7
/-- The byte of a slot as sent and compared: an unassigned slot carries 0x00. -/
def slotByte (b : Nat) : Nat := if occ b then b else 0
/-- The owner of an assigned slot. -/
def slotOwner (b : Nat) : Nat := b % 64
/-- What waits for the slots of an owner, a port or a replay channel. -/
def feedOf (s : State) (o : Nat) : Feed := if o < 24 then (s.port o).feed else (jb s (o - 32)).feed
/-- That replaced. -/
def setFeed (s : State) (o : Nat) (f : Feed) : State :=
  if o < 24 then s.setPort o { s.port o with feed := f } else setJb s (o - 32) { jb s (o - 32) with feed := f }
/-- The idle unit of an owner: a port without link says so (R341). -/
def idleUnit (s : State) (o : Nat) : List Nat :=
  beBytes 4 (impHdr 0 (decide (o < 24) && !s.on (R.CL_PORT_STAT.LINK_UP.ix o)) false)
/-- What a slot without owner carries. -/
def idleWord : List Nat := (List.range 4).flatMap (fun _ => beBytes 4 (impHdr 0 false false))

/-- Bytes that wait (R333). -/
def Feed.bytes (f : Feed) : Nat := f.queue.foldl (fun n x => n + x.length) f.rest.length
/-- The next unit begins: of the frame that waits longest, or idle. -/
def Feed.next (f : Feed) (idle : List Nat) : Feed :=
  match f.queue with
  | x :: q => ⟨q, f.rest ++ impUnit x⟩
  | [] => ⟨[], f.rest ++ idle⟩
/-- Units begin until a word of 16 bytes is there; a unit has at least 4 bytes. -/
def Feed.fill (idle : List Nat) : Nat → Feed → Feed
  | 0, f => f
  | n + 1, f => if 16 ≤ f.rest.length then f else Feed.fill idle n (f.next idle)

/-- The words dealt to the slots of a frame so far, the owners of the frame units begun in them, and the owners that still
finish a frame on their old slots. -/
structure Deal where
  s : State
  words : List (List Nat)
  begun : List Nat
  held : List Nat

/-- A slot's word from the unit in progress of an owner that finishes a frame on its old slots, idle behind it (R339). -/
def Deal.finish (x : Deal) (o : Nat) : Deal :=
  let f := feedOf x.s o
  { x with
    s := setFeed x.s o { f with rest := f.rest.drop 16 }
    words := x.words ++ [(f.rest ++ idleWord).take 16]
    held := if f.rest.length ≤ 16 then x.held.erase o else x.held }

/-- A slot's word from its owner's stream (R341). -/
def Deal.take (x : Deal) (o : Nat) : Deal :=
  let f := feedOf x.s o
  let g := f.fill (idleUnit x.s o) 4
  { x with
    s := setFeed x.s o { g with rest := g.rest.drop 16 }
    words := x.words ++ [g.rest.take 16]
    begun := x.begun ++ List.replicate (f.queue.length - g.queue.length) o }

/-- The word of a slot with its byte in the map of the frames before and in the map in force: an owner that still finishes a frame
does so on its old slots, and those it has gained carry idle until then (R339). -/
def Deal.slot (x : Deal) (old new : Nat) : Deal :=
  if occ old && x.held.contains (slotOwner old) then x.finish (slotOwner old)
  else if occ new && !x.held.contains (slotOwner new) then x.take (slotOwner new)
  else { x with words := x.words ++ [idleWord] }

/-- The owners of the slots of a map that have a frame in progress. -/
def busyOwners (s : State) (map : List Nat) : List Nat :=
  (((map.filter occ).map slotOwner).filter (fun o => !(feedOf s o).rest.isEmpty)).eraseDups

/-- Those of them whose slots differ in the map that follows (R339). -/
def movedOwners (s : State) (old new : List Nat) : List Nat :=
  let slots := fun (m : List Nat) (o : Nat) => (List.range 400).filter (fun i => occ (m.getD i 0) && slotOwner (m.getD i 0) == o)
  (busyOwners s old).filter (fun o => slots old o != slots new o)

end Sys2Proof.Machine
end

