-- ==== Sys2Proof/Machine/Otu.lean ====
section
/-! DEFINITION. The OTUCn frame as bytes: slice frames, their interleaving and the scrambler (R261 to R263), sent and received.
A slice frame is the list of its 4 × 3,824 bytes in sending order. The places of the overhead bytes are those of ITU-T G.709 (log
entry 103). -/

namespace Sys2Proof.Machine

open Sys2Proof

/-- Bytes of a slice frame. -/
def sliceLen : Nat := 15296

/-- Exactly `n` elements of a list, 0 for the missing ones. -/
def fitList (n : Nat) (l : List Nat) : List Nat := (l ++ List.replicate (n - l.length) 0).take n

/-- Row `r` (from 0) of a slice frame: columns 1 to 14. -/
def rowHead (f : List Nat) (r : Nat) : List Nat := fitList 14 ((f.drop (3824 * r)).take 14)
/-- Its columns 15 to 3,824, the OPUC. -/
def rowOpu (f : List Nat) (r : Nat) : List Nat := fitList 3810 ((f.drop (3824 * r + 14)).take 3810)

/-- The byte at row `r` and column `col`, both as G.709 counts them from 1. -/
def sliceAt (f : List Nat) (r col : Nat) : Nat := f.getD (3824 * (r - 1) + col - 1) 0

/-- The FAS (R267). -/
def fasBytes : List Nat := [0xF6, 0xF6, 0xF6, 0x28, 0x28, 0x28]

/-- BIP-8 of bytes: even parity of each bit position (R276). -/
def bip8 (l : List Nat) : Nat := l.foldl (fun x b => x ^^^ b) 0

/-- BIP-8 of a slice's OPUC (R276). -/
def opuBip (f : List Nat) : Nat := (List.range 4).foldl (fun x r => x ^^^ bip8 (rowOpu f r)) 0

/-- The byte that a maintenance signal repeats over the ODU: ODUCn-AIS, OCI, LCK by its STAT (R275). -/
def maintByte (stat : Nat) : Option Nat :=
  if stat = 7 then some 0xFF else if stat = 6 then some 0x66 else if stat = 5 then some 0x55 else none

/-- The SM overhead of slice `k` (from 0): TTI and the BDI and IAE bits in the first slice alone. -/
def smBytes (oh : TxOverhead) (k : Nat) : List Nat :=
  let bei := if oh.biae then 11 else oh.bei.getD k 0 % 16
  [if k = 0 then oh.tti else 0, oh.bip.getD k 0, bei * 16 + (if k = 0 then b2n oh.bdi * 8 + b2n oh.iae * 4 else 0)]

/-- The PM overhead of slice `k`: TTI, BDI and STAT in the first slice alone; its TTI equals the SM TTI (R261). -/
def pmBytes (oh : TxOverhead) (k : Nat) : List Nat :=
  [if k = 0 then oh.tti else 0, oh.pmBip.getD k 0,
    (oh.pmBei.getD k 0 % 16) * 16 + (if k = 0 then b2n oh.pmBdi * 8 + oh.stat % 8 else 0)]

/-- Columns 1 to 14 of row `r` (from 0) of slice `k` from `src`: in REGEN what FRAMER does not terminate passes, else it is 0
(R261). -/
def sentHead (oh : TxOverhead) (regen : Bool) (src : List Nat) (k r : Nat) : List Nat :=
  let pass := if regen then rowHead src r else List.replicate 14 0
  match maintByte oh.stat, r with
  | _, 0 => fasBytes ++ [oh.mfas % 256] ++ smBytes oh k ++ pass.drop 10
  | some m, _ => List.replicate 14 m
  | none, 1 =>
    if regen then pass else pass.take 2 ++ [if k = 0 then b2n oh.dmp * 2 else 0] ++ pass.drop 3
  | none, 2 => if regen then pass else pass.take 9 ++ pmBytes oh k ++ pass.drop 12
  | none, _ => pass

/-- The OPUC of row `r` (from 0) of slice `k`: PSI in column 15 of row 4, columns 15 and 16 otherwise 0, in REGEN as received,
under a maintenance signal its byte (R261, R265, R275, R300). -/
def sentOpu (oh : TxOverhead) (regen : Bool) (src : List Nat) (k r : Nat) : List Nat :=
  let o := rowOpu src r
  match maintByte oh.stat with
  | some m => List.replicate 3810 m
  | none => if regen then o else (if r = 3 then oh.psi.getD k 0 else 0) :: 0 :: o.drop 2

/-- The slice frame of slice `k` as sent, before the scrambler. -/
def sentSlice (oh : TxOverhead) (regen : Bool) (src : List Nat) (k : Nat) : List Nat :=
  (List.range 4).flatMap (fun r => sentHead oh regen src k r ++ sentOpu oh regen src k r)

/-- R262: slice frames interleaved in words of 16 bytes. -/
def interleave (slices : List (List Nat)) : List Nat :=
  (List.range 956).flatMap (fun w => slices.flatMap (fun f => (f.drop (16 * w)).take 16))

/-- R262: slice `k` of `n` out of the frame. -/
def deinterleave (n k : Nat) (frame : List Nat) : List Nat :=
  (List.range 956).flatMap (fun w => (frame.drop (16 * (w * n + k))).take 16)

/-- A bit of the scrambler x^16 + x^12 + x^3 + x + 1: its register after it, and the bit (R263). -/
def otuLfsr (r : Nat) : Nat × Nat :=
  let fb := (b2n (r.testBit 15) + b2n (r.testBit 11) + b2n (r.testBit 2) + b2n (r.testBit 0)) % 2
  (2 * r % 65536 + fb, b2n (r.testBit 15))

/-- Eight bits of it, the first one highest. -/
def otuMask (r : Nat) : Nat × Nat :=
  (List.range 8).foldl (fun (x : Nat × Nat) _ => let y := otuLfsr x.1; (y.1, 2 * x.2 + y.2)) (r, 0)

/-- Byte `i` of a frame of `n` slices through the scrambler, with the register behind it: it stands at 0xFFFF to the end of
the FAS of slice 1, then runs on every bit, and leaves the FAS bytes of the other slices as they are (R263). -/
def scrambleByte (n i r b : Nat) : Nat × Nat :=
  if i < 6 then (b, 0xFFFF)
  else
    let m := otuMask r
    (if i < 16 * n ∧ i % 16 < 6 then b else b ^^^ m.2, m.1)

/-- The bytes of a frame from byte `i` on, with the scrambler's register there. -/
def scrambleFrom (n : Nat) : Nat → Nat → List Nat → List Nat
  | _, _, [] => []
  | i, r, b :: bs => (scrambleByte n i r b).1 :: scrambleFrom n (i + 1) (scrambleByte n i r b).2 bs

/-- The register of the scrambler behind those bytes. -/
def scrambleReg (n : Nat) : Nat → Nat → List Nat → Nat
  | _, r, [] => r
  | i, r, b :: bs => scrambleReg n (i + 1) (scrambleByte n i r b).2 bs

/-- The register before byte `i` of a frame. -/
def scrambleAt (n i : Nat) : Nat := scrambleReg n 0 0xFFFF (List.replicate i 0)

/-- A frame scrambled, or descrambled: the mask is its own inverse (R263). -/
def scramble (n : Nat) (frame : List Nat) : List Nat := scrambleFrom n 0 0xFFFF frame

/-- The words of 16 bytes of the OTUCn frame that FRAMER sends, before encryption and scrambler, made of the bytes of `frame`
(R262). -/
def otuWords (n : Nat) (oh : TxOverhead) (regen : Bool) (frame : List Nat) : List (List Nat) :=
  group16 (interleave ((List.range n).map (fun k => sentSlice oh regen (deinterleave n k frame) k)))

/-- Word `w` of a frame of `n` slices holds payload; the first word of a row of a slice does not: columns 1 to 16 (R300). -/
def payloadWord (n w : Nat) : Bool := w / n % 239 != 0

/-- The tributary slot of a payload word, counted over all slices: the payload words of a slice take its 20 slots in turn from the
beginning of each frame (R336; log entry 114). -/
def wordSlot (n w : Nat) : Nat :=
  let j := w / n
  20 * (w % n) + (j / 239 * 238 + (j % 239 - 1)) % 20

/-- The BIP-8 of each slice's OPUC with word `w` added as it is sent: columns 15 and 16 of a row's first word belong to it
(R276). -/
def bipWord (n w : Nat) (bips word : List Nat) : List Nat :=
  bips.set (w % n) (bips.getD (w % n) 0 ^^^ bip8 (if payloadWord n w then word else word.drop 14))

/-- The slice frames of a received frame after the descrambler. -/
def otuSlices (n : Nat) (frame : List Nat) : List (List Nat) := (List.range n).map (fun k => deinterleave n k frame)

/-- BIP-8 violations of slices: bits of the received BIP-8 that differ from the one computed two frames ago, 0 before there is
one (R276). -/
def bipViol (due : Option (List Nat)) (got : List Nat) : List Nat :=
  match due with
  | none => got.map (fun _ => 0)
  | some d => got.mapIdx (fun k b => (List.range 8).foldl (fun x i => x + b2n ((b ^^^ d.getD k 0).testBit i)) 0)

/-- The overhead of received slice frames (R273 to R277). -/
def readOverhead (slices : List (List Nat)) (due : Option (List Nat)) : RxOverhead :=
  let s0 := slices.headD []
  let sm := sliceAt s0 1 10
  { mfas := sliceAt s0 1 7
    tti := sliceAt s0 1 8
    psi := slices.map (fun f => sliceAt f 4 15)
    stat := sliceAt s0 3 12 % 8
    viol := bipViol due (slices.map (fun f => sliceAt f 1 9))
    bei := slices.map (fun f => sliceAt f 1 10 / 16)
    bdi := sm.testBit 3
    iae := sm.testBit 2
    dmp := (sliceAt s0 2 3).testBit 1
    pmViol := bipViol due (slices.map (fun f => sliceAt f 3 11)) }

end Sys2Proof.Machine
end

