-- ==== Sys2Proof/Machine/Framer.lean ====
section
/-! DEFINITION. Line framing of a carrier: aligners, overhead, defects and consequent actions, performance seconds, the
DUAL selector (R261 to R296), and the hold of R345 that goes with it. -/

namespace Sys2Proof.Machine

open Sys2Proof

/-- The FRAMER state of a carrier that no register shows. -/
def State.mh (s : State) (c : Carrier) : FrmH := s.frm.get c
/-- That state replaced. -/
def State.setMh (s : State) (c : Carrier) (h : FrmH) : State := { s with frm := s.frm.set c h }

/-- n of a carrier (R261). -/
def otuN (s : State) (c : Carrier) : Nat := s.getC c R.FRM_CFG.N
/-- A byte of a window whose words hold four bytes each, the first in bits 7:0 (R351). -/
def windowByte (s : State) (base i : Nat) : Nat := s.get (wordAt (base + 4 * (i / 4))) / 256 ^ (i % 4) % 256
/-- A byte of such a window written. -/
def setWindowByte (s : State) (base i v : Nat) : State :=
  let f := wordAt (base + 4 * (i / 4))
  s.set f (s.get f + (v % 256) * 256 ^ (i % 4) - windowByte s base i * 256 ^ (i % 4))

/-- Both carriers form a DUAL group (R36). -/
def inDual (s : State) : Bool := s.mode .A == mDUAL && s.mode .B == mDUAL
/-- The carrier whose slot maps serve a carrier (R340). -/
def mapCarrier (s : State) (c : Carrier) : Carrier := if inDual s then .A else c
/-- First byte of the transmit slot map (R351). -/
def txMapBase (c : Carrier) : Nat := 0x40308000 + 0x400 * c.num
/-- First byte of the receive slot map (R351). -/
def rxMapBase (c : Carrier) : Nat := 0x40308200 + 0x400 * c.num

/-! Aligner states (R268, R290). -/

/-- HUNT. -/
def aHUNT : Nat := 0
/-- PRESYNC. -/
def aPRESYNC : Nat := 1
/-- SYNC. -/
def aSYNC : Nat := 2

/-- The state of the line aligner of an output, X = 0, Y = 1. -/
def lfState (s : State) (c : Carrier) (o : Nat) : Nat :=
  s.getC c (if o = 0 then R.FRM_STAT.LF_X else R.FRM_STAT.LF_Y)
/-- That state changed. -/
def setLf (s : State) (c : Carrier) (o st : Nat) : State :=
  s.setC c (if o = 0 then R.FRM_STAT.LF_X else R.FRM_STAT.LF_Y) st
/-- The line aligner of an output. -/
def lfOf (h : FrmH) (o : Nat) : Aligner := if o = 0 then h.lfX else h.lfY
/-- The line aligner of an output replaced. -/
def lfPut (h : FrmH) (o : Nat) (a : Aligner) : FrmH := if o = 0 then { h with lfX := a } else { h with lfY := a }

/-- Both line aligners are in SYNC. -/
def lineInSync (s : State) (c : Carrier) : Bool := lfState s c 0 == aSYNC && lfState s c 1 == aSYNC
/-- The FAS aligner is in SYNC. -/
def fasInSync (s : State) (c : Carrier) : Bool := s.getC c R.FRM_STAT.FAS_STATE == aSYNC
/-- The multiframe aligner is in SYNC. -/
def mfInSync (s : State) (c : Carrier) : Bool := s.getC c R.FRM_STAT.MF_STATE == aSYNC
/-- Every aligner that the mode uses is in SYNC; in ZR400 the line aligners alone (R272). -/
def allInSync (s : State) (c : Carrier) : Bool :=
  lineInSync s c && (s.mode c == mZR400 || (fasInSync s c && mfInSync s c))

/-- The receive side of FRAMER works: running and not stopping (R289). -/
def frmOn (s : State) (c : Carrier) : Bool := s.running (.framer c) && !s.stopping (.framer c)

/-! Defects (R278 to R280). -/

/-- A defect is declared. -/
def hasDefect (s : State) (c : Carrier) (d : Nat) : Bool := bitOf (s.getC c R.FRM_DEFECT.CURRENT) d
/-- A defect is forced (R280). -/
def defectForced (s : State) (c : Carrier) (d : Nat) : Bool :=
  frmOn s c && bitOf (s.getC c R.FRM_FORCE.FORCE) d
/-- A defect of the hierarchy above `d` is declared (R279). -/
def suppressed (s : State) (c : Carrier) (d : Nat) : Bool :=
  decide (d ≤ 13) && (List.range (min d 4)).any (hasDefect s c)

/-- The mode evaluates the defect (R278). -/
def defectEvaluated (m d : Nat) : Bool :=
  if d = 0 ∨ d = 1 then m != mDAWNRX
  else if d = 2 ∨ d = 3 ∨ (5 ≤ d ∧ d ≤ 10) then m != mZR400
  else if d = 12 then m != mREGEN && m != mZR400
  else if d = 13 then m != mREGEN && m != mBEXA && m != mZR400
  else if d = 14 ∨ d = 15 then m == mDUAL
  else true

/-- Nothing that must come in consecutive multiframes has come so far: TTI, PT and MSI (R273, R274). -/
def FrmH.newMultiframes (h : FrmH) : FrmH :=
  { h with ttiWhole := false, ttiRun := 0, pt := ⟨h.pt.last, 0⟩, msiWhole := false, msiRun := 0 }

/-- Nothing that must come in consecutive frames, windows or seconds below the line aligners has come so far (R275, R276,
R279). -/
def FrmH.newRuns (h : FrmH) : FrmH :=
  { h with
    stat := ⟨h.stat.last, 0⟩, bdi := ⟨0, 0⟩, iae := ⟨0, 0⟩, fecxBad := 0, fecxGood := 0, degBad := 0, degGood := 0 }

/-- No OTUCn frame follows the last one received: nothing goes back as its BEI, and no BIP-8 of it is awaited (R273, R276). -/
def FrmH.noFrames (h : FrmH) : FrmH :=
  { h.newMultiframes with
    rxBips := [], beiOut := [], pmBeiOut := [], dmHits := 0, stat := ⟨h.stat.last, 0⟩, bdi := ⟨0, 0⟩, iae := ⟨0, 0⟩ }

/-- A declared defect cleared, unless it is forced (R278, R280). -/
def clearDefect (s : State) (c : Carrier) (d : Nat) : State :=
  if hasDefect s c d && !defectForced s c d then
    (s.setC c R.FRM_DEFECT.CURRENT (clrBit (s.getC c R.FRM_DEFECT.CURRENT) d)).raiseC c E.FRM_DEFECT d
  else s

/-- A defect declared; those below it in the hierarchy are cleared, and what declares them counts anew (R278, R279). -/
def declareDefect (s : State) (c : Carrier) (d : Nat) : State :=
  if hasDefect s c d then s
  else
    let s := s.setC c R.FRM_DEFECT.CURRENT (setBit (s.getC c R.FRM_DEFECT.CURRENT) d)
    let s := s.setC c R.FRM_DEFECT.LATCHED (setBit (s.getC c R.FRM_DEFECT.LATCHED) d)
    let s := s.raiseC c E.FRM_DEFECT (256 + d)
    if d ≤ 3 then
      (List.range 14).foldl (fun s e => if d < e then clearDefect s c e else s) (s.setMh c (s.mh c).newRuns)
    else s

/-- A defect as its condition says, where the mode evaluates it and the hierarchy lets it (R278, R279). -/
def setDefect (s : State) (c : Carrier) (d : Nat) (on : Bool) : State :=
  if on then (if suppressed s c d || !defectEvaluated (s.mode c) d then s else declareDefect s c d)
  else clearDefect s c d

/-- R281: aSF. -/
def aSF (s : State) (c : Carrier) : Bool :=
  (List.range 8).any (hasDefect s c) || hasDefect s c 12 || (hasDefect s c 8 && s.onC c R.FRM_TTI_CTRL.TIM_ACT)

/-- R281: aBDI as sent. -/
def aBDI (s : State) (c : Carrier) : Bool :=
  (s.mode c != mDAWNRX && s.mode c != mDAWNTX && s.mode c != mZR400) &&
  ((List.range 5).any (hasDefect s c) || (hasDefect s c 8 && s.onC c R.FRM_TTI_CTRL.TIM_ACT) ||
    s.onC c R.FRM_TX_MAINT.BDI_FORCE)

/-- R273: the accepted TTI differs from the expected one in what TIM_MODE compares. -/
def ttiMismatch (s : State) (c : Carrier) : Bool :=
  let m := s.getC c R.FRM_TTI_CTRL.TIM_MODE
  let base := blkBase (.framer c)
  let differ := fun (i : Nat) => s.get (wordAt (base + 0x180 + 4 * i)) != s.get (wordAt (base + 0x140 + 4 * i))
  (s.mh c).ttiKnown && ((bitOf m 0 && (List.range 4).any differ) || (bitOf m 1 && (List.range 4).any (fun i => differ (i + 4))))

/-- R274: the accepted MSI differs from the receive slot map on some slot. -/
def msiMismatch (s : State) (c : Carrier) : Bool :=
  (s.mh c).msiKnown && (List.range (20 * otuN s c)).any (fun i =>
    windowByte s (blkBase (.framer c) + 0x200) i != slotByte (windowByte s (rxMapBase (mapCarrier s c)) i))

/-- Defects that follow from what stands in registers: dLOS, dTIM, dPLM, dMSIM, and the forced ones (R273, R274, R278,
R280). -/
def defectLevels (s : State) (c : Carrier) : State :=
  let s := (List.range 16).foldl (fun s d => if defectForced s c d then declareDefect s c d else s) s
  let s := setDefect s c 0 (s.onC c R.RXDSP_STAT.LOL)
  let s := setDefect s c 8 (ttiMismatch s c)
  let s := setDefect s c 12
    ((s.mh c).ptKnown && s.onC c R.FRM_CFG.PT_CHK && s.getC c R.FRM_CFG.ACC_PT != s.getC c R.FRM_CFG.EXP_PT)
  setDefect s c 13 (msiMismatch s c)

/-! Consequent actions (R280, R281, R285). -/

/-- A carrier of the DUAL group is excluded (R283). -/
def excluded (s : State) (c : Carrier) : Bool :=
  s.onC .A (match c with | .A => R.FRM_DUAL_STAT.EXCL_A | .B => R.FRM_DUAL_STAT.EXCL_B)

/-- The carrier that the selector has selected. -/
def selectedCarrier (s : State) : Carrier := if s.onC .A R.FRM_DUAL_STAT.SEL then .B else .A

/-- A cause of exclusion other than wait-to-restore holds (R283). -/
def exclusionCause (s : State) (c : Carrier) : Bool :=
  aSF s c || hasDefect s c 15 || (hasDefect s c 14 && selectedCarrier s != c)

/-- A carrier excluded or readmitted, with its event at the selector (R282, R283). -/
def setExcluded (s : State) (c : Carrier) (on : Bool) : State :=
  let f := match c with | .A => R.FRM_DUAL_STAT.EXCL_A | .B => R.FRM_DUAL_STAT.EXCL_B
  if s.onC .A f = on then s else (s.setBC .A f on).raiseC .A E.FRM_DUAL_EXCL (c.num + 256 * b2n on)

/-- Exclusion of a carrier as its causes stand; wait-to-restore is 0 none, 1 to come, 2 running (R283). -/
def exclusion (s : State) (c : Carrier) : State :=
  if !inDual s then setExcluded (s.setMh c { s.mh c with wtr := 0 }) c false
  else if exclusionCause s c then setExcluded (s.setMh c { s.mh c with wtr := 1 }) c true
  else if (s.mh c).wtr = 0 then setExcluded s c false
  else if !allInSync s c then s.setMh c { s.mh c with wtr := 1 }
  else if s.getC .A R.FRM_DUAL.WTR = 0 then setExcluded (s.setMh c { s.mh c with wtr := 0 }) c false
  else if (s.mh c).wtr = 2 then s
  else (s.setMh c { s.mh c with wtr := 2 }).mark (.wtr c)

/-- The condition of the pair switch request, the hold-off left out (R285). -/
def psrCondition (s : State) (c : Carrier) : Bool :=
  if !frmOn s c || s.mode c == mDIAG then false
  else if inDual s then c == .A && excluded s .A && excluded s .B
  else aSF s c && (s.getC c R.FRM_DEFECT.CURRENT &&& s.getC c R.FRM_ACT.PSR_MASK) != 0

/-- PSR takes a value (R285). -/
def setPsr (s : State) (c : Carrier) (on : Bool) : State :=
  if s.onC c R.FRM_STAT.PSR = on then s else (s.setBC c R.FRM_STAT.PSR on).raiseC c E.FRM_PSR (b2n on)

/-- The request as its condition stands; a hold-off of 0 asserts it at once, another counts from where the condition began
(R285). -/
def psrRefresh (s : State) (c : Carrier) : State :=
  let on := psrCondition s c
  let s := if on && !(s.mh c).psrOn then s.mark (.psr c) else s
  let s := s.setMh c { s.mh c with psrOn := on }
  if !on then setPsr s c false
  else if s.getC c R.FRM_ACT.PSR_HOLDOFF = 0 then setPsr s c true
  else s

/-- SSF to the client mapper (R281, R289). -/
def ssfRefresh (s : State) (c : Carrier) : State :=
  let on := !frmOn s c || aSF s c || !allInSync s c
  if s.onC c R.FRM_STAT.SSF = on then s else (s.setBC c R.FRM_STAT.SSF on).raiseC c E.FRM_SSF (b2n on)

/-- The aligners of defect 1, 2 or 3 are in SYNC. -/
def syncHolds (s : State) (c : Carrier) (d : Nat) : Bool :=
  if d = 1 then lineInSync s c else if d = 2 then fasInSync s c else mfInSync s c

/-- What the timer of defect 1, 2 or 3 times: 2 in SYNC, 1 out of it, 0 nothing, under a defect above it, and in DAWN-RX outside
bursts (R278, R279). -/
def syncTimed (s : State) (c : Carrier) (d : Nat) : Nat :=
  if !frmOn s c || suppressed s c d ||
      (s.mode c == mDAWNRX && !decide (dLATCHED ≤ dawnState s c ∧ dawnState s c ≤ dCOLD)) then 0
  else if syncHolds s c d then 2 else 1

/-- The timers of defects 1 to 3 restart where what they time changes. -/
def syncTimers (s : State) (c : Carrier) : State :=
  let now := [1, 2, 3].map (syncTimed s c)
  let s := [1, 2, 3].foldl (fun s d => if now.getD (d - 1) 0 = (s.mh c).syncs.getD (d - 1) 0 then s else s.mark (.sync c d)) s
  s.setMh c { s.mh c with syncs := now }

/-- Defects and what one carrier derives from them. -/
def frmOwn (s : State) (c : Carrier) : State :=
  let s := if frmOn s c then defectLevels s c else s
  let s := syncTimers s c
  let s := ssfRefresh s c
  let forced := s.getC c R.FRM_FORCE.FORCE != 0 || s.onC c R.FRM_FORCE.BIP_INJ
  let s := s.setBC c R.FRM_STAT.FORCED forced
  let s := s.setBC c R.FRM_STAT.BEXA_IDLE (s.mode c == mBEXA &&
    (((s.mh c).ptKnown && s.getC c R.FRM_CFG.ACC_PT == 0xFD) || hasDefect s c 6))
  let h := s.mh c
  s.setMh c { h with
    neDef := h.neDef || (if s.mode c = mZR400 then hasDefect s c 0 || hasDefect s c 1 || hasDefect s c 4 else aSF s c)
    feDef := h.feDef || hasDefect s c 9
    secForced := h.secForced || forced
    secStopped := h.secStopped || !frmOn s c }

/-- Everything that follows from a change at a FRAMER; in DUAL the carriers depend on each other (R281 to R285). -/
def frmRefresh (s : State) (c : Carrier) : State :=
  let s := exclusion (exclusion (frmOwn s c) .A) .B
  psrRefresh (psrRefresh s .A) .B

/-! Start and stop (R289). -/

/-- The largest n that REGEN across the board carries (R37). -/
def regenLimit (s : State) : Nat := if s.on R.POD_STAT.BONDED then 7 else 3

/-- R289: the start checks; 0 when all pass. -/
def frmCfgCode (s : State) (c : Carrier) : Nat :=
  let m := s.mode c
  let n := otuN s c
  if m != mZR400 && m != mDIAG && !decide (1 ≤ n ∧ n ≤ 20) then 1
  else if m == mDUAL && n != otuN s c.other then 2
  else if m == mREGEN && s.on (R.SYS_CMODE.REGEN_XDEV.ix c.num) && decide (regenLimit s < n) then 3
  else 0

/-- The event data of EV_MODE_MISMATCH (R35, R37). -/
def mismatchData (s : State) : Nat :=
  s.mode .A + 8 * s.get (R.SYS_CMODE.REGEN_XDEV.ix 0) + 256 * s.mode .B + 2048 * s.get (R.SYS_CMODE.REGEN_XDEV.ix 1)

/-- Every aligner hunts, from what comes next on; nothing is counted (R272, R289). -/
def huntAll (s : State) (c : Carrier) : State :=
  let s := (setLf (setLf s c 0 aHUNT) c 1 aHUNT).setC c R.FRM_STAT.FAS_STATE aHUNT
  let s := s.setC c R.FRM_STAT.MF_STATE aHUNT
  s.setMh c { (s.mh c).noFrames with
    lfX := .reset, lfY := .reset, posX := 0, posY := 0, fas := .reset, mf := .reset, fasDirect := false, tested := false
    rxBits := .nil, rxHead := (s.mh c).rxHead + (s.mh c).rxBits.len }

/-- D is not set, and nothing is held (R282, R345). -/
def delayClear (s : State) : State :=
  let s := (s.setBC .A R.FRM_DUAL_STAT.ALIGNED false).setMh .A { s.mh .A with delay := none }
  (s.set R.CL_DUAL.HOLD_NS 0).setB R.CL_DUAL.CLAMPED false

/-- Without a DUAL group there is no delay (R282, R345). -/
def dualFollow (s : State) : State := if inDual s then s else delayClear s

/-- The selector of the DUAL group after a start of the FRAMER it sits in: Carrier A selected, D not set (R282). -/
def selectorStart (s : State) (c : Carrier) : State :=
  if c = .A then delayClear (s.setBC .A R.FRM_DUAL_STAT.SEL false) else s

/-- The active transmit slot map of a carrier; REGEN and DIAG carry no client traffic (R339, R340). -/
def txMapNow (s : State) (c : Carrier) : List Nat :=
  if s.mode c = mREGEN ∨ s.mode c = mDIAG then [] else (List.range 400).map (windowByte s (txMapBase (mapCarrier s c)))
/-- Likewise the receive slot map. -/
def rxMapNow (s : State) (c : Carrier) : List Nat :=
  if s.mode c = mREGEN ∨ s.mode c = mDIAG then [] else (List.range 400).map (windowByte s (rxMapBase (mapCarrier s c)))

/-- The start of FRAMER once RUN reads 1 (R35, R37, R289, R672). -/
def frmTryStart (s : State) (c : Carrier) : State :=
  if s.modeErr then s.wait (.framer c)
  else
    let code := frmCfgCode s c
    if code ≠ 0 then
      let s := (((s.unwait (.framer c)).setBC c R.FRM_STAT.CFG_ERR true).setC c R.FRM_STAT.CFG_CODE code).raiseC c
        E.FRM_CFG_ERR code
      if code = 3 then s.raise E.MODE_MISMATCH (mismatchData s + 0x10000 + 0x20000 * c.num) else s
    else if !s.clockReady (.framer c) then s.wait (.framer c)
    else
      let s := (s.transfer (.framer c)).unwait (.framer c)
      let s := (s.set (runningF (.framer c)) 1).setBC c R.FRM_STAT.CFG_ERR false
      let s := s.setMh c { s.mh c with
        txMfas := 0, bips := [], dmPending := false, dmRunning := false, txQ := [], txMap := txMapNow s c, txHeld := [] }
      frmRefresh (selectorStart (huntAll s c) c) c

/-- FRAMER_RUN_CLEAR: transmission ends with the frame in progress; the aligners hunt, the defects clear, SSF is asserted
(R289). -/
def frmStop (s : State) (c : Carrier) : State :=
  let s := huntAll (s.clearRun (.framer c)) c
  let s := (List.range 16).foldl (fun s d => clearDefect s c d) s
  frmRefresh s c

/-! Transmission (R261, R262, R265, R266, R275 to R277). -/

/-- REGEN of this carrier goes across the board (R37). -/
def acrossBoard (s : State) (c : Carrier) : Bool := s.mode c == mREGEN && s.on (R.SYS_CMODE.REGEN_XDEV.ix c.num)

/-- PM STAT sent: MAINT, or ODUCn-AIS while the partner gives SSF in REGEN (R275, R281, R292). -/
def txStat (s : State) (c : Carrier) : Nat :=
  let m := s.getC c R.FRM_TX_MAINT.MAINT
  if s.mode c = mREGEN ∧ !acrossBoard s c ∧ s.onC c.other R.FRM_STAT.SSF then 7
  else if m = 1 then 7 else if m = 2 then 6 else if m = 3 then 5 else 1

/-- The PSI byte of slice `k` (from 0) in the frame with an MFAS (R265). -/
def psiByte (s : State) (c : Carrier) (mfas k : Nat) : Nat :=
  if mfas = 0 then s.getC c R.FRM_CFG.TX_PT
  else if 2 ≤ mfas ∧ mfas ≤ 21 then slotByte (windowByte s (txMapBase (mapCarrier s c)) (20 * k + (mfas - 2)))
  else 0

/-- The BIP-8 of the frame two before the next one to start: of those that have gone out whole the last but one, or the last,
while the frame between is on its way (R276). -/
def dueBip (h : FrmH) : List Nat :=
  match h.txQ.length, h.bips with
  | 0, [b, _] => b
  | 1, l => l.getLastD []
  | _, _ => []

/-- The overhead of the next frame, with the BIP-8 of the frame two before it, in SM one bit of slice 1 inverted by BIP_INJ.
When PM BDI is sent, the spec leaves to G.709: the model sends it under aSF (log entry 103). -/
def nextOverhead (s : State) (c : Carrier) : TxOverhead :=
  let h := s.mh c
  let n := otuN s c
  let due := dueBip h
  let bip := (List.range n).map (fun k =>
    let b := due.getD k 0
    if k = 0 ∧ s.onC c R.FRM_FORCE.BIP_INJ then b ^^^ 1 else b)
  { mfas := h.txMfas
    tti := windowByte s (blkBase (.framer c) + 0x100) (h.txMfas % 64)
    psi := (List.range n).map (psiByte s c h.txMfas)
    stat := txStat s c
    bip := bip
    bei := h.beiOut
    biae := hasDefect s c 10
    bdi := aBDI s c
    iae := s.mode c == mREGEN && !acrossBoard s c && !fasInSync s c.other
    dmp := if s.onC c R.FRM_DM.DM_LOOP then h.dmpRx else xor h.txOh.dmp h.dmPending
    pmBip := (List.range n).map (fun k => due.getD k 0)
    pmBei := h.pmBeiOut
    pmBdi := aSF s c }

/-- Two frames' BIP-8, the older first, once another frame has come. -/
def pushBip (l : List (List Nat)) (b : List Nat) : List (List Nat) := (if 2 ≤ l.length then l.drop 1 else l) ++ [b]

/-- What REGEN sends: the frame received last on the partner carrier, across the board the one that came in as a STREAM (R37,
R261, R402). -/
def regenFrame (s : State) (c : Carrier) : OtuFwd := if acrossBoard s c then (s.mh c).stream else (s.mh c.other).rxFrame

/-- The slots of the next frame get their words from their owners, other words stay 0; what waits for the owners shrinks
(R262, R336, R339, R341). -/
def dealFrame (s : State) (c : Carrier) : Deal :=
  let h := s.mh c
  let n := otuN s c
  let new := txMapNow s c
  let old := if h.txHeld.isEmpty then h.txMap else h.txOld
  let held := if new = h.txMap then h.txHeld else (h.txHeld ++ movedOwners s h.txMap new).eraseDups
  let s := s.setMh c { h with txMap := new, txOld := old }
  let x := (List.range (956 * n)).foldl (fun (x : Deal) w =>
    if payloadWord n w then x.slot (old.getD (wordSlot n w) 0) (new.getD (wordSlot n w) 0)
    else { x with words := x.words ++ [List.replicate 16 0] }) ⟨s, [], [], held⟩
  { x with s := x.s.setMh c { x.s.mh c with txHeld := x.held } }

/-- What the next frame is made of, and the frame as far as that tells it: in REGEN the frame to send on, on Carrier B of a
DUAL group nothing, since its payload is Carrier A's as CIPHER gives it, else what the slots' owners have (R320, R340). -/
def frmPayload (s : State) (c : Carrier) : State × List Nat × OtuTx :=
  if s.mode c = mREGEN then
    let f := regenFrame s c
    (s, f.bytes, ⟨[], f.tags, f.start, [], []⟩)
  else if inDual s && c == .B then (s, [], ⟨[], [], none, [], []⟩)
  else
    let x := dealFrame s c
    (x.s, x.words.flatten, ⟨[], [], none, busyOwners s (txMapNow s c), x.begun⟩)

/-- FRAMER_TX_FRAME: an OTUCn frame starts (R261, R262); in DAWN-TX only one that ends within the burst's data (R266). Its
words go through CIPHER and the scrambler as FEC draws them (R263, R300); without an encoder that runs, those of the frame
before are gone. A stopping FRAMER has sent its last frame (R289); in ZR400 there is none (R340). -/
def frmTxFrame (s : State) (c : Carrier) : State :=
  if !s.running (.framer c) then s
  else if s.stopping (.framer c) then frmRefresh (s.stopPoint (.framer c)) c
  else if s.mode c = mZR400 ∨ s.mode c = mDAWNTX ∧ !(s.onC c R.TX_STAT.BURST && decide (0 < (s.mh c).txLeft)) then s
  else
    let oh := nextOverhead s c
    let x := frmPayload s c
    let f := { x.2.2 with words := otuWords (otuN s c) oh (s.mode c == mREGEN) x.2.1 }
    let h := x.1.mh c
    x.1.setMh c { h with
      txOh := oh, txMfas := (h.txMfas + 1) % 256, txQ := (if s.onC c R.FEC_STAT.ENC_ACTIVE then h.txQ else []) ++ [f]
      txLeft := h.txLeft - 1, dmPending := false, beiOut := [], pmBeiOut := []
      dmSentAt := if h.dmPending then some s.time.aon else h.dmSentAt }

/-- Data bits of a burst of `n` line frames: whole codewords from each anchor frame to the next (R230). -/
def burstDataBits (s : State) (c : Carrier) (n : Nat) : Nat :=
  let cws := fun (m : Nat) => m * 4088 * txBlockBits s c / 30720
  (n / 64 * cws 64 + cws (n % 64)) * encDataBits s c

/-- Data bits that `k` OTUCn frames take in a burst of `n` line frames, with the device overhead blocks: an anchor block at each
anchor frame, a tag block after each segment (R264, R304). -/
def burstCost (s : State) (c : Carrier) (n k : Nat) : Nat :=
  let seg := max 1 (s.getC c R.CIPH_CFG.SEG_KIB) * 1024
  k * otuN s c * 122368 + 192 * ((n + 63) / 64) + 128 * ((k * otuN s c * 15232 + seg - 1) / seg)

/-- The largest number up to `k` whose cost is within `d`. -/
def fitDown (cost : Nat → Nat) (d : Nat) : Nat → Nat
  | 0 => 0
  | k + 1 => if cost (k + 1) ≤ d then k + 1 else fitDown cost d k

/-- OTUCn frames of a burst of `n` line frames (R266, R305). -/
def burstOtus (s : State) (c : Carrier) (n : Nat) : Nat :=
  let d := burstDataBits s c n
  fitDown (burstCost s c n) d (d / (122368 * max 1 (otuN s c)))

/-- A Dawn burst of this carrier begins: its first OTUCn frame has MFAS 0 (R266). -/
def frmBurstBegin (s : State) (c : Carrier) : State :=
  let k := burstOtus s c (s.getC c R.TX_BURST.FRAMES_LEFT)
  s.setMh c { s.mh c with txMfas := 0, bips := [], txLeft := k, txBurst := k, txQ := [] }

/-! Alignment (R267 to R272). -/

/-- R267, R272: most differing bits of a hit on the line pattern. -/
def lineTolerance (s : State) (c : Carrier) : Nat := if s.mode c = mBEXA then 16 else 24

/-- R268 for a line aligner. -/
def lineStep (s : State) (c : Carrier) (o : Nat) (hit : Bool) (pol : Nat) : State :=
  let h := s.mh c
  let a := lfOf h o
  let st := lfState s c o
  if st = aHUNT then
    if hit then (setLf s c o aPRESYNC).setMh c (lfPut h o ⟨1, 0, pol⟩) else s
  else if st = aPRESYNC then
    if !hit then setLf s c o aHUNT
    else if 4 ≤ a.count + 1 then (setLf s c o aSYNC).setMh c (lfPut h o ⟨4, 0, pol⟩)
    else s.setMh c (lfPut h o ⟨a.count + 1, 0, pol⟩)
  else if hit then s.setMh c (lfPut h o { a with miss := 0, pol := pol })
  else if 5 ≤ a.miss + 1 then
    ((setLf s c o aHUNT).setMh c (lfPut h o ⟨0, 0, pol⟩)).bumpC c R.FRM_CNT0.LF_OOF
  else s.setMh c (lfPut h o { a with miss := a.miss + 1 })

/-- ACQ_FRAME_LOCK: both outputs in-frame, each on its own polarisation's sync word or both on the same (R155). -/
def acqFrameLock (s : State) (c : Carrier) : State :=
  if s.running (.framer c) && lineInSync s c then acqInFrame s c (s.mh c).lfX.pol (s.mh c).lfY.pol else s

/-- Bits of the line pattern: 384, in BEXA the first 256 of them (R49, R70, R267). -/
def lineBits (s : State) (c : Carrier) : Nat := if s.mode c = mBEXA then 256 else 384

/-- Differing bits between hard decisions, in sending order from bit 0, and the sync word of a polarisation, X = 0, Y = 1
(R267). -/
def lineDiff (s : State) (c : Carrier) (pol bits : Nat) : Nat :=
  let n := lineBits s c
  countBits n (bits ^^^ (bitsStr (syncBits n pol)).val)

/-- The alignment of ZR400, shown as the state of both line aligners (R272). -/
def zrAlign (s : State) (c : Carrier) (bits : Nat) : State :=
  let st := Config.zrAlign (lfState s c 0) bits % 3
  (setLf (setLf s c 0 st) c 1 st).setMh c { s.mh c with lfX := ⟨0, 0, 0⟩, lfY := ⟨0, 0, 1⟩ }

/-- Symbols from one line pattern to the next (R267, R272). -/
def lineSpacing (s : State) (c : Carrier) : Nat := if s.mode c = mBEXA then 65536 else 131072

/-- The position of a line aligner's last check, while it hunts the first one that it may test (R268). -/
def lfPos (h : FrmH) (o : Nat) : Nat := if o = 0 then h.posX else h.posY
/-- That position replaced. -/
def lfMove (h : FrmH) (o p : Nat) : FrmH := if o = 0 then { h with posX := p } else { h with posY := p }

/-- A line aligner tests this position: any while it hunts, behind the check that failed; else the one at the spacing (R267, R268,
R271). -/
def lineTests (s : State) (c : Carrier) (o pos : Nat) : Bool :=
  if lfState s c o = aHUNT then decide (lfPos (s.mh c) o ≤ pos) else pos == lfPos (s.mh c) o + lineSpacing s c

/-- LINE_ALIGN_CHECK of output `o` (0 X, 1 Y) with the hard decisions from the symbol at `pos` on; symbols are counted along the
output's stream, in a Dawn burst from frame 0 on (R267, R268, R272). -/
def lineAlignCheck (s : State) (c : Carrier) (o bits pos : Nat) : State :=
  if !frmOn s c then s
  else if s.mode c = mZR400 then frmRefresh (acqFrameLock (zrAlign s c bits) c) c
  else if !lineTests s c o pos then s
  else
    let dx := lineDiff s c 0 bits
    let dy := lineDiff s c 1 bits
    let s := lineStep s c o (decide (min dx dy ≤ lineTolerance s c)) (if dx ≤ dy then 0 else 1)
    let s := s.setMh c (lfMove (s.mh c) o (if lfState s c o = aHUNT then pos + 1 else pos))
    frmRefresh (acqFrameLock s c) c

/-- Bits of the FAS of slice 1 that differ in a stream at its first bit (R267). -/
def fasDiff (x : BitStr) : Nat := countBits 48 ((x.take 48).val ^^^ (byteStr fasBytes).val)
/-- The MFAS behind that FAS: its byte after the descrambler (R263). -/
def fasMfasOf (x : BitStr) : Nat := (strBytes ((x.drop 48).take 8)).headD 0 ^^^ (otuMask 0xFFFF).2
/-- A stream from the first position on where all 48 bits match, or where too little is left to test (R267). -/
def fasSeek : Nat → BitStr → BitStr
  | 0, x => x
  | n + 1, x => if x.len < 56 || fasDiff x == 0 then x else fasSeek n (x.drop 1)

/-- R269, in a frame in which the FAS aligner stays in SYNC. -/
def mfStep (s : State) (c : Carrier) (mfas : Nat) : State :=
  let h := s.mh c
  let st := s.getC c R.FRM_STAT.MF_STATE
  let next := (h.mfExpect + 1) % 256
  if st = aHUNT then
    (s.setC c R.FRM_STAT.MF_STATE aPRESYNC).setMh c { h with mfExpect := (mfas + 1) % 256, mf := ⟨1, 0, 0⟩ }
  else if st = aPRESYNC then
    if mfas ≠ h.mfExpect then s.setC c R.FRM_STAT.MF_STATE aHUNT
    else if 4 ≤ h.mf.count + 1 then
      (s.setC c R.FRM_STAT.MF_STATE aSYNC).setMh c { h with mfExpect := next, mf := ⟨4, 0, 0⟩ }
    else s.setMh c { h with mfExpect := next, mf := ⟨h.mf.count + 1, 0, 0⟩ }
  else if mfas = h.mfExpect then s.setMh c { h with mfExpect := next, mf := { h.mf with miss := 0 } }
  else if 5 ≤ h.mf.miss + 1 then
    (s.setC c R.FRM_STAT.MF_STATE aHUNT).setMh c { h.newMultiframes with mf := ⟨0, 0, 0⟩ }
  else s.setMh c { h with mfExpect := next, mf := { h.mf with miss := h.mf.miss + 1 } }

/-- The FAS aligner enters SYNC, and the multiframe aligner with it (R268, R269). -/
def fasSync (s : State) (c : Carrier) (mfas : Nat) : State :=
  let s := (s.setC c R.FRM_STAT.FAS_STATE aSYNC).setC c R.FRM_STAT.MF_STATE aSYNC
  s.setMh c { s.mh c with fas := ⟨4, 0, 0⟩, fasMfas := mfas, mfExpect := (mfas + 1) % 256, mf := ⟨4, 0, 0⟩ }

/-- The FAS aligner leaves SYNC, and the multiframe aligner with it. -/
def fasLost (s : State) (c : Carrier) : State :=
  let s := (s.setC c R.FRM_STAT.FAS_STATE aHUNT).setC c R.FRM_STAT.MF_STATE aHUNT
  (s.setMh c { (s.mh c).noFrames with fas := ⟨0, 0, 0⟩, mf := ⟨0, 0, 0⟩ }).bumpC c R.FRM_CNT0.FAS_OOF

/-- R268 for the FAS aligner, with the number of differing FAS bits and the MFAS. -/
def fasStep (s : State) (c : Carrier) (diff mfas : Nat) : State :=
  let h := s.mh c
  let st := s.getC c R.FRM_STAT.FAS_STATE
  if st = aHUNT then
    if diff ≠ 0 then s.setMh c { h with fasDirect := false }
    else if h.fasDirect then fasSync (s.setMh c { h with fasDirect := false }) c mfas
    else (s.setC c R.FRM_STAT.FAS_STATE aPRESYNC).setMh c { h with fas := ⟨1, 0, 0⟩, fasMfas := mfas }
  else if st = aPRESYNC then
    if diff ≠ 0 ∨ mfas ≠ (h.fasMfas + 1) % 256 then s.setC c R.FRM_STAT.FAS_STATE aHUNT
    else if 4 ≤ h.fas.count + 1 then fasSync s c mfas
    else s.setMh c { h with fas := ⟨h.fas.count + 1, 0, 0⟩, fasMfas := mfas }
  else if diff ≤ 3 then mfStep (s.setMh c { h with fas := { h.fas with miss := 0 }, fasMfas := mfas }) c mfas
  else if 5 ≤ h.fas.miss + 1 then fasLost s c
  else mfStep (s.setMh c { h with fas := { h.fas with miss := h.fas.miss + 1 } }) c mfas

/-- The hold in force for a skew: at most 64 µs on die, 100 ms where store assist holds the copies (R284, R345, R374). -/
def holdOf (s : State) (skew : Nat) : Nat :=
  if s.onC .A R.FRM_DUAL.STORE_ASSIST && s.on R.STORE_STAT.ASSIST_ACT then min skew 100000000 else min skew 64000

/-- D is set once, when both carriers first have every aligner in SYNC: the skew (arrival of B less that of A, in ns) plus
2 µs; a hold beyond the buffer is clamped (R282, R345). -/
def dualDelaySet (s : State) (skew : Int) : State :=
  if !inDual s || s.onC .A R.FRM_DUAL_STAT.ALIGNED || !(allInSync s .A && allInSync s .B) then s
  else
    let hold := holdOf s skew.natAbs
    let s := s.setMh .A { s.mh .A with delay := some (hold + 2000) }
    let s := s.setBC .A R.FRM_DUAL_STAT.ALIGNED true
    let s := (s.set R.CL_DUAL.HOLD_NS (satTo 16 hold)).setB R.CL_DUAL.CLAMPED (decide (hold < skew.natAbs))
    if hold < skew.natAbs then s.raise E.CL_DUAL_DEPTH (skew.natAbs / 1000) else s

/-- DSKEW_NS shows the arrival of B less that of A while both carriers have every aligner in SYNC (R293). -/
def skewShow (s : State) (skew : Int) : State :=
  if inDual s && allInSync s .A && allInSync s .B then s.setC .A R.FRM_DUAL_STAT.DSKEW_NS (ofSigned 28 skew) else s

/-- The stream handed on moves to `x`, a later part of it. -/
def rxMoveTo (s : State) (c : Carrier) (x : BitStr) : State :=
  let h := s.mh c
  s.setMh c { h with rxBits := x, rxHead := h.rxHead + (h.rxBits.len - x.len) }

/-- FAS_ALIGN_CHECK: the FAS aligner tests the stream that the remover has handed on, while it hunts at the next position with
a FAS, else at the first bit behind the frame before, at the latch the first data bit (R267, R268, R272); with it the measured
skew in DUAL (R282). -/
def fasAlignCheck (s : State) (c : Carrier) (skew : Int) : State :=
  let h := s.mh c
  if !frmOn s c || s.mode c == mZR400 || h.tested then s
  else
    let hunts := s.getC c R.FRM_STAT.FAS_STATE == aHUNT && !h.fasDirect
    let x := if hunts then fasSeek h.rxBits.len h.rxBits else h.rxBits
    let s := rxMoveTo s c x
    if x.len < 56 then s
    else
      let s := fasStep s c (fasDiff x) (fasMfasOf x)
      let s :=
        if s.getC c R.FRM_STAT.FAS_STATE = aHUNT then rxMoveTo s c (x.drop 1) else s.setMh c { s.mh c with tested := true }
      frmRefresh (dualDelaySet (skewShow s skew) skew) c

/-- The latch of a Dawn burst or a Bexa qualification: the line aligners enter SYNC at the position of frame 0, the FAS
aligner tests the first data bit (R272). -/
def frmLatch (s : State) (c : Carrier) : State :=
  if !frmOn s c then s
  else
    let s := rxMoveTo (setLf (setLf s c 0 aSYNC) c 1 aSYNC) c .nil
    let s := s.setMh c { s.mh c with
      lfX := ⟨4, 0, 0⟩, lfY := ⟨4, 0, 1⟩, posX := 0, posY := 0, fasDirect := true, tested := false }
    frmRefresh ([1, 2, 3].foldl (fun s d => s.mark (.sync c d)) s) c

/-- A Dawn burst is over (R272). -/
def frmBurstEnd (s : State) (c : Carrier) : State := if frmOn s c then frmRefresh (huntAll s c) c else s

/-! Received overhead (R273 to R277). -/

/-- A value seen once more, or for the first time. -/
def Repeat.see (r : Repeat) (v : Nat) : Repeat := if r.run ≠ 0 ∧ r.last = v then ⟨v, r.run + 1⟩ else ⟨v, 1⟩

/-- A TTI multiframe ends: accepted when the same 64 bytes have come three times in a row (R273). -/
def ttiMultiframe (s : State) (c : Carrier) : State :=
  let h := s.mh c
  let run := if h.ttiRun ≠ 0 ∧ h.ttiBuf = h.ttiPrev then h.ttiRun + 1 else 1
  let s := s.setMh c { h with ttiPrev := h.ttiBuf, ttiRun := run, ttiBuf := [] }
  if run < 3 then s
  else
    let base := blkBase (.framer c) + 0x180
    let same := (List.range 64).all (fun i => windowByte s base i == h.ttiBuf.get i)
    if h.ttiKnown && same then s
    else
      let s := (List.range 64).foldl (fun s i => setWindowByte s base i (h.ttiBuf.get i)) s
      (s.setMh c { s.mh c with ttiKnown := true }).raiseC c E.FRM_TTI_CHANGE 0

/-- The TTI byte of a frame. -/
def rxTti (s : State) (c : Carrier) (oh : RxOverhead) : State :=
  let h := s.mh c
  let i := oh.mfas % 64
  if i = 0 then s.setMh c { h with ttiBuf := Map.set [] 0 (oh.tti % 256), ttiWhole := true }
  else if !h.ttiWhole then s
  else
    let s := s.setMh c { h with ttiBuf := h.ttiBuf.set i (oh.tti % 256) }
    if i = 63 then ttiMultiframe s c else s

/-- PT: accepted when the same value has come in three PSI multiframes in a row (R274). -/
def rxPt (s : State) (c : Carrier) (v : Nat) : State :=
  let h := s.mh c
  let r := h.pt.see v
  let s := s.setMh c { h with pt := r }
  if r.run < 3 ∨ (h.ptKnown ∧ s.getC c R.FRM_CFG.ACC_PT = v) then s
  else ((s.setC c R.FRM_CFG.ACC_PT v).setMh c { s.mh c with ptKnown := true }).raiseC c E.FRM_PT_CHANGE v

/-- MSI of a frame's slices, and acceptance at the last of its 20 positions (R274). -/
def rxMsi (s : State) (c : Carrier) (i : Nat) (psi : List Nat) : State :=
  let h := s.mh c
  let n := otuN s c
  let buf := (List.range n).foldl (fun m k => Map.set m (20 * k + i) (psi.getD k 0 % 256)) (if i = 0 then [] else h.msiBuf)
  let s := s.setMh c { h with msiBuf := buf, msiWhole := h.msiWhole || i == 0 }
  if i ≠ 19 ∨ !(s.mh c).msiWhole then s
  else
    let run := if h.msiRun ≠ 0 ∧ buf = h.msiPrev then h.msiRun + 1 else 1
    let s := s.setMh c { s.mh c with msiPrev := buf, msiRun := run }
    if run < 3 then s
    else
      let s := (List.range (20 * n)).foldl (fun s j => setWindowByte s (blkBase (.framer c) + 0x200) j (buf.get j)) s
      s.setMh c { s.mh c with msiKnown := true }

/-- The PSI byte of every slice (R274). -/
def rxPsi (s : State) (c : Carrier) (oh : RxOverhead) : State :=
  if oh.mfas = 0 then rxPt s c (oh.psi.headD 0 % 256)
  else if 2 ≤ oh.mfas ∧ oh.mfas ≤ 21 then rxMsi s c (oh.mfas - 2) oh.psi
  else s

/-- PM STAT: three frames in a row declare or clear dAIS, dOCI, dLCK (R275). -/
def rxStat (s : State) (c : Carrier) (v : Nat) : State :=
  if suppressed s c 5 then s.setMh c { s.mh c with stat := ⟨v, 0⟩ }
  else
    let r := (s.mh c).stat.see v
    let s := s.setMh c { s.mh c with stat := r }
    if r.run < 3 then s
    else setDefect (setDefect (setDefect s c 5 (v == 7)) c 6 (v == 6)) c 7 (v == 5)

/-- SM BDI and IAE: five frames in a row declare or clear dBDI and dIAE (R276). -/
def rxBits (s : State) (c : Carrier) (oh : RxOverhead) : State :=
  if suppressed s c 9 then s.setMh c { s.mh c with bdi := ⟨0, 0⟩, iae := ⟨0, 0⟩ }
  else
    let rb := (s.mh c).bdi.see (b2n oh.bdi)
    let ri := (s.mh c).iae.see (b2n oh.iae)
    let s := s.setMh c { s.mh c with bdi := rb, iae := ri }
    let s := if 5 ≤ rb.run then setDefect s c 9 oh.bdi else s
    if 5 ≤ ri.run then setDefect s c 10 oh.iae else s

/-- SM BIP-8 violations, BEI and PM BIP-8 (R276, R286). Violations are not counted while dIAE is declared. -/
def rxBip (s : State) (c : Carrier) (oh : RxOverhead) : State :=
  let n := otuN s c
  let viol := oh.viol.take n
  let s := s.addSat (R.FRM_PM_BIP.PM_BIP.on c) ((oh.pmViol.take n).foldl (· + ·) 0)
  let h := s.mh c
  let fe := ((oh.bei.take n).filter (fun b => 1 ≤ b ∧ b ≤ 8)).length
  let s := s.setMh c { h with feErr := h.feErr + fe, blocks := h.blocks + n, beiOut := viol, pmBeiOut := oh.pmViol.take n }
  if hasDefect s c 10 then s
  else
    let s := s.setMh c { s.mh c with neErr := (s.mh c).neErr + (viol.filter (fun v => 0 < v)).length }
    s.addWrap (R.FRM_SMBIP.SMBIP.on c) (viol.foldl (· + ·) 0)

/-- The received DMp: the toggle in three frames in a row ends the measurement (R277). -/
def rxDmp (s : State) (c : Carrier) (v : Bool) : State :=
  let s := s.setMh c { s.mh c with dmpRx := v }
  let h := s.mh c
  match h.dmRunning, h.dmSentAt with
  | true, some t =>
    let hits := if v = h.txOh.dmp then h.dmHits + 1 else 0
    if hits < 3 then s.setMh c { h with dmHits := hits }
    else
      let ns := satTo 32 (nsSince s t)
      let s := s.setMh c { h with dmRunning := false, dmSentAt := none, dmHits := 0 }
      ((s.setC c R.FRM_DM_RES.DM_NS ns).setBC c R.FRM_DM.DM_VALID true).raiseC c E.FRM_DM_DONE (satTo 16 (ns / 1000))
  | _, _ => s

/-- The overhead of a received frame, with the violations of the BIP-8 computed two frames before it (R276). -/
def rxOverhead (s : State) (c : Carrier) (frame : List Nat) : RxOverhead :=
  let l := (s.mh c).rxBips
  readOverhead (otuSlices (otuN s c) frame) (if 2 ≤ l.length then l.head? else none)

/-- Bits of an OTUCn frame (R262). -/
def frameLen (s : State) (c : Carrier) : Nat := otuN s c * 122368

/-- The tag blocks that the remover has met in a frame that begins at a place of the stream, and counter and payload bytes of the
segment in progress there (R320). -/
def fwdOf (s : State) (c : Carrier) (place : Nat) (bytes : List Nat) : OtuFwd :=
  let r := (s.ch c).rem
  let here := r.tags.filter (fun t => decide (place < t.1 ∧ t.1 ≤ place + frameLen s c))
  ⟨bytes, here.map (fun t => ((t.1 - place) / 128 - 1, t.2)), (r.starts.find? (fun t => t.1 == place)).map (·.2)⟩

/-- What the remover has noted up to a place of the stream is taken (R320). -/
def fwdTake (s : State) (c : Carrier) (place : Nat) : State :=
  let h := s.ch c
  s.setCh c { h with rem := { h.rem with
    tags := h.rem.tags.filter (fun t => decide (place < t.1)), starts := h.rem.starts.filter (fun t => decide (place ≤ t.1)) } }

/-- The overhead of a received frame with its bytes after the descrambler; TTI and PSI need the multiframe as well (R261 to
R263, R273 to R277). -/
def frmOverhead (s : State) (c : Carrier) (frame : List Nat) : State :=
  let oh := rxOverhead s c frame
  let h := s.mh c
  let s := s.setMh c { h with
    rxBips := pushBip h.rxBips ((otuSlices (otuN s c) frame).map opuBip), rxCount := (h.rxCount + 1) % 65536 }
  let s := if mfInSync s c then rxPsi (rxTti s c oh) c oh else s
  let s := rxBits (rxStat s c (oh.stat % 8)) c oh
  frmRefresh (rxDmp (rxBip s c oh) c oh.dmp) c

/-- FRAMER_RX_FRAME: the frame whose FAS was tested has come whole through the remover; its overhead counts once FAS is
aligned (R262, R263, R268, R273). In the Dawn modes frames come within bursts alone (R286). -/
def frmRxFrame (s : State) (c : Carrier) : State :=
  let h := s.mh c
  let n := frameLen s c
  if !frmOn s c || !h.tested || decide (h.rxBits.len < n) then s
  else
    let frame := scramble (otuN s c) (strBytes (h.rxBits.take n))
    let fwd := fwdOf s c h.rxHead frame
    let s := fwdTake (rxMoveTo s c (h.rxBits.drop n)) c (h.rxHead + n)
    let s := s.setMh c { s.mh c with tested := false }
    if !fasInSync s c then s else frmOverhead (s.setMh c { s.mh c with rxFrame := fwd }) c frame

/-! Timers and windows (R278, R283 to R285). -/

/-- DEFECT_TIMER of defect 1 to 3: 3 ms out of SYNC declare it, 3 ms in SYNC clear it; before that, and where the defect is
not timed, nothing (R278, R279). -/
def defectTimer (s : State) (c : Carrier) (d : Nat) : State :=
  if !(d == 1 || d == 2 || d == 3) || syncTimed s c d == 0 || decide (s.age (.sync c d) < 3000000) then s
  else frmRefresh (setDefect s c d (!syncHolds s c d)) c

/-- Frames of a window of dFECX: line frames, Bexa frames in BEXA, staircase blocks in ZR400 (R278). -/
def fecxFrames (s : State) (c : Carrier) : Nat := if s.mode c = mBEXA then 16 else 64

/-- FECX_WINDOW: once a window's frames have come, four windows in a row with uncorrectable codewords declare dFECX, four without
clear it (R278, R279). -/
def fecxWindow (s : State) (c : Carrier) : State :=
  let bad := (s.fh c).winUncorr
  if (s.fh c).winFrames < fecxFrames s c then s
  else
  let s := s.setFh c { s.fh c with winUncorr := false, winFrames := 0 }
  if !frmOn s c then s
  else if suppressed s c 4 then s.setMh c { s.mh c with fecxBad := 0, fecxGood := 0 }
  else
    let h := s.mh c
    let b := if bad then min 4 (h.fecxBad + 1) else 0
    let g := if bad then 0 else min 4 (h.fecxGood + 1)
    let s := s.setMh c { h with fecxBad := b, fecxGood := g }
    let s := if b = 4 then setDefect s c 4 true else if g = 4 then setDefect s c 4 false else s
    frmRefresh s c

/-- DEFECT_FORCE: a write of FRM_FORCE (R280). -/
def defectForce (s : State) (c : Carrier) (v : Nat) : State :=
  let s := (s.setC c R.FRM_FORCE.FORCE (v % 65536)).setBC c R.FRM_FORCE.BIP_INJ (bitOf v 17)
  frmRefresh s c

/-- DM_START; ignored while a measurement runs (R277). -/
def dmStart (s : State) (c : Carrier) : State :=
  if !frmOn s c || (s.mh c).dmRunning then s
  else (s.setMh c { s.mh c with dmPending := true, dmRunning := true, dmSentAt := none, dmHits := 0 }).mark (.delay c)

/-- DM_TIMEOUT: no reply within 1 s (R277). -/
def dmTimeout (s : State) (c : Carrier) : State :=
  if !(s.mh c).dmRunning || decide (s.age (.delay c) < 1000000000) then s
  else
    (s.setMh c { s.mh c with dmRunning := false, dmPending := false, dmSentAt := none, dmHits := 0 }).setC c
      R.FRM_DM_RES.DM_NS 0xFFFFFFFF

/-- PSR_HOLDOFF_EXPIRY: the condition has held for PSR_HOLDOFF times 100 ms, above 100 acting as 100 (R285). -/
def psrHoldoff (s : State) (c : Carrier) : State :=
  if psrCondition s c && decide (100000000 * min 100 (s.getC c R.FRM_ACT.PSR_HOLDOFF) ≤ s.age (.psr c)) then setPsr s c true else s

/-- DUAL_WTR_EXPIRY: the wait-to-restore of a carrier is over (R283). -/
def wtrExpiry (s : State) (c : Carrier) : State :=
  if (s.mh c).wtr = 2 ∧ 1000000000 * s.getC .A R.FRM_DUAL.WTR ≤ s.age (.wtr c) then frmRefresh (s.setMh c { s.mh c with wtr := 0 }) c else s

/-- DSKEW_CLEAR_TIMER: 1 s in which every copy came in time (R284). -/
def dskewClear (s : State) (c : Carrier) : State :=
  if s.age (.late c) < 1000000000 then s else frmRefresh (setDefect s c 15 false) c

/-- DUAL_ANCHOR_COMPARE: RATE and segment size of the two carriers, dDMM after three anchors in a row (R284). -/
def anchorCompare (s : State) : State :=
  if !inDual s || !frmOn s .A then s
  else
    let same := (s.rxh .A).hdrRate == (s.rxh .B).hdrRate &&
      s.getC .A R.CIPH_RX_STAT.RX_SEG_UNITS == s.getC .B R.CIPH_RX_STAT.RX_SEG_UNITS
    let h := s.mh .A
    let b := if same then 0 else min 3 (h.dmmBad + 1)
    let g := if same then min 3 (h.dmmGood + 1) else 0
    let s := s.setMh .A { h with dmmBad := b, dmmGood := g }
    let s :=
      if b = 3 then setDefect (setDefect s .A 14 true) .B 14 true
      else if g = 3 then setDefect (setDefect s .A 14 false) .B 14 false
      else s
    frmRefresh (frmRefresh s .A) .B

/-- DUAL_REALIGN: D is reset, dDSKEW clears, and D is set again when both carriers have every aligner in SYNC (R282,
R284). -/
def dualRealign (s : State) (skew : Int) : State :=
  let s := setDefect (setDefect (skewShow (delayClear s) skew) .A 15 false) .B 15 false
  frmRefresh (frmRefresh (dualDelaySet s skew) .A) .B

/-! Performance seconds (R278, R286 to R288). -/

/-- Unavailability after a second; one without signal neither extends nor breaks a run. True when it changes now. -/
def Unav.step (u : Unav) (ses noSignal : Bool) : Unav × Bool :=
  if noSignal then ({ u with since := if u.run = 0 then 0 else u.since + 1 }, false)
  else if ses != u.now then
    if 10 ≤ u.run + 1 then (⟨!u.now, 0, u.since + 1⟩, true) else (⟨u.now, u.run + 1, u.since + 1⟩, false)
  else (⟨u.now, 0, 0⟩, false)

/-- The last `k` of the seconds changed. -/
def markLast (f : SecRec → SecRec) (k : Nat) (l : List SecRec) : List SecRec :=
  l.take (l.length - k) ++ (l.drop (l.length - k)).map f

/-- The blocks of the second (R286). -/
def secondBlocks (s : State) (c : Carrier) : Nat :=
  if s.mode c = mDAWNRX ∨ s.mode c = mZR400 then (s.mh c).blocks else otuN s c * 860177

/-- dDEG after a second (R278, R291). -/
def degSecond (s : State) (c : Carrier) (bad noSignal : Bool) : State :=
  if suppressed s c 11 then s.setMh c { s.mh c with degBad := 0, degGood := 0 }
  else if noSignal then s
  else
    let m := min 10 (max 2 (s.getC c R.FRM_DEG.DEGM))
    let h := s.mh c
    let b := if bad then min 10 (h.degBad + 1) else 0
    let g := if bad then 0 else min 10 (h.degGood + 1)
    let s := s.setMh c { h with degBad := b, degGood := g }
    if m ≤ b then setDefect s c 11 true else if m ≤ g then setDefect s c 11 false else s

/-- PM_SECOND at a carrier: the second that ends, with its label, is classified (R286, R288). -/
def pmSecond (s : State) (c : Carrier) (label : Nat) (aon : Bool) : State :=
  let h := s.mh c
  let blocks := secondBlocks s c
  let noSig := s.mode c == mDAWNRX && h.blocks == 0
  let neSes := !noSig && (h.neDef || (decide (15 * blocks ≤ 100 * h.neErr) && h.neErr != 0))
  let feSes := !noSig && (h.feDef || (decide (15 * blocks ≤ 100 * h.feErr) && h.feErr != 0))
  let r : SecRec := {
    neEs := !noSig && (h.neDef || h.neErr != 0)
    neSes := neSes
    neUnav := h.neUa.now
    feEs := !noSig && (h.feDef || h.feErr != 0)
    feSes := feSes
    feUnav := h.feUa.now
    noSignal := noSig
    forced := h.secForced
    stopped := h.secStopped
    label := label
    aon := aon }
  let ne := h.neUa.step r.neSes noSig
  let fe := h.feUa.step r.feSes noSig
  let l := h.secs ++ [r]
  let l := if ne.2 then markLast (fun x => { x with neUnav := ne.1.now }) ne.1.since l else l
  let l := if fe.2 then markLast (fun x => { x with feUnav := fe.1.now }) fe.1.since l else l
  let clr := fun (u : Unav × Bool) => if u.2 then { u.1 with since := 0 } else u.1
  let bad := h.neDef || decide (min 10000 (s.getC c R.FRM_DEG.DEGTHR) * blocks ≤ 10000 * h.neErr)
  let s := s.setMh c { h with
    secs := l, neUa := clr ne, feUa := clr fe, neErr := 0, feErr := 0, blocks := 0, neDef := false, feDef := false
    secForced := false, secStopped := false }
  let s := if frmOn s c then degSecond s c bad noSig else s
  frmRefresh s c

/-- UAS_NE or UAS_FE follows the final classification (R287). -/
def setUas (s : State) (c : Carrier) (far : Bool) (on : Bool) : State :=
  let f := if far then R.FRM_STAT.UAS_FE else R.FRM_STAT.UAS_NE
  if s.onC c f = on then s else (s.setBC c f on).raiseC c E.FRM_UAS (b2n far + 256 * b2n on)

/-- The oldest second becomes final: counters, UAS_NE and UAS_FE (R286, R287). -/
def finalSecond (s : State) (c : Carrier) (r : SecRec) : State :=
  let s := if r.neUnav then s.bumpC c R.FRM_PM_NE_UAS.UAS else s
  let s := if !r.neUnav && r.neEs then s.bumpC c R.FRM_PM_NE.ES else s
  let s := if !r.neUnav && r.neSes then s.bumpC c R.FRM_PM_NE.SES else s
  let s := if r.feUnav then s.bumpC c R.FRM_PM_FE_UAS.UAS else s
  let s := if !r.feUnav && r.feEs then s.bumpC c R.FRM_PM_FE.ES else s
  let s := if !r.feUnav && r.feSes then s.bumpC c R.FRM_PM_FE.SES else s
  setUas (setUas s c false r.neUnav) c true r.feUnav

/-- The second that becomes final ten seconds after its end, where there is one: ten seconds have ended since (R287). -/
def takeFinal (s : State) (c : Carrier) : Option (SecRec × State) :=
  match (s.mh c).secs with
  | r :: rest => if 10 ≤ rest.length then some (r, s.setMh c { s.mh c with secs := rest }) else none
  | [] => none

/-! Commands of the blocks before this one, with what FRAMER makes of them. -/

/-- A codeword's release as FRAMER counts it in ZR400: a block is a staircase block (R286). -/
def frmCodeword (s : State) (c : Carrier) : State :=
  let s' := codewordRelease s c
  if s.mode c = mZR400 ∧ (s'.fh c).cws.length < (s.fh c).cws.length then
    let h := s'.mh c
    s'.setMh c { h with blocks := h.blocks + 1, neErr := h.neErr + b2n (s'.fh c).outUncorr }
  else s'

/-- What FEC and FRAMER make of the end of a Dawn burst: DAWN has left LATCHED, PRELOAD, BURST or COLD. -/
def burstOver (s0 s : State) (c : Carrier) (cut : Bool) : State :=
  let st0 := dawnState s0 c
  let st := dawnState s c
  if dawnGoverned s c && decide (3 ≤ st0 ∧ st0 ≤ 6) && (st == dWRITEBACK || st == dSTOPPED) then
    frmBurstEnd (fecBurstEnd s c cut) c
  else s

/-- LOL_WINDOW with everything that follows from a change of LOL (R146, R191, R231, R272, R278). -/
def frmLolWindow (s : State) (c : Carrier) (rms : Nat) : State :=
  let before := s.onC c R.RXDSP_STAT.LOL
  let s1 := dawnLolWindow s c rms
  if s1.onC c R.RXDSP_STAT.LOL = before then s1
  else
    let s2 := if before then s1 else fecDark (burstOver s s1 c true) c
    let s2 := if !before && bexaBurst s2 c then huntAll s2 c else s2
    frmRefresh (acqFrameLock s2 c) c

end Sys2Proof.Machine
end

