-- ==== Sys2Proof/Machine/Cipher.lean ====
section
/-! DEFINITION. Line encryption of a carrier: segments, anchor blocks, key slots, rollover (R297 to R331). -/

namespace Sys2Proof.Machine

open Sys2Proof

/-- BYPASS follows the mode (R320, R323). -/
def bypassFollow (s : State) (c : Carrier) : State := s.setBC c R.CIPH_STAT.BYPASS (ciphBypassed s c)

/-- The carrier whose engine and slots serve a carrier: A's in DUAL (R320). -/
def ciphOwner (s : State) (c : Carrier) : Carrier := if inDual s then .A else c

/-- The carrier's own engine encrypts in this mode (R320). -/
def ciphEncrypts (s : State) (c : Carrier) : Bool :=
  !ciphBypassed s c && s.mode c != mREGEN && !(s.mode c == mDUAL && c == .B)

/-- The state of a slot (R326): transmit EMPTY 0, ARMED 1, ACTIVE 2, SPENT 3; receive EMPTY 0, LOADED 1. -/
def slotState (s : State) (c : Carrier) (i : Nat) : Nat := s.get ((R.CIPH_SLOT.STATE.ix i).on c)
/-- The state of a slot changed. -/
def setSlotState (s : State) (c : Carrier) (i v : Nat) : State := s.set ((R.CIPH_SLOT.STATE.ix i).on c) v
/-- KEY_ID of a slot. -/
def slotId (s : State) (c : Carrier) (i : Nat) : Nat := s.get ((R.CIPH_SLOT.KEY_ID.ix i).on c)
/-- The counter register of a transmit slot: its next value (R327). -/
def ctrF (c : Carrier) (i : Nat) : Fld := (if i = 0 then R.CIPH_CTR0.CTR else R.CIPH_CTR1.CTR).on c
/-- The active transmit slot. -/
def actSlot (s : State) (c : Carrier) : Nat := s.getC c R.CIPH_STAT.TX_ACT_SLOT

/-! Start and stop (R322). -/

/-- R322: the start checks; 0 when all pass. -/
def ciphCfgCode (s : State) (c : Carrier) : Nat :=
  let kib := s.getC c R.CIPH_CFG.SEG_KIB
  let st := slotState s c (s.staged (R.CIPH_TX_KEY.TX_SLOT.on c))
  if !(decide (16 ≤ kib ∧ kib ≤ 1024) && kib % 16 == 0) then 1
  else if s.mode c == mDUAL && kib != s.getC c.other R.CIPH_CFG.SEG_KIB then 2
  else if ciphEncrypts s c && !s.onC c R.CIPH_CFG.TX_CLEAR && !(st == 1 || st == 2) then 3
  else 0

/-- A switch begins: SWITCHING, to be announced by the next anchor blocks (R317). -/
def beginSwitch (s : State) (c : Carrier) (dst : Nat) : State :=
  (s.setBC c R.CIPH_STAT.SWITCHING true).setCh c { s.ch c with switchTo := some dst, switchSent := 0 }

/-- TX_SLOT has transferred. A value that differs from the active slot is refused where the named slot is not ARMED or a switch is
in progress, else it starts a switch; before the active slot has encrypted anything, and where it has not refused to, there is
nothing to switch from, and the ARMED slot is taken (R317, R318; log entry 36). -/
def slotTransferred (s : State) (c : Carrier) : State :=
  let act := actSlot s c
  let dst := s.getC c R.CIPH_TX_KEY.TX_SLOT
  if dst = act then s
  else if slotState s c dst ≠ 1 ∨ s.onC c R.CIPH_STAT.SWITCHING then
    (s.setC c R.CIPH_TX_KEY.TX_SLOT act).raiseC c E.CIPH_KEY_SWITCH (dst + 0x300)
  else if slotState s c act ≠ 2 ∧ s.onC c R.CIPH_STAT.TX_KEYX = false then s.setC c R.CIPH_STAT.TX_ACT_SLOT dst
  else beginSwitch s c dst

/-- The hold of R310 in ns: the duration of a segment of the received size and of its tag block at the payload rate of n slices,
and 40 ns; none where nothing is deciphered, in cut-through, and in DUAL, where RELEASE is ignored (R311, R320, R321, R337). -/
def releaseHold (s : State) (c : Carrier) : Nat :=
  if ciphBypassed s c || s.mode c == mREGEN || inDual s || s.onC c R.CIPH_CFG.RELEASE then 0
  else divRound (((s.getC c R.CIPH_RX_STAT.RX_SEG_UNITS + 1) * 131072 + 128) * 10000) (otuN s c * 1043500) + 40

/-- RX_NS: the latency without the hold, which the spec does not state, and the hold, held to the field's 16 bits (R329; log
entry 7). -/
def rxNsFollow (s : State) (c : Carrier) : State :=
  if s.running (.cipher c) then
    s.setC c R.CIPH_LATENCY.RX_NS (satTo 16 (Config.ciphRxLatency (s.mode c) (otuN s c) + releaseHold s c))
  else s

/-- CIPHER's shadow copies transfer (R9, R317, R324, R329). -/
def ciphTransfer (s : State) (c : Carrier) : State := rxNsFollow (slotTransferred (s.transfer (.cipher c)) c) c

/-- CIPHER's line-frame commit point (R18). -/
def ciphCommit (s : State) (c : Carrier) : State :=
  (if s.commitDue (.cipher c) then ciphTransfer s c else s).commitPassed (.cipher c)

/-- The start of CIPHER once RUN reads 1 (R35, R320, R322, R329, R672). -/
def ciphTryStart (s : State) (c : Carrier) : State :=
  if s.modeErr then s.wait (.cipher c)
  else
    let code := ciphCfgCode s c
    if code ≠ 0 then
      (((s.unwait (.cipher c)).setBC c R.CIPH_STAT.CFG_ERR true).setC c R.CIPH_STAT.CFG_CODE code).raiseC c
        E.CIPH_CFG_ERR code
    else if !s.clockReady (.cipher c) then s.wait (.cipher c)
    else
      let s := (ciphTransfer s c).unwait (.cipher c)
      let s := (s.set (runningF (.cipher c)) 1).setBC c R.CIPH_STAT.CFG_ERR false
      let s := rxNsFollow (s.setC c R.CIPH_LATENCY.TX_NS (Config.ciphTxLatency (s.mode c) (otuN s c))) c
      let s := bypassFollow ((s.setBC c R.CIPH_RX_STAT.PEND_RX false).setBC c R.CIPH_STAT.IN_SYNC false) c
      let s := if c = .B then s.setCh .A { s.ch .A with echo := [] } else s
      s.setCh c { s.ch c with
        segOpen := false, segText := [], segLen := 0, anchorHeld := false, rem := .reset, rxNext := none, copies := [], missed := [] }

/-- FRAMER's last frame has gone through CIPHER, or there is no encoder that draws it (R322). -/
def ciphDrained (s : State) (c : Carrier) : Bool := (s.mh c).txQ.isEmpty || !s.onC c R.FEC_STAT.ENC_ACTIVE

/-- CIPHER_RUN_CLEAR: the segment in progress is still closed at the end of FRAMER's last frame; with nothing to close CIPHER
stops at once (R322). The remover stops: a segment that it has in part has ended early (R309). -/
def ciphStop (s : State) (c : Carrier) : State :=
  let s := remLost (s.clearRun (.cipher c)) c
  if s.running (.cipher c) && ciphDrained s c && (s.ch c).segLen == 0 then s.stopPoint (.cipher c) else s

/-! Segments at transmit (R300 to R304, R318, R319). -/

/-- The switch completes: the new slot encrypts, the old one is SPENT (R316 to R318). -/
def completeSwitch (s : State) (c : Carrier) (dst : Nat) : State :=
  let old := actSlot s c
  let s := (if slotState s c old = 2 then setSlotState s c old 3 else s).setC c R.CIPH_STAT.TX_ACT_SLOT dst
  let s := (s.setBC c R.CIPH_STAT.SWITCHING false).setBC c R.CIPH_STAT.TX_KEYX false
  let s := s.setBC c R.CIPH_STAT.CTR_WARN false
  (s.setCh c { s.ch c with switchTo := none, switchSent := 0, autoTried := false }).raiseC c E.CIPH_KEY_SWITCH (dst + 0x100)

/-- What the active counter's value brings: the warning at 2^47, the switch of its own at 2^48 − 2^20 (R303, R318). -/
def counterChecks (s : State) (c : Carrier) (slot ctr : Nat) : State :=
  let s :=
    if 2 ^ 47 ≤ ctr ∧ !s.onC c R.CIPH_STAT.CTR_WARN then
      (s.setBC c R.CIPH_STAT.CTR_WARN true).raiseC c E.CIPH_CTR_WARN slot
    else s
  if 2 ^ 48 - 2 ^ 20 ≤ ctr ∧ !(s.ch c).autoTried then
    let s := s.setCh c { s.ch c with autoTried := true }
    if slotState s c (1 - slot) = 1 ∧ !s.onC c R.CIPH_STAT.SWITCHING then
      beginSwitch (s.setC c R.CIPH_TX_KEY.TX_SLOT (1 - slot)) c (1 - slot)
    else s
  else s

/-- The next segment starts: under the new slot once both anchor blocks of a switch are out, under the next counter value, or
not encrypted once 2^48 − 1 would be needed (R303, R317, R318). Segments that are not encrypted are counted on from the one
before (log entry 118). -/
def startSegment (s : State) (c : Carrier) : State :=
  let s := match (s.ch c).switchTo with
    | some dst => if 2 ≤ (s.ch c).switchSent then completeSwitch s c dst else s
    | none => s
  let slot := actSlot s c
  let s := s.setCh c { s.ch c with segOpen := true, segSlot := slot, segText := [], segLen := 0 }
  let plain := s.setCh c { s.ch c with segCtr := ((s.ch c).segCtr + 1) % 2 ^ 48 }
  if s.onC c R.CIPH_CFG.TX_CLEAR || s.onC c R.CIPH_STAT.TX_KEYX then plain
  else
    let ctr := s.get (ctrF c slot)
    if 2 ^ 48 - 1 ≤ ctr then (plain.setBC c R.CIPH_STAT.TX_KEYX true).raiseC c E.CIPH_KEY_EXHAUSTED slot
    else
      let s := (setSlotState s c slot 2).set (ctrF c slot) (ctr + 1)
      let s := s.setCh c { s.ch c with segCtr := ctr }
      counterChecks s c slot (ctr + 1)

/-- The IV of a segment; in the Dawn modes the low bits of SALT are xored with the source ID (R301). -/
def segIv (salt ctr src : Nat) : List Nat := beBytes 6 (salt ^^^ src) ++ beBytes 6 ctr

/-- The source ID that enters a transmitted segment's IV. -/
def txSrc (s : State) (c : Carrier) : Nat := if s.mode c = mDAWNTX then s.getC c R.TX_DAWN.SRC_ID else 0

/-- The segment in progress has its whole size: SEG_KIB KiB (R300). -/
def segFull (s : State) (c : Carrier) : Bool := decide (1024 * s.getC c R.CIPH_CFG.SEG_KIB ≤ (s.ch c).segLen)

/-- The segment in progress ends here: it has its size; the last of a Dawn burst and the last before a stop end with FRAMER's
last frame (R300, R320, R322). -/
def segmentOver (s : State) (c : Carrier) : Bool :=
  segFull s c || (s.stopping (.cipher c) && ciphDrained s c) ||
    (s.mode c == mDAWNTX && (s.mh c).txLeft == 0 && (s.mh c).txQ.isEmpty && (s.ch c).segLen != 0)

/-- KEY_ID of the segment in progress at transmit: 0 in clear (R305, R319). -/
def segKeyId (s : State) (c : Carrier) : Nat := if s.onC c R.CIPH_CFG.TX_CLEAR then 0 else slotId s c (s.ch c).segSlot

/-- A payload word as it is sent, the next one of the segment in progress: enciphered, in clear, or zero where the key is
exhausted (R300, R301, R318, R319). -/
def sealWord (s : State) (c : Carrier) (w : List Nat) : List Nat :=
  if s.onC c R.CIPH_CFG.TX_CLEAR then w
  else if s.onC c R.CIPH_STAT.TX_KEYX then w.map (fun _ => 0)
  else
    let h := s.ch c
    let k := h.slots.getD h.segSlot .empty
    gcmBlock (aesKeys k.key) (segIv k.salt h.segCtr (txSrc s c)) (h.segLen / 16) w

/-- The tag of the segment in progress (R301, R304, R318, R319). -/
def segTag (s : State) (c : Carrier) : Nat :=
  if s.onC c R.CIPH_CFG.TX_CLEAR || s.onC c R.CIPH_STAT.TX_KEYX then 0
  else
    let h := s.ch c
    let k := h.slots.getD h.segSlot .empty
    gcmTag (aesKeys k.key) (segIv k.salt h.segCtr (txSrc s c)) h.segText

/-! The stream to FEC (R263, R264, R304, R320). -/

/-- The word of its OTUCn frame that goes through CIPHER next. -/
def txWord (s : State) (c : Carrier) : Nat :=
  match (s.mh c).txQ with
  | f :: _ => 956 * otuN s c - f.words.length
  | [] => 0

/-- A word of 16 bytes joins what is formed for FEC. -/
def pushPiece (s : State) (c : Carrier) (p : Piece) : State := s.setCh c { s.ch c with formed := (s.ch c).formed ++ [p] }

/-- A tag block joins it, behind the payload bytes `off` of its segment (R304). -/
def sendTag (s : State) (c : Carrier) (off ctr key tag : Nat) : State :=
  pushPiece s c ⟨true, 128 * txWord s c, off, ctr, key, beBytes 16 tag⟩

/-- The next word of FRAMER's frame leaves as `w`, through the scrambler; behind the last one the frame's BIP-8 are known (R263,
R276). -/
def sendWord (s : State) (c : Carrier) (w : List Nat) (off ctr key : Nat) : State :=
  let h := s.mh c
  match h.txQ with
  | [] => s
  | f :: q =>
    let n := otuN s c
    let i := txWord s c
    let bips := bipWord n i (if i = 0 then List.replicate n 0 else h.txBip) w
    let last := decide (f.words.length ≤ 1)
    let s := pushPiece s c ⟨false, 128 * i, off, ctr, key, scrambleFrom n (16 * i) h.txScr w⟩
    s.setMh c { h with
      txQ := if last then q else { f with words := f.words.drop 1 } :: q, txScr := scrambleReg n (16 * i) h.txScr w, txBip := bips
      bips := if last then pushBip h.bips bips else h.bips }

/-- What Carrier A has enciphered waits for Carrier B of the DUAL group too (R320). -/
def echoPiece (s : State) (p : Piece) : State :=
  if inDual s && s.running (.cipher .B) then s.setCh .A { s.ch .A with echo := (s.ch .A).echo ++ [p] } else s

/-- The carrier's own engine: a segment starts with the first word, payload words are enciphered; nothing passes behind a
whole segment before its tag block (R300 to R304, R322). -/
def ownWord (s : State) (c : Carrier) (w : List Nat) : Option State :=
  let s := if (s.ch c).segOpen then s else startSegment s c
  let h := s.ch c
  let i := txWord s c
  if segFull s c then none
  else if !payloadWord (otuN s c) i then some (sendWord s c w h.segLen h.segCtr (segKeyId s c))
  else
    let ct := sealWord s c w
    let s := echoPiece s ⟨false, 128 * i, h.segLen, h.segCtr, segKeyId s c, ct⟩
    let s := s.setCh c { s.ch c with segText := h.segText ++ ct, segLen := h.segLen + 16 }
    some (sendWord s c ct h.segLen h.segCtr (segKeyId s c))

/-- REGEN: words pass as received, and each tag block follows the same word as it did (R320). -/
def regenWord (s : State) (c : Carrier) (f : OtuTx) (w : List Nat) : State :=
  let i := txWord s c
  let s := match i, f.start with
    | 0, some x => s.setCh c { s.ch c with segCtr := x.1, segLen := x.2 }
    | _, _ => s
  let h := s.ch c
  let s := sendWord s c w h.segLen h.segCtr 0
  let n := if payloadWord (otuN s c) i then h.segLen + 16 else h.segLen
  match f.tags.find? (fun t => t.1 == i) with
  | some t =>
    let s := sendTag s c n t.2.2 0 t.2.1
    s.setCh c { s.ch c with segCtr := (t.2.2 + 1) % 2 ^ 48, segLen := 0 }
  | none => s.setCh c { s.ch c with segLen := n }

/-- Carrier B of a DUAL group: its own overhead, the payload words and tag blocks of Carrier A. It begins where a frame of
Carrier A has the word that it needs, and passes over what comes before (R320). -/
def echoWord (s : State) (w : List Nat) : Option State :=
  let i := txWord s .B
  match (s.ch .A).echo with
  | [] => none
  | p :: ps =>
    let s := s.setCh .A { s.ch .A with echo := ps }
    if p.tag then some (sendTag s .B p.off p.ctr p.key (ofBe p.bytes))
    else if !payloadWord (otuN s .B) i then
      some ((sendWord s .B w p.off p.ctr p.key).setCh .A { s.ch .A with echo := p :: ps })
    else if p.pos = 128 * i then some (sendWord s .B p.bytes p.off p.ctr p.key)
    else some (s.setCh .A { s.ch .A with echo := ps.dropWhile (·.tag) })

/-- Behind the last OTUCn frame of a Dawn burst and its tag block: scrambled zeros (R266). -/
def tailWord (s : State) (c : Carrier) : Option State :=
  let h := s.mh c
  if s.mode c == mDAWNTX && s.onC c R.TX_STAT.BURST && h.txLeft == 0 && (s.ch c).segLen == 0 then
    let n := otuN s c
    let z := List.replicate 16 0
    let s := pushPiece s c ⟨false, 0, 0, (s.ch c).segCtr, segKeyId s c, scrambleFrom n (16 * n) h.txScr z⟩
    some (s.setMh c { h with txScr := scrambleReg n (16 * n) h.txScr z })
  else none

/-- One more word on its way to FEC, where there is one: as FRAMER sends it in the modes that bypass CIPHER (R304, R320). -/
def drawWord (s : State) (c : Carrier) : Option State :=
  match (s.mh c).txQ with
  | [] => tailWord s c
  | f :: _ =>
    match f.words with
    | [] => none
    | w :: _ =>
      if ciphBypassed s c then some (sendWord s c w 0 0 0)
      else if !s.running (.cipher c) then none
      else if s.mode c = mREGEN then some (regenWord s c f w)
      else if ciphEncrypts s c then ownWord s c w
      else echoWord s w

/-- Words are drawn until `k` data bits are formed, or no further word is there. -/
def drawTo : Nat → State → Carrier → Nat → State
  | 0, s, _, _ => s
  | n + 1, s, c, k =>
    if k ≤ formedLeft (s.ch c) then s
    else match drawWord s c with
      | some s => drawTo n s c k
      | none => s

/-- Words that one codeword may take, on Carrier B of a DUAL group with those that it passes over. -/
def drawMax : Nat := 65536

/-- FEC_ENC_CODEWORD: the encoder draws the data bits of a block from CIPHER and sends its codeword, or zero pad where that
would end after the next anchor frame begins (R230, R232). In BEXA codewords follow one another (R246); in ZR400 they are
those of its agreement (R247). -/
def encCodeword (s : State) (c : Carrier) : State :=
  if !s.onC c R.FEC_STAT.ENC_ACTIVE then s
  else if s.mode c = mZR400 then encSendZr s c
  else
    let s := drawTo drawMax s c (encDataBits s c)
    if s.mode c = mBEXA then encSendBexa s c else encNext s c

/-- Data bits that wait for the encoder. -/
def encWaiting (s : State) (c : Carrier) : Nat :=
  (s.mh c).txQ.foldl (fun n f => n + 128 * f.words.length) (formedLeft (s.ch c))

/-- FEC_ENC_OVERRUN: a data bit comes in while the buffer holds the data of four codewords: the data block of the next codeword is
discarded whole (R232). -/
def encOverrun (s : State) (c : Carrier) : State :=
  let k := encDataBits s c
  if !s.onC c R.FEC_STAT.ENC_ACTIVE || s.mode c == mZR400 || decide (encWaiting s c ≤ 4 * k) then s
  else
    let s := drawTo drawMax s c k
    if formedLeft (s.ch c) < k then s else encDrop (s.setCh c { s.ch c with fed := (s.ch c).fed + k }) c

/-- CIPH_SEGMENT_END: the segment in progress ends with its tag block and the next one starts, unless it was the last of a
burst or before a stop (R300, R304, R318, R319, R320, R322). -/
def segmentEnd (s : State) (c : Carrier) : State :=
  let h := s.ch c
  if !s.running (.cipher c) || !ciphEncrypts s c || !h.segOpen || !segmentOver s c then s
  else
    let tag := segTag s c
    let key := segKeyId s c
    let s :=
      if h.segLen = 0 then s
      else echoPiece (sendTag s c h.segLen h.segCtr key tag) ⟨true, 0, h.segLen, h.segCtr, key, beBytes 16 tag⟩
    let s := s.setCh c { s.ch c with segOpen := false, segText := [], segLen := 0 }
    if s.stopping (.cipher c) && ciphDrained s c then s.stopPoint (.cipher c)
    else if s.mode c == mDAWNTX && (s.mh c).txLeft == 0 && (s.mh c).txQ.isEmpty then s
    else startSegment s c

/-! Anchor blocks (R305). -/

/-- The fields of an anchor block in their places, with the CRC. -/
def anchorBlock (ctr offset pos units keyId nextId : Nat) (pend keyx : Bool) (otuFrames : Nat) : Nat :=
  let hi := ctr % 2 ^ 48
  let hi := hi * 2 ^ 20 + offset % 2 ^ 20
  let hi := hi * 2 ^ 22 + pos % 2 ^ 22
  let hi := hi * 2 ^ 6 + units % 2 ^ 6
  let hi := (hi * 2 ^ 16 + keyId % 2 ^ 16) * 2 ^ 16 + nextId % 2 ^ 16
  let hi := (hi * 2 + b2n pend) * 2 + b2n keyx
  let hi := (hi * 2 ^ 20 + otuFrames % 2 ^ 20) * 2 ^ 26
  hi * 65536 + crcOf 16 0x1021 0xFFFF (msbFirst 176 hi)

/-- SEG_UNITS of the configured segment size. -/
def segUnits (s : State) (c : Carrier) : Nat := s.getC c R.CIPH_CFG.SEG_KIB / 16 - 1

/-- OFFSET and POS at a word of which `k` bits have gone: inside a payload word its bytes count, a tag block in progress
belongs to its segment (R304, R305; log entry 115). -/
def anchorPoint (n : Nat) (p : Piece) (k : Nat) : Nat × Nat :=
  if p.tag then (p.off, p.pos) else (if payloadWord n (p.pos / 128) then p.off + k / 8 else p.off, p.pos + k)

/-- The anchor block of a carrier that enciphers, with the piece of the stream that follows it (R305, R317 to R319). -/
def ownAnchor (s : State) (c : Carrier) (p : Piece) (at' : Nat × Nat) (sent : Nat) : Nat :=
  let o := ciphOwner s c
  let h := s.ch o
  let next := match h.switchTo with
    | some dst => if 1 ≤ sent ∧ !s.onC o R.CIPH_CFG.TX_CLEAR then slotId s o dst else p.key
    | none => p.key
  let n := if s.mode c = mDAWNTX ∧ (s.txh c).nextFcount = 0 then (s.mh c).txBurst else 0
  anchorBlock p.ctr at'.1 at'.2 (segUnits s c) p.key next (h.switchTo.isSome && sent == 1) (s.onC o R.CIPH_STAT.TX_KEYX) n

/-- The anchor block of REGEN: what it copies from the stream received; across the board the spec gives no way for the copied
fields to come, and they are free (R320; log entry 105). -/
def regenAnchor (s : State) (c : Carrier) (p : Piece) (at' : Nat × Nat) : Nat :=
  let a := if acrossBoard s c then s.free else (s.ch c.other).rxAnchor
  let ctr := if acrossBoard s c then bitsOf a 191 144 else p.ctr
  anchorBlock ctr at'.1 at'.2 (bitsOf a 101 96) (bitsOf a 95 80) (bitsOf a 79 64) (bitOf a 63) (bitOf a 62) 0

/-- CIPH_ANCHOR_INSERT: before the codeword that begins at an anchor frame, the anchor block that will begin it; in frame 0 of
a burst with the number of its OTUCn frames (R304, R305, R317 to R320). -/
def anchorInsert (s : State) (c : Carrier) : State :=
  if !s.running (.cipher c) || ciphBypassed s c || !anchorDue s c || (s.ch c).anchorHeld then s
  else
    let s := drawTo drawMax s c 1
    let h := s.ch c
    match h.formed.drop (h.fed / 128) with
    | [] => s
    | p :: _ =>
      let at' := anchorPoint (otuN s c) p (h.fed % 128)
      if s.mode c = mREGEN then
        let s' := s.setCh c { h with outAnchor := regenAnchor s c p at', anchorHeld := true }
        if acrossBoard s c then s'.freeNext else s'
      else
        let sent := if h.switchTo.isSome then h.switchSent + 1 else h.switchSent
        let sent := if c = ciphOwner s c then sent else (s.ch .A).switchSent
        s.setCh c { h with outAnchor := ownAnchor s c p at' sent, anchorHeld := true, switchSent := if c = ciphOwner s c then sent else h.switchSent }

/-! Noise source (R299). -/

/-- RNG_TEST_RESULT (R299). -/
def rngTest (s : State) (c : Carrier) (fail : Bool) : State :=
  let was := s.onC c R.CIPH_STAT.RNG_FAULT
  let s := s.setBC c R.CIPH_STAT.RNG_FAULT fail
  if fail && !was then s.raiseC c E.CIPH_RNG 0 else s

/-! Keys (R312 to R316). -/

/-- The receive slot that holds a key, as RX_SLOT reports it: in DAWN-RX the entry's (R308, R320). -/
def rxSlotOf (s : State) (c : Carrier) (keyId : Nat) : Option Nat :=
  let o := ciphOwner s c
  let has := fun (i : Nat) => slotState s o (2 + i) == 1 && slotId s o (2 + i) == keyId
  if s.mode c = mDAWNRX then
    let i := (s.dh c).keySlot
    if has i then some i else none
  else if has 0 then some 0 else if has 1 then some 1 else none

/-- RX_SLOT follows the current receive key. -/
def setRxSlot (s : State) (c : Carrier) : State :=
  match rxSlotOf s c (s.getC c R.CIPH_RX_STAT.RX_KEY_ID) with
  | some i => s.setC c R.CIPH_RX_STAT.RX_SLOT i
  | none => s

/-- The bytes of a window of CIPHER. -/
def ciphWindow (s : State) (c : Carrier) (off n : Nat) : List Nat :=
  (List.range n).map (windowByte s (blkBase (.cipher c) + off))

/-- R314: the mode accepts no key commands here. -/
def keyCommandsOff (s : State) (c : Carrier) : Bool :=
  ciphBypassed s c || s.mode c == mREGEN || (s.mode c == mDUAL && c == .B)

/-- A command rejected (R314). -/
def loadReject (s : State) (c : Carrier) (code : Nat) : State :=
  (s.setC c R.CIPH_LOAD.REJ_CODE code).raiseC c E.CIPH_LOAD_REJ code

/-- A command accepted: BUSY until it is done. -/
def loadAccept (s : State) (c : Carrier) (j : KeyJob) : State :=
  ((s.setC c R.CIPH_LOAD.REJ_CODE 0).setBC c R.CIPH_LOAD.BUSY true).setCh c { s.ch c with job := j }

/-- R315: the slot is in use. -/
def slotInUse (s : State) (c : Carrier) (t : Nat) : Bool :=
  if t < 2 then slotState s c t == 2 || (s.ch c).switchTo == some t
  else
    let uses := fun (x : Carrier) =>
      s.getC x R.CIPH_RX_STAT.RX_KEY_ID == slotId s c t || (s.ch x).rxNext == some (slotId s c t)
    slotState s c t == 1 && (uses c || (inDual s && uses c.other))

/-- The device wrap key as bytes; every bit is blown on entry to RETIRED (R313, R624). -/
def wrapKey (s : State) : List Nat := beBytes 32 (if s.ldg.blown then 2 ^ 256 - 1 else Config.wrapKey)

/-- KEK_CLEAR; voted control writes only (R313). A command written while BUSY is ignored. -/
def kekClear (s : State) (c : Carrier) (by' : Requester) : State :=
  if by' ≠ .control ∨ s.onC c R.CIPH_LOAD.BUSY then s
  else if keyCommandsOff s c then loadReject s c 1
  else loadAccept s c (.kek true (ciphWindow s c 0x140 32))

/-- KEK_BLOB (R313, R314). -/
def kekBlob (s : State) (c : Carrier) : State :=
  if s.onC c R.CIPH_LOAD.BUSY then s
  else if keyCommandsOff s c then loadReject s c 1
  else match kwUnwrap (wrapKey s) (ciphWindow s c 0x160 40) with
    | some k => loadAccept s c (.kek false k)
    | none => loadReject s c 3

/-- KEK_EXPORT; without a KEK there is no blob to write (R313). -/
def kekExport (s : State) (c : Carrier) : State :=
  if s.onC c R.CIPH_LOAD.BUSY then s
  else if keyCommandsOff s c then loadReject s c 1
  else if (s.ch c).kek.isNone then s.setC c R.CIPH_LOAD.REJ_CODE 0
  else loadAccept s c .exportKek

/-- KEY_LOAD of slot TARGET: the checks in their order (R314, R315). -/
def keyLoad (s : State) (c : Carrier) (target : Nat) : State :=
  let s := s.setC c R.CIPH_LOAD.TARGET target
  let t := target % 4
  if s.onC c R.CIPH_LOAD.BUSY then s
  else if keyCommandsOff s c then loadReject s c 1
  else match (s.ch c).kek with
    | none => loadReject s c 2
    | some kek =>
      match kwUnwrap kek (ciphWindow s c 0x100 48) with
      | none => loadReject s c 3
      | some r =>
        let id := ofBe ((r.drop 38).take 2)
        if id = 0 then loadReject s c 4
        else if slotInUse s c t then loadReject s c 5
        else if 2 ≤ t ∧ slotState s c (5 - t) = 1 ∧ slotId s c (5 - t) = id then loadReject s c 6
        else loadAccept s c (.key t ⟨r.take 32, ofBe ((r.drop 32).take 6)⟩ id)

/-- CIPH_LOAD_DONE: the operation completes (R313, R314, R316). -/
def loadDone (s : State) (c : Carrier) : State :=
  let h := s.ch c
  let s := (s.setBC c R.CIPH_LOAD.BUSY false).setCh c { h with job := .none }
  match h.job with
  | .none => s
  | .kek _ k => (s.setBC c R.CIPH_STAT.KEK_VALID true).setCh c { s.ch c with kek := some k }
  | .exportKek =>
    match h.kek with
    | some k =>
      foldIdx (fun i s b => setWindowByte s (blkBase (.cipher c) + 0x160) i b) 0 s (kwWrap (wrapKey s) k)
    | none => s
  | .key t k id =>
    let s := s.setCh c { s.ch c with slots := (s.ch c).slots.set t k }
    let s := (setSlotState s c t 1).set ((R.CIPH_SLOT.KEY_ID.ix t).on c) id
    if t < 2 then
      s.set (ctrF c t) (s.getC c R.CIPH_CTR_START_LO.START + 2 ^ 32 * s.getC c R.CIPH_CTR_START_HI.START)
    else setRxSlot s c

/-- Reset, SOFT_RESET or power-down of the domain empties every slot and the KEK (R312, R316). -/
def ciphErase (s : State) (c : Carrier) : State := s.setCh c CiphH.reset

/-! Commands of TX with what CIPHER and FRAMER make of them. -/

/-- TX_FRAME_START with the commit of CIPHER and what a commit of FRAMER changes (R18, R51, R317). -/
def ciphTxFrame (s : State) (c : Carrier) : State :=
  if txBoundary s c then
    let s := ciphCommit s c
    frmRefresh (txFrameStart s c) c
  else txFrameStart s c

end Sys2Proof.Machine
end

