-- ==== Sys2Proof/Machine/Remover.lean ====
section
/-! DEFINITION. The receive part of CIPHER: the remover of the device overhead blocks, anchor blocks, received segments and their
verdicts, the selector of DUAL (R264, R282, R306 to R311, R317, R318, R320, R321). -/

namespace Sys2Proof.Machine

open Sys2Proof

/-- The remover of a carrier replaced. -/
def setRem (s : State) (c : Carrier) (r : RemH) : State := s.setCh c { s.ch c with rem := r }

/-! Received keys (R307, R308, R317, R318). -/

/-- R305: an anchor block whose CRC matches. -/
def anchorValid (ab : Nat) : Bool := crcOf 16 0x1021 0xFFFF (msbFirst 176 (ab >>> 16)) == ab % 65536

/-- The receive switch at an anchor point: segments from the next one on use the new key, whose counter no anchor block has
brought yet (R317; log entry 116). -/
def rxSwitch (s : State) (c : Carrier) (next : Nat) : State :=
  let s := (s.setC c R.CIPH_RX_STAT.RX_KEY_ID next).setBC c R.CIPH_RX_STAT.PEND_RX false
  let h := s.ch c
  let s := setRxSlot (s.setCh c { h with rxNext := none, rem := { h.rem with ctrOpen := true } }) c
  s.raiseC c E.CIPH_KEY_SWITCH (s.getC c R.CIPH_RX_STAT.RX_SLOT)

/-- R307: the anchor would take the receiver back under the current key. -/
def anchorBackward (s : State) (c : Carrier) (ab : Nat) : Bool :=
  s.mode c != mDAWNRX && bitsOf ab 95 80 == s.getC c R.CIPH_RX_STAT.RX_KEY_ID &&
  (s.ch c).verKey == some (bitsOf ab 95 80) && decide (bitsOf ab 191 144 < s.getC c R.CIPH_RXCTR.RXCTR)

/-- KEYX of a valid anchor block (R318). -/
def rxKeyx (s : State) (c : Carrier) (ab : Nat) : State :=
  let on := bitOf ab 62
  let was := s.onC c R.CIPH_STAT.KEYX_RX
  let s := s.setBC c R.CIPH_STAT.KEYX_RX on
  if on && !was then s.raiseC c E.CIPH_KEYX_RX (bitsOf ab 95 80) else s

/-! Payload for the ports (R310, R311, R336, R340). -/

/-- The owner of a word's slot in a receive map; 63 where it has none. -/
def rxOwner (map : List Nat) (n w : Nat) : Nat :=
  let b := map.getD (wordSlot n w) 0
  if occ b then slotOwner b else 63

/-- Bytes of a slot reach the IMP receiver of its owner, with whether their segment failed. -/
def giveWord (s : State) (o : Nat) (w : List Nat) (bad : Bool) : State :=
  if decide (o < 24) && s.on (R.CL_PORT_STAT.RUNNING.ix o) then
    s.setPort o { s.port o with rxIn := (s.port o).rxIn ++ w.map (fun b => (b, bad)) }
  else s

/-- Likewise of words with their owners. -/
def giveWords (s : State) (ws : List (Nat × List Nat)) (bad : Bool) : State :=
  ws.foldl (fun s w => giveWord s w.1 w.2 bad) s

/-- The payload words of a whole frame with their owners (R262, R336). -/
def frameWords (map : List Nat) (n : Nat) (frame : List Nat) : List (Nat × List Nat) :=
  ((group16 frame).zipIdx.filter (fun p => payloadWord n p.2)).map (fun p => (rxOwner map n p.2, p.1))

/-- The source ID that enters a received segment's IV. -/
def rxSrc (s : State) (c : Carrier) : Nat := if s.mode c = mDAWNRX then (s.dh c).src else 0

/-- The key that deciphers a segment: of the receive slot that holds its KEY_ID (R308, R320). -/
def rxKey (s : State) (c : Carrier) (keyId : Nat) : Option KeySlot :=
  (rxSlotOf s c keyId).map (fun i => (s.ch (ciphOwner s c)).slots.getD (2 + i) .empty)

/-- Word `i` of a segment in plaintext; without a key as it came. -/
def plainWord (s : State) (c : Carrier) (g : SegRx) (i : Nat) (w : List Nat) : List Nat :=
  match rxKey s c g.key with
  | some k => gcmBlock (aesKeys k.key) (segIv k.salt g.ctr (rxSrc s c)) i w
  | none => w

/-- The words of a segment in plaintext: those received are its last ones so far. -/
def segPlain (s : State) (c : Carrier) (g : SegRx) : List (Nat × List Nat) :=
  g.words.zipIdx.map (fun p => (p.1.1, plainWord s c g (g.off / 16 - g.words.length + p.2) p.1.2))

/-! The remover (R264, R306). -/

/-- Cut-through is in force; in DUAL RELEASE is ignored (R311, R320). -/
def cutsThrough (s : State) (c : Carrier) : Bool := s.onC c R.CIPH_CFG.RELEASE && !inDual s

/-- Payload bytes of a received segment (R306). -/
def rxSegSize (s : State) (c : Carrier) : Nat := 16384 * (s.getC c R.CIPH_RX_STAT.RX_SEG_UNITS + 1)

/-- Bits handed on to FRAMER. -/
def handOn (s : State) (c : Carrier) (x : BitStr) : State := s.setMh c { s.mh c with rxBits := (s.mh c).rxBits.app x }

/-- The place in the stream behind what has been handed on. -/
def rxPlace (s : State) (c : Carrier) : Nat := (s.mh c).rxHead + (s.mh c).rxBits.len

/-- A word of the segment in progress comes under cut-through: what may go out goes, flagged where the segment is known to
have failed (R311). -/
def cutWord (s : State) (c : Carrier) : State :=
  let r := (s.ch c).rem
  let g := r.seg
  if !cutsThrough s c then s
  else
    let bad := !g.whole || r.dropping || g.uncorr || s.onC c R.CIPH_STAT.KEYX_RX ||
      !(if g.key = 0 then s.onC c R.CIPH_CFG.ACCEPT_CLEAR else (rxSlotOf s c g.key).isSome)
    let s := giveWords s ((segPlain s c g).drop g.sent) bad
    setRem s c { r with seg := { g with sent := g.words.length } }

/-- A frame begins in the remover's count: the receive map applies from here on, in REGEN the place is noted (R320, R339). -/
def frameTurn (s : State) (c : Carrier) : State :=
  let s := s.setMh c { s.mh c with rxMap := rxMapNow s c }
  let r := (s.ch c).rem
  if s.mode c = mREGEN then setRem s c { r with starts := r.starts ++ [(rxPlace s c, r.seg.ctr, r.seg.off)] } else s

/-- A tag block follows: the segment in progress has its size, or its burst has no further OTUCn frame (R304, R306, R320). -/
def tagFollows (s : State) (c : Carrier) : Bool :=
  decide (rxSegSize s c ≤ (s.ch c).rem.seg.off) || (s.ch c).rem.left == some 0

/-- A whole word of the OTUCn stream: it goes on to FRAMER, payload to the segment in progress as well (R263, R300, R306). -/
def remWord (s : State) (c : Carrier) (x : BitStr) (bad : Bool) : State :=
  let n := otuN s c
  let r := (s.ch c).rem
  let bytes := strBytes x
  let pay := payloadWord n r.word
  let g := r.seg
  let word := (rxOwner (s.mh c).rxMap n r.word, scrambleFrom n (16 * r.word) r.scr bytes)
  let g :=
    if pay then
      { g with off := g.off + 16, words := if s.mode c = mREGEN then [] else g.words ++ [word], uncorr := g.uncorr || bad }
    else g
  let turn := decide (956 * n ≤ r.word + 1)
  let s := setRem (handOn s c x) c { r with
    seg := g
    word := if turn then 0 else r.word + 1
    scr := if turn then 0xFFFF else scrambleReg n (16 * r.word) r.scr bytes
    left := if turn then r.left.map (· - 1) else r.left }
  let s := if pay then cutWord s c else s
  let s := if turn then frameTurn s c else s
  if pay && tagFollows s c then setRem s c { (s.ch c).rem with tagging := true } else s

/-- The segment after `g`: under the key now current; the counter of a key just switched to is not known before an anchor block
brings it (R303, R317). -/
def segAfter (s : State) (c : Carrier) (g : SegRx) (ctr : Option Nat) : SegRx :=
  { SegRx.reset with
    ctr := ctr.getD ((g.ctr + 1) % 2 ^ 48), key := s.getC c R.CIPH_RX_STAT.RX_KEY_ID, whole := true }

/-- A tag block has come: the segment waits for its verdict and the next one begins; in REGEN the tag block goes to the partner's
transmit part. Behind the last tag block of a burst the remover waits for the next burst (R306, R309, R320, R321). -/
def remTag (s : State) (c : Carrier) (x : BitStr) (bad : Bool) : State :=
  let r := (s.ch c).rem
  let tag := ofBe (strBytes x)
  let g := { r.seg with tag := tag, uncorr := r.seg.uncorr || bad, came := s.time.aon }
  let r :=
    if s.mode c = mREGEN then { r with tags := r.tags ++ [(rxPlace s c, tag, g.ctr)] } else { r with segs := r.segs ++ [g] }
  let next := segAfter s c g (if r.ctrOpen then some (s.free % 2 ^ 48) else none)
  let last := r.left == some 0
  let s := if r.ctrOpen then s.freeNext else s
  let s := setRem s c { r with seg := if last then .reset else next, tagging := false, dropping := false, ctrOpen := false }
  if last then s.setBC c R.CIPH_STAT.IN_SYNC false else s

/-- The next 128 bits of the data stream: a tag block or a word. -/
def remUnit (s : State) (c : Carrier) (x : BitStr) (bad : Bool) : State :=
  if !s.onC c R.CIPH_STAT.IN_SYNC then s
  else if (s.ch c).rem.tagging then remTag s c x bad
  else remWord s c x bad

/-- Data bits behind the device overhead blocks of the codeword: in the modes that bypass CIPHER they go on as they are;
without a valid anchor block nothing does (R306, R320). Bits before the first whole word go on as they are. -/
def remBits (s : State) (c : Carrier) (bits : BitStr) (bad : Bool) : State :=
  if ciphBypassed s c then handOn s c bits
  else if !s.running (.cipher c) || !s.onC c R.CIPH_STAT.IN_SYNC then s
  else
    let r := (s.ch c).rem
    let lead := bits.take r.skip
    let all := r.part.app (bits.drop r.skip)
    let n := all.len / 128
    let s := setRem (handOn s c lead) c { r with skip := r.skip - lead.len, part := .nil, partBad := false }
    let s := (List.range n).foldl (fun s i =>
      remUnit s c ((all.drop (128 * i)).take 128) (bad || (i == 0 && r.partBad))) s
    setRem s c { (s.ch c).rem with
      part := all.drop (128 * n), partBad := all.len % 128 != 0 && (bad || (n == 0 && r.partBad)) }

/-- The data blocks that wait pass the remover up to the next anchor block. -/
def remBlocks : List RxBlock → State → Carrier → State
  | [], s, c => setRem s c { (s.ch c).rem with blocks := [] }
  | b :: bs, s, c =>
    if b.anchor ≠ 0 ∧ s.running (.cipher c) then setRem s c { (s.ch c).rem with blocks := b :: bs }
    else remBlocks bs (remBits s c b.bits b.uncorr) c

/-- Likewise, in place. -/
def remDrain (s : State) (c : Carrier) : State := remBlocks (s.ch c).rem.blocks s c

/-! Received anchor blocks (R305 to R307, R317, R318). -/

/-- OFFSET and POS where the running count stands (R305; log entry 115). -/
def remPoint (s : State) (c : Carrier) : Nat × Nat :=
  let r := (s.ch c).rem
  let pos := (128 * r.word + 122368 * otuN s c - r.skip) % (122368 * otuN s c)
  if r.tagging then (r.seg.off, pos)
  else (if payloadWord (otuN s c) r.word then r.seg.off + r.part.len / 8 else r.seg.off, pos + r.part.len)

/-- An anchor block agrees with the running count (R306). -/
def anchorAgrees (s : State) (c : Carrier) (ab : Nat) : Bool :=
  (bitsOf ab 143 124, bitsOf ab 123 102) == remPoint s c && bitsOf ab 191 144 == (s.ch c).rem.seg.ctr

/-- The remover takes its place from an anchor block: the word behind it, the segment in progress (R305, R306). Where a tag
block had begun before it, how much of that is left the block does not say: it is free (log entry 115). -/
def anchorPlace (s : State) (c : Carrier) (ab : Nat) (first : Bool) : State :=
  let n := otuN s c
  let pos := bitsOf ab 123 102
  let off := bitsOf ab 143 124
  let r := (if s.onC c R.CIPH_STAT.IN_SYNC then (s.ch c).rem.cut else (s.ch c).rem)
  let k := pos % 128
  let w := (pos + 127) / 128 % (956 * n)
  let off' := if k ≠ 0 ∧ payloadWord n (pos / 128) then off - k / 8 + 16 else off
  let s := setRem s c { r with
    seg := { SegRx.reset with ctr := bitsOf ab 191 144, key := bitsOf ab 95 80, off := off', whole := off == 0 }
    part := .nil, partBad := false, skip := (128 - k) % 128, word := w, scr := scrambleAt n (16 * w), dropping := false
    ctrOpen := false, tagging := false
    left := if first && bitsOf ab 61 42 != 0 then some (bitsOf ab 61 42) else none }
  let s := s.setMh c { s.mh c with rxMap := rxMapNow s c }
  if rxSegSize s c ≤ off' then
    (setRem s c { (s.ch c).rem with tagging := true, part := ⟨if k = 0 then s.free % 128 else 0, 0⟩ }).freeNext
  else if k = 0 ∧ w = 0 then frameTurn s c
  else s

/-- What an anchor block says of key and switch (R306, R317). -/
def anchorKeys (s : State) (c : Carrier) (ab : Nat) : State :=
  let key := bitsOf ab 95 80
  let next := bitsOf ab 79 64
  if bitOf ab 63 then
    let s := setRxSlot (s.setC c R.CIPH_RX_STAT.RX_KEY_ID key) c
    (s.setBC c R.CIPH_RX_STAT.PEND_RX true).setCh c { s.ch c with rxNext := some next }
  else if next ≠ key then rxSwitch s c next
  else if (s.ch c).rxNext = some key then rxSwitch s c key
  else
    let s := setRxSlot (s.setC c R.CIPH_RX_STAT.RX_KEY_ID key) c
    (s.setBC c R.CIPH_RX_STAT.PEND_RX false).setCh c { s.ch c with rxNext := none }

/-- An anchor block adopted: place, segment size, and what it says of a switch (R306, R317). -/
def anchorAdopt (s : State) (c : Carrier) (ab : Nat) (place first : Bool) : State :=
  let s := (s.setCh c { s.ch c with rxAnchor := ab }).setC c R.CIPH_RX_STAT.RX_SEG_UNITS (bitsOf ab 101 96)
  let s := if place then anchorPlace s c ab first else s
  anchorKeys (rxKeyx (rxNsFollow (s.setBC c R.CIPH_STAT.IN_SYNC true) c) c ab) c ab

/-- A received anchor block; `first` marks the one of a Dawn burst's frame 0, which begins a new count (R306, R307, R317,
R320). -/
def anchorTaken (s : State) (c : Carrier) (ab : Nat) (first : Bool) : State :=
  if !anchorValid ab then
    let s := (s.bumpC c R.CIPH_CNT2.ANCHOR_BAD).raiseC c E.CIPH_ANCHOR 0
    match (s.ch c).rxNext with
    | some next => if s.onC c R.CIPH_STAT.IN_SYNC then rxSwitch s c next else s
    | none => s
  else if anchorBackward s c ab then
    let s := (s.bumpC c R.CIPH_CNT3.ANCHOR_BACK).raiseC c E.CIPH_ANCHOR 2
    if bitOf ab 62 then rxKeyx s c ab else s
  else
    let on := s.onC c R.CIPH_STAT.IN_SYNC
    let off := on && !first && !anchorAgrees s c ab
    let s := if off then (s.bumpC c R.CIPH_CNT2.CTR_RESYNC).raiseC c E.CIPH_ANCHOR 1 else s
    anchorAdopt s c ab (!on || off || first) first

/-- CIPH_ANCHOR_RECEIVE: the anchor block that begins the data block whose turn it is, and then what waits behind it (R306). -/
def anchorReceive (s : State) (c : Carrier) : State :=
  match (s.ch c).rem.blocks with
  | [] => s
  | b :: bs =>
    if !s.running (.cipher c) || ciphBypassed s c || b.anchor == 0 then s
    else
      let ab := ofBe (strBytes (b.bits.take 192))
      let s := setRem s c { (s.ch c).rem with blocks := ⟨b.bits.drop 192, 0, b.uncorr⟩ :: bs }
      remDrain (anchorTaken s c ab (b.anchor == 2)) c

/-! Verdicts (R308 to R311, R318, R320). -/

/-- EV_CIPH_KEY_MISMATCH, once for each new KEY_ID (R308). -/
def reportMismatch (s : State) (c : Carrier) (keyId : Nat) : State :=
  if (s.ch c).mismatch = some keyId then s
  else (s.setCh c { s.ch c with mismatch := some keyId }).raiseC c E.CIPH_KEY_MISMATCH keyId

/-- A verified segment (R307, R327). -/
def segmentGood (s : State) (c : Carrier) (g : SegRx) : State :=
  (s.setC c R.CIPH_RXCTR.RXCTR g.ctr).setCh c { s.ch c with verKey := some g.key }

/-- What the verdict on a segment is counted as, and whether the segment passes (R308, R309, R318). -/
def judge (s : State) (c : Carrier) (g : SegRx) : State × Bool :=
  if s.onC c R.CIPH_STAT.KEYX_RX || g.early then (s.bumpC c R.CIPH_CNT3.SEG_OTHER, false)
  else if g.key = 0 ∧ s.onC c R.CIPH_CFG.ACCEPT_CLEAR then
    if g.uncorr then (s.bumpC c R.CIPH_CNT1.UNCORR_SEG, false) else (s, true)
  else match rxKey s c g.key with
    | none => (reportMismatch (s.bumpC c R.CIPH_CNT1.KEY_MISMATCH) c g.key, false)
    | some k =>
      if g.uncorr then (s.bumpC c R.CIPH_CNT1.UNCORR_SEG, false)
      else if gcmTag (aesKeys k.key) (segIv k.salt g.ctr (rxSrc s c)) (g.words.flatMap (·.2)) = g.tag then (segmentGood s c g, true)
      else ((s.bumpC c R.CIPH_CNT0.TAG_FAIL).raiseC c E.CIPH_TAG_FAIL (g.ctr % 65536), false)

/-- What has not gone out of a segment goes to its ports, flagged where the segment failed; in cut-through the rest of the
segment then in progress is dropped after a failure that no UNCORR codeword had shown (R310, R311). -/
def segDeliver (s : State) (c : Carrier) (g : SegRx) (pass : Bool) : State :=
  let s := giveWords s ((segPlain s c g).drop g.sent) (!pass)
  if cutsThrough s c && !pass && !g.uncorr then setRem s c { (s.ch c).rem with dropping := true } else s

/-- A copy of a segment reaches the selector: too late where its output time has passed without it (R282, R284). -/
def copyArrives (s : State) (c : Carrier) (g : SegRx) (pass : Bool) : State :=
  let h := s.ch c
  let id := (g.ctr, g.key)
  if h.missed.contains id then
    let s := s.setCh c { h with missed := h.missed.erase id }
    frmRefresh ((setDefect s c 15 true).mark (.late c)) c
  else s.setCh c { h with copies := h.copies ++ [⟨g.ctr, g.key, pass, segPlain s c g, g.came⟩] }

/-- CIPH_SEGMENT_VERDICT on the oldest segment that waits for it. In DUAL the verdict goes to the selector. A segment of which
the first bytes were missed has no verdict and fails uncounted (R309 to R311, R320; log entry 116). -/
def segmentVerdict (s : State) (c : Carrier) : State :=
  match (s.ch c).rem.segs with
  | [] => s
  | g :: gs =>
    let s := setRem s c { (s.ch c).rem with segs := gs }
    if !g.whole then (if inDual s then s else giveWords s ((segPlain s c g).drop g.sent) true)
    else
      let x := judge s c g
      if inDual s then copyArrives x.1 c g x.2 else segDeliver x.1 c g x.2

/-! The selector of DUAL (R282 to R284). -/

/-- Of both carriers' copies the one that came first. -/
def firstCopy (s : State) : Option DualCopy :=
  ((s.ch .A).copies ++ (s.ch .B).copies).foldl (fun (o : Option DualCopy) x =>
    match o with
    | none => some x
    | some y => if x.came < y.came then some x else some y) none

/-- A carrier's copy of a segment. -/
def copyOf (s : State) (c : Carrier) (x : DualCopy) : Option DualCopy :=
  (s.ch c).copies.find? (fun y => y.ctr == x.ctr && y.key == x.key)

/-- It has come within `d` ns of the first copy `x`. -/
def copyInTime (s : State) (c : Carrier) (x : DualCopy) (d : Nat) : Option DualCopy :=
  (copyOf s c x).filter (fun y => decide (y.came ≤ x.came + d))

/-- A carrier's copy of a segment is no longer waited for: a late one declares dDSKEW, one that has not come is noted (R284). -/
def copyGone (s : State) (x : DualCopy) (d : Nat) (c : Carrier) : State :=
  let h := s.ch c
  let t := s.setCh c { h with
    copies := h.copies.filter (fun y => !(y.ctr == x.ctr && y.key == x.key))
    missed := if (copyOf s c x).isNone then h.missed ++ [(x.ctr, x.key)] else h.missed }
  if (copyOf s c x).isSome && (copyInTime s c x d).isNone then (setDefect t c 15 true).mark (.late c) else t

/-- A good copy: it has come, its carrier is not excluded, CIPHER has passed it, which a UNCORR codeword excludes (R282, R309). -/
def copyGood (s : State) (c : Carrier) (y : Option DualCopy) : Bool := !excluded s c && y.any (·.good)

/-- The words of a segment as the selector delivers them: those of a copy, flagged where it is not good; with no copy of the
carrier that it takes, the other's as a failed segment (log entry 116). -/
def dualGive (s : State) (own oth : Option DualCopy) (good : Bool) : State :=
  match own, oth with
  | some y, _ => giveWords s y.words (!good)
  | none, some y => giveWords s y.words true
  | none, none => s

/-- The choice of the selector at the output time of a segment, from both carriers' copies (R282). -/
def dualSelect (s : State) (a b : Option DualCopy) : State :=
  let pick := fun (c : Carrier) => match c with | .A => a | .B => b
  let mode := s.getC .A R.FRM_DUAL.SEL_MODE
  if mode = 1 then dualGive (frmRefresh (s.setBC .A R.FRM_DUAL_STAT.SEL false) .A) a b (copyGood s .A a)
  else if mode = 2 then dualGive (frmRefresh (s.setBC .A R.FRM_DUAL_STAT.SEL true) .A) b a (copyGood s .B b)
  else
    let sel := selectedCarrier s
    if copyGood s sel (pick sel) then dualGive s (pick sel) none true
    else if copyGood s sel.other (pick sel.other) then
      dualGive (frmRefresh ((s.setBC .A R.FRM_DUAL_STAT.SEL (sel == .A)).bumpC .A R.FRM_CNT1.SEG_SWITCH) .A) (pick sel.other) none true
    else dualGive (s.bumpC .A R.FRM_CNT1.SEG_BOTH_BAD) (pick sel) (pick sel.other) false

/-- The segment whose output time has come, D after its first copy, with D: of those that wait the one that came first (R282). -/
def outputDue (s : State) : Option (DualCopy × Nat) :=
  if !inDual s || !frmOn s .A || !s.onC .A R.FRM_DUAL_STAT.ALIGNED then none
  else match firstCopy s, (s.mh .A).delay with
    | some x, some d => if nsSince s x.came < d then none else some (x, d)
    | _, _ => none

/-- The output time of a segment, `d` ns after its first copy `x` (R282, R284). -/
def segmentOutput (s : State) (x : DualCopy) (d : Nat) : State :=
  let a := copyInTime s .A x d
  let b := copyInTime s .B x d
  let s := copyGone (copyGone s x d .A) x d .B
  dualSelect (frmRefresh (frmRefresh s .A) .B) a b

end Sys2Proof.Machine
end

