-- ==== Sys2Proof/Machine/Clk.lean ====
section
/-! DEFINITION. Clocks: power domains' state as other blocks see it, crystal, PLLs, reference monitors, cleanup DPLL, clock
muxes, frequency counter (R413 to R442). -/

namespace Sys2Proof.Machine

open Sys2Proof

/-! Domains (R491, R494). -/

/-- Domain `d` is clock-gated. -/
def State.domGated (s : State) (d : Nat) : Bool := bitOf (s.get R.PWR_CGATE_STAT.GATED) d

/-- PD_RXA, PD_RXB. -/
def dRX (c : Carrier) : Nat := 7 + 5 * c.num
/-- PD_TXA, PD_TXB. -/
def dTX (c : Carrier) : Nat := 8 + 5 * c.num
/-- PD_FECA, PD_FECB. -/
def dFEC (c : Carrier) : Nat := 9 + 5 * c.num
/-- PD_FRMA, PD_FRMB. -/
def dFRM (c : Carrier) : Nat := 15 + c.num
/-- PD_CLW. -/
def dCLW : Nat := 17
/-- PD_CLE. -/
def dCLE : Nat := 18
/-- PD_SW. -/
def dSW : Nat := 19
/-- PD_POD. -/
def dPOD : Nat := 20
/-- PD_DBG. -/
def dDBG : Nat := 21

/-- The domain in which a block's registers lie (R22); CONV's header lies in the ADC domain (R23). -/
def blkDom : Blk → Nat
  | .ledger => 1
  | .tx c => dTX c
  | .conv c => adcDom c
  | .rxdsp c | .dawn c => dRX c
  | .fec c => dFEC c
  | .framer c | .cipher c => dFRM c
  | .client | .flow | .lanes => dSW
  | .store | .pod => dPOD
  | _ => 0

/-- The blocks of a domain; CONV counts for both of its domains (R22). -/
def domBlks (d : Nat) : List Blk :=
  allBlks.filter (fun b => blkDom b == d ||
    (match b with | .conv c => dacDom c == d | _ => false))

/-- Any block of the domain runs (R492, R587). -/
def State.domRuns (s : State) (d : Nat) : Bool := (domBlks d).any s.running

/-! Crystal (R413, R414). -/

/-- AMP_OK rises or falls. A fall ends clock-good, and either restarts the strap delay. -/
def xoAmp (s : State) (up : Bool) : State :=
  let s := if s.on R.CLK_XO_STAT.AMP_OK = up then s else s.mark .crystal
  let s := s.setB R.CLK_XO_STAT.AMP_OK up
  if up then s else { s with clk := { s.clk with good := false } }

/-- CLOCK_GOOD: AMP_OK has held for the strap delay of 1, 4, 16 or 64 ms; in RESET the delay follows the pins, later the value
latched at BOOT. -/
def clockGood (s : State) (xtd : Nat) : State :=
  let code := if s.dev = 0 then xtd % 4 else s.get R.CLK_XO_STAT.XTD
  if s.on R.CLK_XO_STAT.AMP_OK && decide (1000000 * 4 ^ code ≤ s.age .crystal) then { s with clk := { s.clk with good := true, goodOnce := true } } else s

/-- A fall of AMP_OK has lasted 10 µs after clock-good (R414). -/
def xoFail (s : State) : State :=
  if s.on R.CLK_XO_STAT.AMP_OK || !s.clk.goodOnce || s.on R.CLK_XO_STAT.XO_FAIL || decide (s.age .crystal < 10000) then s
  else (s.setB R.CLK_XO_STAT.XO_FAIL true).raise E.XO_FAIL 0

/-! PLLs and muxes (R415, R416, R427 to R429). -/

/-- A PLL is locked (R439). -/
def pllLocked (s : State) (n : Nat) : Bool := bitOf (s.get R.CLK_PLL_STAT.LOCK) n
/-- The lock bit of a PLL, or the DPLL's. -/
def setLock (s : State) (n : Nat) (on : Bool) : State :=
  s.set R.CLK_PLL_STAT.LOCK (putBit (s.get R.CLK_PLL_STAT.LOCK) n on)

/-- The domain of a PLL (R415). -/
def pllDom (n : Nat) : Nat :=
  match n with
  | 1 => dPOD
  | 2 => dCLW
  | 3 => dCLE
  | 4 => adcDom .A
  | 5 => dacDom .A
  | 6 => adcDom .B
  | 7 => dacDom .B
  | _ => 0

/-- The PLL that drives a mux (R427). -/
def muxPll (n : Nat) : Nat :=
  match n with
  | 3 => 1
  | 4 => 5
  | 5 => 4
  | 6 => 7
  | 7 => 6
  | _ => 0

/-- The muxes that a PLL drives. -/
def pllMuxes (p : Nat) : List Nat := (List.range 8).filter (fun n => muxPll n == p)

/-- The source that a SEL value names: a PLL, the crystal, or none (R427). -/
def muxSource (n sel : Nat) : Option (Option Nat) :=
  if sel = 2 then some none
  else if sel = 0 then some (some (muxPll n))
  else if sel = 1 ∧ n = 0 then some (some 0)
  else none

/-- The source named is there to switch to (R429). -/
def sourceReady (s : State) (n sel : Nat) : Bool :=
  match muxSource n sel with
  | some none => true
  | some (some p) => pllLocked s p
  | none => false

/-- The rates of ADCPLL and DACPLL (R415), as sample rate times 2^20 plus symbol rate; 0 while one is not valid. -/
def pllRate (s : State) (n : Nat) : Nat :=
  let c := if n < 6 then Carrier.A else Carrier.B
  let conv := if n = 4 ∨ n = 6 then s.get ((R.CONV_RATE.RATE.ix 0).on c) else s.get ((R.CONV_RATE.RATE.ix 1).on c)
  let sym := if s.mode c = mBEXA then 130000 else if s.mode c = mZR400 then 59840
    else if n = 4 ∨ n = 6 then s.getC c R.RX_RATE.SYM_RATE else s.getC c R.TX_RATE.SYM_RATE
  if convRateOk conv && decide (53000 ≤ sym ∧ sym ≤ 240000) then conv * 2 ^ 20 + sym else 0

/-- A PLL has a rate to run at. -/
def pllRated (s : State) (n : Nat) : Bool :=
  if 4 ≤ n ∧ n ≤ 7 then pllRate s n != 0 || s.clk.rates.get n != 0 else true

/-- A mux moves to the crystal and waits for its source (R415, R427). -/
def muxToCrystal (s : State) (n : Nat) : State :=
  (s.set (R.CLK_MUX.CUR.ix n) 2).setB (R.CLK_MUX.SWITCHING.ix n) (s.get (R.CLK_MUX.SEL.ix n) != 2)

/-- A mux changes over to the source in SEL. -/
def muxOver (s : State) (n : Nat) : State :=
  (s.set (R.CLK_MUX.CUR.ix n) (s.get (R.CLK_MUX.SEL.ix n))).setB (R.CLK_MUX.SWITCHING.ix n) false

/-- A PLL locks: its muxes that wait for it can now change over (R427, R428); after a loss of SYSPLL, MUX0 waits for the return
of R416. -/
def pllLock (s : State) (n : Nat) : State :=
  if 8 ≤ n || pllLocked s n || !s.domOn (pllDom n) || !pllRated s n then s
  else
    let s := setLock s n true
    let s := if 4 ≤ n ∧ pllRate s n ≠ 0 then
      { s with clk := { s.clk with rates := Map.set s.clk.rates n (pllRate s n) } } else s
    if n = 0 ∧ s.clk.sysLost then (s.setB (R.CLK_MUX.SWITCHING.ix 0) true).mark .sysPll else s

/-- A PLL loses lock (R416). For SYSPLL, MUX0 moves to the crystal at once. -/
def pllUnlock (s : State) (n : Nat) : State :=
  if 8 ≤ n || !pllLocked s n then s
  else
    let s := (setLock s n false).raise E.PLL_UNLOCK n
    if n = 0 then
      { (s.set (R.CLK_MUX.CUR.ix 0) 2).setB (R.CLK_MUX.SWITCHING.ix 0) false with clk := { s.clk with sysLost := true } }
    else s

/-- SYSPLL has held lock again for 1 ms: MUX0 returns to the source in SEL (R416). -/
def sysReturn (s : State) : State :=
  if s.clk.sysLost && pllLocked s 0 && decide (1000000 ≤ s.age .sysPll) then { muxOver s 0 with clk := { s.clk with sysLost := false } } else s

/-- A rate field of a PLL has taken another valid value: the PLL's muxes move to the crystal while it relocks (R415). -/
def pllRates (s : State) (n : Nat) : State :=
  let r := pllRate s n
  if !pllLocked s n || r = 0 || s.clk.rates.get n = r then s
  else
    let s := setLock s n false
    let s := { s with clk := { s.clk with rates := Map.set s.clk.rates n r } }
    (pllMuxes n).foldl muxToCrystal s

/-- The four PLLs with rate fields looked at after a write or a change of mode (R415). -/
def pllRatesAll (s : State) : State := [4, 5, 6, 7].foldl pllRates s

/-- The PLLs and muxes of a domain that is switched off: no lock, and the crystal at the next power-up (R427). -/
def clkDomOff (s : State) (d : Nat) : State :=
  ((List.range 8).filter (fun n => n != 0 && pllDom n == d)).foldl (fun s n =>
    let s := setLock s n false
    (pllMuxes n).foldl muxToCrystal { s with clk := { s.clk with rates := Map.set s.clk.rates n 0 } }) s

/-- R429: SEL written. -/
def muxSelWrite (s : State) (n sel : Nat) : State :=
  let sel := sel % 4
  if s.on (R.CLK_MUX.SWITCHING.ix n) || !sourceReady s n sel || (n == 0 && s.clk.sysLost) then
    (s.setB (R.CLK_MUX.SEL_REJ.ix n) true).raise E.MUX_REJ n
  else
    (s.set (R.CLK_MUX.SEL.ix n) sel).setB (R.CLK_MUX.SWITCHING.ix n) (sel != s.get (R.CLK_MUX.CUR.ix n))

/-- R428: a mux has seen the low phases of both clocks. -/
def muxChangeover (s : State) (n : Nat) : State :=
  if s.on (R.CLK_MUX.SWITCHING.ix n) && !s.on (R.CLK_MUX.MUX_STALL.ix n) &&
      sourceReady s n (s.get (R.CLK_MUX.SEL.ix n)) && !(n == 0 && s.clk.sysLost) then muxOver s n else s

/-- R428: the old clock has stopped under a pending changeover, and the new clock has run for 256 cycles; MUX0's sources keep
running (R416). -/
def muxStall (s : State) (n : Nat) : State :=
  if n != 0 && sourceReady s n (s.get (R.CLK_MUX.SEL.ix n)) && s.on (R.CLK_MUX.SWITCHING.ix n) && !s.on (R.CLK_MUX.MUX_STALL.ix n) then
    (s.setB (R.CLK_MUX.MUX_STALL.ix n) true).raise E.MUX_STALL n
  else s

/-- R428: FORCE, which acts only while DOM_RST is 1; MUX0 has neither. -/
def muxForce (s : State) (n : Nat) : State :=
  if n != 0 && s.on (R.CLK_MUX.DOM_RST.ix n) then (muxOver s n).setB (R.CLK_MUX.MUX_STALL.ix n) false else s

/-- Control cycles in one AON cycle of 20 ns, by what MUX0 runs from (R427). -/
def ctlPerAon (s : State) : Nat :=
  match s.get (R.CLK_MUX.CUR.ix 0) with
  | 0 => 16
  | 1 => 2
  | _ => 1

/-- ns of `n` control cycles. -/
def ctlNs (s : State) (n : Nat) : Nat := 20 * n / ctlPerAon s

/-- ns of `n` cycles of the clock behind mux `m`: 20 ns each from the crystal; none while it is stalled (R415, R427, R428). -/
def muxNs (s : State) (m n : Nat) : Option Nat :=
  if s.on (R.CLK_MUX.MUX_STALL.ix m) then none
  else if s.get (R.CLK_MUX.CUR.ix m) = 2 then some (20 * n)
  else some (match m with
    | 0 => ctlNs s n
    | 1 => n
    | 2 => n * 4 / 5
    | 3 => n * 5 / 8
    | _ => n * 256000 / max 1 (s.clk.rates.get (muxPll m) % 2 ^ 20))

/-- The mux that gives a domain its register clock (R22, R668). -/
def domMux (s : State) (d : Nat) : Nat :=
  match [Carrier.A, .B].find? (fun c => decide (adcDom c ≤ d ∧ d ≤ dFEC c)) with
  | some c => if d = dacDom c ∨ d = dTX c ∨ (d = dFEC c ∧ s.domOn (dacDom c)) then 4 + 2 * c.num else 5 + 2 * c.num
  | none => if d = dFRM .A ∨ d = dFRM .B then 1 else if d = dCLW ∨ d = dCLE ∨ d = dSW then 2 else if d = dPOD then 3 else 0

/-- The longest wait for a domain's bus-idle acknowledge in ns: 1,024 cycles of its register clock, 50 µs while that is stopped
(R492, R587). -/
def ackWait (s : State) (d : Nat) : Nat := (muxNs s (domMux s d) 1024).getD 50000

/-! The cleanup DPLL (R422 to R426). -/

/-- FREERUN. -/
def pFREERUN : Nat := 0
/-- ACQUIRE. -/
def pACQUIRE : Nat := 1
/-- LOCKED. -/
def pLOCKED : Nat := 2
/-- DUSK. -/
def pDUSK : Nat := 3

/-- The reference in use (R417). -/
def refSel (s : State) : Nat := s.get R.CLK_DPLL_STAT.SEL
/-- A reference is qualified. -/
def refQual (s : State) (r : Nat) : Bool := s.on (R.CLK_MON.QUAL.ix r)
/-- The bandwidth code in force (R422, R424). -/
def dpllBandwidth (s : State) : Nat :=
  let bw := s.get R.CLK_DPLL_CTRL.BW
  if s.get R.CLK_DPLL_STAT.STATE = pACQUIRE then max bw 5 else bw

/-- The DPLL changes state; its LOCK bit follows, and FREERUN clears HIST_VALID. -/
def dpllTo (s : State) (st : Nat) : State :=
  let s := if st = pACQUIRE then s.mark .acquire else if st = pLOCKED then s.mark .locked else s
  let s := setLock (s.set R.CLK_DPLL_STAT.STATE st) 8 (st == pLOCKED)
  if st = pFREERUN then s.setB R.CLK_DPLL_STAT.HIST_VALID false else s

/-- The DPLL measures a phase offset, or measures none. -/
def setAbsorb (s : State) (on : Bool) : State := { s with clk := { s.clk with absorbing := on } }

/-- Entry to DUSK: the mean output frequency is held. It is measured, so its value is free (R426, log entry 7). -/
def duskEnter (s : State) : State :=
  ((setAbsorb (dpllTo s pDUSK) false).setFree R.CLK_DUSK_FREQ.FREQ |>.bump R.CLK_CNT.DUSK_ENTRIES).raise E.DUSK 1

/-- LOCKED loses its reference (R422). -/
def dpllLose (s : State) : State :=
  if s.on R.CLK_DPLL_STAT.HIST_VALID then duskEnter s else setAbsorb (dpllTo s pFREERUN) false

/-- The DPLL as the qualification of the selected reference stands (R422). -/
def dpllFollow (s : State) : State :=
  let q := refQual s (refSel s)
  let st := s.get R.CLK_DPLL_STAT.STATE
  if st = pFREERUN then (if q then dpllTo s pACQUIRE else s)
  else if st = pACQUIRE then (if q then s else dpllTo s pFREERUN)
  else if st = pLOCKED then (if q then s else dpllLose s)
  else setAbsorb s q

/-- DPLL_LOCK: the phase error has stayed within ±10 ns for 1 s of ACQUIRE (R422). -/
def dpllLock (s : State) : State :=
  if s.get R.CLK_DPLL_STAT.STATE = pACQUIRE ∧ 1000000000 ≤ s.age .acquire then (dpllTo s pLOCKED).raise E.DPLL_LOCK 0 else s

/-- The averaging time of HOLD_AVG in ns (R434). -/
def holdAvg (s : State) : Nat := 10 ^ s.get R.CLK_DPLL_CTRL.HOLD_AVG * 1000000000

/-- DPLL_HIST_VALID: the DPLL has been LOCKED for the averaging time (R422). -/
def dpllHist (s : State) : State :=
  if s.get R.CLK_DPLL_STAT.STATE = pLOCKED ∧ holdAvg s ≤ s.age .locked then s.setB R.CLK_DPLL_STAT.HIST_VALID true else s

/-- The phase measurement ends: the offset is reported, and DUSK returns to LOCKED (R425). -/
def dpllAbsorbed (s : State) (ps : Int) : State :=
  if !s.clk.absorbing then s
  else
    let s := setAbsorb (s.set R.CLK_PHASE.PHASE_PS (ofSigned 32 ps)) false
    if s.get R.CLK_DPLL_STAT.STATE = pDUSK then (dpllTo s pLOCKED).raise E.DUSK 0 else s

/-- R417, R422, R423: a change of the REFSEL pins is accepted. -/
def refselAccept (s : State) (sel : Nat) : State :=
  let sel := sel % 4
  let old := refSel s
  if sel = old then s
  else
    let s := (s.set R.CLK_DPLL_STAT.SEL sel).raise E.REF_SWITCH (sel + 16 * old)
    let st := s.get R.CLK_DPLL_STAT.STATE
    if st = pLOCKED then
      if refQual s sel then setAbsorb (s.bump R.CLK_CNT.SWITCHES) true else dpllLose s
    else if st = pDUSK then
      if refQual s sel then setAbsorb s true
      else (setAbsorb ((s.raise E.DUSK 0).bump R.CLK_CNT.DUSK_ENTRIES) false).raise E.DUSK 1
    else dpllFollow s

/-! Reference monitors (R418 to R421). -/

/-- The monitor of a reference. -/
def refMon (s : State) (r : Nat) : RefMon := (s.clk.mons[r]?).getD .reset
/-- That monitor replaced. -/
def setMon (s : State) (r : Nat) (m : RefMon) : State := { s with clk := { s.clk with mons := s.clk.mons.set r m } }

/-- A reference is monitored (R418). -/
def refMonitored (s : State) (r : Nat) : Bool := r == 3 || s.on (R.CLK_REF_CFG.EN.ix r)

/-- QUAL as it follows from the other flags (R418). -/
def refQualify (s : State) (r : Nat) : State :=
  s.setB (R.CLK_MON.QUAL.ix r) (refMonitored s r && !s.on (R.CLK_MON.LOA.ix r) && !s.on (R.CLK_MON.HARD_OUT.ix r) &&
    (refMon s r).measured)

/-- LOA takes a value (R418); setting it sets HARD_OUT at once (R420). -/
def setLoa (s : State) (r : Nat) (on : Bool) : State :=
  let s :=
    if on then setMon (s.setB (R.CLK_MON.HARD_OUT.ix r) true) r { refMon s r with hardGood := 0 } else s
  if s.on (R.CLK_MON.LOA.ix r) = on then s
  else (s.setB (R.CLK_MON.LOA.ix r) on).raise E.REF_LOA (r + 256 * b2n on)

/-- A count of results in a row. -/
def inRow (n : Nat) (b : Bool) : Nat := if b then n + 1 else 0

/-- SOFT_OUT after a measurement (R419). -/
def softWindow (s : State) (r : Nat) : State :=
  let m := refMon s r
  if 3 ≤ m.softBad ∧ ¬ s.on (R.CLK_MON.SOFT_OUT.ix r) then (s.setB (R.CLK_MON.SOFT_OUT.ix r) true).raise E.REF_SOFT r
  else if 3 ≤ m.softGood then s.setB (R.CLK_MON.SOFT_OUT.ix r) false
  else s

/-- HARD_OUT after a measurement (R418, R420). -/
def hardWindow (s : State) (r : Nat) (fresh : Bool) : State :=
  let m := refMon s r
  let loa := s.on (R.CLK_MON.LOA.ix r)
  if 2 ≤ m.hardBad || loa then s.setB (R.CLK_MON.HARD_OUT.ix r) true
  else if fresh || 100 ≤ m.hardGood then s.setB (R.CLK_MON.HARD_OUT.ix r) false
  else s

/-- The offset of a reference from nominal in 0.01 ppm: of its frequency in µHz as the crystal measures it, with the correction of
XO_TRIM; for the PTP-derived reference the primary domain's frequency estimate, read as its FADJ (R418, R445; log entry 106). -/
def refOffset (s : State) (r f : Nat) : Int :=
  if r = 3 then divRoundI (toSigned 32 (s.get (R.TD_FADJ.FADJ.ix 0))) 40960
  else
    let n := max 1 (s.get (R.CLK_REF_CFG.FREQ_HZ.ix r))
    divRoundI (((f : Int) - (n * 1000000 : Nat)) * 1000 - toSigned 20 (s.get R.CLK_XO_TRIM.XO_TRIM) * (n : Int)) (10 * n)

/-- Activity of a reference: edges, or for the PTP-derived one the validity of the primary domain (R418). -/
def refActive (s : State) (r : Nat) (edges : Bool) : Bool := edges && (r != 3 || s.on (R.TD_CTRL.VALID.ix 0))

/-- One measurement of one reference: its frequency in µHz, and whether edges arrived (or the domain was valid)
throughout (R418 to R420). A reference that is not monitored, or any while XO_FAIL is 1, has none. -/
def refMeasure (s : State) (r f : Nat) (edges : Bool) : State :=
  if !refMonitored s r || s.on R.CLK_XO_STAT.XO_FAIL then s
  else
    let off := refOffset s r f
    let edges := refActive s r edges
    let s := s.set (R.CLK_MON.OFFSET.ix r) (ofSigned 24 (clampSigned 24 off))
    let s := if edges then setLoa s r false else s
    let m := refMon s r
    let win := fun (f : Fld) => decide (off.natAbs ≤ 10 * max 1 (s.get f))
    let soft := win R.CLK_WIN.SOFT
    let hard := win R.CLK_WIN.HARD
    let loa := s.on (R.CLK_MON.LOA.ix r)
    let s := setMon s r ⟨inRow m.softBad (!soft), inRow m.softGood soft, inRow m.hardBad (!hard),
      inRow m.hardGood (hard && !loa), true, false⟩
    refQualify (hardWindow (softWindow s r) r m.fresh) r

/-- The pairs of R421, in the order of the bits of DISAGREE; those with the PTP-derived reference share bit 3. -/
def refPairs : List (Nat × Nat) := [(0, 1), (0, 2), (1, 2), (0, 3), (1, 3), (2, 3)]

/-- The comparison of one pair after the measurements (R421). -/
def refCompare (s : State) (i : Nat) (ab : Nat × Nat) : State :=
  let p := (s.clk.pairs[i]?).getD .reset
  let put := fun (s : State) (p : RefPair) => { s with clk := { s.clk with pairs := s.clk.pairs.set i p } }
  if !refQual s ab.1 || !refQual s ab.2 then put s { p with bad := 0, good := 0 }
  else
    let o := fun r => toSigned 24 (s.get (R.CLK_MON.OFFSET.ix r))
    let apart := decide ((o ab.1 - o ab.2).natAbs > 10 * max 1 (s.get R.CLK_WIN.REF_AGREE))
    let p := { p with bad := inRow p.bad apart, good := inRow p.good (!apart) }
    if 3 ≤ p.bad ∧ ¬ p.on then (put s { p with on := true }).raise E.REF_DISAGREE (ab.1 + 16 * ab.2)
    else if 3 ≤ p.good then put s { p with on := false }
    else put s p

/-- DISAGREE as the pairs stand (R435). -/
def refDisagree (s : State) : State :=
  let on := fun i => ((s.clk.pairs[i]?).getD .reset).on
  s.set R.CLK_DPLL_STAT.DISAGREE (b2n (on 0) + 2 * b2n (on 1) + 4 * b2n (on 2) + 8 * b2n (on 3 || on 4 || on 5))

/-- The measurements at the end of a period, for A, B, C and the PTP-derived reference (R418 to R422). -/
def refPeriod (s : State) (ms : List (Nat × Bool)) : State :=
  let s := foldIdx (fun r (s : State) (m : Nat × Bool) => if r < 4 then refMeasure s r m.1 m.2 else s) 0 s ms
  let s := if s.on R.CLK_XO_STAT.XO_FAIL then s
    else refDisagree (foldIdx (fun i (s : State) (ab : Nat × Nat) => refCompare s i ab) 0 s refPairs)
  dpllFollow s

/-- REF_MEASUREMENT: the measurements of one period of 100 ms, once it is over (R418). -/
def refMeasurements (s : State) (ms : List (Nat × Bool)) : State :=
  match s.lap .refs 100000000 with
  | some s => refPeriod s ms
  | none => s

/-- REF_LOA: no edge for 2.5 nominal periods, or the primary domain is not valid (R418). -/
def refLoa (s : State) (r : Nat) : State :=
  if !refMonitored s r || s.on R.CLK_XO_STAT.XO_FAIL || refActive s r (r == 3) then s
  else dpllFollow (refQualify (setLoa s r true) r)

/-- R418: a write to FREQ_HZ or EN restarts the monitor. -/
def refRestart (s : State) (r : Nat) : State :=
  let s := s.setB (R.CLK_MON.SOFT_OUT.ix r) false
  let s := s.setB (R.CLK_MON.HARD_OUT.ix r) true
  dpllFollow (refQualify (setMon s r { RefMon.reset with fresh := true }) r)

/-! Frequency counter (R430). -/

/-- The clock of an FMEAS source is stopped, or its domain is off. -/
def fmeasStopped (s : State) (src : Nat) : Bool :=
  if 6 ≤ src ∧ src ≤ 13 then
    let n := src - 6
    s.on (R.CLK_MUX.MUX_STALL.ix n) || (n ≥ 3 && !s.domOn (pllDom (muxPll n)))
  else if src = 14 ∨ src = 15 then !s.domOn (adcDom (if src = 14 then .A else .B))
  else src == 0 && s.on R.CLK_XO_STAT.XO_FAIL

/-- START, ignored while BUSY. -/
def fmeasStart (s : State) : State :=
  if s.on R.FMEAS_CTRL.BUSY then s else ((s.setB R.FMEAS_CTRL.BUSY true).setB R.FMEAS_CTRL.START true).mark .gate

/-- Cycles of the gate reference that a measurement takes: 2^GATE_LOG2 within 10 to 30 (R430). -/
def gateCycles (s : State) : Nat := 2 ^ max 10 (min 30 (s.get R.FMEAS_CTRL.GATE_LOG2))

/-- The gate in ns: cycles of the crystal, 20 ns, or of DCLK, 3.2 ns. -/
def gateNs (s : State) : Nat := if s.on R.FMEAS_CTRL.GATE_SEL then gateCycles s * 16 / 5 else gateCycles s * 20

/-- What the gate counts of a source: a stopped clock gives 0, the gate's own clock the cycles of the gate, another the edges
counted. -/
def gateCount (s : State) (src count : Nat) : Nat :=
  if fmeasStopped s src then 0
  else if (src ≤ 1 && !s.on R.FMEAS_CTRL.GATE_SEL) || (src == 2 && s.on R.FMEAS_CTRL.GATE_SEL) then gateCycles s
  else count

/-- The gate never ends on a crystal that has stopped (R414). -/
def gateStopped (s : State) : Bool := s.on R.CLK_XO_STAT.XO_FAIL && !s.on R.FMEAS_CTRL.GATE_SEL

/-- The snapshots of COUNT are superseded by a later measurement, whatever that counts (R431, R441); bit 48 marks them. -/
def fmeasSupersede (s : State) : State :=
  { s with ctl := { s.ctl with
    snaps := s.ctl.snaps.map (fun p => if p.1 % 2 ^ 40 = R.FMEAS.COUNT.addr then (p.1, p.2 ||| 2 ^ 48) else p) } }

/-- FMEAS_DONE: the gate is over, with `count` edges counted. -/
def fmeasDone (s : State) (count : Nat) : State :=
  if !s.on R.FMEAS_CTRL.BUSY || gateStopped s || decide (s.age .gate < gateNs s) then s
  else
    let src := s.get R.FMEAS_CTRL.SRC
    let s := fmeasSupersede (s.set R.FMEAS.COUNT (gateCount s src count))
    ((s.setB R.FMEAS_CTRL.BUSY false).setB R.FMEAS_CTRL.START false).raise E.FMEAS_DONE src

end Sys2Proof.Machine
end

