-- ==== Sys2Proof/Machine/Time.lean ====
section
/-! DEFINITION. Network time: the two domains and their steering, the active domain and its residual, captures and pulses,
the video timebases (R443 to R457, R469 to R473). -/

namespace Sys2Proof.Machine

open Sys2Proof

/-- The count of a domain below 2^48 ns, in `timeUnit`s; domain 0 is P, 1 is S. -/
def domCount (s : State) (d : Nat) : Nat := if d = 0 then s.time.p else s.time.s
/-- That count replaced. -/
def setDomCount (s : State) (d v : Nat) : State :=
  if d = 0 then { s with time := { s.time with p := v } } else { s with time := { s.time with s := v } }
/-- The slew that remains for a domain, in `timeUnit`s. -/
def domSlew (s : State) (d : Nat) : Int := if d = 0 then s.time.slewP else s.time.slewS
/-- That slew replaced. -/
def setDomSlew (s : State) (d : Nat) (v : Int) : State :=
  if d = 0 then { s with time := { s.time with slewP := v } } else { s with time := { s.time with slewS := v } }

/-- The range of a 48-bit count. -/
def wrap48 : Nat := 2 ^ 48 * timeUnit
/-- The range of a 64-bit count. -/
def wrap64 : Nat := 2 ^ 64 * timeUnit

/-- The whole 64-bit count of a domain, in `timeUnit`s (R444). -/
def domFull (s : State) (d : Nat) : Nat := s.get (R.TD_EXT.EXT.ix d) * wrap48 + domCount s d
/-- That count replaced. -/
def setDomFull (s : State) (d : Nat) (v : Int) : State :=
  let v := (v % (wrap64 : Int)).toNat
  setDomCount (s.set (R.TD_EXT.EXT.ix d) (v / wrap48)) d (v % wrap48)
/-- The 64-bit count of a domain in ns. -/
def domNs (s : State) (d : Nat) : Nat := domFull s d / timeUnit
/-- The 48-bit result TD_NOW (R444, R471). -/
def domNow (s : State) (d : Nat) : Nat := domCount s d / timeUnit
/-- VALID of a domain (R447). -/
def domValid (s : State) (d : Nat) : Bool := s.on (R.TD_CTRL.VALID.ix d)
/-- The active domain (R449). -/
def actDom (s : State) : Nat := s.get R.TIME_STAT.ACT_DOM
/-- Timebase time in `timeUnit`s: the active domain plus the residual (R443, R450). -/
def tbtFull (s : State) : Nat := (((domFull s (actDom s) : Int) + s.time.resid) % (wrap64 : Int)).toNat
/-- Timebase time in ns. -/
def tbtNs (s : State) : Nat := tbtFull s / timeUnit
/-- The count of a scale in ns (R458). -/
def scaleNs (s : State) : Scale → Nat
  | .tbt => tbtNs s
  | .p => domNs s 0
  | .s => domNs s 1

/-- A setting that acts as 1 when it is 0. -/
def atLeast1 (n : Nat) : Nat := max 1 n

/-! Advance (R443 to R446, R450). -/

/-- FADJ as the counter applies it: the primary counter does not apply it a second time while REFSEL selects the
PTP-derived reference (R445). -/
def domFadj (s : State) (d : Nat) : Int := if d = 0 ∧ refSel s = 3 then 0 else toSigned 32 (s.get (R.TD_FADJ.FADJ.ix d))

/-- What moves towards 0 by at most `m`: the part moved. -/
def towards0 (v : Int) (m : Nat) : Int := if v > 0 then min v m else max v (-(m : Int))

/-- The 48-bit count passes 2^48 ns through the domain's own advance: EXT increments (R444). -/
def extWrap (s : State) (d : Nat) : State :=
  (s.set (R.TD_EXT.EXT.ix d) (s.get (R.TD_EXT.EXT.ix d) + 1)).raise E.TIME_EXT d

/-- A domain advances by one AON cycle of 20 ns, with its slew. -/
def domTick (s : State) (d : Nat) : State :=
  let mv := towards0 (domSlew s d) (131072000 * atLeast1 (s.get (R.TD_CTRL.SLEW_RATE.ix d)))
  let v := ((domCount s d : Int) + 20 * (timeUnit : Int) + 320 * domFadj s d + mv).toNat
  let s := setDomSlew s d (domSlew s d - mv)
  if wrap48 ≤ v then extWrap (setDomCount s d (v - wrap48)) d else setDomCount s d v

/-- The residual of a switch reported, with SLEWING (R450, R470). -/
def setResid (s : State) (r : Int) : State :=
  ({ s with time := { s.time with resid := r } }.set R.TIME_RESID.RESID_NS
    (ofSigned 32 (clampSigned 32 (r.tdiv timeUnit)))).setB R.TIME_STAT.SLEWING (r != 0)

/-- The residual moves towards 0 for one AON cycle (R450). -/
def residTick (s : State) : State :=
  if s.time.resid = 0 then s
  else setResid s (s.time.resid - towards0 s.time.resid (131072000 * atLeast1 (s.get R.TIME_CTRL.SW_SLEW)))

/-- STORE counts a wrap of the primary domain's 32-bit ns count (R359). -/
def wrapTick (before s : State) : State :=
  if domNow s 0 % 2 ^ 32 + 2 ^ 31 < domNow before 0 % 2 ^ 32 then
    { s with store := { s.store with wraps := (s.store.wraps + 1) % 65536 } }
  else s

/-- One AON cycle of every time scale. -/
def timeTick (s : State) : State :=
  let s := { s with time := { s.time with aon := (s.time.aon + 20) % 2 ^ 48, up := (s.time.up + 20) % (2 ^ 32 * 1000000) } }
  residTick (wrapTick s (domTick (domTick s 0) 1))

/-- TIME_EXT_WRAP: the domain advances over 2^48 ns, where its next advance takes it there (R444). -/
def timeExtWrap (s : State) (d : Nat) : State :=
  if domCount (domTick s d) d < domCount s d then domTick s d else s

/-! Phase commands (R446). -/

/-- A command of key `k` (2d for SET, 2d + 1 for STEP of domain d) acts in this AON cycle. -/
def markActed (s : State) (k : Nat) : State := { s with time := { s.time with acted := s.time.acted.put k s.time.aon } }
/-- A command of key `k` has acted in this AON cycle. -/
def actedNow (s : State) (k : Nat) : Bool := s.time.acted.find k == some s.time.aon

/-- SET acts, in the AON cycle after its write: all 64 bits are loaded, and a slew that remains is cancelled (log entry 13). -/
def tdSet (s : State) (d : Nat) : State :=
  let v : Nat := s.get (R.TD_SET_LO.SET.ix d) + 2 ^ 32 * s.get (R.TD_SET_HI.SET.ix d)
  (setDomSlew (setDomFull (markActed s (2 * d)) d ((v * timeUnit : Nat) : Int)) d 0).raise E.TIME_STEP d

/-- STEP: a signed number of ns is added to the whole count, and a slew that remains is cancelled; discarded where a SET acts in
the same AON cycle. -/
def tdStep (s : State) (d v : Nat) : State :=
  if actedNow s (2 * d) then s
  else
    (setDomSlew (setDomFull (markActed s (2 * d + 1)) d ((domFull s d : Int) + toSigned 32 v * timeUnit)) d 0).raise E.TIME_STEP d

/-- SLEW: replaces any slew that remains; discarded where a SET or a STEP acts in the same AON cycle. -/
def tdSlew (s : State) (d v : Nat) : State :=
  if actedNow s (2 * d) || actedNow s (2 * d + 1) then s else setDomSlew s d (toSigned 32 v * timeUnit)

/-! Validity and comparison (R447, R448). -/

/-- DISAGREE takes a value. -/
def setDisagree (s : State) (on : Bool) : State :=
  if s.on R.TIME_STAT.DISAGREE = on then s
  else (s.setB R.TIME_STAT.DISAGREE on).raise E.TIME_DISAGREE (256 * b2n on)

/-- VALID of a domain takes a value. Without validity DISAGREE clears, and the PTP-derived reference loses its activity
when P is concerned (R418, R447, R448). -/
def setDomValid (s : State) (d : Nat) (on : Bool) : State :=
  if domValid s d = on then s
  else
    let s := (s.setB (R.TD_CTRL.VALID.ix d) on).setB (if d = 0 then R.TIME_STAT.VALID_P else R.TIME_STAT.VALID_S) on
    let s := s.raise E.TIME_VALID (d + 256 * b2n on)
    if on then s
    else
      let s := setDisagree { s with time := { s.time with bad := 0, good := 0 } } false
      if d = 0 then refLoa s 3 else s

/-- TD_CTRL.VALID written: a write of 1 sets it and starts or restarts the lease (R447). -/
def domValidWrite (s : State) (d : Nat) (on : Bool) : State := setDomValid (if on then s.mark (.lease d) else s) d on

/-- TD_LEASE_EXPIRY: LEASE_S seconds have passed since the last write of 1 (R447). -/
def leaseExpiry (s : State) (d : Nat) : State :=
  if domValid s d && decide (1000000000 * atLeast1 (s.get (R.TD_CTRL.LEASE_S.ix d)) ≤ s.age (.lease d)) then setDomValid s d false
  else s

/-- S − P in ns, saturated, with the error of the measurement (at most 4 ns) added (R448, R470). -/
def measuredDiff (s : State) (err : Int) : Int :=
  clampSigned 32 (((domFull s 1 : Int) - (domFull s 0 : Int)) / (timeUnit : Int) + max (-4) (min 4 err))

/-- |DIFF| lies within TIME_AGREE. -/
def diffAgrees (s : State) (diff : Int) : Bool := decide (diff.natAbs ≤ 10 * atLeast1 (s.get R.TIME_CTRL.TIME_AGREE))

/-- A measurement of DIFF (R448). -/
def diffTaken (s : State) (err : Int) : State :=
  let diff := measuredDiff s err
  let s := s.set R.TIME_DIFF.DIFF_NS (ofSigned 32 diff)
  if !domValid s 0 || !domValid s 1 then s
  else
    let ok := diffAgrees s diff
    let s := { s with time := { s.time with bad := inRow s.time.bad (!ok), good := inRow s.time.good ok } }
    if 3 ≤ s.time.bad then setDisagree s true
    else if 3 ≤ s.time.good then setDisagree s false
    else s

/-- TIME_DIFF_MEASURE: once per millisecond (R448). -/
def diffMeasure (s : State) (err : Int) : State :=
  match s.lap .diff 1000000 with
  | some s => diffTaken s err
  | none => s

/-! Switching (R449 to R451). -/

/-- SW_REQ: a seamless switch to SW_TARGET, or its refusal (R450). -/
def swReq (s : State) : State :=
  let t := s.get R.TIME_CTRL.SW_TARGET
  if !domValid s t || !diffAgrees s (toSigned 32 (s.get R.TIME_DIFF.DIFF_NS)) || s.time.resid != 0 then
    s.raise E.TIME_SWITCH (t + 256 + 512)
  else
    let r := (domFull s (actDom s) : Int) - (domFull s t : Int)
    (setResid (s.set R.TIME_STAT.ACT_DOM t) r).raise E.TIME_SWITCH (t + 256)

/-- SW_FORCE: the switch at once, with R = 0 (R451). -/
def swForce (s : State) : State :=
  let t := s.get R.TIME_CTRL.SW_TARGET
  (setResid (s.set R.TIME_STAT.ACT_DOM t) 0).raise E.TIME_SWITCH t

/-- TIME_RESIDUAL_DONE: the residual reaches 0 with its next move (R450). -/
def residDone (s : State) : State := if (residTick s).time.resid = 0 then residTick s else s

/-! Captures and pulses (R452, R453). -/

/-- P, S and AON time latched; `pps` names the cause (R452). -/
def timeCapture (s : State) (pps : Bool) : State :=
  let s := s.set R.CAP_P.CAP_P (domNow s 0)
  let s := s.set R.CAP_S.CAP_S (domNow s 1)
  let s := s.set R.CAP_A.CAP_A s.time.aon
  ({ s with time := { s.time with lastCap := some s.time.aon } }.setB R.CAP_CTRL.CAP_VALID true).raise E.TIME_CAPTURE
    (b2n pps)

/-- Less than 100 ms have passed since the last capture. -/
def capTooSoon (s : State) : Bool :=
  match s.time.lastCap with
  | some t => decide ((s.time.aon + 2 ^ 48 - t) % 2 ^ 48 < 100000000)
  | none => false

/-- An edge of PPS_IN (R452). -/
def ppsIn (s : State) (rising : Bool) : State :=
  if s.on R.CAP_CTRL.PPS_IN_EN && (s.on R.CAP_CTRL.PPS_POL != rising) && !capTooSoon s then timeCapture s true else s

/-- The time that PPS_OUT follows, in ns, brought forward by PPS_OUT_OFF, and its second (R453). -/
def ppsSecond (s : State) : Nat :=
  let src := s.get R.PPS_OUT_CFG.SRC
  let t : Nat := if src = 3 then s.time.aon else if src = 2 then tbtNs s else domNs s src
  (((t : Int) + toSigned 32 (s.get R.PPS_OUT_OFF.OFF_NS)) / 1000000000 % (2 ^ 64 : Nat)).toNat

/-- A write of PPS_OUT_CFG or PPS_OUT_OFF: only multiples crossed from now on start a pulse. -/
def ppsConfig (s : State) : State := { s with time := { s.time with ppsSec := ppsSecond s } }

/-- PPS_OUT_PULSE: SRC has crossed a multiple of 10^9 ns: a pulse starts while EN is 1 (R453). -/
def ppsOut (s : State) : State :=
  if ppsSecond s = s.time.ppsSec then s
  else
    let s := ppsConfig s
    if s.on R.PPS_OUT_CFG.EN then { s with time := { s.time with ppsOut := s.time.ppsOut + 1, ppsAt := some s.time.aon } } else s

/-- A pulse that began at `at'` still lasts: `width` ns are not over. -/
def pulseLasts (s : State) (at' : Option Nat) (width : Nat) : Bool :=
  match at' with
  | some t => decide ((s.time.aon + 2 ^ 48 - t) % 2 ^ 48 < width)
  | none => false

/-- The level of PPS_OUT: the pulse lasts WIDTH µs, with EN = 0 the pin is inactive (R453). -/
def ppsPin (s : State) : Bool :=
  xor (s.on R.PPS_OUT_CFG.POL)
    (s.on R.PPS_OUT_CFG.EN && pulseLasts s s.time.ppsAt (1000 * atLeast1 (s.get R.PPS_OUT_CFG.WIDTH)))

/-! Video timebases (R454 to R457). -/

/-- Frames per second as numerator and denominator (R454). -/
def vtbRate (code : Nat) : Option (Nat × Nat) :=
  match code with
  | 0 => some (24000, 1001)
  | 1 => some (24, 1)
  | 2 => some (25, 1)
  | 3 => some (30000, 1001)
  | 4 => some (30, 1)
  | 5 => some (50, 1)
  | 6 => some (60000, 1001)
  | 7 => some (60, 1)
  | 8 => some (100, 1)
  | 9 => some (120000, 1001)
  | 10 => some (120, 1)
  | _ => none

/-- Lines per frame of a raster (R454). -/
def rasterLines (raster : Nat) : Nat := if raster = 0 then 750 else if raster = 3 then 2250 else 1125

/-- A combination that R454 accepts. -/
def vtbAccepts (raster rate : Nat) : Bool :=
  (vtbRate rate).isSome &&
  (if raster = 0 then rate == 5 || rate == 6 || rate == 7 else if raster = 1 then rate == 2 || rate == 3 else true)

/-- VTB_RUN of a timebase. -/
def vtbRunning (s : State) (k : Nat) : Bool := bitOf (s.get R.TIME_STAT.VTB_RUN) k
/-- Lines per frame of a timebase. -/
def vtbL (s : State) (k : Nat) : Nat := rasterLines (s.get (R.VTB_CFG.RASTER.ix k))
/-- num and den of a timebase. -/
def vtbND (s : State) (k : Nat) : Nat × Nat := (vtbRate (s.get (R.VTB_CFG.RATE.ix k))).getD (1, 1)

/-- A(F) in ns of TBT (R455). -/
def vtbFrameStart (s : State) (k : Nat) (f : Int) : Int :=
  let nd := vtbND s k
  toSigned 32 (s.get (R.VTB_OFFSET.OFFSET.ix k)) + f * (nd.2 * 1000000000 : Nat) / (nd.1 : Int)

/-- Where line `l` begins after A(F) (R455). -/
def vtbLineStart (s : State) (k l : Nat) : Nat :=
  let nd := vtbND s k
  (l - 1) * nd.2 * 1000000000 / (nd.1 * vtbL s k)

/-- The frame in which a TBT time lies: the largest F with A(F) ≤ t (R455). -/
def vtbFrameAt (s : State) (k t : Nat) : Int :=
  let nd := vtbND s k
  let t : Int := (t : Int) - toSigned 32 (s.get (R.VTB_OFFSET.OFFSET.ix k))
  ((t + 1) * (nd.1 : Int) + ((nd.2 * 1000000000 : Nat) : Int) - 1) / ((nd.2 * 1000000000 : Nat) : Int) - 1

/-- The current frame (R455). -/
def vtbFrame (s : State) (k : Nat) : Int := vtbFrameAt s k (tbtNs s)

/-- The current line: the largest l whose start is at or before TBT (R455). -/
def vtbLine (s : State) (k : Nat) : Nat :=
  let nd := vtbND s k
  let t := ((tbtNs s : Int) - vtbFrameStart s k (vtbFrame s k)).toNat
  min (vtbL s k) (((t + 1) * nd.1 * vtbL s k + nd.2 * 1000000000 - 1) / (nd.2 * 1000000000))

/-- The position as the two words of VTB_POS show it (R457). -/
def vtbPos (s : State) (k : Nat) : Nat :=
  if vtbRunning s k then ofSigned 32 (vtbFrame s k) + 2 ^ 32 * vtbLine s k else 0

/-- The line period in ps, rounded; 0 while stopped (R473). -/
def vtbLinePs (s : State) (k : Nat) : Nat :=
  let nd := vtbND s k
  if vtbRunning s k then divRound (nd.2 * 1000000000000) (nd.1 * vtbL s k) else 0

/-- EN of a timebase written (R456). -/
def vtbEnable (s : State) (k : Nat) (en : Bool) : State :=
  let run := fun (s : State) (on : Bool) => s.set R.TIME_STAT.VTB_RUN (putBit (s.get R.TIME_STAT.VTB_RUN) k on)
  if !en then run (s.setB (R.VTB_CFG.EN.ix k) false) false
  else if s.on (R.VTB_CFG.EN.ix k) then s
  else if vtbAccepts (s.get (R.VTB_CFG.RASTER.ix k)) (s.get (R.VTB_CFG.RATE.ix k)) then
    let s := run ((s.setB (R.VTB_CFG.EN.ix k) true).setB (R.VTB_CFG.CFG_ERR.ix k) false) true
    { s with time := { s.time with vfFrame := Map.set s.time.vfFrame k (ofSigned 64 (vtbFrame s k)) } }
  else s.setB (R.VTB_CFG.CFG_ERR.ix k) true

/-- VTB_FRAME_START: a frame of a running timebase has begun, where TBT lies in another than the last: VFRAMEk pulses while
VF_EN is 1 (R457). -/
def vtbFrameBegin (s : State) (k : Nat) : State :=
  let f := ofSigned 64 (vtbFrame s k)
  if !vtbRunning s k || s.time.vfFrame.get k == f then s
  else
    let s := { s with time := { s.time with vfFrame := Map.set s.time.vfFrame k f } }
    if s.on (R.VTB_CFG.VF_EN.ix k) then
      { s with time := { s.time with
        frames := Map.set s.time.frames k (s.time.frames.get k + 1), vfAt := s.time.vfAt.put k s.time.aon } }
    else s

/-- The level of VFRAMEk: the pulse lasts VF_WIDTH × 10 ns; a stopped timebase drives none (R456, R457). -/
def vfPin (s : State) (k : Nat) : Bool :=
  xor (s.on (R.VTB_CFG.VF_POL.ix k))
    (vtbRunning s k && s.on (R.VTB_CFG.VF_EN.ix k) &&
      pulseLasts s (s.time.vfAt.find k) (10 * atLeast1 (s.get (R.VTB_CFG.VF_WIDTH.ix k))))

end Sys2Proof.Machine
end

