-- ==== Sys2Proof/Machine/Taps.lean ====
section
/-! DEFINITION. Flow taps, rings and the modules that hold them: matching, recording, admission, overload, wear, module
states (R353 to R369). -/

namespace Sys2Proof.Machine

open Sys2Proof

/-! Rings, modules and channels beside their registers. -/

/-- A ring. -/
def rg (s : State) (r : Nat) : RingH := (s.store.rings.find r).getD .reset
/-- A ring replaced. -/
def setRg (s : State) (r : Nat) (h : RingH) : State :=
  { s with store := { s.store with rings := Map.putD .reset s.store.rings r h } }
/-- A module. -/
def md (s : State) (m : Nat) : ModH := (s.store.mods[m]?).getD .reset
/-- A module replaced. -/
def setMd (s : State) (m : Nat) (h : ModH) : State := { s with store := { s.store with mods := s.store.mods.set m h } }

/-- STATE of a ring: 0 no extents, 1 idle, 2 ARMED, 3 LOST (R381). -/
def ringState (s : State) (r : Nat) : Nat := s.get (R.RING_STAT.STATE.ix r)
/-- A ring is ARMED. -/
def ringArmed (s : State) (r : Nat) : Bool := ringState s r == 2
/-- The module of a ring. -/
def ringMod (s : State) (r : Nat) : Nat := s.get (R.RING_CFG.MODULE.ix r)
/-- STATE of a module: 0 ABSENT, 1 ID_BAD, 2 RECOVERING, 3 READY (R357). -/
def modState (s : State) (m : Nat) : Nat := s.get (R.STORE_MOD_STAT.STATE.ix m)
/-- STATE of a replay channel: 0 IDLE, 1 PREPARING, 2 READY, 3 RUNNING, 4 DONE, 5 STOPPED (R371). -/
def rplState (s : State) (c : Nat) : Nat := s.get (R.RPL_STAT.STATE.ix c)
/-- A replay channel holds a job. -/
def rplActive (s : State) (c : Nat) : Bool := rplState s c == 1 || rplState s c == 2 || rplState s c == 3

/-- STATE of a module changes; MOD_READY follows. -/
def setModState (s : State) (m st : Nat) : State :=
  (s.set (R.STORE_MOD_STAT.STATE.ix m) st).set R.STORE_STAT.MOD_READY (putBit (s.get R.STORE_STAT.MOD_READY) m (st == 3))

/-- The rings on a module that are ARMED. -/
def armedOn (s : State) (m : Nat) : List Nat := (List.range 256).filter (fun r => ringArmed s r && ringMod s r == m)

/-! Admission (R364). -/

/-- A rate with 1 % for headers and pad, rounded up. -/
def ceil101 (n : Nat) : Nat := (101 * n + 99) / 100
/-- The budget of a module in Mb/s. -/
def modBudget : Nat := 400000

/-- The charge of store assist on each of `m` modules (R374). -/
def assistCharge (n m : Nat) : Nat := (2 * n * 104350 * 101 + 100 * m - 1) / (100 * m)

/-- The charges on a module. -/
def charges (s : State) (m : Nat) : Nat :=
  ((armedOn s m).map (fun r => ceil101 (s.get (R.RING_RATE.DECL_RATE.ix r)))).sum +
  (((List.range 16).filter (fun c => rplActive s c && ringMod s (s.get (R.RPL_SRC.RING.ix c)) == m)).map
    (fun c => ceil101 (s.get (R.RPL_RATE.RATE.ix c)))).sum +
  (if s.on R.STORE_STAT.ASSIST_ACT && (s.store.assist.find m).isSome then
    assistCharge (otuN s .A) s.store.assist.length else 0)

/-- ADMITTED and FREE_EXT as they follow. -/
def modRefresh (s : State) (m : Nat) : State :=
  (s.set (R.STORE_MOD_BUDGET.ADMITTED.ix m) (satTo 20 (charges s m))).set (R.STORE_MOD_STAT.FREE_EXT.ix m)
    (satTo 12 (md s m).free.length)
/-- Likewise of every module. -/
def modsRefresh (s : State) : State := [0, 1, 2, 3].foldl modRefresh s

/-! Extents and wear (R358, R369). -/

/-- The less worn of two extents, the lower numbered among equals. -/
def lessWorn (fills : Map Nat) (a b : Nat) : Nat :=
  if fills.get b < fills.get a ∨ (fills.get b = fills.get a ∧ b < a) then b else a

/-- The least-worn free extent. -/
def leastWorn (h : ModH) : Option Nat :=
  match h.free with
  | [] => none
  | e :: es => some (es.foldl (lessWorn h.fills) e)

/-- `n` least-worn free extents taken. -/
def takeExtents : Nat → ModH → List Nat × ModH
  | 0, h => ([], h)
  | n + 1, h =>
    match leastWorn h with
    | none => ([], h)
    | some e =>
      let r := takeExtents n { h with free := h.free.filter (· ≠ e) }
      (e :: r.1, r.2)

/-- MAX_FILLS and the wear warning at 90 % of ENDURANCE (R369). -/
def wearRefresh (s : State) (m : Nat) : State :=
  let h := md s m
  let mx := h.fills.foldl (fun a p => max a p.2) 0
  let s := s.set (R.STORE_MOD_WEAR.MAX_FILLS.ix m) (satTo 27 mx)
  if 10 * mx ≥ 9 * h.endurance ∧ h.endurance ≠ 0 ∧ ¬ s.on (R.STORE_MOD_WEAR.WEAR_WARN.ix m) then
    (s.setB (R.STORE_MOD_WEAR.WEAR_WARN.ix m) true).raise E.STORE_WEAR m
  else s

/-- Writing enters an extent: its fill count increases. -/
def fillExtent (s : State) (m e : Nat) : State :=
  let h := md s m
  wearRefresh (setMd s m { h with fills := Map.set h.fills e (h.fills.get e + 1) }) m

/-! Replay jobs as rings and modules end them (R371). -/

/-- A job stops with a reason. -/
def rplStopJob (s : State) (c reason : Nat) : State :=
  if !rplActive s c then s
  else
    let s := (s.set (R.RPL_STAT.STATE.ix c) 5).set (R.RPL_STAT.REASON.ix c) reason
    modsRefresh ((setJb s c { jb s c with cur := none, left := [] }).raise E.RPL_STOP (c + 256 * reason))

/-- Every job for which a condition holds stops. -/
def rplStopAll (s : State) (p : State → Nat → Bool) (reason : Nat) : State :=
  (List.range 16).foldl (fun s c => if p s c then rplStopJob s c reason else s) s

/-! Pointer copies and unit boundaries (R359 to R363). -/

/-- The older pointer copy is written; with a unit open, whose header is not yet written, the head is where that unit begins
(R360, R361). -/
def ptrSave (s : State) (r : Nat) : State :=
  let h := rg s r
  let p := match h.cur with
    | .unit _ => h.openAt
    | _ => (h.pos, h.off)
  let c : PtrCopy := ⟨max h.copyA.gen h.copyB.gen + 1, p.1, p.2, s.get (R.RING_HEAD.HEAD.ix r), s.get (R.RING_TAIL.TAIL.ix r),
    true⟩
  setRg s r (if h.copyA.gen ≤ h.copyB.gen then { h with copyA := c } else { h with copyB := c })

/-- STORE has reached its stop point: no ring is ARMED any more (R382). -/
def storeStopCheck (s : State) : State :=
  if s.stopping .store && (List.range 256).all (fun r => !ringArmed s r) then s.stopPoint .store else s

/-- DISARM takes effect at a unit boundary (R363). -/
def ringDisarmed (s : State) (r : Nat) : State :=
  let s := ptrSave (setRg s r { rg s r with stopping := false, cur := .none }) r
  let s := (s.set (R.RING_STAT.STATE.ix r) 1).setB (R.RING_STAT.WAIT_MARK.ix r) false
  storeStopCheck (modsRefresh s)

/-- The boundary after a unit. -/
def unitBoundary (s : State) (r : Nat) : State :=
  if ringArmed s r && (rg s r).stopping then ringDisarmed s r else s

/-- Bytes padded to a multiple. -/
def padTo (k n : Nat) : Nat := (n + k - 1) / k * k
/-- Bytes of a packet record (R359). -/
def pktBytes (p : Packet) : Nat := 8 + padTo 8 p.frame.length
/-- LENGTH of a unit's record (R359). -/
def unitLength (u : RUnit) : Nat := padTo 64 (64 + (u.pkts.map pktBytes).sum)

/-- A packet record as the module holds it (R359). -/
def pktRecord (p : Packet) : List Nat :=
  leBytes 2 p.frame.length ++ leBytes 4 p.off ++ [p.port, 0] ++
    (p.frame ++ List.replicate (padTo 8 p.frame.length - p.frame.length) 0)

/-- The unit header: 60 bytes and HCRC (R359). -/
def unitHeader (u : RUnit) : List Nat :=
  let h := leBytes 4 u.seq ++ leBytes 4 (unitLength u) ++ leBytes 2 u.pkts.length ++ leBytes 2 u.flags ++ leBytes 4 u.rtpTs ++
    leBytes 4 u.ssrc ++ leBytes 6 u.capture ++ List.replicate 34 0
  h ++ leBytes 4 (crc32 h)

/-- A unit's record as the module holds it (R359). -/
def unitRecord (u : RUnit) : List Nat :=
  let b := unitHeader u ++ u.pkts.flatMap pktRecord
  b ++ List.replicate (unitLength u - b.length) 0

/-- So many packet records read from bytes (R359). -/
def readPkts : Nat → List Nat → List Packet
  | 0, _ => []
  | n + 1, b =>
    let len := ofLe (b.take 2)
    ⟨ofLe ((b.drop 2).take 4), byteAt b 6, (b.drop 8).take len⟩ :: readPkts n (b.drop (8 + padTo 8 len))

/-- The unit of a record in extent `e`, where the HCRC of its header holds (R359, R362). -/
def readUnit (e : Nat) (b : List Nat) : Option RUnit :=
  if 64 ≤ b.length ∧ ofLe ((b.drop 60).take 4) = crc32 (b.take 60) then
    some ⟨ofLe (b.take 4), ofLe ((b.drop 10).take 2), ofLe ((b.drop 12).take 4), ofLe ((b.drop 16).take 4),
      ofLe ((b.drop 20).take 6), readPkts (ofLe ((b.drop 8).take 2)) (b.drop 64), e⟩
  else none

/-- Bytes of an extent (R358). -/
def extentBytes : Nat := 268435456

/-! The write buffer (R365). -/

/-- Bytes in a module's write buffer: those of the transfers without their ACK. -/
def bufFill (s : State) (m : Nat) : Nat := ((md s m).queue.map (·.2.1)).sum
/-- The size of the write buffer. -/
def bufSize : Nat := 4 * 1048576

/-- The lowest PRIO among a module's ARMED rings. -/
def lowestPrio (s : State) (m : Nat) : Nat :=
  match (armedOn s m).map (fun r => s.get (R.RING_CFG.PRIO.ix r)) with
  | [] => 0
  | p :: ps => ps.foldl min p

/-- Overload begins (R365). -/
def overloadEnter (s : State) (m : Nat) : State :=
  let s := (armedOn s m).foldl (fun s r => setRg s r { rg s r with dropSeen := false }) s
  let s := if (md s m).levelFresh then s.set (R.STORE_MOD_BUDGET.DROP_LEVEL.ix m) (lowestPrio s m) else s
  let s := (setMd s m { md s m with levelFresh := false }).mark (.level m)
  (s.setB (R.STORE_MOD_BUDGET.OVERLOAD.ix m) true).raise E.STORE_OVERLOAD m

/-- A transfer of `n` bytes joins the write buffer of a module, for a ring (R365, R366, R399). -/
def bufWrite (s : State) (m r n : Nat) : State :=
  let h := md s m
  let s := setMd s m { h with queue := h.queue ++ [(h.nextTag, n, s.time.aon)], nextTag := (h.nextTag + 1) % 65536 }
  let s := setRg s r { rg s r with winBytes := (rg s r).winBytes + n, off := (rg s r).off + n }
  if 2 * bufFill s m ≥ bufSize ∧ ¬ s.on (R.STORE_MOD_BUDGET.OVERLOAD.ix m) then overloadEnter s m else s

/-- A unit closes: its header is written, HEAD moves on (R355, R359). -/
def writeUnit (s : State) (r : Nat) (u : RUnit) (next : OpenUnit) : State :=
  let h := rg s r
  let rest := unitLength u - (u.pkts.map pktBytes).sum
  let s := setRg s r { h with units := h.units ++ [u], cur := next, winUnits := h.winUnits + 1 }
  let s := s.set (R.RING_HEAD.HEAD.ix r) (u.seq + 1)
  unitBoundary (bufWrite s (ringMod s r) r rest) r

/-- The unit that a full buffer truncates: that of the ring with the lowest PRIO, the highest number among equals
(R365). -/
def truncChoice (s : State) (m : Nat) : Option Nat :=
  (armedOn s m).foldl (fun (best : Option Nat) r =>
    match (rg s r).cur with
    | .unit _ =>
      match best with
      | none => some r
      | some b => if s.get (R.RING_CFG.PRIO.ix r) ≤ s.get (R.RING_CFG.PRIO.ix b) then some r else best
    | _ => best) none

/-- At 100 % full an open unit is closed with TRUNC and its remaining packets are discarded (R365). -/
def bufTrunc (s : State) (m : Nat) : State :=
  if bufFill s m < bufSize then s
  else
    match truncChoice s m with
    | none => s
    | some r =>
      match (rg s r).cur with
      | .unit u => (writeUnit s r { u with flags := u.flags ||| 2 } (.discard u.rtpTs)).bump (R.RING_DROP.TRUNC.ix r)
      | _ => s

/-- A unit closes, and where its header fills the write buffer, an open unit is truncated (R355, R365). -/
def closeUnit (s : State) (r : Nat) (u : RUnit) (next : OpenUnit) : State := bufTrunc (writeUnit s r u next) (ringMod s r)

/-! Recording (R353 to R355, R359, R365). -/

/-- A unit that opens now is dropped whole (R365). -/
def dropsNow (s : State) (r : Nat) : Bool :=
  let m := ringMod s r
  s.on (R.STORE_MOD_BUDGET.OVERLOAD.ix m) &&
    decide (s.get (R.RING_CFG.PRIO.ix r) ≤ s.get (R.STORE_MOD_BUDGET.DROP_LEVEL.ix m))

/-- CAPTURE: the 32-bit ns of the primary domain with STORE's own wrap count above them, or AON time while the domain is not
valid, `sub` ns into the AON cycle (R359). -/
def captureTime (s : State) (sub : Nat) : Nat :=
  ((if domValid s 0 then s.store.wraps * 2 ^ 32 + domNow s 0 % 2 ^ 32 else s.time.aon) + sub) % 2 ^ 48

/-- A unit with its first packet. -/
def newUnit (s : State) (r port sub flags ts ssrc : Nat) (f : List Nat) : RUnit :=
  ⟨s.get (R.RING_HEAD.HEAD.ix r), flags, ts, ssrc, captureTime s sub, [⟨0, port, f⟩], (rg s r).pos⟩

/-- The header position of a unit is reserved: the first one of an extent goes into the extent header, of the next extent
where this one is full already (R360). -/
def placeUnit (s : State) (r seq : Nat) : State :=
  let h := { rg s r with openAt := ((rg s r).pos, (rg s r).off) }
  setRg s r (
    if h.off < extentBytes then (if h.first.isNone then { h with first := some (seq, h.off) } else h)
    else if h.next.isNone then { h with next := some (seq, h.off - extentBytes + 64) } else h)

/-- The extent header of the extent at position `i` of a ring: ring number, that position, SEQ and byte offset of the first unit
header that starts in it (R360). -/
def extentHeader (s : State) (r i : Nat) : Nat × Nat × Option (Nat × Nat) :=
  let h := rg s r
  (r, i, if i = h.pos % max 1 h.exts.length then h.first else h.heads.find i)

/-- The extent header of the extent being left is kept, that of the one entered at position `i` begins anew (R360). -/
def RingH.nextExtent (h : RingH) (i : Nat) : RingH :=
  let old := h.pos % max 1 h.exts.length
  let heads := match h.first with
    | some x => h.heads.put old x
    | none => h.heads.erase old
  { h with off := h.off - extentBytes + 64, first := h.next, next := none, heads := heads.erase i }

/-- A unit opens: it is recorded, or written as a DROP unit (R359, R365). -/
def openUnit (s : State) (r : Nat) (u : RUnit) : State :=
  let s := placeUnit s r u.seq
  if dropsNow s r then
    let s := s.bump (R.RING_DROP.DROPPED.ix r)
    let s := if (rg s r).dropSeen then s
      else (setRg s r { rg s r with dropSeen := true }).raise E.STORE_DROP r
    closeUnit s r { u with flags := u.flags ||| 1, pkts := [] } (if bitOf u.flags 3 then .none else .discard u.rtpTs)
  else
    let s := bufWrite (s.bump (R.TAP_HITS.HITS.ix r)) (ringMod s r) r ((u.pkts.map pktBytes).sum)
    bufTrunc (setRg s r { rg s r with cur := .unit u }) (ringMod s r)

/-- A further packet of the open unit. -/
def addPacket (s : State) (r port sub : Nat) (f : List Nat) : State :=
  match (rg s r).cur with
  | .unit u =>
    let p : Packet := ⟨(captureTime s sub + 2 ^ 48 - u.capture) % 2 ^ 48 % 2 ^ 32, port, f⟩
    let s := setRg s r { rg s r with cur := .unit { u with pkts := u.pkts ++ [p] } }
    bufTrunc (bufWrite (s.bump (R.TAP_HITS.HITS.ix r)) (ringMod s r) r (pktBytes p)) (ringMod s r)
  | _ => s

/-- What follows a packet of a video unit: the marker closes the unit, and so does reaching 64 MiB (R355). -/
def afterPacket (s : State) (r : Nat) (marker : Bool) : State :=
  match (rg s r).cur with
  | .unit u =>
    if marker then closeUnit s r u .none
    else if 64 * 1048576 ≤ unitLength u then
      let s := (closeUnit s r { u with flags := u.flags ||| 2 } .none).bump (R.RING_DROP.TRUNC.ix r)
      if ringArmed s r then (setRg s r { rg s r with marked := false }).setB (R.RING_STAT.WAIT_MARK.ix r) true else s
    else s
  | .discard _ => if marker then unitBoundary (setRg s r { rg s r with cur := .none }) r else s
  | .none => s

/-- A packet of an RTP flow: while the ring waits, the packet after a marker opens the first unit (R355, R363). -/
def recordRtp (s : State) (r port sub rtp : Nat) (f : List Nat) : State :=
  let marker := bitOf (byteAt f (rtp + 1)) 7
  let ts := beAt f (rtp + 4) 4
  let new := fun (s : State) => afterPacket (openUnit s r (newUnit s r port sub 0 ts (beAt f (rtp + 8) 4) f)) r marker
  if s.on (R.RING_STAT.WAIT_MARK.ix r) then
    if (rg s r).marked then new ((setRg s r { rg s r with marked := false }).setB (R.RING_STAT.WAIT_MARK.ix r) false)
    else setRg s r { rg s r with marked := marker }
  else
    match (rg s r).cur with
    | .none => new s
    | .discard t =>
      if t = ts then afterPacket s r marker
      else
        let s := unitBoundary (setRg s r { rg s r with cur := .none }) r
        if ringArmed s r then new s else s
    | .unit v =>
      if v.rtpTs = ts then afterPacket (addPacket s r port sub f) r marker
      else
        let s := (closeUnit s r { v with flags := v.flags ||| 4 } .none).bump (R.RING_MISC.NO_MARKER.ix r)
        if ringArmed s r then new s else s

/-- A matched frame is handed to its ring (R355). -/
def record (s : State) (r port sub : Nat) (f : List Nat) : State :=
  if s.on (R.TAP_MATCH.RTP.ix r) then
    match rtpOff f with
    | some o => recordRtp s r port sub o f
    | none => s
  else
    let s := openUnit s r (newUnit s r port sub 8 0 0 f)
    match (rg s r).cur with
    | .unit u => closeUnit s r u .none
    | _ => unitBoundary (setRg s r { rg s r with cur := .none }) r

/-- A destination address of a tap, its first bytes as a number of `n` bytes (R379). -/
def tapDst (s : State) (t n : Nat) : Nat :=
  let w := [R.TAP_DST.DST, R.TAP_DST.DST1, R.TAP_DST.DST2, R.TAP_DST.DST3].map (fun f => s.get (f.ix t))
  ofBe ((w.flatMap (leBytes 4)).take n)

/-- The criteria of a tap (R353). -/
def tapMatches (s : State) (t : Nat) (egress : Bool) (port : Nat) (f : List Nat) : Bool :=
  let on := fun (x : Fld) => s.on (x.ix t)
  let v6 := on R.TAP_MATCH.IPV6
  let n := if v6 then 16 else 4
  let sh := 8 * n - min (8 * n) (s.get (R.TAP_MATCH.PREFIX_LEN.ix t))
  (on R.TAP_MATCH.DIR == egress) &&
  (!on R.TAP_MATCH.EN_PORT || s.get (R.TAP_MATCH.PORT.ix t) == port) &&
  (!on R.TAP_MATCH.EN_VLAN || outerVid f == some (s.get (R.TAP_MATCH.VLAN.ix t))) &&
  (!on R.TAP_MATCH.EN_DST ||
    ((if v6 then isIp6 f else isIp4 f) && (ofBe (ipDst f) >>> sh == tapDst s t n >>> sh))) &&
  (!on R.TAP_MATCH.EN_UDP || udpDst f == some (s.get (R.TAP_UDP.UDP_DST.ix t))) &&
  !((on R.TAP_MATCH.EN_UDP || on R.TAP_MATCH.RTP) && isFragment f)

/-- A frame passes the taps: it is copied to the ring of the lowest-numbered tap that matches it and whose ring is ARMED
(R354). FLOW's RUN gates the taps. -/
def tapFrame (s : State) (egress : Bool) (port sub : Nat) (f : List Nat) : State :=
  if !s.running .flow then s
  else
    match (List.range 256).find? (fun t => ringArmed s t && tapMatches s t egress port f) with
    | some t => record s t port sub f
    | none => s

/-! Ring commands (R358, R361, R363, R366, R369). -/

/-- The check of R358 that fails first; 0 when all pass. -/
def armCode (s : State) (r : Nat) : Nat :=
  let m := ringMod s r
  let h := rg s r
  let n := s.get (R.RING_CFG.EXTENTS.ix r)
  let rate := s.get (R.RING_RATE.DECL_RATE.ix r)
  if !s.running .flow || !s.running .store || s.stopping .store || modState s m != 3 then 1
  else if h.exts.isEmpty && (decide ((md s m).free.length < n) || n == 0) then 2
  else if !h.exts.isEmpty && (h.exts.length != n || h.module != m) then 3
  else if rate < 1 || 400000 < rate then 4
  else if modBudget < charges s m + ceil101 rate then 5
  else 0

/-- ARM (R355, R358). -/
def ringArm (s : State) (r : Nat) : State :=
  if ringArmed s r then s
  else
    let code := armCode s r
    let s := s.set (R.RING_STAT.REJ_CODE.ix r) code
    if code ≠ 0 then s.raise E.STORE_ARM_REJ (r + 256 * code)
    else
      let m := ringMod s r
      let s :=
        if (rg s r).exts.isEmpty then
          let t := takeExtents (s.get (R.RING_CFG.EXTENTS.ix r)) (md s m)
          let s := setRg (setMd s m t.2) r { rg s r with
            exts := t.1, module := m, pos := 0, off := 64, first := none, next := none, heads := [] }
          fillExtent s m ((t.1.head?).getD 0)
        else s
      let s := setRg s r { rg s r with stopping := false, rated := false, winBytes := 0, winUnits := 0, cur := .none, dropSeen := false, marked := false }
      let s := (s.set (R.RING_STAT.STATE.ix r) 2).setB (R.RING_STAT.WAIT_MARK.ix r) (s.on (R.TAP_MATCH.RTP.ix r))
      modsRefresh ((s.mark (.pointers r)).mark (.rate r))

/-- DISARM: at once when no unit is open, else at the unit boundary (R363). -/
def ringDisarm (s : State) (r : Nat) : State :=
  if !ringArmed s r then s
  else
    match (rg s r).cur with
    | .none => ringDisarmed s r
    | _ => setRg s r { rg s r with stopping := true }

/-- CLEAR: the extents are freed, HEAD and TAIL become 0; refused as R11 says while the ring is ARMED (R363). -/
def ringClear (s : State) (r : Nat) : State :=
  if ringArmed s r then
    (s.setB (cfgDiscardF .store) true).raise E.CFG_BUSY ((R.RING_CMD.CLEAR.ix r).addr)
  else
    let h := rg s r
    let s := if modState s h.module = 3 then setMd s h.module { md s h.module with free := (md s h.module).free ++ h.exts }
      else s
    let s := setRg s r { RingH.reset with copyA := h.copyA, copyB := h.copyB }
    let s := (s.set (R.RING_HEAD.HEAD.ix r) 0).set (R.RING_TAIL.TAIL.ix r) 0
    modsRefresh (s.set (R.RING_STAT.STATE.ix r) 0)

/-- RING_PTR_SAVE: every PTR_PERIOD ms while the ring is ARMED, 0 acting as 1 (R361, R380). -/
def ringPtrSave (s : State) (r : Nat) : State :=
  if !ringArmed s r then s
  else match s.lap (.pointers r) (1000000 * atLeast1 (s.get R.STORE_PTR_CTRL.PTR_PERIOD)) with
    | some s => ptrSave s r
    | none => s

/-- What the end of a rate window does (R366). -/
def rateWindow (s : State) (r : Nat) : State :=
  let h := rg s r
  let fast := ringArmed s r && decide (h.winBytes * 80 > ceil101 (s.get (R.RING_RATE.DECL_RATE.ix r)) * 1000000)
  let mark := fun (us : List RUnit) =>
    us.take (us.length - h.winUnits) ++ (us.drop (us.length - h.winUnits)).map (fun u => { u with flags := u.flags ||| 16 })
  let units := if fast then mark h.units else h.units
  let s := setRg s r { h with winBytes := 0, winUnits := 0, units := units, rated := h.rated || fast }
  if !fast then s
  else
    let s := s.bump (R.RING_MISC.OVERRATE.ix r)
    if h.rated then s else s.raise E.TAP_OVERRATE r

/-- RING_RATE_WINDOW: the end of a window of 100 ms (R366). -/
def ringRateWindow (s : State) (r : Nat) : State :=
  match s.lap (.rate r) 100000000 with
  | some s => rateWindow s r
  | none => s

/-- TAIL after an extent has been entered: the oldest unit that lies wholly in extents not yet written again (R359). -/
def ringTail (s : State) (r : Nat) : State :=
  let h := rg s r
  let us := h.units.filter (fun u => decide (h.pos < u.ext + h.exts.length))
  let tail := ((us.head?).map (·.seq)).getD (s.get (R.RING_HEAD.HEAD.ix r))
  (setRg s r { h with units := us }).set (R.RING_TAIL.TAIL.ix r) tail

/-- Jobs that the recorder overtakes: a unit still to be read has gone (R371). -/
def rplOvertaken (s : State) (r : Nat) : State :=
  rplStopAll s (fun s c => s.get (R.RPL_SRC.RING.ix c) == r && rplActive s c &&
    decide ((jb s c).readTo < s.get (R.RING_TAIL.TAIL.ix r)) &&
    (s.get (R.RPL_COUNT.COUNT.ix c) == 0 ||
      decide ((jb s c).readTo < s.get (R.RPL_START.START.ix c) + s.get (R.RPL_COUNT.COUNT.ix c)))) 7

/-- The extent that writing enters in place of `x`: a less worn free one, or `x` itself (R369). -/
def swapChoice (s : State) (m x : Nat) : Option Nat :=
  let h := md s m
  match leastWorn h with
  | some f => if h.fills.get f + s.get R.STORE_WEAR_CTRL.WEAR_SWAP ≤ h.fills.get x then some f else none
  | none => none

/-- RING_EXTENT_ENTER: an ARMED ring that has filled its extent enters the next one, whose first 64 bytes are the extent header
(R360, R369). -/
def ringExtentEnter (s : State) (r : Nat) : State :=
  let h := rg s r
  if !ringArmed s r || h.exts.isEmpty || decide (h.off < extentBytes) then s
  else
    let m := ringMod s r
    let i := (h.pos + 1) % h.exts.length
    let h := h.nextExtent i
    let x := (h.exts[i]?).getD 0
    let s :=
      match swapChoice s m x with
      | some f =>
        let s := setMd s m { md s m with free := (md s m).free.filter (· ≠ f) ++ [x] }
        setRg s r { h with exts := h.exts.set i f, pos := h.pos + 1 }
      | none =>
        let s := if (md s m).free.isEmpty then s.setB (R.STORE_MOD_WEAR.WEAR_STUCK.ix m) true else s
        setRg s r { h with pos := h.pos + 1 }
    let e := ((rg s r).exts[i]?).getD 0
    let s := ringTail (fillExtent s m e) r
    let s := if e = x then s else ptrSave s r
    modsRefresh (rplOvertaken s r)

/-! Overload's end and ECC (R365, R367, R368). -/

/-- The buffer has fallen below 25 %. -/
def overloadExit (s : State) (m : Nat) : State :=
  if s.on (R.STORE_MOD_BUDGET.OVERLOAD.ix m) && decide (4 * bufFill s m < bufSize) then
    (s.setB (R.STORE_MOD_BUDGET.OVERLOAD.ix m) false).mark (.calm m)
  else s

/-- A further ms of overload. -/
def dropLevelStep (s : State) (m : Nat) : State :=
  if !s.on (R.STORE_MOD_BUDGET.OVERLOAD.ix m) then s
  else match s.lap (.level m) 1000000 with
    | some s => s.bump (R.STORE_MOD_BUDGET.DROP_LEVEL.ix m)
    | none => s

/-- 10 ms without overload. -/
def dropLevelReset (s : State) (m : Nat) : State :=
  if s.on (R.STORE_MOD_BUDGET.OVERLOAD.ix m) || decide (s.age (.calm m) < 10000000) then s
  else setMd (s.set (R.STORE_MOD_BUDGET.DROP_LEVEL.ix m) (lowestPrio s m)) m { md s m with levelFresh := true }

/-- One corrected line (R368). -/
def eccLine (s : State) (m : Nat) : State :=
  let s := s.bump (R.STORE_MOD_CE.CE.ix m)
  let b := s.get (R.STORE_MOD_ECC.BUCKET.ix m) + 1
  if atLeast1 (s.get R.STORE_ECC_CTRL.THRESH) ≤ b then (s.set (R.STORE_MOD_ECC.BUCKET.ix m) 0).raise E.STORE_ECC m
  else s.set (R.STORE_MOD_ECC.BUCKET.ix m) b

/-- The end of a LEAK_PERIOD in ms, 0 acting as 1 (R368, R380). -/
def eccLeak (s : State) (m : Nat) : State :=
  match s.lap (.storeLeak m) (1000000 * atLeast1 (s.get R.STORE_ECC_CTRL.LEAK_PERIOD)) with
  | some s => s.set (R.STORE_MOD_ECC.BUCKET.ix m) (s.get (R.STORE_MOD_ECC.BUCKET.ix m) - 1)
  | none => s

/-- Every module's LEAK_PERIOD begins (R368). -/
def leakRestart (s : State) : State := [0, 1, 2, 3].foldl (fun s m => s.mark (.storeLeak m)) s

/-- A packet that holds an uncorrectable line: it is not sent, and counted (R367). -/
def eccBad (s : State) (m c : Nat) (p : Nat × Nat) : State :=
  let s := setJb s c { jb s c with lost := p :: (jb s c).lost }
  let s := (s.bump (R.STORE_MOD_ECC.UE.ix m)).bump (R.RPL_LOSS.LOST_PKTS.ix c)
  s.raise E.STORE_UE (s.get (R.RPL_SRC.RING.ix c) + 256 * c)

/-- The ECC report that comes with a read (R367, R368). -/
def readReport (s : State) (m : Nat) (r : ReadReport) : State :=
  r.bad.foldl (fun s p => eccBad s m r.chan p) ((List.range r.corrected).foldl (fun s _ => eccLine s m) s)

/-! Store assist (R374 to R377). -/

/-- Extents that assist reserves on each of `m` modules (R374). -/
def assistExtents (n m : Nat) : Nat := (n * 1304375000 + m * 268435456 - 1) / (m * 268435456)

/-- READY modules named in MODS. -/
def assistMods (s : State) : List Nat :=
  [0, 1, 2, 3].filter (fun m => bitOf (s.get R.STORE_ASSIST.MODS) m && modState s m == 3)

/-- Assist ends: its extents are free again. -/
def assistEnd (s : State) : State :=
  let s := s.store.assist.foldl (fun (s : State) (p : Nat × List Nat) =>
    if modState s p.1 = 3 then setMd s p.1 { md s p.1 with free := (md s p.1).free ++ p.2 } else s) s
  let s := { s with store := { s.store with assist := [], assistUsed := 0 } }
  modsRefresh ((s.setB R.STORE_STAT.ASSIST_ACT false).set R.STORE_ASSIST.RSV_EXT 0)

/-- Carrier A FRAMER starts in DUAL with STORE_ASSIST = 1: assist is admitted or refused (R374). -/
def assistStart (s : State) : State :=
  let s := assistEnd s
  let ms := assistMods s
  let n := otuN s .A
  let k := ms.length
  if k = 0 || ms.any (fun m => decide ((md s m).free.length < assistExtents n k) ||
      decide (modBudget < charges s m + assistCharge n k)) then s.raise E.STORE_ASSIST 1
  else
    let s := ms.foldl (fun (s : State) m =>
      let t := takeExtents (assistExtents n k) (md s m)
      let s := setMd s m t.2
      fillExtent { s with store := { s.store with assist := s.store.assist.put m t.1 } } m ((t.1.head?).getD 0)) s
    modsRefresh ((s.setB R.STORE_STAT.ASSIST_ACT true).set R.STORE_ASSIST.RSV_EXT (assistExtents n k))

/-- Assist on a module enters its next extent, in place of which it may take a less worn free one (R369). -/
def assistEnter (s : State) (m : Nat) (es : List Nat) : State :=
  let rest := es.drop 1 ++ es.take 1
  let x := rest.headD 0
  let put := fun (s : State) (l : List Nat) => { s with store := { s.store with assist := s.store.assist.put m l } }
  match swapChoice s m x with
  | some f =>
    let s := setMd s m { md s m with free := (md s m).free.filter (· ≠ f) ++ [x] }
    fillExtent (put s (f :: rest.drop 1)) m f
  | none =>
    let s := if (md s m).free.isEmpty then s.setB (R.STORE_MOD_WEAR.WEAR_STUCK.ix m) true else s
    fillExtent (put s rest) m x

/-- While assist is active, the `n` payload bytes of a segment are written, striped over the modules (R374). -/
def assistWrite (s : State) (n : Nat) : State :=
  let k := s.store.assist.length
  if !s.on R.STORE_STAT.ASSIST_ACT || k = 0 then s
  else
    let used := s.store.assistUsed + n / k
    if used < extentBytes then { s with store := { s.store with assistUsed := used } }
    else modsRefresh (s.store.assist.foldl (fun s p => assistEnter s p.1 p.2)
      { s with store := { s.store with assistUsed := used - extentBytes } })

/-- DUAL_SEGMENT_OUTPUT: the output time of the segment that came first, where it has come, with what assist writes of it (R282,
R374). -/
def dualSegment (s : State) : State :=
  match outputDue s with
  | some (x, d) => assistWrite (segmentOutput s x d) (16 * x.words.length)
  | none => s

/-- An assist module is lost: the earlier carrier is flagged dDSKEW and excluded (R377). -/
def assistLost (s : State) (m : Nat) : State :=
  if s.on R.STORE_STAT.ASSIST_ACT && (s.store.assist.find m).isSome then
    let s := (assistEnd s).raise E.STORE_ASSIST 2
    let early := if toSigned 28 (s.getC .A R.FRM_DUAL_STAT.DSKEW_NS) < 0 then Carrier.B else Carrier.A
    frmRefresh (frmRefresh ((setDefect s early 15 true).mark (.late early)) .A) .B
  else s

/-! Modules (R356, R357, R362). -/

/-- The Pod link of a store port comes up: the identity read begins. -/
def modLinkUp (s : State) (m : Nat) : State := setMd s m { ModH.reset with reading := true }

/-- The Pod link of a store port goes down (R357, R371, R377; the reason of the jobs is log entry 20). -/
def modLinkDown (s : State) (m : Nat) : State :=
  if modState s m = 0 ∧ ¬ (md s m).reading then s
  else
    let armed := armedOn s m
    let s := setModState s m 0
    let s := armed.foldl (fun s r =>
      (setRg (s.set (R.RING_STAT.STATE.ix r) 3) r { rg s r with cur := .none, stopping := false }).raise
        E.STORE_RING_LOST r) s
    let s := rplStopAll s (fun s c => ringMod s (s.get (R.RPL_SRC.RING.ix c)) == m) 8
    let s := assistLost s m
    let s := setMd s m .reset
    let s := (s.setB (R.STORE_MOD_BUDGET.OVERLOAD.ix m) false).setB (R.STORE_MOD_STAT.OVERRIDDEN.ix m) false
    let s := ((s.set (R.STORE_MOD_STAT.EXTENTS.ix m) 0).set (R.STORE_MOD_WEAR.MAX_FILLS.ix m) 0).set (R.STORE_MOD_ECC.BUCKET.ix m) 0
    let s := (s.setB (R.STORE_MOD_WEAR.WEAR_WARN.ix m) false).set (R.STORE_MOD_BUDGET.DROP_LEVEL.ix m) 0
    let s := storeStopCheck (modsRefresh s)
    s.raise E.STORE_MOD m

/-- The identity read is repeated in ID_BAD (R357). -/
def modReread (s : State) (m : Nat) : State :=
  if modState s m = 1 then setMd s m { md s m with reading := true } else s

/-- The identity record passes R356. -/
def recordGood (rec : List Nat) : Bool :=
  rec.length == 256 && ofLe (rec.drop 252) == crc32 (rec.take 252) && ofLe ((rec.drop 48).take 2) == 0x0A01

/-- The module is used, with EXTENTS, ENDURANCE and MEDIA_RATE: RECOVERING. -/
def modUse (s : State) (m exts endurance rate : Nat) (overridden : Bool) : State :=
  let s := setMd s m { md s m with reading := false, endurance := endurance, mediaRate := rate }
  setModState ((s.set (R.STORE_MOD_STAT.EXTENTS.ix m) exts).setB (R.STORE_MOD_STAT.OVERRIDDEN.ix m) overridden) m 2

/-- STORE_ID_READ_DONE: the 256 bytes of the identity record (R356, R357). -/
def idReadDone (s : State) (m : Nat) (rec : List Nat) : State :=
  if !(md s m).reading then s
  else if recordGood rec then
    modUse s m (ofLe ((rec.drop 50).take 2)) (ofLe ((rec.drop 52).take 4)) (ofLe ((rec.drop 56).take 2)) false
  else if bitOf (s.get R.STORE_MOD_CTRL.ID_OVERRIDE) m then modUse s m 3725 100000000 4000 true
  else (setModState (setMd s m { md s m with reading := false }) m 1).raise E.STORE_ID_BAD m

/-- The pointer copy that recovery takes (R362). -/
def bestCopy (a b : PtrCopy) : Option PtrCopy :=
  if a.ok && (!b.ok || decide (b.gen ≤ a.gen)) then some a else if b.ok then some b else none

/-- The walk over unit headers from a SEQ on (R362). -/
def walkUnits : Nat → List RUnit → Nat → Nat
  | 0, _, h => h
  | n + 1, us, h => if us.any (fun u => u.seq == h) then walkUnits n us (h + 1) else h

/-- One ring recovered (R362). -/
def recoverRing (m : Nat) (s : State) (im : RingImage) : State :=
  let r := im.ring % 256
  let base : RingH := { RingH.reset with
    exts := im.exts, module := m, copyA := im.copyA, copyB := im.copyB
    heads := im.heads.foldl (fun (h : Map (Nat × Nat)) x => h.put x.1 x.2) [] }
  let s := (s.set (R.RING_STAT.STATE.ix r) (if im.exts.isEmpty then 0 else 1))
  match bestCopy im.copyA im.copyB with
  | none => (setRg (s.set (R.RING_HEAD.HEAD.ix r) 0) r base).set (R.RING_TAIL.TAIL.ix r) 0
  | some c =>
    let found := im.units.filterMap (fun u => readUnit u.1 u.2)
    let head := walkUnits found.length found c.head
    let us := found.filter (fun u => decide (c.tail ≤ u.seq ∧ u.seq < head))
    let at_ := c.off - 64 + ((us.filter (fun u => decide (c.head ≤ u.seq))).map unitLength).sum
    let pos := c.ext + at_ / (extentBytes - 64)
    let i := pos % max 1 im.exts.length
    let s := setRg (s.set (R.RING_HEAD.HEAD.ix r) head) r { base with
      units := us, pos := pos, off := 64 + at_ % (extentBytes - 64), first := base.heads.find i, heads := base.heads.erase i }
    s.set (R.RING_TAIL.TAIL.ix r) (((us.head?).map (·.seq)).getD head)

/-- The rings that lay on the module of this port before and are not in the ring table of the one read now hold nothing (R361,
R362). -/
def forgetRings (s : State) (m : Nat) (rings : List RingImage) : State :=
  (List.range 256).foldl (fun (s : State) r =>
    if (rg s r).module != m || (rg s r).exts.isEmpty || rings.any (fun im => im.ring % 256 == r) then s
    else
      let s := (setRg s r .reset).set (R.RING_STAT.STATE.ix r) 0
      (s.set (R.RING_HEAD.HEAD.ix r) 0).set (R.RING_TAIL.TAIL.ix r) 0) s

/-- STORE_RECOVERY_DONE: recovery of every ring of the module is complete, with what the metadata extent and the walks
held: the rings and the fill counts (R357, R361, R362). -/
def recoveryDone (s : State) (m : Nat) (rings : List RingImage) (fills : List (Nat × Nat)) : State :=
  if modState s m ≠ 2 then s
  else
    let s := rings.foldl (recoverRing m) (forgetRings s m rings)
    let used := rings.flatMap (·.exts)
    let all := (List.range (s.get (R.STORE_MOD_STAT.EXTENTS.ix m))).drop 1
    let s := setMd s m { md s m with
      free := all.filter (fun e => !used.contains e)
      fills := fills.foldl (fun f p => Map.set f p.1 p.2) [] }
    let s := modsRefresh (wearRefresh (setModState s m 3) m)
    (s.raise E.STORE_MOD (m + 256 * 3)).raise E.STORE_RECOVERED m

end Sys2Proof.Machine
end

