-- ==== Sys2Proof/Machine/Replay.lean ====
section
/-! DEFINITION. Timed replay: jobs, launches, unit starts, packets and their rewrites (R370 to R373), and the end of STORE's
run (R382). -/

namespace Sys2Proof.Machine

open Sys2Proof

/-- A client port is running (R334). -/
def portRunning (s : State) (p : Nat) : Bool := s.on (R.CL_PORT_STAT.RUNNING.ix p)

/-- The slots of an active map that carry a byte. -/
def mapSlots (s : State) (base v : Nat) : List Nat := (List.range 400).filter (fun i => windowByte s base i == v)

/-- A port owns a slot of an active receive map (R336, R370). -/
def portOwnsRx (s : State) (p : Nat) : Bool :=
  [Carrier.A, .B].any (fun c => !(mapSlots s (rxMapBase c) (0x80 + p)).isEmpty)

/-- The ring of a channel. -/
def rplRing (s : State) (c : Nat) : Nat := s.get (R.RPL_SRC.RING.ix c)
/-- The destination is a port. -/
def rplToPort (s : State) (c : Nat) : Bool := !s.on (R.RPL_DEST.DEST.ix c)
/-- That port. -/
def rplPort (s : State) (c : Nat) : Nat := s.get (R.RPL_DEST.PORT.ix c)

/-- The destination is invalid: a port that is not running, or that owns a slot of a receive map (R370, R371). -/
def rplDestBad (s : State) (c : Nat) : Bool :=
  rplToPort s c && (decide (24 ≤ rplPort s c) || !portRunning s (rplPort s c) || portOwnsRx s (rplPort s c))

/-- The check of PREPARE that fails first; 0 when all pass (R371). -/
def rplCode (s : State) (c : Nat) : Nat :=
  let r := rplRing s c
  let m := ringMod s r
  let start := s.get (R.RPL_START.START.ix c)
  if !s.running .store || s.stopping .store || modState s m != 3 || (rg s r).exts.isEmpty then 1
  else if start < s.get (R.RING_TAIL.TAIL.ix r) || s.get (R.RING_HEAD.HEAD.ix r) ≤ start then 2
  else if rplDestBad s c then 3
  else if modBudget < charges s m + ceil101 (s.get (R.RPL_RATE.RATE.ix c)) then 4
  else 0

/-- A job is refused with a reason. -/
def rplRefuse (s : State) (c reason : Nat) : State :=
  (s.set (R.RPL_STAT.REASON.ix c) reason).raise E.RPL_REJ (c + 256 * reason)

/-- PREPARE (R371): the budget is charged and reading begins at START. -/
def rplPrepare (s : State) (c : Nat) : State :=
  if rplActive s c then s
  else if rplCode s c ≠ 0 then rplRefuse s c (rplCode s c)
  else
    let s := setJb s c { JobH.reset with feed := (jb s c).feed, readTo := s.get (R.RPL_START.START.ix c) }
    modsRefresh ((s.set (R.RPL_STAT.STATE.ix c) 1).set (R.RPL_SENT.SENT.ix c) 0)

/-- The channel buffer in bytes (R371). -/
def rplBuffer : Nat := 524288

/-- SEQs from `q` on whose records the buffer holds whole, in ring order, with `room` bytes left: the first SEQ not read, and
whether the buffer is full. -/
def rplRead (us : List RUnit) (stop : Nat) : Nat → Nat → Nat → Nat × Bool
  | 0, q, _ => (q, false)
  | n + 1, q, room =>
    if stop ≤ q then (q, false)
    else match us.find? (fun u => u.seq == q) with
      | none => (q, false)
      | some u =>
        if unitLength u < room then rplRead us stop n (q + 1) (room - unitLength u)
        else (if unitLength u = room then q + 1 else q, true)

/-- The SEQ behind the job's last unit; with COUNT 0 there is none (R370). -/
def rplLast (s : State) (c : Nat) : Option Nat :=
  let n := s.get (R.RPL_COUNT.COUNT.ix c)
  if n = 0 then none else some (s.get (R.RPL_START.START.ix c) + n)

/-- What the channel has read from the SEQ `q` on (R371). -/
def rplFill (s : State) (c q : Nat) : Nat × Bool :=
  let us := (rg s (rplRing s c)).units
  rplRead us ((rplLast s c).getD (2 ^ 32)) us.length q rplBuffer

/-- RPL_PREPARE_DONE: the channel buffer is full or holds the job's last unit (R371). -/
def rplPrepareDone (s : State) (c : Nat) : State :=
  let r := rplFill s c (s.get (R.RPL_START.START.ix c))
  if rplState s c = 1 ∧ (r.2 = true ∨ some r.1 = rplLast s c) then
    setJb (s.set (R.RPL_STAT.STATE.ix c) 2) c { jb s c with readTo := r.1 }
  else s

/-- A unit in packet mode. -/
def packetMode (u : RUnit) : Bool := bitOf u.flags 3

/-- The frame of a launch position: the one whose number ends in `f32` and that has begun last at time `t` (R372, R468). -/
def launchFrame (s : State) (v t : Nat) (f32 : Option Nat) : Int :=
  let f := vtbFrameAt s v t
  match f32 with
  | none => f
  | some w => f - (f - (w : Int)) % (2 ^ 32 : Nat)

/-- A channel is launched at a time of TBT, at a position of the frame whose number ends in `f32`, or of the frame that holds that
time (R371, R372). -/
def rplLaunchAt (s : State) (c t : Nat) (f32 : Option Nat) : State :=
  let s := setJb s c { jb s c with launch := none }
  if rplState s c = 2 then
    setJb (s.set (R.RPL_STAT.STATE.ix c) 3) c
      { jb s c with tL := t, frame := launchFrame s (s.get (R.RPL_DEST.VTB.ix c)) t f32 }
  else if rplState s c = 3 then s
  else rplRefuse s c 6

/-- RPL_LAUNCH: the time of a launch that the scheduler has handed on arrives (R371, R462). -/
def rplLaunch (s : State) (c : Nat) : State :=
  match (jb s c).launch with
  | some (t, f32) => if t ≤ tbtNs s then rplLaunchAt s c t f32 else s
  | none => s

/-- LAUNCH_NOW (R371). -/
def rplLaunchNow (s : State) (c : Nat) : State := rplLaunchAt s c (tbtNs s) none

/-- STOP (R371). -/
def rplStop (s : State) (c : Nat) : State := rplStopJob s c 5

/-! Units (R372). -/

/-- The unit of a job with number `k`, while its ring holds it. -/
def rplUnit (s : State) (c k : Nat) : Option RUnit :=
  (rg s (rplRing s c)).units.find? (fun u => u.seq == s.get (R.RPL_START.START.ix c) + k)

/-- The start of unit `k`, in ns of TBT: of frame F + k for video units, CAPTURE after that of unit 0 for packet units
(R372). -/
def rplUnitTime (s : State) (c k : Nat) (u : RUnit) : Int :=
  let j := jb s c
  let v := s.get (R.RPL_DEST.VTB.ix c)
  if packetMode u then (j.tL : Int) + (if k = 0 then 0 else (((u.capture + 2 ^ 48 - j.cap0) % 2 ^ 48 : Nat) : Int))
  else (j.tL : Int) + (vtbFrameStart s v (j.frame + k) - vtbFrameStart s v j.frame)

/-- The packets of the unit being sent that are still to send, those with an uncorrectable line left out (R367). -/
def rplLeft (j : JobH) : List (Nat × Packet) :=
  match j.cur with
  | none => []
  | some u => j.left.filter (fun p => !j.lost.contains (u.seq, p.1 - j.base))

/-- The unit being sent ends; after COUNT units the job is done (R371). -/
def rplUnitEnd (s : State) (c : Nat) : State :=
  let j := jb s c
  match j.cur with
  | none => s
  | some u =>
    let s := setJb s c { j with cur := none, left := [], base := j.base + u.pkts.length }
    let s := if bitOf u.flags 0 then s else s.set (R.RPL_SENT.SENT.ix c) (s.get (R.RPL_SENT.SENT.ix c) + 1)
    let n := s.get (R.RPL_COUNT.COUNT.ix c)
    if n ≠ 0 ∧ n ≤ j.started then modsRefresh ((s.set (R.RPL_STAT.STATE.ix c) 4).raise E.RPL_DONE c) else s

/-- Unit `k` becomes the one being sent. -/
def rplBeginUnit (s : State) (c k : Nat) (u : RUnit) : State :=
  let j := jb s c
  let ts := ((u.pkts.head?).bind (fun p => (rtpOff p.frame).map (fun o => beAt p.frame (o + 4) 4))).getD 0
  let s := setJb s c { j with
    started := k + 1
    cur := some u
    left := (List.range u.pkts.length).map (fun i => (j.base + i, (u.pkts[i]?).getD ⟨0, 0, []⟩))
    cap0 := if k = 0 then u.capture else j.cap0
    ts0 := if k = 0 then ts else j.ts0
    readTo := max (u.seq + 1) (max j.readTo (rplFill s c u.seq).1) }
  if bitOf u.flags 0 then s.bump (R.RPL_LOSS.SKIPPED.ix c) else s

/-- The unit before is over: its packets still unsent are lost (R372). -/
def rplCutUnit (s : State) (c : Nat) : State :=
  rplUnitEnd (s.addSat (R.RPL_LOSS.LOST_PKTS.ix c) (rplLeft (jb s c)).length) c

/-- The unit being sent is over though no unit `k` is there to begin: at the start of the frame after it, in packet mode,
which has no frame period, once it has nothing to send (R372). -/
def rplPast (s : State) (c k : Nat) : Bool :=
  match (jb s c).cur with
  | none => false
  | some u => if packetMode u then (rplLeft (jb s c)).isEmpty else decide (rplUnitTime s c k u ≤ (tbtNs s : Int))

/-- RPL_UNIT_START: the start time of the next unit arrives (R372). -/
def rplUnitStart (s : State) (c : Nat) : State :=
  if rplState s c ≠ 3 then s
  else
    let k := (jb s c).started
    let n := s.get (R.RPL_COUNT.COUNT.ix c)
    match (if n ≠ 0 ∧ n ≤ k then none else rplUnit s c k) with
    | none => if rplPast s c k then rplCutUnit s c else s
    | some u => if (tbtNs s : Int) < rplUnitTime s c k u then s else rplBeginUnit (rplCutUnit s c) c k u

/-! Packets (R373). -/

/-- CLOCK in Hz. -/
def rplClock (s : State) (c : Nat) : Nat :=
  match s.get (R.RPL_DEST.CLOCK.ix c) with
  | 1 => 48000
  | 2 => 96000
  | _ => 90000

/-- The RTP timestamp that RW_TS writes into a packet of unit `k` whose own is `orig`. -/
def rplRtpTs (s : State) (c k : Nat) (u : RUnit) (orig : Nat) : Nat :=
  let j := jb s c
  let hz := rplClock s c
  if packetMode u then (j.tL * hz / 1000000000 + orig + 2 ^ 32 - j.ts0) % 2 ^ 32
  else
    let a := vtbFrameStart s (s.get (R.RPL_DEST.VTB.ix c)) (j.frame + k)
    ofSigned 32 ((a * (timeUnit : Int) - s.time.resid) * (hz : Int) / ((timeUnit * 1000000000 : Nat) : Int))

/-- Where the payload of an RTP packet begins. -/
def rtpPayload (f : List Nat) (o : Nat) : Nat :=
  let b := byteAt f o
  let p := o + 12 + 4 * (b % 16)
  if bitOf b 4 then p + 4 + 4 * beAt f (p + 2) 2 else p

/-- The rewrites of the RTP header. -/
def rplRtp (s : State) (c k idx : Nat) (u : RUnit) (f : List Nat) : List Nat :=
  match rtpOff f with
  | none => f
  | some o =>
    let on := fun (x : Fld) => s.on (x.ix c)
    let n := (s.get (R.RPL_SEQ0.SEQ0.ix c) + idx) % 2 ^ 32
    let f := if on R.RPL_DEST.RW_TS then putBe f (o + 4) 4 (rplRtpTs s c k u (beAt f (o + 4) 4)) else f
    let f :=
      if on R.RPL_DEST.RW_SEQ then
        let f := putBe f (o + 2) 2 (n % 65536)
        if packetMode u then f else putBe f (rtpPayload f o) 2 (n / 65536)
      else f
    if on R.RPL_DEST.RW_SSRC then putBe f (o + 8) 4 (s.get (R.RPL_SSRC.SSRC.ix c)) else f

/-- RPL_DST as bytes. -/
def rplDst (s : State) (c : Nat) : List Nat :=
  [R.RPL_DST.DST, R.RPL_DST.DST1, R.RPL_DST.DST2, R.RPL_DST.DST3].flatMap (fun f => leBytes 4 (s.get (f.ix c)))

/-- The rewrites of the UDP port and the IP destination. -/
def rplAddr (s : State) (c : Nat) (f : List Nat) : List Nat :=
  let f :=
    match udpOff f with
    | some u => if s.on (R.RPL_DEST.RW_UDP.ix c) then putBe f (u + 2) 2 (s.get (R.RPL_UDP.UDP.ix c)) else f
    | none => f
  if !s.on (R.RPL_DEST.RW_DST.ix c) then f
  else if isIp4 f then fixIp4 (putAt f (l3Off f + 16) ((rplDst s c).take 4))
  else if isIp6 f then putAt f (l3Off f + 24) (rplDst s c)
  else f

/-- A packet as the channel sends it, with its FCS (R370, R373). -/
def rplRewrite (s : State) (c k idx : Nat) (u : RUnit) (f : List Nat) : List Nat :=
  let on := fun (x : Fld) => s.on (x.ix c)
  let any := ((rtpOff f).isSome && (on R.RPL_DEST.RW_TS || on R.RPL_DEST.RW_SEQ || on R.RPL_DEST.RW_SSRC)) ||
    ((udpOff f).isSome && on R.RPL_DEST.RW_UDP) || ((isIp4 f || isIp6 f) && on R.RPL_DEST.RW_DST)
  let f := rplAddr s c (rplRtp s c k idx u f)
  let f := if any then fixUdp f else f
  f ++ fcsOf f

/-- A packet may leave: its time has come, or it lies after the next unit's start (R372). -/
def rplDue (s : State) (c k : Nat) (u : RUnit) (p : Packet) : Bool :=
  let t := rplUnitTime s c k u + (p.off : Int)
  decide (t ≤ (tbtNs s : Int)) ||
    (match rplUnit s c (k + 1) with
     | some v => decide (rplUnitTime s c (k + 1) v < t)
     | none => false)

/-- RPL_PACKET_SEND: the next packet of the unit leaves as `send` makes it leave (R372, R373). -/
def rplPacketSend (send : State → Nat → List Nat → State) (s : State) (c : Nat) : State :=
  let j := jb s c
  match j.cur, rplLeft j with
  | some u, (idx, p) :: rest =>
    let k := j.started - 1
    if rplState s c ≠ 3 || !rplDue s c k u p then s
    else
      let f := rplRewrite s c k idx u p.frame
      let s := send (setJb s c { j with left := rest, out := f }) c f
      if rest.isEmpty then rplUnitEnd s c else s
  | _, _ => s

/-! Ends. -/

/-- A client port stops: the jobs that send to it stop (R371). -/
def rplPortStopped (s : State) (p : Nat) : State :=
  rplStopAll s (fun s c => rplActive s c && rplToPort s c && rplPort s c == p) 8

/-- STORE's RUN is cleared: every ring is disarmed, every job stops with reason 5 (R382). -/
def storeRunClear (s : State) : State :=
  let s := s.clearRun .store
  let s := (List.range 256).foldl ringDisarm s
  storeStopCheck (rplStopAll s rplActive 5)

end Sys2Proof.Machine
end

