-- ==== Sys2Proof/Machine/Lanes.lean ====
section
/-! DEFINITION. Serial lanes: power, bring-up, polarity, alignment of Pod lanes, patterns; Pod ports: their state machine,
transfers, messages, bond, time transport (R384 to R412). -/

namespace Sys2Proof.Machine

open Sys2Proof

/-! Lanes: CL0 to CL23 are numbered 0 to 23, PD0 to PD23 are 24 to 47. -/

/-- A lane. -/
def ln (s : State) (n : Nat) : LaneH := (s.link.lanes.find n).getD .reset
/-- A lane replaced. -/
def setLn (s : State) (n : Nat) (h : LaneH) : State :=
  { s with link := { s.link with lanes := Map.putD .reset s.link.lanes n h } }
/-- A Pod port. -/
def pp (s : State) (k : Nat) : PodPortH := (s.link.ports.find k).getD .reset
/-- A Pod port replaced. -/
def setPp (s : State) (k : Nat) (h : PodPortH) : State :=
  { s with link := { s.link with ports := Map.putD .reset s.link.ports k h } }

/-- A Pod lane. -/
def isPodLane (n : Nat) : Bool := decide (24 ≤ n)
/-- A register of a lane (R410). -/
def laneF (n : Nat) (f : Fld) : Fld :=
  if n < 24 then f.ix n else { f.ix (n - 24) with addr := (f.ix (n - 24)).addr + 0x10000 }
/-- The lane as event data name it (R412). -/
def laneEv (n : Nat) : Nat := if n < 24 then n else 32 + (n - 24)
/-- The Pod port of a Pod lane. -/
def podPortOf (n : Nat) : Nat := (n - 24) / 4
/-- The lanes of a Pod port. -/
def podLanes (k : Nat) : List Nat := [24 + 4 * k, 25 + 4 * k, 26 + 4 * k, 27 + 4 * k]
/-- A peer port (R384). -/
def isPeer (k : Nat) : Bool := decide (4 ≤ k)

/-- L of a client port by RATE and LANE_RATE (R332). -/
def portWidth (rate lrate : Nat) : Option Nat :=
  match rate, lrate with
  | 0, 0 => some 4
  | 0, 1 => some 2
  | 0, 2 => some 1
  | 1, 1 => some 4
  | 1, 2 => some 2
  | 1, 3 => some 1
  | 2, 1 => some 8
  | 2, 2 => some 4
  | 2, 3 => some 2
  | 3, 2 => some 8
  | 3, 3 => some 4
  | 4, 3 => some 8
  | _, _ => none

/-- L of port `p` as it is configured. -/
def portL (s : State) (p : Nat) : Option Nat :=
  portWidth (s.get (R.CL_PORT_CFG.RATE.ix p)) (s.get (R.CL_PORT_CFG.LANE_RATE.ix p))

/-- The running client port to which a client lane belongs (R332, R387). -/
def laneOwner (s : State) (n : Nat) : Option Nat :=
  (List.range 24).find? (fun p => portRunning s p && decide (p ≤ n ∧ n < p + (portL s p).getD 0))

/-- Bit rates by LANE_RATE in units of 10 kb/s: 25.78125, 53.125, 106.25 and 212.5 Gb/s (R384). -/
def bitRate (r : Nat) : Nat := [2578125, 5312500, 10625000, 21250000].getD r 0
/-- The rate code of a lane: a Pod lane runs at 106.25 Gb/s alone, a client lane at LANE_RATE of its running port or else at
PAT_RATE (R384, R388). -/
def laneRate (s : State) (n : Nat) : Nat :=
  if isPodLane n then 2
  else match laneOwner s n with
    | some p => s.get (R.CL_PORT_CFG.LANE_RATE.ix p)
    | none => s.get (laneF n R.LN_CTRL.PAT_RATE)
/-- A symbol of a line: of PAM4 bits 00, 01, 11 and 10 give −3, −1, +1 and +3, of NRZ bits 0 and 1 the outer levels (R384; for
NRZ log entry 104). -/
def pamLevel (pam : Bool) (v : Nat) : Int :=
  if pam then [-3, -1, 3, 1].getD v 0 else if v = 0 then -3 else 3
/-- The `n` bits of a word as levels, the highest first: PAM4 takes them in pairs, the more significant bit first (R384). -/
def lineLevels (pam : Bool) (n w : Nat) : List Int :=
  if pam then (List.range (n / 2)).map (fun i => pamLevel true (w / 4 ^ (n / 2 - 1 - i) % 4))
  else (List.range n).map (fun i => pamLevel false (w / 2 ^ (n - 1 - i) % 2))

/-- The enable bit of a lane (R386). -/
def laneEnabled (s : State) (n : Nat) : Bool :=
  if n < 24 then bitOf (s.get R.LANES_EN.EN) n else bitOf (s.get R.POD_LANE_EN.EN) (n - 24)
/-- The domain of a lane's registers. -/
def laneDom (n : Nat) : Nat := if n < 12 then dCLW else if n < 24 then dCLE else dPOD
/-- The lane's port needs it (R388). -/
def lanePort (s : State) (n : Nat) : Bool :=
  if n < 24 then (laneOwner s n).isSome else s.on (R.POD_PORT.EN.ix (podPortOf n))
/-- GEN_EN or CHK_EN is 1. -/
def lanePat (s : State) (n : Nat) : Bool := s.on (laneF n R.LN_PAT.GEN_EN) || s.on (laneF n R.LN_PAT.CHK_EN)
/-- ALIGN of a Pod lane: 0 HUNT, 1 PRESYNC, 2 HDR_LOCK, 3 AM_WAIT, 4 SYNC. -/
def laneAlign (s : State) (n : Nat) : Nat := s.get (laneF n R.LN_STAT.ALIGN)

/-! Client links, as lanes and ports change them (R335). -/

/-- PCS_ALIGNED and LF_RX of a client port take values; LINK_UP follows. -/
def setLink (s : State) (p : Nat) (aligned lf : Bool) : State :=
  let s := (s.setB (R.CL_PORT_STAT.PCS_ALIGNED.ix p) aligned).setB (R.CL_PORT_STAT.LF_RX.ix p) lf
  let up := aligned && !lf
  if s.on (R.CL_PORT_STAT.LINK_UP.ix p) = up then s
  else (s.setB (R.CL_PORT_STAT.LINK_UP.ix p) up).raise E.CL_LINK (p + 256 * b2n up)

/-! Pod ports going down (R397, R403). -/

/-- STATE of a Pod port: 0 DOWN, 1 ALIGN, 2 DESKEW, 3 ID_WAIT, 4 UP. -/
def podState (s : State) (k : Nat) : Nat := s.get (R.POD_PORT.STATE.ix k)
/-- A Pod port is UP. -/
def podUp (s : State) (k : Nat) : Bool := podState s k == 4

/-- A port enters a state other than UP. -/
def setPodState (s : State) (k st : Nat) : State := s.set (R.POD_PORT.STATE.ix k) st

/-- The stream of a port begins anew: its deal over the lanes, the distance of its markers, the blocks sent since now (R393). -/
def streamRestart (s : State) (k : Nat) : State :=
  setPp s k { pp s k with rxAt := 0, txAt := 0, txBip := [], txSince := s.time.aon, txSlots := 0 }

/-- The bond breaks when a port leaves UP (R403). -/
def bondBreak (s : State) (k : Nat) : State :=
  if isPeer k && s.on R.POD_STAT.BONDED then
    streamRestart (streamRestart ((s.setB R.POD_STAT.BONDED false).raise E.POD_BOND 0) 4) 5
  else s

/-- What leaving UP does (R397, R404, R405). -/
def podLeaveUp (s : State) (k : Nat) : State :=
  let s := (s.set R.POD_STAT.PORT_UP (clrBit (s.get R.POD_STAT.PORT_UP) k)).raise E.POD_LINK k
  if isPeer k then bondBreak (s.setB (R.POD_DELAY.VALID.ix (k - 4)) false) k else modLinkDown s k

/-- A port may leave DOWN: EN is 1 and its lanes are enabled (R397). -/
def podMayAlign (s : State) (k : Nat) : Bool := s.on (R.POD_PORT.EN.ix k) && (podLanes k).all (laneEnabled s)

/-- LANE_MAP of a port, from the numbers found (R396, R403). -/
def laneMapOf (s : State) (k : Nat) : Nat :=
  ((podLanes k).map (fun n => (ln s n).num % 4 * 4 ^ ((n - 24) % 4))).sum

/-- In ALIGN with all four lanes in SYNC: on distinct logical lanes the port enters DESKEW, else it stays (R396, R397). -/
def podAligned (s : State) (k : Nat) : State :=
  if podState s k = 1 && (podLanes k).all (fun m => laneAlign s m == 4) then
    if ((podLanes k).map (fun m => (ln s m).num)).Nodup then
      (setPodState s k 2).set (R.POD_PORT.LANE_MAP.ix k) (laneMapOf s k)
    else s.raise E.POD_SKEW (k + 256)
  else s

/-- The port goes DOWN: transfers in flight are lost; then ALIGN while EN is 1 and its lanes are enabled (R397). -/
def podDown (s : State) (k : Nat) : State :=
  if podState s k = 0 then s
  else
    let up := podUp s k
    let s := setPp (setPodState s k 0) k { pp s k with rx := none, fin := none, fails := [], inbox := [] }
    let s := if up then podLeaveUp s k else s
    if podMayAlign s k then podAligned (streamRestart (setPodState s k 1) k) k else s

/-- A lane leaves SYNC, and with it its port (R394, R395, R397). -/
def laneUnsync (s : State) (n : Nat) : State :=
  let was := laneAlign s n
  let s := setLn (s.set (laneF n R.LN_STAT.ALIGN) 0) n
    { ln s n with count := 0, miss := 0, hdrs := 0, slips := 0, wcnt := 0, wbad := 0 }
  if was = 4 then podDown s (podPortOf n) else s

/-! Lane states (R388). -/

/-- POL_INV takes a value; POD_PORT.POL shows it (R389, R411). -/
def setPol (s : State) (n : Nat) (v : Bool) : State :=
  if s.on (laneF n R.LN_STAT.POL_INV) = v then s
  else
    let s := s.setB (laneF n R.LN_STAT.POL_INV) v
    let s :=
      if isPodLane n then
        let f := R.POD_PORT.POL.ix (podPortOf n)
        s.set f (putBit (s.get f) ((n - 24) % 4) v)
      else s
    s.raise E.LANE_POL (laneEv n + 256 * b2n v)

/-- A lane leaves READY: a client port loses PCS alignment, a Pod lane its alignment. -/
def laneNotReady (s : State) (n : Nat) : State :=
  if isPodLane n then laneUnsync s n
  else
    match laneOwner s n with
    | some p => setLink s p false (s.on (R.CL_PORT_STAT.LF_RX.ix p))
    | none => s

/-- STATE of a lane changes: in IDLE its transmitter holds zero output, in LOCKING its polarity is open again (R388, R389). -/
def setLane (s : State) (n st : Nat) : State :=
  let was := (ln s n).st
  let s := (setLn s n { ln s n with st := st }).set (laneF n R.LN_STAT.STATE) st
  let s := if st ≤ 2 then (s.setB (laneF n R.LN_STAT.CDR_LOCK) false).setB (laneF n R.LN_STAT.ADAPT_DONE) false else s
  let s := if st ≤ 1 then setLn s n { ln s n with line := 0, genOut := 0, rate := 0 } else s
  let s := if st = 2 then setLn s n { ln s n with polFixed := false } else s
  let s := if was = st then s else (s.mark (.lane n)).raise E.LANE_STATE (laneEv n + 256 * st)
  if was = 4 ∧ st ≠ 4 then laneNotReady s n else s

/-- BOOT holds the lanes stopped, but PD16 to PD23 while a peer boot uses them (R39, R622). -/
def bootHolds (s : State) (n : Nat) : Bool := s.dev == stBOOT && !(decide (40 ≤ n) && s.host.bootSrc == 2)

/-- IDLE to LOCKING for a port or a pattern: the transmitter starts at the lane rate (R388). -/
def laneBegin (s : State) (n : Nat) : State :=
  if (ln s n).st = 1 ∧ ¬ (ln s n).powering ∧ (lanePort s n || lanePat s n) ∧ ¬ bootHolds s n then
    setPol (setLane (setLn s n { ln s n with byPort := lanePort s n, rate := bitRate (laneRate s n) }) n 2) n (s.on (laneF n R.LN_CTRL.RX_INV))
  else s

/-- The conditions of R388 that hold at a level: a lane starts, and stops when what started it ends. -/
def laneFollow (s : State) (n : Nat) : State :=
  let h := ln s n
  if h.st ≤ 1 then laneBegin s n
  else if h.st = 5 ∧ ¬ lanePat s n then
    if lanePort s n then setLane (setLn s n { h with byPort := true }) n 4 else setLane s n 1
  else if (if h.byPort then lanePort s n else lanePat s n) then s
  else laneBegin (setLane s n 1) n

/-- Every lane follows. -/
def lanesFollow (s : State) : State := (List.range 48).foldl laneFollow s

/-- A lane is switched on: its registers stand at reset, power-up begins (R386, R388). -/
def lanePowerOn (s : State) (n : Nat) : State :=
  (setLn s n { LaneH.reset with st := 1, powering := true }).raise E.LANE_STATE (laneEv n + 256)

/-- The registers of a lane at their reset values. -/
def laneRegsReset (s : State) (n : Nat) : State :=
  let lo := (laneF n R.LN_CTRL.PAT_RATE).addr * 64
  { s with regs := Map.restore lo (lo + 64 * 64) R.resets s.regs }

/-- A lane loses its power (R386). -/
def lanePowerOff (s : State) (n : Nat) : State :=
  let s := if (ln s n).st = 4 then laneNotReady s n else s
  let s := laneRegsReset (setLn s n .reset) n
  s.raise E.LANE_STATE (laneEv n)

/-- Power follows the enable bit and the domain (R386, R588). -/
def lanePower (s : State) (n : Nat) : State :=
  let want := laneEnabled s n && s.domOn (laneDom n)
  if want && (ln s n).st == 0 then lanePowerOn s n
  else if !want && (ln s n).st != 0 then lanePowerOff s n
  else s

/-- The Pod ports follow EN and the enables of their lanes (R397). -/
def podFollow (s : State) (k : Nat) : State :=
  if podState s k = 0 then (if podMayAlign s k then streamRestart (setPodState s k 1) k else s)
  else if podMayAlign s k then s
  else podDown s k

/-- Power, states and ports of all lanes follow their enables. -/
def lanesSettle (s : State) : State :=
  [0, 1, 2, 3, 4, 5].foldl podFollow (lanesFollow ((List.range 48).foldl lanePower s))

/-- LANE_ENABLE and LANE_DISABLE: an enable bit is written (R386, R388). -/
def laneEnable (s : State) (n : Nat) (on : Bool) : State :=
  lanesSettle
    (if n < 24 then s.set R.LANES_EN.EN (putBit (s.get R.LANES_EN.EN) n on)
     else s.set R.POD_LANE_EN.EN (putBit (s.get R.POD_LANE_EN.EN) (n - 24) on))

/-- LANE_POWERED: power-up completes. -/
def lanePowered (s : State) (n : Nat) : State :=
  if (ln s n).powering then laneFollow (setLn s n { ln s n with powering := false }) n else s

/-- LANE_CDR_LOCK: the CDR locks. -/
def laneCdrLock (s : State) (n : Nat) : State :=
  if (ln s n).st = 2 then (setLane s n 3).setB (laneF n R.LN_STAT.CDR_LOCK) true else s

/-- LANE_ADAPT_DONE: CTLE and DFE have converged. -/
def laneAdaptDone (s : State) (n : Nat) : State :=
  if (ln s n).st = 3 then (setLane s n (if lanePat s n then 5 else 4)).setB (laneF n R.LN_STAT.ADAPT_DONE) true else s

/-- LANE_CDR_LOSS: CDR lock has been lost for 1 µs. -/
def laneCdrLoss (s : State) (n : Nat) : State := if 2 ≤ (ln s n).st then setLane s n 2 else s

/-! Polarity, FIR, patterns (R385, R389, R406). -/

/-- LANE_POL_TIMER: a further 10 ms in READY; a lane on which the PCS has not locked to the alignment markers since LOCKING
toggles (R389). -/
def lanePolTimer (s : State) (n : Nat) : State :=
  if !isPodLane n && (ln s n).st == 4 && s.on (laneF n R.LN_CTRL.AUTO_POL) && !(ln s n).polFixed then
    match s.lap (.lane n) 10000000 with
    | some s => setPol s n (!s.on (laneF n R.LN_STAT.POL_INV))
    | none => s
  else s

/-- LANE_RX_INV_WRITE: RX_INV is written (R389). -/
def laneRxInv (s : State) (n : Nat) (v : Bool) : State :=
  if (ln s n).st = 0 then s
  else
    let s := setPol (s.setB (laneF n R.LN_CTRL.RX_INV) v) n v
    if isPodLane n then laneUnsync s n else s

/-- AUTO_POL is written: at 0, POL_INV follows RX_INV (R389). -/
def laneAutoPol (s : State) (n : Nat) (v : Bool) : State :=
  let s := s.setB (laneF n R.LN_CTRL.AUTO_POL) v
  if v then s else setPol s n (s.on (laneF n R.LN_CTRL.RX_INV))

/-- Magnitudes of PRE2, PRE1 and POST1 added up. -/
def firSide (s : State) (n : Nat) : Nat :=
  let m := fun (f : Fld) => (toSigned 6 (s.get (laneF n f))).natAbs
  m R.LN_FIR.PRE2 + m R.LN_FIR.PRE1 + m R.LN_FIR.POST1
/-- MAIN as the transmitter applies it (R385). -/
def firMain (s : State) (n : Nat) : Nat := min (s.get (laneF n R.LN_FIR.MAIN)) (63 - firSide s n)
/-- After a write of LN_FIR, FIR_CLIP tells whether MAIN is reduced (R385). -/
def firRefresh (s : State) (n : Nat) : State :=
  s.setB (laneF n R.LN_STAT.FIR_CLIP) (decide (63 < firSide s n + s.get (laneF n R.LN_FIR.MAIN)))

/-- CHK_LOCK takes a value (R406). -/
def setChkLock (s : State) (n : Nat) (v : Bool) : State :=
  if s.on (laneF n R.LN_PAT.CHK_LOCK) = v then s
  else (s.setB (laneF n R.LN_PAT.CHK_LOCK) v).raise E.LANE_PAT (laneEv n + 256 * b2n v)

/-- The lane runs at a PAM4 rate: a Pod lane always, a client lane by LANE_RATE of its port or by PAT_RATE (R384, R388). -/
def lanePam (s : State) (n : Nat) : Bool := laneRate s n != 0

/-- The levels at a lane's pins: those of its generator's last window or of its last block, at zero while its transmitter has not
started (R384, R388, R406). -/
def laneOutput (s : State) (n : Nat) : List Int :=
  if (ln s n).st < 2 then [0]
  else if s.on (laneF n R.LN_PAT.GEN_EN) then lineLevels (lanePam s n) 1024 (ln s n).genOut
  else lineLevels true 132 (ln s n).line

/-- The pattern that the generator sends. -/
def genCode (s : State) (n : Nat) : Nat := patCode (lanePam s n) (s.get (laneF n R.LN_PAT.GEN_SEL))
/-- The pattern that the checker expects. -/
def chkCode (s : State) (n : Nat) : Nat := patCode (lanePam s n) (s.get (laneF n R.LN_PAT.CHK_SEL))

/-- LN_PAT_WRITE: GEN_EN and CHK_EN are written (R388, R406). A generator that starts holds ones (log entry 105). -/
def lanePatWrite (s : State) (n : Nat) (gen chk : Bool) : State :=
  if (ln s n).st = 0 then s
  else
    let was := s.on (laneF n R.LN_PAT.GEN_EN)
    let s := (s.setB (laneF n R.LN_PAT.GEN_EN) gen).setB (laneF n R.LN_PAT.CHK_EN) chk
    let s := if gen && !was then setLn s n { ln s n with genReg := patStart (genCode s n), genAt := 0 } else s
    laneFollow (if chk then s else setChkLock s n false) n

/-- INJ_ONE (R406). -/
def laneInjOne (s : State) (n : Nat) : State :=
  if (ln s n).st = 0 then s else setLn s n { ln s n with inj := (ln s n).inj + 1 }

/-! Loopback (R407). -/

/-- LPBK of a lane: 0 none, 1 near end, 2 far end; 0b11 acts as 0b00 (R407). -/
def laneLoop (s : State) (n : Nat) : Nat :=
  let v := s.get (laneF n R.LN_CTRL.LPBK)
  if v = 3 then 0 else v

/-- 132 bits with their Gray-coded symbols inverted (R384, R395). -/
def grayInv (w : Nat) : Nat := w ^^^ 0xAAAAAAAAAAAAAAAAAAAAAAAAAAAAAAAAA

/-- What a Pod lane's receiver meets when its pins carry `w`: in near-end loopback the lane's own last block (R407). -/
def laneHears (s : State) (n w : Nat) : Nat := if laneLoop s n = 1 then (ln s n).line else w

/-- In far-end loopback what is received goes out again (R407). -/
def laneRepeats (s : State) (n w : Nat) : State := if laneLoop s n = 2 then setLn s n { ln s n with line := w } else s

/-- A lane sends a block of 132 bits, inverted by TX_INV; in far-end loopback its transmitter serves the received data, and
a pattern replaces its traffic (R406, R407, R410), and before it has started it sends nothing (R388). -/
def laneSends (s : State) (n w : Nat) : State :=
  if (ln s n).st < 2 || laneLoop s n = 2 || s.on (laneF n R.LN_PAT.GEN_EN) then s
  else setLn s n { ln s n with line := if s.on (laneF n R.LN_CTRL.TX_INV) then grayInv w else w }

/-! The pattern generator and checker (R406). -/

/-- Set bits among the low `n`. -/
def popCount : Nat → Nat → Nat
  | 0, _ => 0
  | n + 1, v => v % 2 + popCount n (v / 2)

/-- The generator sends its next 1,024 bits: INJ_RATE and INJ_ONE invert bits, one that both choose once only; TX_INV inverts the
levels. -/
def genWindow (s : State) (n : Nat) : State :=
  if (ln s n).st < 2 || !s.on (laneF n R.LN_PAT.GEN_EN) then s
  else
    let h := ln s n
    let pam := lanePam s n
    let code := genCode s n
    let reg := h.genReg % 2 ^ (if code = 6 then 5 else (patPoly code).1)
    let x := patRun pam code 1024 0 (if reg = 0 then patStart code else reg) 0
    let m := injMask (s.get (laneF n R.LN_PAT.INJ_RATE)) h.genAt ||| (2 ^ min 1024 h.inj - 1)
    let out := x.1 ^^^ m
    setLn s n { h with
      genReg := x.2, genAt := (h.genAt + 1024) % 2 ^ 31, inj := h.inj - 1024
      genOut := if s.on (laneF n R.LN_CTRL.TX_INV) then out ^^^ polMask pam else out }

/-- What the checker meets when the pins carry `w`: in near-end loopback what the lane sends, inverted by POL_INV (R389, R407). -/
def chkHears (s : State) (n w : Nat) : Nat :=
  let v := if laneLoop s n = 1 then (ln s n).genOut else w % 2 ^ 1024
  if s.on (laneF n R.LN_STAT.POL_INV) then v ^^^ polMask (lanePam s n) else v

/-- The checker without lock: 1,024 error-free bits in either polarity give it. -/
def chkSeek (s : State) (n w : Nat) : State :=
  match patFound (lanePam s n) (chkCode s n) w with
  | some (r, inv) =>
    (setChkLock (setLn s n { ln s n with chkReg := r }) n true).setB (laneF n R.LN_PAT.CHK_INV) inv
  | none => s

/-- The checker in lock counts the window's bits and errors; more than 256 errors lose the lock. -/
def chkCount (s : State) (n w : Nat) : State :=
  let pam := lanePam s n
  let w := if s.on (laneF n R.LN_PAT.CHK_INV) then w ^^^ polMask pam else w
  let x := patRun pam (chkCode s n) 1024 0 (ln s n).chkReg 0
  let errs := popCount 1024 (w ^^^ x.1)
  let s := (s.addWrap (laneF n R.LN_PERR.PERR) errs).addWrap (laneF n R.LN_PBITS.PBITS) 1024
  let s := setLn s n { ln s n with chkReg := x.2 }
  if 256 < errs then setChkLock s n false else s

/-- LANE_PAT_LOCK: 1,024 bits pass on the lane in both directions; the checker works once the lane's receiver is adapted. -/
def lanePatLock (s : State) (n window : Nat) : State :=
  let s := genWindow s n
  if (ln s n).st < 4 || !s.on (laneF n R.LN_PAT.CHK_EN) then s
  else
    let w := chkHears s n window
    if s.on (laneF n R.LN_PAT.CHK_LOCK) then chkCount s n w else chkSeek s n w

/-! Alignment of Pod lanes (R394 to R396). -/

/-- Byte `i` of pattern P (R391). -/
def patP (i : Nat) : Nat := (i * 0x3D % 256) ^^^ 0xA5
/-- A payload from its bytes, byte 0 first. -/
def payload (bs : List Nat) : Nat := ofBe bs
/-- Byte `i` of a payload (R390). -/
def payByte (p i : Nat) : Nat := p / 256 ^ (15 - i) % 256
/-- The COMMA block of a logical lane, 132 bits (R390, R391). -/
def commaBlock (lane : Nat) : Nat :=
  0xA * 2 ^ 128 + payload ([0xC5, lane] ++ (List.range 12).map (fun i => patP (i + 2)) ++ [0x0F, 0xF0])
/-- The bits in which a window differs from the COMMA block of a lane in a polarity (R394). -/
def commaDiff (w : Nat) (h : Nat × Bool) : Nat := popCount 132 ((if h.2 then grayInv w else w) ^^^ commaBlock h.1)
/-- A comma hit in a window: the logical lane and the polarity of the block that it differs least from (R394). The blocks of two
lanes differ in one or two bits, and the rule does not say which lane a window has that is within 4 bits of several; the nearest,
of equals the first, is ours (log entry 119). -/
def commaHit (w : Nat) : Option (Nat × Bool) :=
  let best := ([0, 1, 2, 3].flatMap (fun l => [(l, false), (l, true)])).foldl
    (fun b h => if commaDiff w h < commaDiff w b then h else b) (0, false)
  if commaDiff w best ≤ 4 then some best else none

/-- A lane reaches SYNC; with all four in SYNC and on distinct logical lanes the port enters DESKEW (R396, R397). -/
def laneSynced (s : State) (n : Nat) : State :=
  podAligned (setLn (s.set (laneF n R.LN_STAT.ALIGN) 4) n { ln s n with miss := 0, wcnt := 0, wbad := 0 }) (podPortOf n)

/-- Bits from a marker of a lane to its next: 16,385 blocks (R393). -/
def markerBits : Nat := 16385 * 132

/-- The position at which a store lane meets its window counts: in HUNT any from the one where hunting resumes, else the recorded
one's successor (R394). -/
def commaPlace (s : State) (n at' : Nat) : Bool :=
  if laneAlign s n = 0 then decide ((ln s n).pos ≤ at') else at' == (ln s n).pos + markerBits

/-- POD_COMMA_ALIGN: a 132-bit window of a store lane, as the pins received it, that begins at bit `at'` of what the lane has
received (R394). -/
def commaAlign (s : State) (n window at' : Nat) : State :=
  if !isPodLane n || isPeer (podPortOf n) || (ln s n).st != 4 || !commaPlace s n at' then s
  else
    let s := setLn s n { ln s n with pos := at' + b2n (laneAlign s n == 1 && (commaHit (laneHears s n window)).isNone) }
    let h := ln s n
    match laneAlign s n, commaHit (laneHears s n window) with
    | 0, some (lane, inv) =>
      let s := setLn (s.set (laneF n R.LN_STAT.ALIGN) 1) n { h with num := lane, count := 1 }
      if s.on (laneF n R.LN_CTRL.AUTO_POL) then setPol s n inv else s
    | 0, none => s
    | 1, some (lane, _) =>
      if lane ≠ h.num then laneUnsync (setLn s n { h with pos := at' + 1 }) n
      else
        let s := setLn s n { h with count := h.count + 1 }
        if 4 ≤ h.count + 1 then laneSynced s n else s
    | 1, none => laneUnsync s n
    | _, hit =>
      if hit.any (fun x => x.1 == h.num) then setLn s n { h with miss := 0 }
      else if 4 ≤ h.miss + 1 then laneUnsync s n
      else setLn s n { h with miss := h.miss + 1 }

/-- A valid header (R390). -/
def hdrValid (hdr : Nat) : Bool := hdr == 5 || hdr == 10

/-- HUNT of a peer lane meets a header (R395). -/
def huntStep (s : State) (n hdr : Nat) : State :=
  let h := ln s n
  if hdrValid hdr then
    if 64 ≤ h.hdrs + 1 then
      setLn (s.set (laneF n R.LN_STAT.ALIGN) 2) n { h with hdrs := 0, slips := 0, wcnt := 0, wbad := 0 }
    else setLn s n { h with hdrs := h.hdrs + 1 }
  else if 132 ≤ h.slips + 1 then
    let s := setLn s n { h with hdrs := 0, slips := 0 }
    if s.on (laneF n R.LN_CTRL.AUTO_POL) then setPol s n (!s.on (laneF n R.LN_STAT.POL_INV)) else s
  else setLn s n { h with hdrs := 0, slips := h.slips + 1 }

/-- HDR_LOCK and SYNC count bad headers among 1,024 blocks (R395). -/
def lockStep (s : State) (n hdr : Nat) : State :=
  let h := ln s n
  let bad := h.wbad + b2n (!hdrValid hdr)
  if 32 ≤ bad then laneUnsync s n
  else if 1024 ≤ h.wcnt + 1 then setLn s n { h with wcnt := 0, wbad := 0 }
  else setLn s n { h with wcnt := h.wcnt + 1, wbad := bad }

/-- POD_HEADER_HUNT: a header of a peer lane at the candidate position (R395). -/
def headerHunt (s : State) (n hdr : Nat) : State :=
  let hdr := if laneLoop s n = 1 then (ln s n).line / 2 ^ 128 else hdr
  if !isPodLane n || !isPeer (podPortOf n) || (ln s n).st != 4 then s
  else if laneAlign s n = 0 then huntStep s n hdr
  else if laneAlign s n = 3 then s
  else lockStep s n hdr

/-- A payload is an AM block whose bytes 2 to 15 check (R391, R395). -/
def amGood (p : Nat) : Bool :=
  payByte p 0 == 0x4D && (List.range 12).all (fun i => payByte p (i + 2) == patP (i + 2)) &&
  payByte p 15 == 255 - payByte p 14

/-- The block of a peer lane that counts as the place of an AM: in HDR_LOCK any, else the one 16,385 blocks after the place
before (R395). -/
def amPlace (s : State) (n at' : Nat) : Bool := laneAlign s n == 2 || at' == (ln s n).pos + 16385

/-- POD_AM_ALIGN: the block `at'` of those that a peer lane has received, and the BIP-8 of the lane's blocks since the AM before
(R395). -/
def amAlign (s : State) (n p bip at' : Nat) : State :=
  if !isPodLane n || !isPeer (podPortOf n) || (ln s n).st != 4 || !amPlace s n at' then s
  else
    let s := setLn s n { ln s n with pos := at' }
    let h := ln s n
    let p := if laneLoop s n = 1 then h.line % 2 ^ 128 else p
    let good := amGood p
    let same := good && payByte p 1 == h.num
    let s := if good && payByte p 14 != bip % 256 && laneAlign s n ≥ 3 then
      s.bump (R.POD_CNT1.HDR_ERR.ix (podPortOf n)) else s
    match laneAlign s n with
    | 2 => if good then setLn (s.set (laneF n R.LN_STAT.ALIGN) 3) n { h with num := payByte p 1 } else s
    | 3 => if same then laneSynced s n else s.set (laneF n R.LN_STAT.ALIGN) 2
    | 4 =>
      if same then setLn s n { h with miss := 0 }
      else if 4 ≤ h.miss + 1 then laneUnsync s n
      else setLn s n { h with miss := h.miss + 1 }
    | _ => s

/-! The block stream of a port (R392, R393). -/

/-- `n` bits of a payload through the self-synchronous scrambler x^58 + x^39 + 1, or with `recv` through its inverse, the
first bit the highest; the register holds the last 58 bits of the line, the latest in bit 0 (R392). -/
def scrBits (recv : Bool) : Nat → Nat → Nat → Nat → Nat × Nat
  | 0, _, reg, out => (out, reg)
  | n + 1, p, reg, out =>
    let b := b2n (p.testBit n)
    let o := (b + b2n (reg.testBit 38) + b2n (reg.testBit 57)) % 2
    scrBits recv n p ((2 * reg + (if recv then b else o)) % 2 ^ 58) (2 * out + o)

/-- A payload scrambled with the register's value, and the register after it. -/
def scrambled (reg p : Nat) : Nat × Nat := scrBits false 128 p reg 0
/-- A payload descrambled. -/
def descrambled (reg p : Nat) : Nat × Nat := scrBits true 128 p reg 0

/-- The port that holds the stream: a bond has one stream, kept at POD4 (R393, R403). -/
def streamPort (s : State) (k : Nat) : Nat := if isPeer k && s.on R.POD_STAT.BONDED then 4 else k
/-- Logical lanes of the stream. -/
def streamLanes (s : State) (k : Nat) : Nat := if isPeer k && s.on R.POD_STAT.BONDED then 8 else 4
/-- The physical lane that carries a logical lane of the stream at receive, as alignment has found it (R396, R403). -/
def rxLaneOf (s : State) (k l : Nat) : Nat :=
  let all := if streamLanes s k = 8 then podLanes 4 ++ podLanes 5 else podLanes k
  (all.find? (fun n => decide ((ln s n).num % streamLanes s k = l))).getD (24 + 4 * k + l)

/-- BIP-8 continued over 132 bits that follow `at'` bits since the AM (R391; log entry 104). -/
def bipBlock (bip at' w : Nat) : Nat :=
  (List.range 132).foldl (fun b j => if w.testBit (131 - j) then b ^^^ 2 ^ (7 - (at' + j) % 8) else b) bip

/-- The AM or COMMA block of a logical lane (R391). -/
def markerBlock (peer : Bool) (l bip : Nat) : Nat :=
  0xA * 2 ^ 128 + payload ([if peer then 0x4D else 0xC5, l] ++ (List.range 12).map (fun i => patP (i + 2)) ++
    (if peer then [bip, 255 - bip] else [0x0F, 0xF0]))

/-- The logical number that the marker of lane `l` of a stream carries: with BOND = 1, POD5 carries 4 to 7 (R393, R403). -/
def markerLane (s : State) (k l : Nat) : Nat := if k = 5 && s.on R.POD_CFG.BOND then 4 + l else l

/-- After 16,384 blocks per lane each lane sends its marker (R393). -/
def sendMarkers (s : State) (k : Nat) : State :=
  let h := pp s k
  let n := streamLanes s k
  if h.txAt < 16384 * n then s
  else
    let t := (List.range n).foldl (fun t l => laneSends t (24 + 4 * k + l) (markerBlock (isPeer k) (markerLane s k l) (h.txBip.get l))) s
    setPp t k { pp t k with txAt := 0, txBip := [], txSlots := (pp t k).txSlots + n }

/-- A block enters the stream: block j goes to logical lane j mod 4, or mod 8 on a bond, with its payload scrambled (R390, R392,
R393). -/
def podPut (s : State) (k hdr p : Nat) : State :=
  let s := sendMarkers s k
  let h := pp s k
  let l := h.txAt % streamLanes s k
  let x := scrambled (h.txScr.get l) p
  let w := hdr * 2 ^ 128 + x.1
  let bip := bipBlock (h.txBip.get l) (132 * (h.txAt / streamLanes s k)) w
  laneSends
    (setPp s k { h with txAt := h.txAt + 1, txSlots := h.txSlots + 1, txScr := Map.set h.txScr l x.2, txBip := Map.set h.txBip l bip })
    (24 + 4 * k + l) w

/-- The IDLE block (R391). -/
def idleBlock : Nat := 0x1E * 2 ^ 120

/-- So many IDLE blocks enter the stream. -/
def podIdles : Nat → State → Nat → State
  | 0, s, _ => s
  | n + 1, s, k => podIdles n (podPut s k 10 idleBlock) k

/-- Blocks for which a stream has had the time since it began, and that have not been sent: a block lasts 132 bits at 106.25
Gb/s, that is 528/425 ns (R393). -/
def idleDue (s : State) (k : Nat) : Nat := streamLanes s k * (nsSince s (pp s k).txSince * 425 / 528) - (pp s k).txSlots

/-- A block is sent: IDLE blocks have filled the stream up to now (R391, R393). -/
def podSend (s : State) (port hdr p : Nat) : State :=
  let k := streamPort s port
  let s := setPp s port { pp s port with sent := p }
  podPut (podIdles (idleDue s k) s k) k hdr p

/-! Ports coming up (R396, R397, R401, R404). -/

/-- The port enters UP. -/
def podEnterUp (s : State) (k : Nat) : State :=
  let s := (setPodState s k 4).set R.POD_STAT.PORT_UP (setBit (s.get R.POD_STAT.PORT_UP) k)
  let s := (s.raise E.POD_LINK (k + 256)).mark (.linkId k)
  if isPeer k then (s.mark (.podTime k)).mark .bond else modLinkUp s k

/-- A MSG block's payload with its CRC (R391, R667). -/
def msgBlock (type content : Nat) : Nat :=
  let b := (0xB4 * 256 + type) * 2 ^ 96 + content % 2 ^ 96
  b * 65536 + crcOf 16 0x1021 0xFFFF (msbFirst 112 b)

/-- LINK_ID: die tag, BOARD_POS, the sending port, DEVICE_ID (R401). -/
def linkId (s : State) (k : Nat) : Nat :=
  msgBlock 1 (ofBe (beBytes 4 (s.get R.CONV_DIE_TAG.DIE_TAG) ++ [s.get R.POD_CFG.BOARD_POS, k] ++
    beBytes 4 (s.get R.SYS_DEVID.DEVICE_ID) ++ [0, 0]))

/-- LINK_ID is sent. -/
def sendLinkId (s : State) (k : Nat) : State := podSend s k 10 (linkId s k)

/-- POD_DESKEW: the skew of the port's lanes in blocks (R396, R397, R404). -/
def podDeskew (s : State) (k skew : Nat) : State :=
  if podState s k ≠ 2 then s
  else
    let s := (setPp s k { pp s k with rxAt := 0, rxScr := [] }).set (R.POD_PORT.SKEW.ix k) (satTo 8 skew)
    if 64 < skew then s.raise E.POD_SKEW (k + 512)
    else if isPeer k then
      let lat := Config.podLatency k
      let s := (s.set (R.POD_LAT.TX_NS.ix (k - 4)) lat).set (R.POD_LAT.RX_NS.ix (k - 4)) (lat / 65536)
      sendLinkId (setPodState s k 3) k
    else podEnterUp s k

/-- POD_PORT_ENABLE: EN of a Pod port is written (R397). -/
def podPortEnable (s : State) (k : Nat) (en : Bool) : State := lanesSettle (s.setB (R.POD_PORT.EN.ix k) en)

/-- POD_PORT_DOWN: a port leaves ALIGN, DESKEW, ID_WAIT or UP because a lane leaves SYNC (R397). -/
def podLaneLost (s : State) (n : Nat) : State := if isPodLane n then laneUnsync s n else s

/-- POD_LINK_ID_TIMER: every 1 ms an UP peer port sends LINK_ID. -/
def linkIdTimer (s : State) (k : Nat) : State :=
  if isPeer k && podUp s k then
    match s.lap (.linkId k) 1000000 with
    | some s => sendLinkId s k
    | none => s
  else s

/-- The fields of POD_RINFO for a peer port. -/
def rinfoF (k : Nat) : Fld × Fld × Fld :=
  if k = 4 then (R.POD_RINFO.VALID4, R.POD_RINFO.POS4, R.POD_RINFO.RPORT4)
  else (R.POD_RINFO.VALID5, R.POD_RINFO.POS5, R.POD_RINFO.RPORT5)

/-- A valid LINK_ID is received (R397, R411). -/
def takeLinkId (s : State) (k content : Nat) : State :=
  let tag := content / 2 ^ 64 % 2 ^ 32
  let pos := content / 2 ^ 56 % 4
  let port := content / 2 ^ 48 % 256
  let f := rinfoF k
  let new := s.get (R.POD_RTAG.RTAG.ix (k - 4)) != tag || s.get f.2.1 != pos
  let up := podUp s k
  let s := (s.set (R.POD_RTAG.RTAG.ix (k - 4)) tag).setB f.1 true
  let s := (s.set f.2.1 pos).setB f.2.2 (port == 5)
  if podState s k = 3 then podEnterUp s k
  else if up && new then s.raise E.POD_REMOTE k
  else s

/-- POD_MSG: a MSG block arrives on a peer port. `other` takes the types that belong to pairs and boot (R401). -/
def podMsg (other : State → Nat → Nat → Nat → State) (s : State) (k p : Nat) : State :=
  let type := payByte p 1
  let content := p / 65536 % 2 ^ 96
  if !isPeer k || podState s k < 3 then s
  else if payByte p 0 ≠ 0xB4 ∨ crcOf 16 0x1021 0xFFFF (msbFirst 112 (p / 65536)) ≠ p % 65536 then
    s.bump (R.POD_CNT1.MSG_BAD.ix k)
  else if type = 1 then takeLinkId s k content
  else if 0x10 ≤ type ∧ type ≤ 0x2F then other s k type content
  else s.bump (R.POD_CNT1.MSG_BAD.ix k)

/-! Blocks and transfers (R390, R391, R398 to R402). -/

/-- The control types of R391 and the kind of port each belongs to. -/
def ctlTypeOk (peer : Bool) (t : Nat) : Bool :=
  t == 0x1E || t == 0x78 || t == 0x87 || (if peer then t == 0x4D || t == 0x99 || t == 0xB4 || t == 0xD2
    else t == 0xC5 || t == 0xE1)

/-- A block is discarded (R390). -/
def discardBlock (s : State) (k : Nat) : State :=
  setPp (s.bump (R.POD_CNT1.HDR_ERR.ix k)) k { pp s k with rx := (pp s k).rx.map (fun x => { x with bad := true }) }

/-- A data block: data of the transfer, or the tag block that a TAGPOS announced (R398, R402). -/
def dataBlock (s : State) (k p : Nat) : State :=
  match (pp s k).rx with
  | none => s
  | some x =>
    let x := match x.tagPos with
      | some o => { x with tags := x.tags ++ [(o, p)], tagPos := none }
      | none => { x with data := x.data ++ beBytes 16 p }
    setPp s k { pp s k with rx := some x }

/-- A control block. START, END and TAGPOS act here; ACK, TIME and MSG wait for the commands that take them. -/
def ctlBlock (s : State) (k p : Nat) : State :=
  let h := pp s k
  let t := payByte p 0
  if t = 0x78 then
    setPp s k { h with rx := some ⟨payByte p 1, p / 2 ^ 96 % 65536, p / 2 ^ 64 % 2 ^ 32, p % 2 ^ 64, [], [], none, false⟩ }
  else if t = 0x87 then
    setPp s k { h with rx := none, fin := h.rx.map (fun x => (x, p / 2 ^ 96 % 65536, p / 2 ^ 64 % 2 ^ 32)) }
  else if t = 0xD2 then
    setPp s k { h with rx := h.rx.map (fun x => { x with tagPos := some (p / 2 ^ 64 % 2 ^ 32) }) }
  else if t = 0xE1 ∨ t = 0x99 ∨ t = 0xB4 then setPp s k { h with inbox := h.inbox ++ [p] }
  else s

/-- A block of the port's stream by its header and descrambled payload (R390, R391). -/
def podTake (s : State) (k hdr p : Nat) : State :=
  if hdr = 5 then dataBlock s k p
  else if hdr = 10 && ctlTypeOk (isPeer k) (payByte p 0) then ctlBlock s k p
  else discardBlock s k

/-- The 132 bits that the lane of the port's next block delivers when its pins carry `w` (R389, R407). -/
def podHears (s : State) (k w : Nat) : Nat :=
  let n := rxLaneOf s k ((pp s k).rxAt % streamLanes s k)
  let v := laneHears s n w
  if s.on (laneF n R.LN_STAT.POL_INV) then grayInv v else v

/-- A block that is not discarded: a data block, or a control block of a type that its kind of port has (R390, R391). -/
def blockOk (peer : Bool) (hdr p : Nat) : Bool := hdr == 5 || (hdr == 10 && ctlTypeOk peer (payByte p 0))

/-- A marker block, which is not scrambled (R391, R392). -/
def isMarker (peer : Bool) (v : Nat) : Bool :=
  v / 2 ^ 128 % 16 == 10 && (if peer then amGood (v % 2 ^ 128) else (commaHit v).isSome)

/-- Before the port is deskewed, a block of lane `n`, once that is aligned, is checked and goes no further (R390, R397). -/
def earlyBlock (s : State) (k n hdr v p : Nat) : State :=
  if laneAlign s n = 4 ∧ !isMarker (isPeer k) v ∧ !blockOk (isPeer k) hdr p then discardBlock s k else s

/-- The bad headers of a store lane are counted over 1,024 blocks (R394). -/
def storeHeader (s : State) (k n hdr : Nat) : State := if isPeer k || laneAlign s n != 4 then s else lockStep s n hdr

/-- POD_BLOCK: the next block of the port as its pins carry it, lane by lane in the order of the deal. Where the markers fall,
it is one of them and lies outside the stream; else its payload is descrambled and the block is taken (R390 to R394, R407). -/
def podBlock (s : State) (port w : Nat) : State :=
  let k := streamPort s port
  if podState s k = 0 then s
  else
    let h := pp s k
    let n := streamLanes s k
    let v := podHears s k w
    let hdr := v / 2 ^ 128 % 16
    let l := h.rxAt % n
    let lane := rxLaneOf s k l
    let x := descrambled (h.rxScr.get l) (v % 2 ^ 128)
    let s := laneRepeats s lane v
    let next := setPp s k { h with rxAt := h.rxAt + 1, rxScr := Map.set h.rxScr l x.2 }
    let s :=
      if podState s k < 3 then earlyBlock next k lane hdr v x.1
      else if 16384 * n ≤ h.rxAt then
        let s := setPp s k { h with rxAt := if h.rxAt + 1 = 16385 * n then 0 else h.rxAt + 1 }
        if blockOk (isPeer k) hdr (v % 2 ^ 128) then s else discardBlock s k
      else podTake next k hdr x.1
    storeHeader s k lane hdr

/-- A transfer passes: LENGTH is within the limit and met, the CRC holds (R398). -/
def transferGood (x : PodRx) (tag crc : Nat) : Bool :=
  decide (x.len ≤ 65536) && x.data.length == 16 * x.len && !x.bad && x.tag == tag && crc32 x.data == crc

/-- A store port's transfer fails once more: it is resent, and after RETRY_MAX failures in a row the port goes DOWN
(R399, R400). -/
def podRetry (s : State) (k tag : Nat) : State :=
  let n := (pp s k).fails.get tag + 1
  if atLeast1 (s.get R.POD_CFG.RETRY_MAX) ≤ n then podDown (s.raise E.POD_RETRY_FAIL k) k
  else
    let again := (md s k).queue.map (fun t => if t.1 = tag then (t.1, t.2.1, s.time.aon) else t)
    let s := setMd (s.bump (R.POD_CNT0.RETRIES.ix k)) k { md s k with queue := again }
    setPp s k { pp s k with fails := Map.set (pp s k).fails tag n }

/-- The ACK or NAK block of a transfer (R391). -/
def ackBlock (nak : Bool) (tag : Nat) : Nat := 0xE1 * 2 ^ 120 + b2n nak * 2 ^ 112 + tag % 65536 * 2 ^ 96

/-- The transfers that have been sent and wait for their answer: the first 64 (R399). -/
def inFlight (s : State) (k : Nat) : List (Nat × Nat × Nat) := (md s k).queue.take 64

/-- POD_TRANSFER_RECEIVE: the transfer that is complete is checked, on a store port answered, and delivered by `deliver`, a
good one or a STREAM with a CRC error; a READ_REQ whose READ_DATA fails is requested again (R398, R399, R401). -/
def podTransfer (deliver : State → Nat → PodRx → State) (s : State) (k : Nat) : State :=
  match (pp s k).fin with
  | none => s
  | some (x, tag, crc) =>
    let s := setPp s k { pp s k with fin := none }
    let good := transferGood x tag crc
    let s := if isPeer k then s else podSend s k 10 (ackBlock (!good) x.tag)
    if good then deliver s k x
    else
      let s := s.bump (R.POD_CNT0.CRC_ERR.ix k)
      if isPeer k then (if x.kind = 0x10 then deliver s k x else s)
      else if x.kind = 3 then podRetry s k x.tag
      else s

/-- The first received block of a control type leaves the inbox of a port. -/
def inboxTake (s : State) (k t : Nat) : Option (Nat × State) :=
  match (pp s k).inbox.find? (fun p => payByte p 0 == t) with
  | some p => some (p, setPp s k { pp s k with inbox := (pp s k).inbox.erase p })
  | none => none

/-- An answer to a transfer of a store port (R399). -/
def podAnswer (s : State) (k tag : Nat) (nak : Bool) : State :=
  if isPeer k || !podUp s k then s
  else if nak then podRetry s k tag
  else
    let s := setPp s k { pp s k with fails := Map.set (pp s k).fails tag 0 }
    overloadExit (setMd s k { md s k with queue := (md s k).queue.filter (fun t => t.1 ≠ tag) }) k

/-- POD_ACK: the next ACK block that the port has received is taken: byte 1 tells ACK from NAK, bytes 2 and 3 are the TAG (R391,
R399). -/
def podAck (s : State) (k : Nat) : State :=
  match inboxTake s k 0xE1 with
  | some (p, s) => podAnswer s k (p / 2 ^ 96 % 65536) (payByte p 1 != 0)
  | none => s

/-- POD_RETRY_TIMEOUT: no answer within 10 µs, for a transfer in flight since it was sent (R399). A TAG that names no write is
that of a read, whose sending no register shows. -/
def podRetryTimeout (s : State) (k tag : Nat) : State :=
  if isPeer k || !podUp s k || (inFlight s k).any (fun t => t.1 == tag && decide (nsSince s t.2.2 < 10000)) then s
  else podRetry s k tag

/-- A transfer leaves: START, its data blocks, with a TAGPOS block and the tag block before the data block that holds the byte
offset of each tag, END (R391, R398, R402). -/
def sendTransfer (s : State) (k kind tag addr : Nat) (data : List Nat) (tags : List (Nat × Nat)) : State :=
  let n := data.length / 16
  let s := podSend s k 10 ((0x78 * 256 + kind) * 2 ^ 112 + tag % 65536 * 2 ^ 96 + n * 2 ^ 64 + addr % 2 ^ 64)
  let sendTag := fun (s : State) (t : Nat × Nat) => podSend (podSend s k 10 (0xD2 * 2 ^ 120 + t.1 % 2 ^ 32 * 2 ^ 64)) k 5 t.2
  let s := (List.range n).foldl (fun s i =>
    podSend ((tags.filter (fun t => t.1 / 16 == i)).foldl sendTag s) k 5 (ofBe ((data.drop (16 * i)).take 16))) s
  let s := (tags.filter (fun t => decide (n ≤ t.1 / 16))).foldl sendTag s
  podSend s k 10 (0x87 * 2 ^ 120 + tag % 65536 * 2 ^ 96 + crc32 data * 2 ^ 64)

/-! Bond (R403). -/

/-- The remote's POD4 lanes carry 0 to 3 and its POD5 lanes 4 to 7. -/
def bondNumbers (s : State) (k : Nat) : Bool :=
  (podLanes k).all (fun n => (ln s n).num / 4 == s.get (rinfoF k).2.2)

/-- The conditions of R403; `skew` is that of the markers of all eight lanes, in blocks. -/
def bondOk (s : State) (skew : Nat) : Bool :=
  s.on R.POD_CFG.BOND && podUp s 4 && podUp s 5 &&
  s.get (R.POD_RTAG.RTAG.ix 0) == s.get (R.POD_RTAG.RTAG.ix 1) &&
  s.get R.POD_RINFO.RPORT4 != s.get R.POD_RINFO.RPORT5 && bondNumbers s 4 && bondNumbers s 5 && decide (skew ≤ 64)

/-- POD_BOND_FORM: the eight lanes carry one stream from now on (R393, R403). -/
def bondForm (s : State) (skew : Nat) : State :=
  if s.on R.POD_STAT.BONDED || !bondOk s skew then s
  else streamRestart ((s.setB R.POD_STAT.BONDED true).raise E.POD_BOND 1) 4

/-- POD_BOND_TIMEOUT: 10 ms after both ports are UP. -/
def bondTimeout (s : State) : State :=
  if s.on R.POD_CFG.BOND && podUp s 4 && podUp s 5 && !s.on R.POD_STAT.BONDED && decide (10000000 ≤ s.age .bond) then s.raise E.POD_BOND 2 else s

/-! Time transport (R405). -/

/-- A 40-bit timestamp, `sub` units of 1/256 ns into the AON cycle. -/
def time40 (s : State) (sub : Nat) : Nat :=
  let d := s.get R.POD_CFG.TIME_DOM
  let v := if domValid s d then domCount s d * 256 / timeUnit else s.time.aon * 256
  (v + sub) % 2 ^ 40

/-- POD_TIME_SEND: a TIME block leaves. -/
def timeSend (s : State) (k sub : Nat) : State :=
  if isPeer k && podUp s k && s.get R.POD_CFG.TIME_PERIOD != 0 then
    match s.lap (.podTime k) (1000 * s.get R.POD_CFG.TIME_PERIOD) with
    | some s => podSend s k 10 (0x99 * 2 ^ 120 + time40 s sub * 2 ^ 80 + (pp s k).echoTx * 2 ^ 40 + (pp s k).echoRx)
    | none => s
  else s

/-- A TIME block has arrived with T_TX, ECHO_TX and ECHO_RX. -/
def timeTake (s : State) (k tTx echoTx echoRx sub : Nat) : State :=
  if !isPeer k || !podUp s k then s
  else
    let t4 := time40 s sub
    let diff := fun (a b : Nat) => toSigned 40 (a + 2 ^ 40 - b % 2 ^ 40)
    let delay := diff t4 echoTx - diff tTx echoRx
    let offset := diff echoRx echoTx - diff t4 tTx
    let ps := divRoundI (delay * 1000) 512
    let s := setPp s k { pp s k with echoTx := tTx % 2 ^ 40, echoRx := t4 }
    let f := R.POD_DELAY.DELAY_PS.ix (k - 4)
    let s := if 0 ≤ ps ∧ ps < 2 ^ 31 then s.set f ps.toNat else s.setFree f
    (s.set (R.POD_OFF.OFF_NS.ix (k - 4)) (ofSigned 32 (divRoundI offset 512))).setB (R.POD_DELAY.VALID.ix (k - 4)) true

/-- POD_TIME_RECEIVE: the next TIME block that the port has received is taken (R391, R405). -/
def timeReceive (s : State) (k sub : Nat) : State :=
  match inboxTake s k 0x99 with
  | some (p, s) => timeTake s k (p / 2 ^ 80 % 2 ^ 40) (p / 2 ^ 40 % 2 ^ 40) (p % 2 ^ 40) sub
  | none => s

end Sys2Proof.Machine
end

