-- ==== Sys2Proof/Machine/Layout.lean ====
section
/-! DEFINITION. The address map: the fields of each block's window (R12 to R17 and the register tables of every chapter), the
windows beside them, the field of an array that an address names. -/

namespace Sys2Proof.Machine

open Sys2Proof

/-- The header fields of a block (R13, R15, R16); BLK_ID and COMMIT_PENDING are computed. -/
def rowsHdr (b : Blk) : List Fld :=
  [runF b, softResetF b, runningF b, resettingF b, cfgDiscardF b, commitReqF b, cpSelF b]

/-- The fields of a block beside its header. -/
def rowsOwn : Blk → List Fld
  | .sys => R.rowsSYS
  | .clk => R.rowsCLK
  | .time => R.rowsTIME
  | .sched => R.rowsSCHED
  | .pwr => R.rowsPWR
  | .madc => R.rowsMADC
  | .event => R.rowsEVENT
  | .pair => R.rowsPAIR
  | .perf => R.rowsPERF
  | .ledger => R.rowsLEDGER
  | .tx c => R.rowsTX.map (·.on c)
  | .conv c => R.rowsCONV.map (·.on c)
  | .rxdsp c => R.rowsRXDSP.map (·.on c)
  | .dawn c => R.rowsDAWN.map (·.on c)
  | .fec c => R.rowsFEC.map (·.on c)
  | .framer c => R.rowsFRAMER.map (·.on c)
  | .cipher c => R.rowsCIPHER.map (·.on c)
  | .client => R.rowsCLIENT
  | .flow => R.rowsFLOW
  | .store => R.rowsSTORE
  | .lanes => R.rowsLANES
  | .pod => R.rowsPOD
  | .hostif => R.rowsHOSTIF

/-- Every field of a block's window. -/
def rowsOf (b : Blk) : List Fld := rowsHdr b ++ rowsOwn b

/-- The element of a register array, or the register, at an address. -/
def Fld.elem (f : Fld) (addr : Nat) : Option Fld :=
  if addr < f.addr then none
  else if f.stride = 0 then (if addr = f.addr then some f else none)
  else if (addr - f.addr) % f.stride = 0 ∧ (addr - f.addr) / f.stride < f.count then some { f with addr := addr }
  else none

/-- The fields of the register at an address. -/
def fieldsAt (b : Blk) (addr : Nat) : List Fld := (rowsOf b).filterMap (·.elem addr)

/-- A result wider than 32 bits (R431). -/
def Fld.wide (f : Fld) : Bool := decide (32 < f.lsb + f.width)

/-- Windows that are no registers, by what a read and a write do. -/
inductive Win where
  | ro               -- reads as held, writes ignored
  | rw               -- plain words
  | staged           -- words with shadow copies (R9)
  | txLut (w : Nat)  -- lookup table banks (R59): word of the window
  | convImg          -- calibration image (R109)
  | rxSeed (w : Nat) -- carrier seed (R149)
  | dawnSeed (o : Nat) -- the selected Seed-table entry (R197)
  | wo               -- wrapped key (R330)
  | woVoted          -- KEK clear (R313)
  | h2s              -- mailbox window, host writes (R616)
  | s2h              -- mailbox window, voted writes (R616)
  | voted            -- KEY_HASH: voted writes (R636)
  | ledger (w : Nat) -- record window (R577)
  deriving DecidableEq, Repr

/-- `lo ≤ o < lo + n`. -/
def inWin (o lo n : Nat) : Bool := decide (lo ≤ o ∧ o < lo + n)

/-- The window of a block at an offset. -/
def winAt (b : Blk) (o : Nat) : Option Win :=
  match b with
  | .tx _ => if inWin o 0x1000 0x2000 then some (.txLut ((o - 0x1000) / 4)) else none
  | .conv _ => if inWin o 0x8000 0xC90 then some .convImg else none
  | .rxdsp _ =>
    if inWin o 0x4000 0x84C then some .ro
    else if inWin o 0x5000 0x84C then some (.rxSeed ((o - 0x5000) / 4)) else none
  | .dawn _ => if inWin o 0x8000 0x91C then some (.dawnSeed (o - 0x8000)) else none
  | .framer _ =>
    if inWin o 0x100 0x40 then some .staged
    else if inWin o 0x140 0x40 then some .rw
    else if inWin o 0x180 0x40 || inWin o 0x200 0x190 then some .ro else none
  | .cipher _ =>
    if inWin o 0x100 0x30 then some .wo
    else if inWin o 0x140 0x20 then some .woVoted
    else if inWin o 0x160 0x28 then some .rw else none
  | .client =>
    if inWin o 0x8000 0x190 || inWin o 0x8200 0x190 || inWin o 0x8400 0x190 || inWin o 0x8600 0x190 then some .staged
    else none
  | .pair => if inWin o 0x4000 0x4000 then some .rw else if inWin o 0x8000 0x4000 then some .ro else none
  | .perf => if inWin o 0x800 0x400 then some .ro else none
  | .ledger =>
    if inWin o 0x100 0x80 then some (.ledger ((o - 0x100) / 4)) else if inWin o 0x180 0x20 then some .ro else none
  | .hostif =>
    if inWin o 0x1000 0x1000 then some .h2s
    else if inWin o 0x2000 0x1000 then some .s2h
    else if inWin o 0x3000 0x100 then some .rw
    else if inWin o 0x3100 0x20 then some .voted
    else if inWin o 0x4000 0x200 then some .ro else none
  | _ => none

/-- The register space (R24). -/
def regSpace (addr : Nat) : Bool := decide (0x40000000 ≤ addr ∧ addr < 0x40800000)

end Sys2Proof.Machine
end

