-- ==== Sys2Proof/Machine/Client.lean ====
section
/-! DEFINITION. Client ports: start and stop, links, frames in and out, PTP timestamps, slot maps and their transfer, IMP
delineation, replacement signals, port seconds (R332 to R352, R567). -/

namespace Sys2Proof.Machine

open Sys2Proof

/-! Slots (R335 to R340). -/

/-- A carrier whose own slot maps serve client traffic: not in REGEN, DIAG and ZR400, nor Carrier B of a DUAL group (R340). -/
def mapsServe (s : State) (c : Carrier) : Bool :=
  s.mode c != mREGEN && s.mode c != mDIAG && s.mode c != mZR400 && mapCarrier s c == c
/-- The carrier on which a port's receive slots lie (R338, R340). -/
def rxCarrier (s : State) (p : Nat) : Option Carrier :=
  [Carrier.A, .B].find? (fun c => mapsServe s c && !(mapSlots s (rxMapBase c) (0x80 + p)).isEmpty)
/-- The carrier that carries a port in ZR400 (R340). -/
def zrCarrier (s : State) (p : Nat) : Option Carrier :=
  [Carrier.A, .B].find? (fun c => s.mode c == mZR400 && zrServed s c &&
    s.get (match c with | .A => R.CL_ZR.ZR_PORT_A | .B => R.CL_ZR.ZR_PORT_B) == p)

/-! Replacement (R342). -/

/-- SSF of the carrier of a port, or of the group in DUAL (R283, R342). -/
def portSsf (s : State) (c : Carrier) : Bool :=
  if inDual s then excluded s .A && excluded s .B else s.onC c R.FRM_STAT.SSF

/-- A cause of replacement holds. -/
def replCause (s : State) (p : Nat) : Bool :=
  portRunning s p &&
  (match zrCarrier s p with
   | some c => s.onC c R.FRM_STAT.SSF
   | none =>
     match rxCarrier s p with
     | some c => portSsf s c || !(s.port p).sync || s.on (R.CL_PORT_STAT.CSF_IN.ix p)
     | none => false)

/-- What a port's transmit lanes carry (R333, R342, R349). -/
def portSignal (s : State) (p : Nat) : PortSignal :=
  let r := s.get (R.CL_PORT_CFG.REPL.ix p)
  if !portRunning s p then .silent
  else if !s.on (R.CL_PORT_STAT.REPL_ACT.ix p) then .frames
  else if r = 1 then .idle else if r = 2 then .silent else .fault

/-- The second of a port so far (R567) and the signal on its transmit lanes (R342). -/
def portWatch (s : State) (p : Nat) : State :=
  let h := s.port p
  let run := portRunning s p
  let bad := !run || s.on (R.CL_PORT_STAT.REPL_ACT.ix p) || !s.on (R.CL_PORT_STAT.LINK_UP.ix p)
  s.setPort p { h with
    ses := h.ses || bad, stopped := h.stopped || !run, ran := h.ran || run, signal := portSignal s p }

/-- REPL_ACT follows its causes: an entry ends the frame in flight with the error control character, with which the model cuts off
whatever the port sends (R342). -/
def replRefresh (s : State) (p : Nat) : State :=
  let on := replCause s p
  let s :=
    if s.on (R.CL_PORT_STAT.REPL_ACT.ix p) = on then s
    else
      let s := s.setB (R.CL_PORT_STAT.REPL_ACT.ix p) on
      let s := s.setPort p { s.port p with cut := on && portRunning s p }
      if portRunning s p then s.raise E.CL_REPL (p + 256 * b2n on) else s
  portWatch s p

/-- Likewise of every port. -/
def replAll (s : State) : State := (List.range 24).foldl replRefresh s

/-! Ports (R334, R335). -/

/-- A port whose frames end: what waits is gone but for the unit on its way, and nothing is being received (R334). -/
def PortH.fresh (h : PortH) : PortH :=
  { h with sync := false, good := 0, bad := 0, feed := { h.feed with queue := [] }, rxIn := [], skip := 0, unit := none, zrIn := [] }

/-- The lanes of a port. -/
def portLanes (s : State) (p : Nat) : List Nat := (List.range ((portL s p).getD 0)).map (fun i => p + i)

/-- The check of R334 that fails first; 0 when all pass. -/
def portCode (s : State) (p : Nat) : Nat :=
  let mtu := s.get (R.CL_PORT_CFG.MTU.ix p)
  match portL s p with
  | none => 1
  | some l =>
    if p % l ≠ 0 then 2
    else if (portLanes s p).any (fun n => (laneOwner s n).isSome) then 3
    else if (portLanes s p).any (fun n => (ln s n).st == 0 || (ln s n).powering) then 4
    else if mtu < 64 || 16000 < mtu then 5
    else 0

/-- CL_PORT_ENABLE: EN is set (R334). -/
def portEnable (s : State) (p : Nat) : State :=
  let s := s.setB (R.CL_PORT_CFG.EN.ix p) true
  if portRunning s p then s
  else
    let code := portCode s p
    if code ≠ 0 then
      ((s.setB (R.CL_PORT_STAT.CFG_ERR.ix p) true).set (R.CL_PORT_STAT.CFG_CODE.ix p) code).raise E.CL_CFG_ERR
        (p + 256 * code)
    else
      let s := (s.setB (R.CL_PORT_STAT.RUNNING.ix p) true).setB (R.CL_PORT_STAT.CFG_ERR.ix p) false
      let s := s.setPort p (s.port p).fresh
      replRefresh (lanesFollow s) p

/-- A port has stopped. -/
def portStop (s : State) (p : Nat) : State :=
  if !portRunning s p then s
  else
    let s := (setLink s p false false).setB (R.CL_PORT_STAT.RF_RX.ix p) false
    let s := (s.setB (R.CL_PORT_STAT.RUNNING.ix p) false).setB (R.CL_PORT_STAT.CSF_IN.ix p) false
    let s := s.setPort p (s.port p).fresh
    replRefresh (rplPortStopped (lanesFollow s) p) p

/-- CL_PORT_DISABLE: EN is cleared (R334). -/
def portDisable (s : State) (p : Nat) : State := portStop (s.setB (R.CL_PORT_CFG.EN.ix p) false) p

/-- The polarity of the lanes on which the PCS has locked to the alignment markers stays fixed (R389). -/
def markersLocked (s : State) (p locks : Nat) (aligned : Bool) : State :=
  (portLanes s p).foldl (fun (s : State) n =>
    if aligned || bitOf locks (n - p) then setLn s n { ln s n with polFixed := true } else s) s

/-- CL_LINK_CHANGE: PCS alignment, the lanes of the port with lock to their alignment markers as a mask, local fault and
remote fault as received (R335, R389). -/
def linkChange (s : State) (p : Nat) (aligned : Bool) (locks : Nat) (lf rf : Bool) : State :=
  if !portRunning s p then s
  else
    let s := markersLocked s p locks aligned
    let aligned := aligned && (portLanes s p).all (fun n => (ln s n).st == 4)
    portWatch ((setLink s p aligned lf).setB (R.CL_PORT_STAT.RF_RX.ix p) rf) p

/-! Timestamps (R344). -/

/-- The 32-bit ns count of a port's domain, `sub` ns into the AON cycle. -/
def portTime (s : State) (p sub : Nat) : Nat := (domNow s (s.get (R.CL_PORT_CFG.PTP_DOM.ix p)) + sub) % 2 ^ 32

/-- CL_TS_INFO and CL_TS_NS show the head of the FIFO. -/
def tsShow (s : State) : State :=
  let e := (s.client.ts.head?).getD (0, 0, 0, 0)
  let s := (s.setB R.CL_TS_INFO.VALID (!s.client.ts.isEmpty)).set R.CL_TS_INFO.PORT e.1
  let s := (s.set R.CL_TS_INFO.DOMAIN e.2.1).set R.CL_TS_INFO.SEQ_ID e.2.2.1
  s.set R.CL_TS_NS.NS e.2.2.2

/-- An egress timestamp for the FIFO; with 64 entries it is lost. -/
def tsPush (s : State) (p seq ns : Nat) : State :=
  if 64 ≤ s.client.ts.length then (s.setB R.CL_TS_INFO.TS_LOST true).raise E.CL_TS_OVF p
  else
    let e := (p, s.get (R.CL_PORT_CFG.PTP_DOM.ix p), seq, ns)
    tsShow { s with client := { s.client with ts := s.client.ts ++ [e] } }

/-- CL_TS_POP: the read of CL_TS_NS removes the head (R348). -/
def tsPop (s : State) : State := tsShow { s with client := { s.client with ts := s.client.ts.drop 1 } }

/-- A frame without FCS, with a good one behind it. -/
def withFcs (f : List Nat) : List Nat := f ++ fcsOf f

/-! Frames (R333, R341, R344). -/

/-- Every lane of a port is in the loopback `m`: 1 near end, 2 far end (R407). -/
def portLoops (s : State) (p m : Nat) : Bool := (portLanes s p).all (fun n => laneLoop s n == m)

/-- The ingress buffer in bytes. -/
def ingressBuffer : Nat := 131072

/-- A good frame at ingress: stamped, tapped, buffered or dropped. -/
def ingressGood (s : State) (p sub : Nat) (f : List Nat) : State :=
  let body := dropFcs f
  let body := if s.on (R.CL_PORT_CFG.PTP_EN.ix p) then ptpIngress body (portTime s p sub) else body
  let s := tapFrame s false p sub body
  let h := s.port p
  if ingressBuffer < h.feed.bytes + f.length then s.bump (R.CL_ING_DROP.ING_DROP.ix p)
  else
    let s := s.setPort p { h with feed := { h.feed with queue := h.feed.queue ++ [withFcs body] } }
    (s.addWrap (R.RX_FRAMES.RX_FRAMES.ix p) 1).addWrap (R.RX_BYTES.RX_BYTES.ix p) f.length

/-- CL_INGRESS_FRAME: a frame with its FCS, `sub` ns into the AON cycle; before it the RS decoder met `corr` corrected and
`uncorr` uncorrectable codewords (R333, R344, R350). In a near-end loopback the port hears what it sent last, in a far-end one
its lanes send what they hear (R407). -/
def ingressFrame (s : State) (p : Nat) (f : List Nat) (sub corr uncorr : Nat) : State :=
  if !portRunning s p || !s.on (R.CL_PORT_STAT.LINK_UP.ix p) then s
  else
    let f := if portLoops s p 1 then (s.port p).outFrame else f
    let s := s.setPort p { s.port p with outFrame := if portLoops s p 2 then f else (s.port p).outFrame }
    let s := (s.addSat (R.CL_RSFEC.RS_CORR.ix p) corr).portErr R.CL_RSFEC.RS_UNCORR p uncorr
    let long := decide (f.length < 64 ∨ s.get (R.CL_PORT_CFG.MTU.ix p) < f.length)
    let bad := !fcsGood f
    let s := if bad then s.portErr R.CL_RX_ERR.FCS_ERR p 1 else s
    let s := if long then s.bump (R.CL_RX_ERR.LEN_ERR.ix p) else s
    if bad || long then s
    else if beAt f 12 2 = 0x8808 then s.bump (R.CL_MISC.CTRL_RX.ix p)
    else ingressGood s p sub f

/-- A frame with its FCS leaves a port, `sub` ns into the AON cycle, with its PTP correction or timestamp (R333, R344). One
that ends with an error code is not one sent complete (R341, R350). -/
def egressSend (s : State) (p : Nat) (f : List Nat) (sub : Nat) (bad : Bool) : State :=
  let body := dropFcs f
  let ts := portTime s p sub
  let event := s.on (R.CL_PORT_CFG.PTP_EN.ix p) && (ptpOff body).isSome
  let one := s.on (R.CL_PORT_CFG.PTP_1STEP.ix p)
  let s := if event && !one then tsPush s p (beAt body ((ptpOff body).getD 0 + 30) 2) ts else s
  let out := if event && one then withFcs (ptpOneStep body ts) else f
  let s := s.setPort p { s.port p with outFrame := if portLoops s p 2 then (s.port p).outFrame else out, cut := bad }
  if bad then s else (s.addWrap (R.TX_FRAMES.TX_FRAMES.ix p) 1).addWrap (R.TX_BYTES.TX_BYTES.ix p) f.length

/-- A frame from a port's slots, with its FCS: in replacement it does not go out; taps observe it (R333, R342, R354). -/
def egressGood (s : State) (p : Nat) (f : List Nat) (sub : Nat) (bad : Bool) : State :=
  if s.on (R.CL_PORT_STAT.REPL_ACT.ix p) then s
  else egressSend (if fcsGood f then tapFrame s true p sub (dropFcs f) else s) p f sub bad

/-- A frame unit has come whole. One that starts in a failed segment is dropped, one in flight when it comes to one is ended
with an error code; both count in SEG_DROP (R310, R311, R343). -/
def unitOut (s : State) (p : Nat) (u : RxUnit) (bytes : List (Nat × Bool)) (sub : Nat) : State :=
  if u.bad then s.portErr R.CL_EG_LOSS.SEG_DROP p 1
  else if bytes.any (·.2) then
    let s := s.portErr R.CL_EG_LOSS.SEG_DROP p 1
    if s.on (R.CL_PORT_STAT.REPL_ACT.ix p) then s
    else s.setPort p { s.port p with outFrame := (bytes.takeWhile (fun b => !b.2)).map (·.1), cut := true }
  else egressGood s p (bytes.map (·.1)) sub u.err

/-- CL_EGRESS_FRAME: the frame that a port is receiving from its slots, once it has come whole, `sub` ns into the AON cycle;
in ZR400 the next frame that the agreement's mapping gives (R333, R340, R341). -/
def egressFrame (s : State) (p sub : Nat) : State :=
  let h := s.port p
  if !portRunning s p then s
  else match h.zrIn, h.unit with
    | f :: fs, _ => egressGood (s.setPort p { h with zrIn := fs }) p f sub false
    | [], some u =>
      let n := u.len + impPad u.len
      if h.rxIn.length < n then s
      else unitOut (s.setPort p { h with rxIn := h.rxIn.drop n, unit := none }) p u (h.rxIn.take u.len) sub
    | [], none => s

/-- A header where the receiver of a port expects one, `bad` where a byte of it came in a failed segment: sync after three
good ones in a row at the spacings that their LENGTH gives, lost after three bad ones; a good one begins its unit (R341). -/
def impTake (s : State) (p hdr : Nat) (bad : Bool) : State :=
  let h := s.port p
  let len := hdr / 65536 % 65536
  if impGood hdr then
    let g := min 3 (h.good + 1)
    let on := h.sync || decide (3 ≤ g)
    let s := s.setPort p { h with
      good := g, bad := 0, sync := on, skip := if on then 0 else len + impPad len
      unit := if on && len != 0 then some ⟨len, bitOf hdr 8, bad⟩ else none }
    if on && len == 0 then s.setB (R.CL_PORT_STAT.CSF_IN.ix p) (bitOf hdr 9) else s
  else
    let b := min 3 (h.bad + 1)
    (s.setPort p { h with good := 0, bad := b, sync := h.sync && decide (b < 3) }).bump (R.CL_MISC.IMP_HEC.ix p)

/-- IMP_HEADER: the receiver of a port takes the next four bytes at which it expects a header, behind the unit before; after a
bad one it looks 4 bytes on (R341, R342). -/
def impHeader (s : State) (p : Nat) : State :=
  let h := s.port p
  let l := h.rxIn.drop h.skip
  if !portRunning s p || (rxCarrier s p).isNone || h.unit.isSome || decide (l.length < 4) then s
  else
    let s := s.setPort p { h with rxIn := l.drop 4, skip := 0 }
    replRefresh (impTake s p (ofBe ((l.take 4).map (·.1))) ((l.take 4).any (·.2))) p

/-- In ZR400 the frames that a released data block holds go to the port of the carrier (R340). -/
def zrGive (s : State) (c : Carrier) : State :=
  let x := Config.zrDemap (s.fh c).zrDemap (s.fh c).outData
  let s := s.setFh c { s.fh c with zrDemap := x.2 }
  let p := s.get (match c with | .A => R.CL_ZR.ZR_PORT_A | .B => R.CL_ZR.ZR_PORT_B)
  if zrServed s c then s.setPort p { s.port p with zrIn := (s.port p).zrIn ++ x.1 } else s

/-- The owners of the frame units that fell in OTUCn frames of a carrier not yet sent whole; with none on its way, of those
that have begun (R343; log entry 117). -/
def lostUnits (s : State) (c : Carrier) : List Nat :=
  match (s.mh c).txQ with
  | [] => busyOwners s (txMapNow s c)
  | f :: q => f.carried ++ f.begun ++ q.flatMap (·.begun)

/-- A Dawn burst of a carrier was aborted: the ports' frames that fell in OTUCn frames never sent are lost, counted and gone (R69,
R343). -/
def burstLoss (s : State) (c : Carrier) : State :=
  let l := lostUnits s c
  let s := l.foldl (fun (s : State) (o : Nat) =>
    let s := setFeed s o { feedOf s o with rest := [] }
    if o < 24 then s.portErr R.CL_EG_LOSS.BURST_LOSS o 1 else s) s
  s.setMh c { s.mh c with txQ := [] }

/-- The frames lost where a burst of a carrier that was in progress in `s0` has ended at once (R69, R343). -/
def abortLoss (s0 s : State) (c : Carrier) : State :=
  if s0.onC c R.TX_STAT.BURST && !s.onC c R.TX_STAT.BURST then burstLoss s c else s

/-! Replay channels (R344, R370). -/

/-- A packet of a replay channel goes out: through the egress of its port, or to the slots of the channel. -/
def replaySend (sub : Nat) (s : State) (ch : Nat) (f : List Nat) : State :=
  if rplToPort s ch then egressSend s (rplPort s ch) f sub false
  else setJb s ch { jb s ch with feed := { (jb s ch).feed with queue := (jb s ch).feed.queue ++ [f] } }

/-! The transfer of the slot maps (R338). -/

/-- Byte `i` of a shadow map. -/
def shadowByte (s : State) (base i : Nat) : Nat := s.staged (wordAt (base + 4 * (i / 4))) / 256 ^ (i % 4) % 256
/-- Assigned slots of a shadow map as (slot, byte). -/
def assigned (rd : Nat → Nat) : List (Nat × Nat) :=
  ((List.range 400).map (fun i => (i, rd i))).filter (fun e => occ e.2)

/-- An owner that R338 code 4 refuses. -/
def ownerBad (s : State) (rx : Bool) (b : Nat) : Bool :=
  let o := b % 128
  if o < 24 then !portRunning s o else rx || !decide (0x20 ≤ o ∧ o ≤ 0x2F)

/-- A slot that its carrier does not offer (R338, code 2). -/
def slotBad (s : State) (c : Carrier) (i : Nat) : Bool :=
  let m := s.mode c
  decide (20 * otuN s c ≤ i) || m == mREGEN || m == mZR400 || m == mDIAG || (c == .B && inDual s)

/-- The check of R338 that fails first on the four shadow maps; 0 when all pass. -/
def mapCode (s : State) : Nat :=
  let rd := fun (base : Nat) => assigned (shadowByte s base)
  let at_ := rd (txMapBase .A)
  let ar := rd (rxMapBase .A)
  let bt := rd (txMapBase .B)
  let br := rd (rxMapBase .B)
  let count := fun (a b : List (Nat × Nat)) => a.length + (if inDual s then 0 else b.length)
  let both := fun (a b : List (Nat × Nat)) =>
    (List.range 24).any (fun p => a.any (fun e => e.2 == 0x80 + p) && b.any (fun e => e.2 == 0x80 + p))
  if 766 < count at_ bt || 766 < count ar br then 1
  else if (at_ ++ ar).any (fun e => slotBad s .A e.1) || (bt ++ br).any (fun e => slotBad s .B e.1) then 2
  else if both at_ bt || both ar br then 3
  else if (at_ ++ bt).any (fun e => ownerBad s false e.2) || (ar ++ br).any (fun e => ownerBad s true e.2) then 4
  else if (s.mode .A == mBEXA && decide (153 < at_.length ∨ 153 < ar.length)) ||
      (s.mode .B == mBEXA && decide (153 < bt.length ∨ 153 < br.length)) then 5
  else 0

/-- SLOTS_TOTAL and MAP_ACTIVE of the active maps (R347, R348). -/
def mapTotals (s : State) : State :=
  let n := fun (base : Nat) => (assigned (windowByte s base)).length
  let count := fun (a b : Nat) => a + (if inDual s then 0 else b)
  let t := count (n (txMapBase .A)) (n (txMapBase .B))
  let r := count (n (rxMapBase .A)) (n (rxMapBase .B))
  (s.set R.CL_MAP_STAT.SLOTS_TOTAL (max t r)).setB R.CLIENT_STAT.MAP_ACTIVE
    (decide (0 < n (txMapBase .A) + n (rxMapBase .A) + n (txMapBase .B) + n (rxMapBase .B)))

/-- The commit point of CLIENT (R338). -/
def clientCommit (s : State) : State :=
  let code := mapCode s
  let s := s.set R.CL_MAP_STAT.REJ_CODE code
  if code ≠ 0 then s.raise E.CL_MAP_REJ code
  else replAll (frmRefresh (frmRefresh (mapTotals (s.transfer .client)) .A) .B)

/-! Port seconds (R567). -/

/-- A carrier's record of the second that has just ended carries NO_SIGNAL. -/
def carrierNoSignal (s : State) (c : Carrier) : Bool := ((s.mh c).secs.getLast?).any (·.noSignal)

/-- The second that ends is classified for a port that ran in it. -/
def portSecond (label : Nat) (aon : Bool) (s : State) (p : Nat) : State :=
  let h := s.port p
  let fresh := fun (h : PortH) => { h with ses := false, err := false, stopped := false, ran := false }
  if !h.ran then portWatch (s.setPort p (fresh h)) p
  else
    let r : SecRec := {
      neEs := h.ses || h.err
      neSes := h.ses
      neUnav := h.ua.now
      feEs := false
      feSes := false
      feUnav := false
      noSignal := (rxCarrier s p).any (carrierNoSignal s)
      forced := false
      stopped := h.stopped
      label := label
      aon := aon }
    let u := h.ua.step h.ses false
    let l := h.secs ++ [r]
    let l := if u.2 then markLast (fun x => { x with neUnav := u.1.now }) u.1.since l else l
    let ua := if u.2 then { u.1 with since := 0 } else u.1
    portWatch (s.setPort p { fresh h with ua := ua, secs := l }) p

/-- The label of the second that has just ended (R286, R568). -/
def secondLabel (s : State) : Nat × Bool :=
  if domValid s 0 then (domNs s 0 / 1000000000 - 1, false) else (s.time.aon / 1000000000 - 1, true)

/-- PM_SECOND: a second boundary; carriers and ports classify the second that ends (R286, R567). -/
def secondBoundary (s : State) : State :=
  let l := secondLabel s
  let s := [Carrier.A, .B].foldl (fun (s : State) (c : Carrier) =>
    if s.domOn (dFRM c) then pmSecond s c l.1 l.2 else s) s
  (List.range 24).foldl (portSecond l.1 l.2) s

/-- The second of a port that becomes final, where there is one (R287, R567). -/
def takeFinalPort (s : State) (p : Nat) : Option (SecRec × State) :=
  let h := s.port p
  match h.secs with
  | r :: rest => if 10 ≤ rest.length then some (r, s.setPort p { h with secs := rest }) else none
  | [] => none

end Sys2Proof.Machine
end

