-- ==== Sys2Proof/Machine/Sha.lean ====
section
/-! DEFINITION. SHA-256 (FIPS 180-4), with which the spec identifies public keys (R623, R632) and chains records (R574).
Its constants are the first 32 bits of the fractional parts of the roots of the primes, computed as such. -/

namespace Sys2Proof.Machine

open Sys2Proof

/-- The first `n` primes from 2 on, found by trial division among the first 420 numbers. -/
def shaPrimes (n : Nat) : List Nat :=
  ((List.range 420).filter (fun p => decide (2 ≤ p) && (List.range 21).all (fun d => d < 2 || p == d || p % d != 0))).take n

/-- The largest `x` with `x ^ k ≤ n`, bit by bit from bit `i - 1` down. -/
def rootBits (k n : Nat) : Nat → Nat → Nat
  | 0, x => x
  | i + 1, x => if (x + 2 ^ i) ^ k ≤ n then rootBits k n i (x + 2 ^ i) else rootBits k n i x

/-- The first 32 bits of the fractional part of the k-th root of a prime. -/
def rootFrac (k p : Nat) : Nat := rootBits k (p * 2 ^ (32 * k)) 40 0 % 2 ^ 32

/-- The round constants. -/
def shaK : List Nat := (shaPrimes 64).map (rootFrac 3)
/-- The initial hash value. -/
def shaH : List Nat := (shaPrimes 8).map (rootFrac 2)

/-- A 32-bit word rotated right. -/
def rotr (x n : Nat) : Nat := (x >>> n ||| x <<< (32 - n)) % 2 ^ 32

/-- A message padded to whole blocks of 64 bytes. -/
def shaPad (m : List Nat) : List Nat :=
  m ++ [0x80] ++ List.replicate ((119 - m.length % 64) % 64) 0 ++ beBytes 8 (8 * m.length)

/-- The message schedule extended by one word; the list is newest first. -/
def shaExtend (w : List Nat) : List Nat :=
  let x := w.getD 1 0
  let y := w.getD 14 0
  let s1 := rotr x 17 ^^^ rotr x 19 ^^^ (x >>> 10)
  let s0 := rotr y 7 ^^^ rotr y 18 ^^^ (y >>> 3)
  (s1 + w.getD 6 0 + s0 + w.getD 15 0) % 2 ^ 32 :: w

/-- `n` more words of the schedule. -/
def shaSchedule : Nat → List Nat → List Nat
  | 0, w => w
  | n + 1, w => shaSchedule n (shaExtend w)

/-- One round on the eight working variables. -/
def shaRound (v : List Nat) (kw : Nat) : List Nat :=
  match v with
  | [a, b, c, d, e, f, g, h] =>
    let t1 := h + (rotr e 6 ^^^ rotr e 11 ^^^ rotr e 25) + ((e &&& f) ^^^ ((e ^^^ 0xFFFFFFFF) &&& g)) + kw
    let t2 := (rotr a 2 ^^^ rotr a 13 ^^^ rotr a 22) + ((a &&& b) ^^^ (a &&& c) ^^^ (b &&& c))
    [(t1 + t2) % 2 ^ 32, a, b, c, (d + t1) % 2 ^ 32, e, f, g]
  | v => v

/-- One block into the hash value. -/
def shaBlock (hv block : List Nat) : List Nat :=
  let w0 := (List.range 16).map (fun i => ofBe ((block.drop (4 * i)).take 4))
  let w := (shaSchedule 48 w0.reverse).reverse
  let v := (List.zipWith (fun k x => k + x) shaK w).foldl shaRound hv
  List.zipWith (fun x y => (x + y) % 2 ^ 32) hv v

/-- The blocks of a padded message in order. -/
def shaBlocks : Nat → List Nat → List Nat → List Nat
  | 0, hv, _ => hv
  | n + 1, hv, m => shaBlocks n (shaBlock hv (m.take 64)) (m.drop 64)

/-- The SHA-256 of a byte string, 32 bytes. -/
def sha256 (m : List Nat) : List Nat :=
  let p := shaPad m
  (shaBlocks (p.length / 64) shaH p).flatMap (beBytes 4)

end Sys2Proof.Machine
end

