-- ==== Sys2Proof/Machine/Ed.lean ====
section
/-! DEFINITION. Ed25519 (RFC 8032) over SHA-512 (FIPS 180-4), which signs and verifies images (R535, R541), records of the
ledger (R565, R574) and unlock responses (R632). Byte strings are lists of numbers below 256, first byte first; the spec names
the standards and does not repeat them (log entry 9). -/

namespace Sys2Proof.Machine

open Sys2Proof

/-! SHA-512. -/

/-- The first 64 bits of the fractional part of the k-th root of a prime. -/
def rootFrac64 (k p : Nat) : Nat := rootBits k (p * 2 ^ (64 * k)) 72 0 % 2 ^ 64

/-- The round constants. -/
def sha512K : List Nat := (shaPrimes 80).map (rootFrac64 3)
/-- The initial hash value. -/
def sha512H : List Nat := (shaPrimes 8).map (rootFrac64 2)

/-- A 64-bit word rotated right. -/
def rotr64 (x n : Nat) : Nat := (x >>> n ||| x <<< (64 - n)) % 2 ^ 64

/-- A message padded to whole blocks of 128 bytes. -/
def sha512Pad (m : List Nat) : List Nat :=
  m ++ [0x80] ++ List.replicate ((239 - m.length % 128) % 128) 0 ++ beBytes 16 (8 * m.length)

/-- `n` more words of the message schedule, which is newest first. -/
def sha512Schedule : Nat → List Nat → List Nat
  | 0, w => w
  | n + 1, w =>
    let late := w.getD 1 0
    let early := w.getD 14 0
    let mixLate := rotr64 late 19 ^^^ rotr64 late 61 ^^^ (late >>> 6)
    let mixEarly := rotr64 early 1 ^^^ rotr64 early 8 ^^^ (early >>> 7)
    sha512Schedule n ((mixLate + w.getD 6 0 + mixEarly + w.getD 15 0) % 2 ^ 64 :: w)

/-- One round; `kw` is the round constant plus the word of the schedule. -/
def sha512Round (v : List Nat) (kw : Nat) : List Nat :=
  match v with
  | [a, b, c, d, e, f, g, h] =>
    let choice := (e &&& f) ^^^ ((e ^^^ (2 ^ 64 - 1)) &&& g)
    let t := h + (rotr64 e 14 ^^^ rotr64 e 18 ^^^ rotr64 e 41) + choice + kw
    let majority := (a &&& b) ^^^ (a &&& c) ^^^ (b &&& c)
    [(t + (rotr64 a 28 ^^^ rotr64 a 34 ^^^ rotr64 a 39) + majority) % 2 ^ 64, a, b, c, (d + t) % 2 ^ 64, e, f, g]
  | v => v

/-- `n` blocks into the hash value. -/
def sha512Blocks : Nat → List Nat → List Nat → List Nat
  | 0, hv, _ => hv
  | n + 1, hv, m =>
    let w := (sha512Schedule 64 ((List.range 16).map (fun i => ofBe ((m.drop (8 * i)).take 8))).reverse).reverse
    let v := (List.zipWith (fun k x => k + x) sha512K w).foldl sha512Round hv
    sha512Blocks n (List.zipWith (fun x y => (x + y) % 2 ^ 64) hv v) (m.drop 128)

/-- The SHA-512 of a byte string, 64 bytes. -/
def sha512 (m : List Nat) : List Nat :=
  let p := sha512Pad m
  (sha512Blocks (p.length / 128) sha512H p).flatMap (beBytes 8)

/-! The curve: −x² + y² = 1 + d·x²·y² over the integers modulo p = 2^255 − 19. -/

/-- The prime of the field. -/
def edP : Nat := 2 ^ 255 - 19
/-- The order of the base point. -/
def edL : Nat := 2 ^ 252 + 27742317777372353535851937790883648493

/-- A product in the field. -/
def fpMul (x y : Nat) : Nat := x * y % edP
/-- A difference in the field, of reduced operands. -/
def fpSub (x y : Nat) : Nat := (x + edP - y) % edP
/-- A power in the field; exponents have at most 256 bits. -/
def fpPow (x e : Nat) : Nat :=
  (List.range 256).foldl (fun r i => let q := fpMul r r; if e.testBit (255 - i) then fpMul q x else q) 1
/-- An inverse in the field. -/
def fpInv (x : Nat) : Nat := fpPow x (edP - 2)
/-- The constant d = −121665 / 121666. -/
def edD : Nat := fpMul (edP - 121665) (fpInv 121666)

/-- A point in extended coordinates: x = X / Z, y = Y / Z, x·y = T / Z. -/
structure EdPoint where
  /-- X. -/
  x : Nat
  /-- Y. -/
  y : Nat
  /-- Z. -/
  z : Nat
  /-- T. -/
  t : Nat
  deriving DecidableEq, Repr

/-- The neutral point. -/
def edZero : EdPoint := ⟨0, 1, 1, 0⟩

/-- The sum of two points. -/
def edAdd (d : Nat) (p q : EdPoint) : EdPoint :=
  let a := fpMul (fpSub p.y p.x) (fpSub q.y q.x)
  let b := fpMul (p.y + p.x) (q.y + q.x)
  let c := fpMul (fpMul (2 * p.t) q.t) d
  let zz := fpMul (2 * p.z) q.z
  let e := fpSub b a
  let f := fpSub zz c
  let g := zz + c
  let h := b + a
  ⟨fpMul e f, fpMul g h, fpMul f g, fpMul e h⟩

/-- A multiple of a point; scalars have at most 512 bits. -/
def edMul (d k : Nat) (p : EdPoint) : EdPoint :=
  (List.range 512).foldl (fun r i => let q := edAdd d r r; if k.testBit (511 - i) then edAdd d q p else q) edZero

/-- Two points are equal. -/
def edSame (p q : EdPoint) : Bool := fpMul p.x q.z == fpMul q.x p.z && fpMul p.y q.z == fpMul q.y p.z

/-- A point as 32 bytes: y with the lowest bit of x above it. -/
def edEncode (p : EdPoint) : List Nat :=
  let zi := fpInv p.z
  leBytes 32 (fpMul p.y zi + fpMul p.x zi % 2 * 2 ^ 255)

/-- The x of sign `odd` whose square is u / v, if there is one. -/
def edRoot (u v odd : Nat) : Option Nat :=
  let v3 := fpMul (fpMul v v) v
  let r := fpMul (fpMul u v3) (fpPow (fpMul u (fpMul (fpMul v3 v3) v)) ((edP - 5) / 8))
  let sq := fpMul v (fpMul r r)
  let root := if sq = u then some r else if sq = (edP - u) % edP then some (fpMul r (fpPow 2 ((edP - 1) / 4))) else none
  match root with
  | some x => if x = 0 ∧ odd = 1 then none else if x % 2 = odd then some x else some (edP - x)
  | none => none

/-- The point of a y and the sign of its x. -/
def edAt (y odd : Nat) : Option EdPoint :=
  let yy := fpMul y y
  (edRoot (fpSub yy 1) ((fpMul edD yy + 1) % edP) odd).map (fun x => ⟨x, y, 1, fpMul x y⟩)

/-- The point that 32 bytes encode, if they encode one. -/
def edDecode (bs : List Nat) : Option EdPoint :=
  let n := ofLe bs
  if edP ≤ n % 2 ^ 255 ∨ 2 ^ 256 ≤ n then none else edAt (n % 2 ^ 255) (n / 2 ^ 255)

/-- The base point: y = 4/5, x even. -/
def edBase : EdPoint := (edAt (fpMul 4 (fpInv 5)) 0).getD edZero

/-! Keys and signatures. -/

/-- The secret scalar of a seed. -/
def edScalar (seed : Nat) : Nat := ofLe ((sha512 (leBytes 32 seed)).take 32) / 8 * 8 % 2 ^ 254 + 2 ^ 254

/-- The public key of a seed as 32 bytes. -/
def edPublicBytes (seed : Nat) : List Nat := edEncode (edMul edD (edScalar seed) edBase)

/-- The public key of a seed (R565). -/
def edPublic (seed : Nat) : Nat := ofLe (edPublicBytes seed)

/-- A hash of byte strings as a scalar. -/
def edHash (m : List Nat) : Nat := ofLe (sha512 m) % edL

/-- The signature of a message under a seed, as a number of 64 bytes (R574). -/
def edSign (seed : Nat) (m : List Nat) : Nat :=
  let r := edHash ((sha512 (leBytes 32 seed)).drop 32 ++ m)
  let point := edEncode (edMul edD r edBase)
  let k := edHash (point ++ edPublicBytes seed ++ m)
  ofLe (point ++ leBytes 32 ((r + k * edScalar seed) % edL))

/-- A signature verifies under a public key over a message (R535, R574, R632), by the equation with the cofactor. -/
def edVerify (key message signature : List Nat) : Bool :=
  let d := edD
  let s := ofLe (signature.drop 32)
  match edDecode key, edDecode (signature.take 32) with
  | some a, some r =>
    let k := edHash (signature.take 32 ++ key ++ message)
    signature.length == 64 && key.length == 32 && decide (s < edL) &&
      edSame (edMul d 8 (edMul d s edBase)) (edMul d 8 (edAdd d r (edMul d k a)))
  | _, _ => false

end Sys2Proof.Machine
end

