-- ==== Sys2Proof/Machine/Ledger.lean ====
section
/-! DEFINITION. The ledger partition (R563 to R580): final-second records, intervals and bookings, signed and chained
records, the chain-head memory and the mailbox. -/

namespace Sys2Proof.Machine

open Sys2Proof

/-- The signing seed as the fuses hold it: every bit is blown on entry to RETIRED (R565, R624). -/
def ledgerSeed (s : State) : Nat := if s.ldg.blown then 2 ^ 256 - 1 else Config.ledgerSeed

/-- The newer chain-head copy (R576). -/
def chain (s : State) : ChainHead := if s.ldg.newerB then s.ldg.headB else s.ldg.headA

/-- The older copy is written, with the open bookings as they stand, and becomes the newer one (R576). -/
def setChain (s : State) (h : ChainHead) : State :=
  let h := { h with valid := true, bookings := s.ldg.bookings }
  let s := { s with ldg := if s.ldg.newerB then { s.ldg with headA := h, newerB := false }
    else { s.ldg with headB := h, newerB := true } }
  s.set R.LDG_STAT.OPEN h.bookings.length

/-- The open booking of an object. -/
def bookingOf (s : State) (obj : Nat) : Option Booking := s.ldg.bookings.find? (fun b => b.obj == obj)

/-- An object of the ledger. -/
def ldgObj (s : State) (obj : Nat) : LdgObj := (s.ldg.objs.find obj).getD .reset
/-- That object replaced. -/
def setLdgObj (s : State) (obj : Nat) (o : LdgObj) : State :=
  { s with ldg := { s.ldg with objs := Map.putD .reset s.ldg.objs obj o } }

/-- A label with the AON flag in bit 47 (R574). -/
def labelBytes (label : Nat) (aon : Bool) : List Nat := leBytes 6 (label % 2 ^ 47 + 2 ^ 47 * b2n aon)

/-- A record of 24 body bytes is chained to a chain head, signed and put into the buffer (R574, R576, R577). -/
def ldgRecordOn (s : State) (h : ChainHead) (type obj : Nat) (body : List Nat) : State :=
  let num := (h.recnum + 1) % 2 ^ 48
  let prev := if h.recnum = 0 then List.replicate 32 0 else h.hash
  let content := [type, obj] ++ leBytes 6 num ++ prev ++ body
  let record := content ++ leBytes 64 (edSign (ledgerSeed s) content)
  let s := setChain s { h with recnum := num, hash := sha256 record }
  let s := { s with ldg := { s.ldg with buf := s.ldg.buf ++ [record] } }
  let s := s.set R.LDG_STAT.DEPTH s.ldg.buf.length
  if s.ldg.buf.length = 48 then s.raise E.LDG_BUF 48 else s

/-- A record chained to the chain head as it stands. -/
def ldgRecord (s : State) (type obj : Nat) (body : List Nat) : State := ldgRecordOn s (chain s) type obj body

/-! Intervals (R568 to R571, R573). -/

/-- The last label of an open interval is the object's last label; the interval record of it. -/
def intervalBody (i : Interval) : List Nat :=
  labelBytes i.first i.aon ++ leBytes 2 i.booking ++ leBytes 2 i.len ++ leBytes 2 i.asC ++ leBytes 2 i.es ++
  leBytes 2 i.ses ++ leBytes 2 i.uas ++ leBytes 2 i.flagged ++ leBytes 2 i.nosig ++
  leBytes 2 (b2n i.short + 2 * b2n i.step)

/-- Carriers are recorded in every interval, a port while a booking of it was open (R571). -/
def recorded (obj : Nat) (i : Interval) : Bool := obj < 2 || i.booking != 0

/-- The end of an object's open interval: the record, or a wait for space in the buffer (R571, R573). -/
def endInterval (s : State) (obj : Nat) (short step : Bool) : State :=
  let o := ldgObj s obj
  match o.cur with
  | none => s
  | some i =>
    let i := { i with short := i.short || short, step := i.step || step }
    if !recorded obj i || i.len == 0 then setLdgObj s obj { o with cur := none }
    else if s.ldg.buf.length < 64 then
      ldgRecord (setLdgObj s obj { o with cur := none }) 1 obj (intervalBody i)
    else
      let s := setLdgObj s obj { o with cur := some { i with due := true } }
      if s.on R.LDG_STAT.FULL then s else (s.setB R.LDG_STAT.FULL true).raise E.LDG_FULL 0

/-- A second of an object falls into one class of R568; an interval holds up to 65,535 seconds (R573). -/
def countSecond (i : Interval) (es ses uas flagged nosig : Bool) : Interval :=
  let up := fun (n : Nat) (b : Bool) => n + b2n b
  let avail := !uas && !nosig
  if 65535 ≤ i.len then i
  else { i with
    len := up i.len true
    asC := up i.asC avail
    es := up i.es (avail && es)
    ses := up i.ses (avail && ses)
    uas := up i.uas (uas && !nosig)
    flagged := up i.flagged (flagged && uas && !nosig)
    nosig := up i.nosig nosig }

/-- The totals of a booking follow its seconds (R574). -/
def countBooking (b : Booking) (es ses uas nosig : Bool) : Booking :=
  let avail := !uas && !nosig
  { b with
    asT := b.asT + b2n avail
    es := b.es + b2n (avail && es)
    ses := b.ses + b2n (avail && ses)
    uas := b.uas + b2n (uas && !nosig) }

/-- A second of an object with its label is counted, and its interval ends after a multiple of 900 (R568 to R571). -/
def ldgSecond (s : State) (obj label : Nat) (aon es ses uas flagged nosig : Bool) : State :=
  let o := ldgObj s obj
  let stepped := o.lastLabel.isSome && o.lastLabel.map (· + 1) != some label
  let s := if stepped then (endInterval s obj false true).raise E.LDG_STEP obj else s
  let o := ldgObj s obj
  let bk := bookingOf s obj
  let i : Interval := o.cur.getD ⟨label, false, (bk.map (·.no)).getD 0, 0, 0, 0, 0, 0, 0, 0, false, false, false⟩
  let i := countSecond { i with aon := i.aon || aon } es ses uas flagged nosig
  let keep := obj < 2 || bk.isSome
  let s := setLdgObj s obj
    { o with lastLabel := some label, lastAon := aon, cur := if keep then some i else none }
  let bs := s.ldg.bookings.map (fun b => if b.obj = obj then countBooking b es ses uas nosig else b)
  let s := { s with ldg := { s.ldg with bookings := bs } }
  if label % 900 = 0 || i.due then endInterval s obj false false else s

/-- LDG_SECOND_RECORD: the next final-second record reaches the core (R566, R568). -/
def ldgTake (s : State) : State :=
  match s.ldg.inbox with
  | [] => s
  | (obj, r) :: rest =>
    let s := { s with ldg := { s.ldg with inbox := rest } }
    let o := ldgObj s obj
    let s := setLdgObj s obj { o with ticks := 0, missing := false }
    let nosig := r.noSignal && !r.stopped
    ldgSecond s obj r.label r.aon r.neEs r.neSes (r.neUnav || r.forced || r.stopped) (r.forced || r.stopped) nosig

/-- PM_SECOND_FINAL: the seconds that are now final, of both carriers and of every port, are counted and sent to the ledger
in order of object (R287, R288, R567). -/
def pmFinal (s : State) : State :=
  let s := [Carrier.A, .B].foldl (fun (s : State) (c : Carrier) =>
    match takeFinal s c with
    | none => s
    | some (r, s) =>
      let s := finalSecond s c r
      { s with ldg := { s.ldg with inbox := s.ldg.inbox ++ [(c.num, r)] } }) s
  (List.range 24).foldl (fun (s : State) (p : Nat) =>
    match takeFinalPort s p with
    | none => s
    | some (r, s) => { s with ldg := { s.ldg with inbox := s.ldg.inbox ++ [(16 + p, r)] } }) s

/-- A tick at one object: from the twelfth tick on without a record each tick counts one MISSING second of a carrier or booked
port. The labels of a port go on while it is not booked (R569). -/
def ldgTickObj (s : State) (obj : Nat) : State :=
  let o := ldgObj s obj
  let s := setLdgObj s obj { o with ticks := min 12 (o.ticks + 1) }
  if o.ticks + 1 < 12 then s
  else if obj < 2 || (bookingOf s obj).isSome then
    let s := if o.missing then s else (setLdgObj s obj { ldgObj s obj with missing := true }).raise E.LDG_MISSING obj
    let l := match o.lastLabel with
      | some l => (l + 1, o.lastAon)
      | none => secondLabel s
    ldgSecond s obj l.1 l.2 false false true true false
  else setLdgObj s obj { ldgObj s obj with lastLabel := o.lastLabel.map (· + 1) }

/-- LDG_TICK: the one-second tick of the AON clock; the partition has no power in RESET (R42, R566, R569). -/
def ldgTick (s : State) : State :=
  if s.dev = 0 then s
  else match s.lap .ledger 1000000000 with
    | some s => ([0, 1] ++ (List.range 24).map (· + 16)).foldl ldgTickObj s
    | none => s

/-! Bookings (R571, R572). -/

/-- The label current at an object: that of its last record. -/
def currentLabel (s : State) (obj : Nat) : Nat :=
  match (ldgObj s obj).lastLabel with
  | some l => l
  | none => (secondLabel s).1

/-- Objects that can be booked. -/
def bookable (obj : Nat) : Bool := obj == 0 || obj == 1 || decide (0x10 ≤ obj ∧ obj ≤ 0x27)

/-- STATUS of a booking command, checked in the order of R572. -/
def bookStatus (s : State) (op obj no : Nat) : Nat :=
  if op ≠ 1 ∧ op ≠ 2 then 1
  else if !bookable obj then 2
  else if op = 1 && (bookingOf s obj).isSome then 3
  else if op = 2 && !s.ldg.bookings.any (fun b => b.no == no) then 4
  else if op = 1 && decide (32 ≤ s.ldg.bookings.length) then 5
  else if 64 < s.ldg.buf.length + 2 then 6
  else 0

/-- An accepted OPEN: the object's open interval ends, the next booking number is taken. -/
def bookOpened (s : State) (obj : Nat) : State :=
  let s := endInterval s obj true false
  let h := chain s
  let cref := s.get R.LDG_REF_LO.REF + 2 ^ 32 * s.get R.LDG_REF_HI.REF
  let no := h.nextNo
  let l := currentLabel s obj
  let s := { s with ldg := { s.ldg with bookings := s.ldg.bookings ++ [⟨no, obj, cref, 0, 0, 0, 0⟩] } }
  let s := ldgRecordOn s { h with nextNo := if no = 65535 then 1 else no + 1 } 2 obj
    (leBytes 6 ((l + 1) % 2 ^ 47) ++ leBytes 2 no ++ leBytes 8 cref ++ List.replicate 8 0)
  s.set R.LDG_RES.BOOKING no

/-- An accepted CLOSE: the booking's interval ends, then the close record with its totals. -/
def bookClosed (s : State) (no : Nat) : State :=
  match s.ldg.bookings.find? (fun b => b.no == no) with
  | none => s
  | some b =>
    let s := endInterval s b.obj true false
    let l := currentLabel s b.obj
    let s := { s with ldg := { s.ldg with bookings := s.ldg.bookings.filter (fun x => x.no ≠ no) } }
    ldgRecord s 3 b.obj (leBytes 6 (l % 2 ^ 47) ++ leBytes 2 no ++ leBytes 4 b.asT ++ leBytes 4 b.es ++ leBytes 4 b.ses ++
      leBytes 4 b.uas)

/-- A write of LDG_CMD: BOOK_OPEN and BOOK_CLOSE (R572, R579). -/
def ldgCmd (s : State) (op obj no : Nat) : State :=
  let st := bookStatus s op obj no
  let s := s.set R.LDG_RES.STATUS st
  if st ≠ 0 then s.raise E.LDG_CMD_REJ st
  else if op = 1 then bookOpened s obj else bookClosed s no

/-- Intervals that wait for space are written while there is some (R573). -/
def flushDue (s : State) : State :=
  let s := (s.ldg.objs.map (·.1)).foldl (fun (s : State) (obj : Nat) =>
    if ((ldgObj s obj).cur.any (·.due)) && decide (s.ldg.buf.length < 64) then endInterval s obj false false else s) s
  s.setB R.LDG_STAT.FULL (s.ldg.objs.any (fun o => o.2.cur.any (·.due)))

/-- LDG_POP: the head record leaves the buffer (R576, R577). -/
def ldgPop (s : State) : State :=
  match s.ldg.buf with
  | [] => s
  | r :: rest =>
    let s := { s with ldg := { s.ldg with buf := rest } }
    let s := s.set R.LDG_STAT.DEPTH rest.length
    let s := setChain s { chain s with removed := ofLe ((r.drop 2).take 6) }
    flushDue s

/-! The start (R564, R565, R576). -/

/-- Byte `i` of the window that shows the public key. -/
def ldgKeyBase : Nat := 0x40090180

/-- The partition starts, given the verdicts of the CRC-32 of its two chain-head copies. -/
def ldgBegin (s : State) (okA okB : Bool) : State :=
  let a := s.ldg.headA
  let b := s.ldg.headB
  let va := a.valid && okA
  let vb := b.valid && okB
  let newer := decide (a.recnum < b.recnum) || (a.recnum == b.recnum && decide (a.removed ≤ b.removed))
  let useB := vb && (!va || newer)
  let lost := !va && !vb
  let s := { s with ldg := { s.ldg with
    headA := if va then a else { ChainHead.reset with valid := false }
    headB := if vb then b else { ChainHead.reset with valid := false }
    newerB := useB, buf := [], objs := [], inbox := []
    bookings := if useB then b.bookings else if va then a.bookings else [] } }
  let s := (s.set R.LDG_STAT.DEPTH 0).setB R.LDG_STAT.FULL false
  let s := if lost then (s.setB R.LDG_STAT.NVM_FAULT true).raise E.LDG_NVM 0 else s.setB R.LDG_STAT.NVM_FAULT false
  let pk := leBytes 32 (edPublic (ledgerSeed s))
  let s := (List.range 8).foldl (fun (s : State) (i : Nat) =>
    s.set (wordAt (ldgKeyBase + 4 * i)) (ofLe ((pk.drop (4 * i)).take 4))) s
  let h := chain s
  let gone := h.recnum - h.removed
  let s := s.mark .ledger
  let s := ldgRecord s 4 0xFF (leBytes 6 (((secondLabel s).1 + 1) % 2 ^ 47) ++ [b2n lost, 0] ++ leBytes 6 gone ++ List.replicate 10 0)
  s.raise E.LDG_RESUME (b2n lost + 256 * min gone (2 ^ 24 - 1))

/-- LDG_START: the partition's power-on reset; it has no power in RESET (R42, R564). -/
def ldgStart (s : State) (okA okB : Bool) : State := if s.dev = 0 then s else ldgBegin s okA okB

end Sys2Proof.Machine
end

