-- ==== Sys2Proof/Machine/Pair.lean ====
section
/-! DEFINITION. The protected pair (R544 to R562): heartbeats on two paths, the health word, the claim interlock, release,
the revert count, state synchronisation and the wiring check. -/

namespace Sys2Proof.Machine

open Sys2Proof

/-! The gate at the transmitters. -/

/-- The transmit enable may have changed: both carriers meet it (R65, R69, R343). -/
def enableChanged (s : State) : State :=
  let t := txGateBoth s
  abortLoss s (abortLoss s t .A) .B

/-! The health word (R548). -/

/-- The port that carries the Pod path. -/
def peerPort (s : State) : Nat := 4 + s.get R.PAIR_CFG.PEER_PORT

/-- SYSPLL, or a PLL of a running carrier, is out of lock. -/
def pllFault (s : State) : Bool :=
  !pllLocked s 0 ||
  [(Carrier.A, 4, 5), (Carrier.B, 6, 7)].any (fun (x : Carrier × Nat × Nat) =>
    (subBlocks x.1).any s.running && !(pllLocked s x.2.1 && pllLocked s x.2.2))

/-- VOTE_STAT.STATE codes (R480). -/
def vTMR : Nat := 0
/-- DUPLEX. -/
def vDUPLEX : Nat := 1
/-- RESYNC. -/
def vRESYNC : Nat := 2
/-- FROZEN. -/
def vFROZEN : Nat := 3

/-- VOTE_STAT.STATE. -/
def State.vote (s : State) : Nat := s.get R.VOTE_STAT.STATE

/-- Control writes are frozen (R466, R484). -/
def State.frozen (s : State) : Bool := s.vote == vFROZEN

/-- Health bits 15:0. -/
def healthBits (s : State) : Nat :=
  b2n s.frozen + 2 * b2n (s.vote == vDUPLEX || s.vote == vRESYNC) + 4 * b2n (s.on R.CLK_XO_STAT.XO_FAIL) +
  8 * b2n (pllFault s) + 16 * b2n (s.on R.PWR_STAT.THROTTLE) + 32 * b2n (s.on R.PWR_STAT.WARN) +
  64 * b2n (s.onC .A R.FRM_STAT.PSR) + 128 * b2n (s.onC .B R.FRM_STAT.PSR) + 256 * b2n s.pair.wdog +
  512 * b2n (s.on R.PAIR_CMD.SW_FAULT) + 1024 * b2n s.pair.claimSense + 2048 * b2n s.pair.hbSelf

/-- FAULT: FROZEN and XO_FAIL always count. -/
def healthFault (s : State) : Bool := (healthBits s &&& (s.get R.PAIR_MASK.FAULT_MASK ||| 5)) != 0

/-- The whole health word, as PAIR_HEALTH shows it. -/
def healthWord (s : State) : Nat :=
  healthBits s + 2 ^ 22 * b2n s.pair.req + 2 ^ 23 * b2n (s.on R.PAIR_CMD.CLAIM_INHIBIT) + 2 ^ 24 * s.pair.pos +
  2 ^ 25 * s.pair.pref + 2 ^ 26 * b2n s.pair.txEnable + 2 ^ 27 * b2n (s.on R.PAIR_STAT.OWN_CLAIM) + 2 ^ 28 * s.dev +
  2 ^ 31 * b2n (healthFault s)

/-- Fields of the peer's last valid health word. -/
def peerFault (s : State) : Bool := bitOf (s.get R.PAIR_PEER.PEER) 31
/-- STATE of the peer. -/
def peerState (s : State) : Nat := bitsOf (s.get R.PAIR_PEER.PEER) 30 28

/-! Paths (R547, R558). -/

/-- A path is up. -/
def pathUp (s : State) (pod : Bool) : Bool := if pod then s.on R.PAIR_STAT.POD_UP else s.on R.PAIR_STAT.PIN_UP
/-- Both paths are lost. -/
def bothLost (s : State) : Bool := !pathUp s false && !pathUp s true

/-- A path takes a state; a change raises EV_PAIR_PATH. -/
def setPath (s : State) (pod up : Bool) : State :=
  if pathUp s pod = up then s
  else (s.setB (if pod then R.PAIR_STAT.POD_UP else R.PAIR_STAT.PIN_UP) up).raise E.PAIR_PATH (b2n pod + 256 * b2n up)

/-- The remote BOARD_POS of the port, while it holds a remote identity. -/
def remotePos (s : State) : Nat := s.get (rinfoF (peerPort s)).2.1
/-- The wiring check can be made. -/
def wiringKnown (s : State) : Bool := podUp s (peerPort s) && s.on (rinfoF (peerPort s)).1
/-- The wiring check of R558 passes. -/
def wiringOk (s : State) : Bool := wiringKnown s && remotePos s == s.get R.POD_CFG.BOARD_POS ^^^ 1

/-- The Pod path may be used. -/
def podPathOk (s : State) : Bool := s.on R.PAIR_CFG.HB_POD_EN && wiringOk s

/-- The wiring check and the levels that keep the Pod path lost. -/
def pathSettle (s : State) : State :=
  let bad := wiringKnown s && !wiringOk s
  let was := s.on R.PAIR_STAT.WIRING_ERR
  let s := s.setB R.PAIR_STAT.WIRING_ERR bad
  let s := if bad && !was then s.raise E.PAIR_WIRING (remotePos s) else s
  if podPathOk s then s
  else setPath { s with pair := { s.pair with podRun := false, podMiss := 0 } } true false

/-! The claim (R545, R549 to R553). -/

/-- CLAIM_STATE codes. -/
def cINELIGIBLE : Nat := 0
/-- BACKOFF. -/
def cBACKOFF : Nat := 1
/-- CLAIMING. -/
def cCLAIMING : Nat := 2
/-- COLLIDED. -/
def cCOLLIDED : Nat := 3
/-- GRANTED. -/
def cGRANTED : Nat := 4

/-- CLAIM_STATE. -/
def claimState (s : State) : Nat := s.get R.PAIR_STAT.CLAIM_STATE
/-- CLAIM_IN_N asserted. -/
def claimIn (s : State) : Bool := s.on R.PAIR_STAT.PEER_CLAIM

/-- The position the unit acts as (R552). -/
def actsPos (s : State) : Nat :=
  if s.on R.PAIR_STAT.STRAP_EQ && pathUp s true then
    if s.get R.CONV_DIE_TAG.DIE_TAG < s.get (R.POD_RTAG.RTAG.ix (s.get R.PAIR_CFG.PEER_PORT)) then 0 else 1
  else s.pair.pos

/-- The transmit enable takes a value; the device enters RUN or returns to STANDBY with it (R39, R545). -/
def setTxEnable (s : State) (on : Bool) : State :=
  if s.pair.txEnable = on then s
  else
    let s := (s.setB R.PAIR_STAT.GRANTED on)
    let s := { s with pair := { s.pair with txEnable := on } }
    let s := if on then s.goto stRUN else if s.dev = stRUN then s.goto stSTANDBY else s
    enableChanged s

/-- The claim line is let go. -/
def dropClaim (s : State) : State := setTxEnable (s.setB R.PAIR_STAT.OWN_CLAIM false) false

/-- The unit enters BACKOFF, its timer loaded by the position it acts as; `expired` tells whether the timer has run out
already (R550). -/
def toBackoff (s : State) (expired : Bool) : State :=
  let s := (s.set R.PAIR_STAT.CLAIM_STATE cBACKOFF).mark .backoff
  { s with pair := { s.pair with expired := expired, stuck := false, backoff := if actsPos s = 0 then 50000 else 550000 } }

/-- The unit asserts its claim, `onRelease` when its peer has let go (R550, R562). -/
def toClaiming (s : State) (onRelease : Bool) : State :=
  let s := ((s.set R.PAIR_STAT.CLAIM_STATE cCLAIMING).setB R.PAIR_STAT.OWN_CLAIM true).mark .claim
  { s with pair := { s.pair with viaRelease := onRelease } }

/-- A release from GRANTED to BACKOFF with its cause (R553). -/
def releaseClaim (s : State) (cause : Nat) : State :=
  if claimState s = cGRANTED then toBackoff ((dropClaim s).raise E.PAIR_RELEASE cause) false else s

/-- The claim rule of R551. -/
def claimRule (s : State) : Bool :=
  let p := s.get R.PAIR_PEER.PEER
  let ppref := bitsOf p 25 25
  bothLost s || peerFault s || bitOf p 23 || !(peerState s == stSTANDBY || peerState s == stRUN) ||
  (peerState s == stSTANDBY && (decide (ppref < s.pair.pref) || (s.pair.pref == ppref && actsPos s == 0)))

/-- The unit may hold or seek a claim. -/
def claimBlocked (s : State) : Bool :=
  healthFault s || s.on R.PAIR_CMD.CLAIM_INHIBIT || !(s.dev == stSTANDBY || s.dev == stRUN)

/-- The cause of a release to INELIGIBLE (R553). -/
def blockCause (s : State) : Nat :=
  if healthFault s then 1 else if s.on R.PAIR_CMD.CLAIM_INHIBIT then 6 else 7

/-- The last row of R550: any state but INELIGIBLE is left at once. -/
def toIneligible (s : State) : State :=
  let cause := blockCause s
  let granted := claimState s == cGRANTED
  let s := (dropClaim s).set R.PAIR_STAT.CLAIM_STATE cINELIGIBLE
  if granted then s.raise E.PAIR_RELEASE cause else s

/-- What BACKOFF does once its timer has expired (R550, R551). -/
def backoffCheck (s : State) : State :=
  if claimState s ≠ cBACKOFF || !s.pair.expired then s
  else if !claimIn s && claimRule s then toClaiming s false
  else if claimIn s && bothLost s && !s.pair.stuck then
    ({ s with pair := { s.pair with stuck := true } }).raise E.PAIR_PEER_STUCK 0
  else s

/-- The miss timer of a path: 1.1 × HB_PERIOD, in ns (R547). -/
def missTime (s : State) : Nat := s.pair.period * 11 / 10

/-- Release cause 2: the pair switch request that the peer does not share, its last beat received within the miss time on a
path (R553). -/
def psrRelease (s : State) : State :=
  let fresh := (s.pair.pinRun && s.pair.pinMiss == 0 && decide (s.age .pinBeat ≤ missTime s)) ||
    (s.pair.podRun && s.pair.podMiss == 0 && decide (s.age .podBeat ≤ missTime s))
  let want := [Carrier.A, .B].any (fun (c : Carrier) =>
    bitOf (s.get R.PAIR_CFG.PSR_EN) c.num && s.onC c R.FRM_STAT.PSR && !bitOf (s.get R.PAIR_PEER.PEER) (6 + c.num))
  if claimState s = cGRANTED && want && fresh && !peerFault s && peerState s == stSTANDBY then releaseClaim s 2 else s

/-! The revert count (R556). -/

/-- REVERT as it acts. -/
def revertMode (s : State) : Nat := if s.get R.PAIR_CFG.REVERT = 3 then 0 else s.get R.PAIR_CFG.REVERT
/-- WTR_S as it acts. -/
def wtrSeconds (s : State) : Nat := max 10 (min 3600 (s.get R.PAIR_TIMERS.WTR_S))
/-- An enabled carrier asserts its PSR. -/
def enabledPsr (s : State) : Bool :=
  [Carrier.A, .B].any (fun (c : Carrier) => bitOf (s.get R.PAIR_CFG.PSR_EN) c.num && s.onC c R.FRM_STAT.PSR)

/-- The conditions of the count, the peer's grant apart. -/
def revertReady (s : State) : Bool :=
  s.dev == stSTANDBY && !healthFault s && pathUp s false && pathUp s true && !enabledPsr s

/-- The count runs. -/
def revertCounts (s : State) : Bool :=
  revertMode s != 0 && s.pair.pref == 1 && revertReady s && bitOf (s.get R.PAIR_PEER.PEER) 26 && !s.pair.req

/-- REQ and the count follow their conditions. -/
def revertSettle (s : State) : State :=
  let s := if s.pair.req && !revertReady s then { s with pair := { s.pair with req := false } } else s
  if revertCounts s then
    if s.pair.wtr.isSome then s else { s with pair := { s.pair with wtr := some s.time.aon } }
  else { s with pair := { s.pair with wtr := none } }

/-- WTR_LEFT: seconds of the count that remain (R559). -/
def wtrLeft (s : State) : Nat :=
  match s.pair.wtr with
  | none => 0
  | some t => wtrSeconds s - ((s.time.aon + 2 ^ 48 - t) % 2 ^ 48) / 1000000000

/-- REVERT_WTR_END: the count ends. -/
def revertEnd (s : State) : State :=
  if s.pair.wtr.isSome && wtrLeft s == 0 then
    ({ s with pair := { s.pair with wtr := none, req := true } }).raise E.PAIR_REVERT 1
  else s

/-- The active unit releases for the revert (cause 4). -/
def revertRelease (s : State) : State :=
  if claimState s = cGRANTED && s.pair.pref == 0 && bitOf (s.get R.PAIR_PEER.PEER) 22 && !peerFault s then
    (releaseClaim s 4).raise E.PAIR_REVERT 0
  else s

/-- REVERT_GO (R556). -/
def revertGo (s : State) : State := if revertMode s = 2 then revertRelease s else s

/-! Levels. -/

/-- Health bits that newly set raise EV_PAIR_FAULT (R548). -/
def faultEdges (s : State) : State :=
  let h := healthBits s
  let new := (bitsSet 16 h).filter (fun i => !bitOf s.pair.faults i)
  let s := { s with pair := { s.pair with faults := h } }
  if new.isEmpty then s else s.raise E.PAIR_FAULT (new.foldl setBit 0)

/-- INELIGIBLE is entered or left (R549, R550). -/
def claimSettle (s : State) : State :=
  if claimBlocked s then (if claimState s = cINELIGIBLE then s else toIneligible s)
  else if claimState s = cINELIGIBLE && s.dev == stSTANDBY then toBackoff s false
  else s

/-- Everything of PAIR that follows from levels. -/
def pairSettle (s : State) : State :=
  revertSettle (backoffCheck (psrRelease (claimSettle (faultEdges (pathSettle s)))))

/-- What follows from levels that a command may have changed: replacement signals at the ports, and PAIR (R350, R548). -/
def levels (s : State) : State := pairSettle (replAll s)

/-! Commands. -/

/-- A beat with the next sequence number and the health word on each path that is in use (R546). -/
def hbBeat (s : State) : State :=
  let h := healthWord s
  let body := s.pair.seq * 2 ^ 32 + h
  let pin := (0x7E * 2 ^ 40 + body) * 256 + crcOf 8 0x07 0 (msbFirst 40 body)
  let pod := msgBlock 0x10 ((body * 65536 + s.get R.PAIR_SYNC.TX_GEN) * 2 ^ 40)
  let usePod := podPathOk s
  let s := { s with pair := { s.pair with
    seq := (s.pair.seq + 1) % 256, period := 1000 * max 20 (s.get R.PAIR_CFG.HB_PERIOD), beatPin := pin, beatPod := if usePod then pod else s.pair.beatPod } }
  if usePod then podSend s (peerPort s) 10 pod else s

/-- HB_SEND: a beat at the end of each period, from the end of RESET to THERMAL-OFF; a new HB_PERIOD applies from the beat on
(R546, R560). -/
def hbSend (s : State) : State :=
  if s.dev = 0 ∨ s.dev = stTHERMALOFF then s
  else match s.lap .beat s.pair.period with
    | some s => hbBeat s
    | none => s

/-- The peer shows the same POS (R552). -/
def strapCheck (s : State) (h : Nat) : State :=
  let eq := bitsOf h 24 24 == s.pair.pos
  let was := s.on R.PAIR_STAT.STRAP_EQ
  let s := s.setB R.PAIR_STAT.STRAP_EQ eq
  if eq && !was then s.raise E.PAIR_STRAP s.pair.pos else s

/-- A valid beat on a path (R547, R556). -/
def beatValid (s : State) (pod : Bool) (h : Nat) : State :=
  let s := (s.set R.PAIR_PEER.PEER h).mark (if pod then .podBeat else .pinBeat)
  let s := { s with pair := if pod then { s.pair with podRun := true, podMiss := 0 }
    else { s.pair with pinRun := true, pinMiss := 0 } }
  let s := if bitOf h 31 then setPath (setPath s false false) true false else setPath s pod true
  let s := strapCheck s h
  let s := if revertMode s = 1 then revertRelease s else s
  pairSettle s

/-- HB_RECEIVE: a beat comes in. On the pin path its CRC-8 decides; on the Pod path the MSG block's CRC has been checked, and
the path must be in use. -/
def hbReceive (s : State) (pod : Bool) (seq h crc : Nat) : State :=
  let h := h % 2 ^ 32
  if s.dev = 0 then s
  else if pod then (if podPathOk s then beatValid s true h else s)
  else if crc = crcOf 8 0x07 0 (msbFirst 40 (seq % 256 * 2 ^ 32 + h)) then beatValid s false h
  else s

/-- The beat in a MSG block of type 0x10 (R546). -/
def podBeat (s : State) (k content : Nat) : State :=
  if k = peerPort s then hbReceive s true (content / 2 ^ 88) (content / 2 ^ 56) 0 else s

/-- A missed beat (R547). -/
def missed (s : State) (pod : Bool) : State :=
  if pod then
    let s := { s.bump R.PAIR_CNT0.MISSED_POD with pair := { s.pair with podMiss := s.pair.podMiss + 1 } }
    pairSettle (if 3 ≤ s.pair.podMiss then setPath s true false else s)
  else
    let s := { s.bump R.PAIR_CNT0.MISSED_PIN with pair := { s.pair with pinMiss := s.pair.pinMiss + 1 } }
    pairSettle (if 3 ≤ s.pair.pinMiss then setPath s false false else s)

/-- The miss timer of a path runs (R547). -/
def missRuns (s : State) (pod : Bool) : Bool := if pod then s.pair.podRun && podPathOk s else s.pair.pinRun

/-- HB_MISS: the miss timer of a path expires, and runs again (R547). -/
def hbMiss (s : State) (pod : Bool) : State :=
  if !missRuns s pod then s
  else match s.lap (if pod then .podBeat else .pinBeat) (missTime s) with
    | some s => missed s pod
    | none => s

/-- CLAIM_BACKOFF_EXPIRY: the back-off timer runs out (R550). -/
def backoffExpiry (s : State) : State :=
  if claimState s = cBACKOFF && decide (s.pair.backoff ≤ s.age .backoff) then backoffCheck { s with pair := { s.pair with expired := true } } else s

/-- CLAIM_IN_ASSERTED: the transmit enable falls; a claiming unit collides (R545, R550). -/
def claimInAsserted (s : State) : State :=
  let s := s.setB R.PAIR_STAT.PEER_CLAIM true
  let hit := claimState s == cCLAIMING || claimState s == cGRANTED
  let s := setTxEnable s false
  if hit then
    let s := ((s.set R.PAIR_STAT.CLAIM_STATE cCOLLIDED).bump R.PAIR_CNT1.COLLISIONS).raise E.PAIR_COLLIDE 0
    { s.mark .collided with pair := { s.pair with unresolved := false } }
  else pairSettle s

/-- CLAIM_IN_RELEASED: the peer lets its claim go (R547, R550). -/
def claimInReleased (s : State) : State :=
  if !claimIn s then s
  else
    let s := s.setB R.PAIR_STAT.PEER_CLAIM false
    let s := setPath (setPath s false false) true false
    let s := claimSettle (faultEdges s)
    let s :=
      if claimState s = cBACKOFF then toClaiming s true
      else if claimState s = cCOLLIDED && actsPos s == 0 then toClaiming s s.pair.viaRelease
      else s
    pairSettle s

/-- CLAIM_GRANT: CLAIM_IN_N has been deasserted for 1 µs (R545, R550). -/
def claimGrant (s : State) : State :=
  if claimState s = cCLAIMING && !claimIn s && decide (1000 ≤ s.age .claim) then
    let s := (s.set R.PAIR_STAT.CLAIM_STATE cGRANTED).bump R.PAIR_CNT1.TAKEOVERS
    let s := { s with pair := { s.pair with req := false } }
    let s := s.raise E.PAIR_GRANT (b2n s.pair.viaRelease)
    pairSettle (setTxEnable s true)
  else s

/-- COLLISION_BACKOFF: 10 µs in COLLIDED (R550). -/
def collisionBackoff (s : State) : State :=
  if claimState s = cCOLLIDED && actsPos s == 1 && decide (10000 ≤ s.age .collided) then
    backoffCheck (toBackoff ((dropClaim s).raise E.PAIR_RELEASE 5) true)
  else s

/-- COLLISION_UNRESOLVED: 100 µs in COLLIDED. -/
def collisionUnresolved (s : State) : State :=
  if claimState s = cCOLLIDED && !s.pair.unresolved && decide (100000 ≤ s.age .collided) then
    ({ s with pair := { s.pair with unresolved := true } }).raise E.PAIR_COLLIDE 256
  else s

/-- KICK by a voted write (R554). -/
def kick (s : State) : State := pairSettle { s.mark .kick with pair := { s.pair with wdog := false } }

/-- WDOG_EXPIRY: KICK_MS have passed without a KICK while the control channels run (R554). -/
def wdogExpiry (s : State) : State :=
  let n := s.get R.PAIR_TIMERS.KICK_MS
  if n = 0 || !s.ctl.started || s.frozen || decide (s.age .kick < 1000000 * n) then s else pairSettle { s with pair := { s.pair with wdog := true } }

/-- PAIR_RELEASE with its key (R553). -/
def pairRelease (s : State) (key : Nat) : State := if key = 0x5EED then pairSettle (releaseClaim s 3) else s

/-- CLAIM_INHIBIT is written (R549, R553). -/
def claimInhibit (s : State) (on : Bool) : State := pairSettle (s.setB R.PAIR_CMD.CLAIM_INHIBIT on)

/-- PIN_READBACK_MISMATCH: the level read back differs for 1 µs, or agrees again (R548). -/
def readback (s : State) (claim bad : Bool) : State :=
  pairSettle { s with pair := if claim then { s.pair with claimSense := bad } else { s.pair with hbSelf := bad } }

/-! State synchronisation (R557). -/

/-- The transmit window. -/
def syncTxBase : Nat := 0x40074000
/-- The receive window. -/
def syncRxBase : Nat := 0x40078000

/-- SYNC_SEND: the transmit window goes out as one SYNC transfer while the port is UP. -/
def syncSend (s : State) : State :=
  if podUp s (peerPort s) then
    let bytes := (List.range 4096).flatMap (fun i => leBytes 4 (s.get (wordAt (syncTxBase + 4 * i))))
    let img := List.filter (fun (p : Nat × Nat) => decide (syncTxBase * 64 ≤ p.1 ∧ p.1 < syncRxBase * 64)) s.regs
    let gen := s.get R.PAIR_SYNC.TX_GEN
    let s := { s with pair := { s.pair with syncOut := img } }
    sendTransfer (s.set R.PAIR_SYNC.TX_GEN (gen + 1)) (peerPort s) 0x11 gen gen bytes []
  else s

/-- SYNC_PERIOD_SEND: the period has run out. -/
def syncPeriod (s : State) : State :=
  let n := s.get R.PAIR_CFG.SYNC_PERIOD
  if n = 0 then s
  else match s.lap .syncTx (1000000 * n) with
    | some s => syncSend s
    | none => s

/-- The words of a byte string, as a window holds them. -/
def windowOf (base : Nat) (bytes : List Nat) : Map Nat :=
  (List.range (bytes.length / 4)).filterMap (fun (i : Nat) =>
    let w := ofLe ((bytes.drop (4 * i)).take 4)
    if w = 0 then none else some ((base + 4 * i) * 64, w))

/-- A SYNC transfer has come in whole: it replaces the receive window. -/
def syncReceive (s : State) (x : PodRx) : State :=
  if x.len ≠ 1024 then s
  else
    let m : Map Nat := Map.restore (syncRxBase * 64) ((syncRxBase + 0x4000) * 64) (windowOf syncRxBase x.data) s.regs
    let s := { s with regs := m }
    ((s.set R.PAIR_SYNC.RX_GEN (x.addr % 256)).setB R.PAIR_SYNC.RX_VALID true).raise E.PAIR_SYNC (x.addr % 256)

end Sys2Proof.Machine
end

