-- ==== Sys2Proof/Machine/Monitor.lean ====
section
/-! DEFINITION. Rails, the temperature readings and what follows from them short of the shutdown, and the monitor converter
(R585, R594 to R597, R601 to R606). -/

namespace Sys2Proof.Machine

open Sys2Proof

/-! Rails (R585). -/

/-- RAIL_FAULT: a rail that was good has been out of tolerance for 2 µs. -/
def railFault (s : State) (r : Nat) : State :=
  if 10 ≤ r || !bitOf (s.get R.PWR_RAIL.GOOD) r then s
  else
    let s := s.set R.PWR_RAIL.GOOD (clrBit (s.get R.PWR_RAIL.GOOD) r)
    (s.set R.PWR_RAIL.LATCH (setBit (s.get R.PWR_RAIL.LATCH) r)).raise E.RAIL_FAULT r

/-- RAIL_WITHIN_TOLERANCE: the rail has returned. -/
def railGood (s : State) (r : Nat) : State :=
  if 10 ≤ r then s else s.set R.PWR_RAIL.GOOD (setBit (s.get R.PWR_RAIL.GOOD) r)

/-! Temperature (R594 to R597). Readings are in 1/16 °C. -/

/-- The band after a reading; the first one sets it without hysteresis (R596). -/
def bandOf (first : Bool) (old : Nat) (r : Int) : Nat :=
  if r > 1280 then 2
  else if r < 320 then 0
  else if first then 1
  else if old = 0 && decide (r < 368) then 0
  else if old = 2 && decide (r > 1232) then 2
  else 1

/-- An indication that sets at `hi` or more and clears at `lo` or less. -/
def hystOf (was : Bool) (hi lo r : Int) : Bool := if r ≥ hi then true else if r ≤ lo then false else was

/-- The throttle indication follows the temperature and THROTTLE_TEST, and both carriers follow it (R597, R154, R241). -/
def throttleSettle (s : State) : State :=
  let test := s.on R.THERM_CTRL.THROTTLE_TEST
  let on := s.pwr.throttleHot || test
  if s.on R.PWR_STAT.THROTTLE = on then s
  else
    let s := (s.setB R.PWR_STAT.THROTTLE on).raise E.THERM_THROTTLE (b2n on + 256 * b2n test)
    [Carrier.A, .B].foldl (fun (s : State) (c : Carrier) => fecThrottle (rxThrottle s c) c) s

/-- THROTTLE_TEST is written. -/
def throttleTest (s : State) (on : Bool) : State := pairSettle (throttleSettle (s.setB R.THERM_CTRL.THROTTLE_TEST on))

/-- A reading of the sensor, none for a diode that is open or shorted (R594 to R597). -/
def sensorReading (s : State) (reading : Option Int) : State :=
  let r : Int := (reading.map (clampSigned 16)).getD 32767
  let fault := reading.isNone
  let s := if fault && !s.on R.PWR_STAT.SENS_FAULT then (s.setB R.PWR_STAT.SENS_FAULT true).raise E.THERM_SENSOR 0 else s
  let s := s.set R.THERM_TEMP.TEMP (ofSigned 16 r)
  let s := if toSigned 16 (s.get R.THERM_TEMP.TMAX) < r then s.set R.THERM_TEMP.TMAX (ofSigned 16 r) else s
  let old := s.get R.PWR_STAT.BAND
  let band := bandOf (!s.pwr.seen) old r
  let s := if band = old then s else (s.set R.PWR_STAT.BAND band).raise E.THERM_BAND band
  let warn := hystOf (s.on R.PWR_STAT.WARN) 1600 1552 r
  let s := if s.on R.PWR_STAT.WARN = warn then s else (s.setB R.PWR_STAT.WARN warn).raise E.THERM_WARN (b2n warn)
  throttleSettle { s with pwr := { s.pwr with
    seen := true
    throttleHot := hystOf s.pwr.throttleHot 1728 1664 r
    hot := if r ≥ 1888 then min 2 (s.pwr.hot + 1) else 0
    cool := if r < 1440 then min 10000 (s.pwr.cool + 1) else 0 } }

/-- The thermal shutdown condition: two readings of 118 °C or more in a row (R598). -/
def tooHot (s : State) : Bool := s.pwr.hot == 2

/-- The condition that RESET needs to be left (R599). -/
def coolEnough (s : State) : Bool :=
  s.pwr.seen && !s.on R.PWR_STAT.SENS_FAULT && decide (toSigned 16 (s.get R.THERM_TEMP.TEMP) < 1440)

/-- THERMTRIP_N: low in THERMAL-OFF and in RESET while R599 holds the device there, high otherwise (R600). -/
def thermtripN (s : State) : Bool := !(s.dev == stTHERMALOFF || s.dev == 0 && !coolEnough s)

/-! The monitor converter (R601 to R606). -/

/-- The start check of R602. -/
def madcCfgOk (s : State) : Bool :=
  decide (s.get R.MADC_CFG.RATE ≤ 12 ∧ 1 ≤ s.get R.MADC_CFG.ORDER ∧ s.get R.MADC_CFG.ORDER ≤ 5)

/-- The time between results at the output rate of R602, in ns. -/
def madcOdr (s : State) : Nat :=
  10 ^ 9 / 100 * ([40, 20, 10, 4, 2, 1].getD (s.get R.MADC_CFG.RATE) 0) +
  [4000000, 2000000, 1000000, 500000, 250000, 125000, 62500].getD (s.get R.MADC_CFG.RATE - 6) 0 * b2n (decide (6 ≤ s.get R.MADC_CFG.RATE))

/-- The time to the next result: the filter settles after a start, a change of channel and a calibration command, and for every
result in single-cycle mode (R603, R605). -/
def madcPeriod (s : State) : Nat :=
  let settles := s.on R.MADC_CFG.SINGLE || !s.on R.MADC_STAT.SETTLED || (s.pwr.cal.isSome && s.pwr.calN == 0)
  if settles then s.get R.MADC_CFG.ORDER * madcOdr s else madcOdr s

/-- A calibration in progress is given up (R605). -/
def madcAbandon (s : State) : State :=
  if s.pwr.cal.isSome then
    ({ s with pwr := { s.pwr with cal := none, calSum := 0, calN := 0 } }.setB R.MADC_STAT.CAL_BUSY false).setB
      R.MADC_STAT.CAL_ERR true
  else s

/-- MADC_START: RUN is set; the check, then conversion of the channel in MADC_CH (R602, R603). -/
def madcTryStart (s : State) : State :=
  let s := (s.set (runF .madc) 1).unwait .madc
  if s.running .madc then s
  else if !madcCfgOk s then (s.setB R.MADC_STAT.CFG_ERR true).raise E.MADC_CFG_ERR 0
  else
    let s := ((s.set (runningF .madc) 1).setB R.MADC_STAT.CFG_ERR false).setB R.MADC_STAT.SETTLED false
    (s.set R.MADC_STAT.CH_ACT (s.get R.MADC_CH.CH)).mark .madc

/-- MADC_RUN_CLEAR (R605). -/
def madcStop (s : State) : State := madcAbandon ((s.set (runF .madc) 0).set (runningF .madc) 0)

/-- The correction of R606. -/
def madcCorrect (raw ofs : Int) (gain : Nat) : Int := clampSigned 24 (divRoundI ((raw - ofs) * gain) (2 ^ 22))

/-- A settled raw result is corrected and delivered; a calibration takes the raw one (R603 to R606). -/
def madcDeliver (s : State) (raw : Int) : State :=
  let raw := clampSigned 24 raw
  let ch := s.get R.MADC_STAT.CH_ACT
  let v := madcCorrect raw (toSigned 24 (s.get (R.MADC_OFS.OFS.ix ch))) (s.get (R.MADC_GAIN.GAIN.ix ch))
  let s := if s.on R.MADC_DATA.NEW then s.setB R.MADC_DATA.OVR true else s
  let s := (((s.setB R.MADC_STAT.SETTLED true).set R.MADC_DATA.DATA (ofSigned 24 v)).set R.MADC_DATA.CH ch).setB
    R.MADC_DATA.NEW true
  if s.pwr.cal.isSome && decide (s.pwr.calN < 8) then
    { s with pwr := { s.pwr with calSum := s.pwr.calSum + raw, calN := s.pwr.calN + 1 } }
  else s

/-- MADC_RESULT: a result at its time (R603). -/
def madcResult (s : State) (raw : Int) : State :=
  if !s.running .madc then s
  else match s.lap .madc (madcPeriod s) with
    | some s => madcDeliver s raw
    | none => s

/-- MADC_CH_WRITE (R604, R605). -/
def madcChannel (s : State) (ch : Nat) : State :=
  let s := s.set R.MADC_CH.CH ch
  let s := (madcAbandon s).setB R.MADC_STAT.SETTLED false
  if s.running .madc then (s.set R.MADC_STAT.CH_ACT (s.get R.MADC_CH.CH)).mark .madc else s

/-- CAL_ZERO and CAL_FS (R605). -/
def madcCal (s : State) (fs : Bool) : State :=
  if !s.running .madc || s.pwr.cal.isSome then s
  else { (s.setB R.MADC_STAT.CAL_BUSY true).mark .madc with pwr := { s.pwr with cal := some fs, calSum := 0, calN := 0 } }

/-- A calibration command ends. -/
def madcCalEnd (s : State) (ch : Nat) (ok : Bool) : State :=
  let s := ({ s with pwr := { s.pwr with cal := none, calSum := 0, calN := 0 } }.setB R.MADC_STAT.CAL_BUSY false).setB
    R.MADC_STAT.CAL_ERR (!ok)
  s.raise E.MADC_CAL (b2n ok + 16 * ch)

/-- MADC_CAL_DONE: eight settled raw results have been averaged (R605). -/
def madcCalDone (s : State) : State :=
  if s.pwr.calN < 8 then s
  else
    let ch := s.get R.MADC_STAT.CH_ACT
    let mean := divRoundI s.pwr.calSum 8
    match s.pwr.cal with
    | none => s
    | some false => madcCalEnd (s.set (R.MADC_OFS.OFS.ix ch) (ofSigned 24 mean)) ch true
    | some true =>
      let d := mean - toSigned 24 (s.get (R.MADC_OFS.OFS.ix ch))
      let gain := divRound (s.get R.MADC_FS.FS_CODE * 2 ^ 22) d.toNat
      if d ≤ 0 || gain < 0x200000 || 0x800000 < gain then madcCalEnd s ch false
      else madcCalEnd (s.set (R.MADC_GAIN.GAIN.ix ch) gain) ch true

end Sys2Proof.Machine
end

