-- ==== Sys2Proof/Machine/Blocks.lean ====
section
/-! DEFINITION. Starting, stopping and resetting blocks: RUN (R13, R35, R628, R665, R666, R672), the carrier modes (R32 to R35),
SOFT_RESET (R13, R14, R670, R671), DOM_RST (R428). -/

namespace Sys2Proof.Machine

open Sys2Proof

/-! RUN. -/

/-- The state of a carrier's optics record (R627). -/
def idState (s : State) (c : Carrier) : Nat := match c with | .A => s.get R.ID_STAT.STATE_A | .B => s.get R.ID_STAT.STATE_B

/-- A start that R628 refuses: the optics record of the carrier is not GOOD and its OVR bit is 0. -/
def idRefuses (s : State) (b : Blk) : Bool :=
  match blkCarrier b with
  | some c => idState s c != 2 && !bitOf (s.get R.ID_CTRL.OVR) c.num
  | none => false

/-- A start without checks, once the traffic clock comes from its PLL (R13, R672). -/
def plainStart (s : State) (b : Blk) : State :=
  if s.clockReady b then (s.unwait b).set (runningF b) 1 else s.wait b

/-- The start that a block makes once RUN reads 1, by the rules of its chapter. -/
def tryStart (s : State) (b : Blk) : State :=
  match b with
  | .tx c => txTryStart s c
  | .conv c => convTryStart s c
  | .rxdsp c => rxTryStart s c
  | .dawn c => dawnTryStart s c
  | .fec c => fecTryStart s c
  | .framer c => frmTryStart s c
  | .cipher c => ciphTryStart s c
  | .madc => madcTryStart s
  | .client | .flow | .store | .lanes | .pod => plainStart s b
  | _ => s

/-- What other blocks show of a block that starts or stops (R248, R342). -/
def carrierFollow (s : State) (b : Blk) : State :=
  match blkCarrier b with
  | some c => replAll (fecNeighbours s c)
  | none => s

/-- STORE_ASSIST is admitted with a start of the Carrier A FRAMER (R374). -/
def assistFollow (before s : State) (b : Blk) : State :=
  if b = .framer .A && !before.running b && s.running b then
    (if inDual s && s.onC .A R.FRM_DUAL.STORE_ASSIST then assistStart s else assistEnd s)
  else s

/-- The start checks are made, and the neighbours follow. -/
def startNow (s : State) (b : Blk) : State := carrierFollow (assistFollow s (tryStart s b) b) b

/-- RUN is set. A carrier sub-block in BOOT waits (R39); a block that is stopping starts after its stop (R666); a block
without a good optics record refuses (R628); one that SOFT_RESET holds, whose BLK_CTRL is still written (R14), waits for the end
of the reset. -/
def runSet (s : State) (b : Blk) : State :=
  if alwaysRuns b || s.runBit b then s
  else if idRefuses s b then s.raise E.ID_REFUSED (blkInstanceNo b)
  else
    let s := s.set (runF b) 1
    if s.running b then s
    else if s.on (resettingF b) || s.dev = stBOOT && (blkCarrier b).isSome then s.wait b
    else startNow s b

/-- A stop without a stop point. -/
def plainStop (s : State) (b : Blk) : State := ((s.set (runF b) 0).unwait b).set (runningF b) 0

/-- The stop that a block makes, by the rules of its chapter. -/
def stopBlk (s : State) (b : Blk) : State :=
  match b with
  | .tx c => s.clearRun (.tx c)
  | .conv c => convStop s c
  | .rxdsp c => rxStop s c
  | .dawn c => dawnStop s c
  | .fec c => fecStop s c
  | .framer c => (fun (s : State) => if c = .A then assistEnd s else s) (frmStop s c)
  | .cipher c => ciphStop s c
  | .madc => madcStop s
  | .store => storeRunClear s
  | .client | .flow | .lanes | .pod => plainStop s b
  | _ => s

/-- RUN is cleared. -/
def runClear (s : State) (b : Blk) : State :=
  if alwaysRuns b || !s.runBit b then s else carrierFollow (stopBlk s b) b

/-- RUN takes a value. -/
def runWrite (s : State) (b : Blk) (on : Bool) : State := if on then runSet s b else runClear s b

/-- A block is stopped at once, wherever its stop point is (R14, R588, R590). -/
def forceStop (s : State) (b : Blk) : State :=
  if alwaysRuns b then s
  else
    let s := runClear s b
    let s := if b = .store then (List.range 256).foldl (fun s r => if ringArmed s r then ptrSave s r else s) s else s
    let s := if s.running b && s.stopping b then
        (match b with | .tx c => txStopDone s c | _ => s.stopPoint b) else s
    carrierFollow { (plainStop s b) with stops := s.stops.filter (· ≠ b) } b

/-- DEFERRED_START: a stop is over and RUN reads 1 (R666). -/
def deferredStart (s : State) (b : Blk) : State :=
  if s.waits b && s.runBit b && !s.running b && !s.stopping b && !s.on (resettingF b) &&
    !(s.dev = stBOOT && (blkCarrier b).isSome) then startNow s b else s

/-- BLOCK_CLOCK_START: the traffic clock of a waiting block has changed over to its PLL (R672). -/
def clockStart (s : State) (b : Blk) : State := if s.clockReady b then deferredStart s b else s

/-- The waiting starts of the carrier sub-blocks are released; BOOT holds them (R35, R39). -/
def releaseStarts (s : State) : State :=
  if s.dev = stBOOT then s
  else (subBlocks .A ++ subBlocks .B).foldl (fun s b => if s.waits b && !s.running b && !s.on (resettingF b) then startNow s b else s) s

/-! Carrier modes (R32 to R35). -/

/-- The modes of the two carriers need each other and do not agree (R35). -/
def modesClash (s : State) : Bool :=
  let dual := fun (c : Carrier) => s.mode c == mDUAL
  let regen := fun (c : Carrier) => s.mode c == mREGEN && !s.on (R.SYS_CMODE.REGEN_XDEV.ix c.num)
  dual .A != dual .B || regen .A != regen .B

/-- MODE_ERR in both registers. -/
def setModeErr (s : State) (on : Bool) : State :=
  (s.setB (R.SYS_CMODE.MODE_ERR.ix 0) on).setB (R.SYS_CMODE.MODE_ERR.ix 1) on

/-- What follows from the modes: the source of the gain codes (R115), line rates, framing, maintenance, health (R415). -/
def modesFollow (s : State) : State :=
  let s := bypassFollow (bypassFollow (tiaFollow (tiaFollow s .A) .B) .A) .B
  let s := dualFollow (mapTotals s)
  let s := frmRefresh (frmRefresh (pllRatesAll s) .A) .B
  pairSettle (replAll (fecNeighbours (fecNeighbours s .A) .B))

/-- The check made at a write of a mode register (R35). -/
def modeCheck (s : State) : State :=
  if modesClash s then modesFollow ((setModeErr s true).raise E.MODE_MISMATCH (mismatchData s))
  else
    let was := s.modeErr
    let s := modesFollow (setModeErr s false)
    if was then releaseStarts s else s

/-- SYS_CMODE_WRITE: a write of the mode register of a carrier (R33, R35). -/
def cmodeWrite (s : State) (c : Carrier) (v : Nat) : State :=
  let fs := [R.SYS_CMODE.MODE.ix c.num, R.SYS_CMODE.BEXA_BURST.ix c.num, R.SYS_CMODE.REGEN_XDEV.ix c.num]
  let val := fun (f : Fld) => bitsOf v (f.lsb + f.width - 1) f.lsb
  if (subBlocks c).any s.running then
    if fs.all (fun f => s.get f == val f) then modeCheck s else haltedDiscard s .sys (R.SYS_CMODE.MODE.ix c.num).addr
  else modeCheck (fs.foldl (fun s f => s.set f (val f)) s)

/-! SOFT_RESET (R13, R14). -/

/-- Every register key that satisfies `p` returns to its reset value, and its shadow copy is discarded. -/
def restoreWhere (s : State) (p : Nat → Bool) : State :=
  let kept : Map Nat := s.regs.filter (fun e => !p e.1)
  let back : Map Nat := R.resets.filter (fun e => p e.1)
  { s with
    regs := back.foldl (fun (m : Map Nat) e => Map.set m e.1 e.2) kept
    shadow := s.shadow.filter (fun e => !p e.1) }

/-- The elements of a field or an array of fields. -/
def Fld.elems (f : Fld) : List Fld := (List.range (max 1 f.count)).map f.ix

/-- Fields return to their reset values. -/
def resetFields (s : State) (fs : List Fld) : State :=
  fs.foldl (fun s f => f.elems.foldl (fun s g => s.set g (resetValue g)) s) s

/-- The fields of a block that its soft reset returns: all but RO fields, which show the device as it stands. -/
def writable (b : Blk) : List Fld := (rowsOwn b).filter (fun f => f.acc != .ro)

/-- The header fields that a soft reset returns in a block that always runs (R665). -/
def headerRest (b : Blk) : List Fld := [cfgDiscardF b, commitReqF b]

/-- A key of the Seed table of a carrier (R197). -/
def inSeeds (c : Carrier) (k : Nat) : Bool :=
  decide ((0x80000000 + carrierStep * c.num) * 64 ≤ k ∧ k < (0x80000000 + carrierStep * (c.num + 1)) * 64)

/-- The ports of a Pod block that is reset go down, with all that hangs on them (R13, R397). -/
def portsDrop (s : State) (b : Blk) : State :=
  match b with
  | .pod => (List.range 6).foldl (fun s k => podDown (s.setB (R.POD_PORT.EN.ix k) false) k) s
  | _ => s

/-- The state of a block beside its registers returns to its reset value; lanes whose enable bit is reset go off; final
seconds that are not yet with the ledger stay (R287). -/
def hiddenReset (s : State) (b : Blk) : State :=
  match b with
  | .tx c => s.setTxh c .reset
  | .conv c => s.setCvh c .reset
  | .rxdsp c => s.setRxh c .reset
  | .dawn c => restoreWhere (s.setDh c { DawnH.reset with msBase := s.time.up }) (inSeeds c)
  | .fec c => s.setFh c .reset
  | .framer c =>
    let h := s.mh c
    s.setMh c { FrmH.reset with
      secs := h.secs, neUa := h.neUa, feUa := h.feUa, neErr := h.neErr, feErr := h.feErr, blocks := h.blocks
      neDef := h.neDef, feDef := h.feDef, secForced := h.secForced }
  | .cipher c => bypassFollow (ciphErase s c) c
  | .client => { s with client := .reset }
  | .store => { s with store := .reset }
  | .lanes => lanesSettle s
  | .pod => lanesSettle { s with link := { s.link with ports := [] } }
  | _ => s

/-- A soft reset of a block that stops: RUN clears, its fields and what it holds return to their reset values. -/
def blockReset (s : State) (b : Blk) : State :=
  (hiddenReset (restoreWhere (portsDrop (forceStop s b) b) (inBlk b)) b).commitPassed b

/-- The muxes' sources after SEL has changed without a write. -/
def muxesFollow (s : State) : State :=
  (List.range 8).foldl (fun s n =>
    if s.get (R.CLK_MUX.SEL.ix n) = s.get (R.CLK_MUX.CUR.ix n) then s else s.setB (R.CLK_MUX.SWITCHING.ix n) true) s

/-- RO fields of CLK that hold results and latches rather than the state of a clock. -/
def clkResults : List Fld :=
  [R.CLK_XO_STAT.XO_FAIL, R.CLK_DPLL_STAT.HIST_VALID, R.CLK_PHASE.PHASE_PS, R.CLK_DUSK_FREQ.FREQ, R.FMEAS_CTRL.BUSY,
   R.FMEAS.COUNT]

/-- RO fields of HOSTIF that hold the outcome of a command. -/
def hostResults : List Fld :=
  [R.MBOX_H2S.FULL, R.MBOX_S2H.FULL, R.HOST_ERR.OFFSET, R.DMA_CTRL.BUSY, R.DMA_CTRL.STATUS, R.HOST_LC.LC_REJ, R.SPI_CMD.BUSY,
   R.HOST_BOOT.SRC, R.HOST_BOOT.SLOT, R.HOST_BOOT.LAST_ERR]

/-- PAIR returns to its reset values; the straps, the levels of its lines and the claim seen of the peer stay, and a claim held is
given up without an event (R13, R545). -/
def pairReset (s : State) : State :=
  let p := s.pair
  let s := dropClaim (resetFields s (writable .pair ++
    [R.PAIR_STAT.CLAIM_STATE, R.PAIR_STAT.PIN_UP, R.PAIR_STAT.POD_UP, R.PAIR_STAT.WIRING_ERR, R.PAIR_STAT.STRAP_EQ,
     R.PAIR_PEER.PEER, R.PAIR_SYNC.RX_VALID, R.PAIR_SYNC.RX_GEN, R.PAIR_SYNC.TX_GEN]))
  let s := [Timer.beat, .syncTx, .kick].foldl State.mark s
  pairSettle { s with pair := { PairH.reset with pos := p.pos, pref := p.pref, hbSelf := p.hbSelf, claimSense := p.claimSense } }

/-- A soft reset of a block that always runs (R665): its fields return to their reset values, but for those that show the device
as it stands (log entry 45); TIME, SCHED, EVENT, PWR and the ledger mailbox as their chapters say (R564, R670, R671). -/
def runningReset (s : State) (b : Blk) : State :=
  match b with
  | .sys => modeCheck (resetFields s (writable .sys ++ headerRest .sys ++ [R.SYS_STATE.BOOT_FAIL]))
  | .clk =>
    let s := muxesFollow (resetFields s (writable .clk ++ clkResults ++ headerRest .clk))
    [0, 1, 2].foldl refRestart { s with clk := { s.clk with pairs := List.replicate 6 .reset, absorbing := false } }
  | .time =>
    let t := s.time
    let s := restoreWhere s (fun k => inBlk .time k && decide (blkLo .time + 0x400 ≤ k))
    let s := resetFields s (rowsOwn .time ++ headerRest .time)
    dpllFollow { s with time := { TimeH.reset with aon := t.aon, up := t.up, ppsOut := t.ppsOut, frames := t.frames, marks := t.marks } }
  | .sched => { resetFields s (rowsOwn .sched ++ headerRest .sched) with sched := .reset }
  | .pwr =>
    throttleSettle (resetFields s [R.THERM_CTRL.THROTTLE_TEST, R.PWR_DOM_REJ.REJ, R.PWR_CGATE_TO.TIMEOUT, R.PWR_RAIL.LATCH,
      R.THERM_TEMP.TMAX])
  | .event =>
    let s := resetFields s [R.EV_CTRL.OWNER, R.EV_STAT.LOST_TOTAL, R.EV_STAT.HWM, R.EV_MASK.MASK]
    { s with ev := ⟨[], none, none⟩ }
  | .pair => pairReset (restoreWhere (resetFields s (headerRest .pair)) (fun k => decide (blkLo .pair + 0x4000 * 64 ≤ k) && inBlk .pair k))
  | .perf => { restoreWhere (resetFields s (headerRest .perf)) (fun k => inBlk .perf k && decide (blkLo .perf + 0x400 ≤ k)) with ctl := { s.ctl with hist := [] } }
  | .ledger => resetFields s [R.LDG_REF_LO.REF, R.LDG_REF_HI.REF, R.LDG_RES.STATUS, R.LDG_RES.BOOKING]
  | .hostif =>
    let s := resetFields s (writable .hostif ++ hostResults ++ headerRest .hostif)
    restoreWhere s (fun k => decide (blkLo .hostif + 0x1000 * 64 ≤ k ∧ k < blkLo .hostif + 0x3120 * 64))
  | _ => s

/-- SOFT_RESET is written: the reset takes hold, and is in progress until SOFT_RESET_DONE. -/
def softReset (s : State) (b : Blk) : State :=
  let s := if alwaysRuns b then (runningReset s b).commitPassed b else blockReset s b
  (s.set (softResetF b) 1).set (resettingF b) 1

/-- The mux whose clock the registers of a block run on (R22, R427, R668). -/
def regMux (s : State) (b : Blk) : Option Nat :=
  match b with
  | .tx c => some (4 + 2 * c.num)
  | .conv c => some (if s.domOn (adcDom c) then 5 + 2 * c.num else 4 + 2 * c.num)
  | .fec c => some (if s.domOn (dacDom c) then 4 + 2 * c.num else 5 + 2 * c.num)
  | .rxdsp c | .dawn c => some (5 + 2 * c.num)
  | .framer _ | .cipher _ => some 1
  | .client | .flow | .lanes => some 2
  | .store | .pod => some 3
  | _ => none

/-- DOM_RST of the block's mux holds it in SOFT_RESET (R428). -/
def heldReset (s : State) (b : Blk) : Bool :=
  match regMux s b with
  | some n => n != 0 && s.on (R.CLK_MUX.DOM_RST.ix n)
  | none => false

/-- SOFT_RESET_DONE: 64 cycles have passed (R13); a start written meanwhile is made (R14). -/
def softResetDone (s : State) (b : Blk) : State :=
  if heldReset s b then s else deferredStart ((s.set (softResetF b) 0).set (resettingF b) 0) b

/-- DOM_RST of a mux is written: every block on its clock is held in SOFT_RESET while it is 1 (R428). -/
def domRstWrite (s : State) (n : Nat) (on : Bool) : State :=
  if n = 0 then s
  else
    let s' := s.setB (R.CLK_MUX.DOM_RST.ix n) on
    if on then (allBlks.filter (fun b => regMux s b == some n)).foldl softReset s' else s'

/-! Commits (R16 to R18). -/

/-- The shadow copies of a block transfer, with what its chapter adds (R61, R249). -/
def transferBlk (s : State) (b : Blk) : State :=
  match b with
  | .tx c => txTransfer s c
  | .rxdsp c => rxTransfer s c
  | .cipher c => ciphTransfer s c
  | .framer c => frmRefresh (s.transfer b) c
  | _ => s.transfer b

/-- The DSP clock on which a block's registers run is there and comes from its PLL, from whose changeover the tick counts
(R18). -/
def tickRuns (s : State) (b : Blk) : Bool :=
  match regMux s b with
  | some n =>
    let d := match b with | .conv c => if s.domOn (adcDom c) then adcDom c else dacDom c | _ => blkDom b
    s.muxOnPll n && s.domOn d && !s.domGated d
  | none => false

/-- COMMIT_TICK: the commit point of CONV, RXDSP and DAWN (R18). -/
def commitTick (s : State) (b : Blk) : State :=
  match b with
  | .conv _ | .rxdsp _ | .dawn _ =>
    if !tickRuns s b then s else (if s.commitDue b then transferBlk s b else s).commitPassed b
  | _ => s

/-- COMMIT_REQ is written (R16). -/
def commitReq (s : State) (b : Blk) : State := s.set (commitReqF b) 1

end Sys2Proof.Machine
end

