-- ==== Sys2Proof/Machine/Power.lean ====
section
/-! DEFINITION. Power domains, clock gates, Night, thermal shutdown and the device's RESET (R30, R39 to R43, R492, R493, R585 to
R600, R669). -/

namespace Sys2Proof.Machine

open Sys2Proof

/-! Where a register lies. -/

/-- The power domain of the register at an address of a block (R22, R23). -/
def regDom (b : Blk) (addr : Nat) : Nat :=
  let o := addr % 0x10000
  match b with
  | .conv c => if o = 0x014 ∨ o = 0x068 ∨ (0x080 ≤ o ∧ o < 0x0A8) then dacDom c else adcDom c
  | .lanes => if o < 0x1000 then dSW else if o < 0x1000 + 12 * 0x40 then dCLW else dCLE
  | _ => blkDom b

/-- The domain of a register key; domain 22 stands for a key that belongs to none. -/
def keyDom (k : Nat) : Nat :=
  match blkAt (k / 64) with
  | some b => regDom b (k / 64)
  | none => 22

/-! Switching a domain off. -/

/-- Windows that NIGHT retains beside the fields with an update class: trail trace identifiers and slot maps (R591; log
entry 48). -/
def retainedWindow (b : Blk) (o : Nat) : Bool :=
  match b with
  | .framer _ => inWin o 0x100 0x80
  | .client => inWin o 0x8000 0x800
  | _ => false

/-- NIGHT retains the value at a key (R591): a configuration field other than RUN, or a retained window. -/
def retained (k : Nat) : Bool :=
  match blkAt (k / 64) with
  | none => false
  | some b =>
    let addr := k / 64
    retainedWindow b (addr % 0x10000) ||
    ((rowsOwn b).any (fun f => f.upd != .none && f.lsb == k % 64 && (f.elem addr).isSome) && addr % 0x10000 ≥ 0x10) ||
    k == (cpSelF b).key

/-- The registers of a domain lose what they hold; NIGHT keeps the configuration in retention cells (R587, R591). -/
def domRegsOff (s : State) (d : Nat) (night : Bool) : State :=
  let mine := fun k => keyDom k == d
  if night then
    let t := restoreWhere s (fun k => mine k && !retained k)
    { t with shadow := s.shadow.filter (fun e => !mine e.1 || retained e.1) }
  else restoreWhere s mine

/-- What a domain holds beside registers is lost (R43, R587). -/
def domHiddenOff (s : State) (d : Nat) : State :=
  let dac := [Carrier.A, .B].foldl (fun (s : State) (c : Carrier) =>
    if d = dacDom c then
      let h := s.cvh c
      s.setCvh c { h with
        applied := Map.restore 260 264 ([] : Map Nat) h.applied, target := Map.restore 260 264 ([] : Map Nat) h.target }
    else s) s
  let s := ((domBlks d).filter (fun b => blkDom b == d)).foldl hiddenReset dac
  let s := [Carrier.A, .B].foldl (fun (s : State) (c : Carrier) => if d = dFRM c then s.setMh c .reset else s) s
  if 2 ≤ d ∧ d ≤ 4 then { s with ctl := { s.ctl with chans := s.ctl.chans.set (d - 2) .reset } } else s

/-- Bits of ON, GATE and GATED of a domain that is off; a drain ends with it (R587). -/
def domBitsOff (s : State) (d : Nat) : State :=
  let s := s.set R.PWR_DOM_STAT.ON (clrBit (s.get R.PWR_DOM_STAT.ON) d)
  let s := (s.set R.PWR_CGATE.GATE (clrBit (s.get R.PWR_CGATE.GATE) d)).set R.PWR_CGATE_STAT.GATED
    (clrBit (s.get R.PWR_CGATE_STAT.GATED) d)
  { s with pwr := { s.pwr with drains := s.pwr.drains.filter (· ≠ d), gates := s.pwr.gates.filter (· ≠ d) } }

/-- Levels that follow a change of power or clocks. -/
def powerFollow (s : State) : State :=
  pairSettle (replAll (fecNeighbours (fecNeighbours (lanesSettle s) .A) .B))

/-- Domain `d` is switched off at once (R587, R588, R590). -/
def domOff (s : State) (d : Nat) (night : Bool) : State :=
  if !s.domOn d then s
  else
    let s := (domBlks d).foldl forceStop s
    let s := lanesSettle (domBitsOff s d)
    let s := domHiddenOff (domRegsOff s d night) d
    powerFollow (clkDomOff s d)

/-! Power-on and power-off (R586 to R588). -/

/-- The domains that PWR_DOM_EN switches. -/
def switched (d : Nat) : Bool := decide (5 ≤ d ∧ d ≤ 21)

/-- EN[d] is 1. -/
def domEn (s : State) (d : Nat) : Bool := bitOf (s.get R.PWR_DOM_EN.EN) d
/-- EN[d] takes a value. -/
def setEn (s : State) (d : Nat) (on : Bool) : State := s.set R.PWR_DOM_EN.EN (putBit (s.get R.PWR_DOM_EN.EN) d on)

/-- NIGHT and THERMAL-OFF override the configuration (R43). -/
def domsHeld (s : State) : Bool := s.dev == stNIGHT || s.dev == stTHERMALOFF || s.dev == 0

/-- The next domain ramps when none does. -/
def domNext (s : State) : State :=
  match s.pwr.ramp, s.pwr.queue with
  | none, d :: q => { s with pwr := { s.pwr with ramp := some d, queue := q } }
  | _, _ => s

/-- A domain put in its place in the queue, in ascending order (R586). -/
def queueDom : Nat → List Nat → List Nat
  | d, [] => [d]
  | d, x :: q => if d < x then d :: x :: q else if d = x then x :: q else x :: queueDom d q

/-- DOMAIN_POWER_ON (R586). While a wake powers its domains, a further one waits behind them. -/
def domPowerOn (s : State) (d : Nat) : State :=
  if !switched d || domEn s d then s
  else
    let s := setEn s d true
    if s.domOn d || s.pwr.ramp = some d || s.pwr.queue.contains d || domsHeld s then s
    else
      let q := if s.pwr.night = 2 then s.pwr.queue ++ [d] else queueDom d s.pwr.queue
      domNext { s with pwr := { s.pwr with queue := q } }

/-- Any lane of the domain is not in OFF (R587). -/
def laneOn (s : State) (d : Nat) : Bool := (List.range 48).any (fun n => laneDom n == d && (ln s n).st != 0)

/-- The request to switch off a domain that is on (R587). -/
def domOffRequest (s : State) (d : Nat) : State :=
  if s.domRuns d || laneOn s d then
    let s := setEn s d true
    (s.set R.PWR_DOM_REJ.REJ (setBit (s.get R.PWR_DOM_REJ.REJ) d)).raise E.DOM_REFUSED (d + 256)
  else ({ s with pwr := { s.pwr with drains := d :: s.pwr.drains.filter (· ≠ d) } }).mark (.drain d)

/-- DOMAIN_POWER_OFF (R587). -/
def domPowerOff (s : State) (d : Nat) : State :=
  if !switched d || !domEn s d then s
  else
    let s := setEn s d false
    let s := { s with pwr := { s.pwr with queue := s.pwr.queue.filter (· ≠ d) } }
    if s.domOn d && !domsHeld s then domOffRequest s d else s

/-- DOMAIN_POWERED: the ramp of a domain is complete (R586, R587). -/
def domPowered (s : State) (d : Nat) : State :=
  if s.pwr.ramp ≠ some d then s
  else
    let s := s.set R.PWR_DOM_STAT.ON (setBit (s.get R.PWR_DOM_STAT.ON) d)
    let s := domNext { s with pwr := { s.pwr with ramp := none } }
    let s := if domEn s d then s else domOffRequest s d
    let s := [Carrier.A, .B].foldl (fun s c => if d = dacDom c then dacPowered s c else s) s
    let s := if d = dPOD then leakRestart s else s
    tiaFollow (tiaFollow (powerFollow s) .A) .B

/-- DOMAIN_OFF_ACK: the drain has acknowledged. A set EN withdraws the request. -/
def domOffAck (s : State) (d : Nat) : State :=
  if !s.pwr.drains.contains d then s
  else
    let s := { s with pwr := { s.pwr with drains := s.pwr.drains.filter (· ≠ d) } }
    if domEn s d then s else domOff s d false

/-- DOMAIN_DRAIN_TIMEOUT: no acknowledge in the time of R492 (R587). -/
def domDrainTimeout (s : State) (d : Nat) : State :=
  if !s.pwr.drains.contains d || decide (s.age (.drain d) < ackWait s d) then s
  else
    let s := { s with pwr := { s.pwr with drains := s.pwr.drains.filter (· ≠ d) } }
    if domEn s d then s
    else
      let s := setEn s d true
      (s.set R.PWR_DOM_REJ.REJ (setBit (s.get R.PWR_DOM_REJ.REJ) d)).raise E.DOM_REFUSED d

/-- DOMAIN_FORCE_OFF (R588). -/
def domForceOff (s : State) (d : Nat) : State :=
  if !switched d then s
  else
    let s := setEn s d false
    let s := { s with pwr := { s.pwr with
      queue := s.pwr.queue.filter (· ≠ d), ramp := if s.pwr.ramp = some d then none else s.pwr.ramp } }
    domNext (domOff s d false)

/-- A write of PWR_DOM_EN: bits that rise, then bits that fall. -/
def domEnWrite (s : State) (v : Nat) : State :=
  (List.range 22).foldl (fun s d => if bitOf v d then domPowerOn s d else domPowerOff s d) s

/-! Clock gates (R492, R493). -/

/-- GATE[d] takes a value. -/
def setGate (s : State) (d : Nat) (on : Bool) : State := s.set R.PWR_CGATE.GATE (putBit (s.get R.PWR_CGATE.GATE) d on)
/-- GATED[d] takes a value. -/
def setGated (s : State) (d : Nat) (on : Bool) : State :=
  s.set R.PWR_CGATE_STAT.GATED (putBit (s.get R.PWR_CGATE_STAT.GATED) d on)
/-- TIMEOUT[d] is set and reported. -/
def gateRefused (s : State) (d : Nat) (runs : Bool) : State :=
  ((setGate s d false).set R.PWR_CGATE_TO.TIMEOUT (setBit (s.get R.PWR_CGATE_TO.TIMEOUT) d)).raise E.GATE_TIMEOUT
    (d + 256 * b2n runs)
/-- The drain for a gate of a domain ends. -/
def gateDrained (s : State) (d : Nat) : State := { s with pwr := { s.pwr with gates := s.pwr.gates.filter (· ≠ d) } }

/-- CGATE_REQUEST: GATE[d] is set. A domain that is off has nothing to gate. -/
def cgateRequest (s : State) (d : Nat) : State :=
  if !switched d || bitOf (s.get R.PWR_CGATE.GATE) d || !s.domOn d then s
  else if s.domRuns d then gateRefused s d true
  else ({ setGate s d true with pwr := { s.pwr with gates := d :: s.pwr.gates } }).mark (.cgate d)

/-- CGATE_ACK: the clocks stop. -/
def cgateAck (s : State) (d : Nat) : State :=
  if s.pwr.gates.contains d then setGated (gateDrained s d) d true else s

/-- CGATE_TIMEOUT: no acknowledge in time; the gate stays open. -/
def cgateTimeout (s : State) (d : Nat) : State :=
  if s.pwr.gates.contains d && decide (ackWait s d ≤ s.age (.cgate d)) then gateRefused (gateDrained s d) d false else s

/-- CGATE_FORCE: during a drain, the gate closes at once. -/
def cgateForce (s : State) (d : Nat) : State := cgateAck s d

/-- CGATE_CLEAR: the clocks run again. -/
def cgateClear (s : State) (d : Nat) : State :=
  if bitOf (s.get R.PWR_CGATE.GATE) d then setGated (setGate (gateDrained s d) d false) d false else s

/-- A write of PWR_CGATE. -/
def cgateWrite (s : State) (v : Nat) : State :=
  (List.range 22).foldl (fun s d => if bitOf v d then cgateRequest s d else cgateClear s d) s

/-! Night (R590 to R592). -/

/-- NIGHT_REQ (R39, R590): step 1 begins, every block of a switched domain stops. -/
def nightReq (s : State) : State :=
  if s.dev ≠ stSTANDBY then s.raise E.NIGHT_REFUSED 0
  else
    let s := s.goto stNIGHT
    let s := (s.setB R.PWR_STAT.NIGHT_BUSY true).setB R.PWR_NIGHT.WAKE_DONE false
    let s := { s with pwr := { s.pwr with night := 1, wakePend := false } }
    pairSettle ((allBlks.filter (fun b => 5 ≤ blkDom b)).foldl runClear (s.mark .night))

/-- Blocks of switched domains that are not at their stop points. -/
def notStopped (s : State) : List Blk := allBlks.filter (fun b => 5 ≤ blkDom b && s.running b)
/-- A stop point is awaited for at most 1 ms (R590). -/
def stopWaitOver (s : State) : Bool := decide (1000000 ≤ s.age .night)

/-- NIGHT_STOP_TIMEOUT: blocks that are not at their stop points are stopped at once (R590). -/
def nightStopTimeout (s : State) : State :=
  if s.pwr.night = 1 && stopWaitOver s then (notStopped s).foldl forceStop s else s

/-- The device names a source of SYSPLL for MUX0, and the switch is pending; after a loss of SYSPLL, MUX0 waits for the return of
R416 (R427, R428). -/
def mux0Sel (s : State) (sel : Nat) : State :=
  let s := s.set (R.CLK_MUX.SEL.ix 0) sel
  if s.clk.sysLost then s else s.setB (R.CLK_MUX.SWITCHING.ix 0) (sel != s.get (R.CLK_MUX.CUR.ix 0))

/-- The order in which the wake powers domains (R592). -/
def wakeOrder : List Nat := [5, 6, 10, 11, 7, 8, 9, 15, 12, 13, 14, 16, 19, 17, 18, 20, 21]

/-- The wake of R592 begins. -/
def wakeBegin (s : State) : State :=
  let s := mux0Sel (s.goto stSTANDBY) 0
  let s := s.setB R.PWR_STAT.NIGHT_BUSY true
  let s := { s with pwr := { s.pwr with
    night := 2, wakePend := false, wakeAt := s.time.aon, queue := wakeOrder.filter (domEn s), ramp := none } }
  pairSettle (domNext s)

/-- A wake condition: WAKE_REQ, or the loss of the peer's heartbeat (R39, R590). -/
def wake (s : State) : State :=
  if s.dev ≠ stNIGHT then s
  else if s.pwr.night = 1 then { s with pwr := { s.pwr with wakePend := true } }
  else wakeBegin s

/-- NIGHT_ENTRY_DONE: once every block has stopped or had its time, the lanes and the domains are off and the control clock
runs at 100 MHz (R590). -/
def nightEntryDone (s : State) : State :=
  if s.pwr.night ≠ 1 || !((notStopped s).isEmpty || stopWaitOver s) then s
  else
    let s := { s with pwr := { s.pwr with queue := [], ramp := none } }
    let s := ((List.range 22).reverse.filter switched).foldl (fun s d => domOff s d true) s
    let s := (muxChangeover (mux0Sel s 1) 0).setB R.PWR_STAT.NIGHT_BUSY false
    let s := { s with pwr := { s.pwr with night := 0 } }
    if s.pwr.wakePend then wakeBegin s else s

/-- The PLLs of a carrier domain. -/
def domPlls (d : Nat) : List Nat := [4, 5, 6, 7].filter (fun n => pllDom n == d)

/-- The wake is complete: every enabled carrier domain is on, its PLLs are locked, MUX0 is back (R592). -/
def wakeComplete (s : State) : Bool :=
  s.get (R.CLK_MUX.CUR.ix 0) == 0 &&
  (List.range 12).all (fun i => !domEn s (5 + i) || (s.domOn (5 + i) && (domPlls (5 + i)).all (pllLocked s)))

/-- WAKE_DONE (R592). -/
def wakeDone (s : State) : State :=
  if s.pwr.night ≠ 2 || !wakeComplete s then s
  else
    let us := satTo 16 (nsSince s s.pwr.wakeAt / 1000)
    let s := ((s.setB R.PWR_NIGHT.WAKE_DONE true).set R.PWR_NIGHT.WAKE_US us).setB R.PWR_STAT.NIGHT_BUSY false
    { s with pwr := { s.pwr with night := 0 } }.raise E.NIGHT_READY us

/-- A step that may have lost the pin path: the loss wakes the device from NIGHT where NIGHT_WAKE_HB asks for it (R39). -/
def hbWake (before s : State) : State :=
  if before.on R.PAIR_STAT.PIN_UP && !s.on R.PAIR_STAT.PIN_UP && s.on R.SYS_CTRL.NIGHT_WAKE_HB then wake s else s

/-! Thermal shutdown (R39, R598). -/

/-- The shutdown: every domain but PD_AON and PD_LEDG is off. -/
def thermalOff (s : State) : State :=
  if s.dev = stTHERMALOFF || s.dev = 0 then s
  else
    let s := (s.set R.THERM_LOG.TRIP_TEMP (s.get R.THERM_TEMP.TEMP)).bump R.THERM_LOG.TRIPS
    let s := { s with
      pwr := { s.pwr with night := 0, wakePend := false, queue := [], ramp := none, cool := 0 }
      ctl := { s.ctl with started := false, wfe := none }
      host := { s.host with boot := .idle } }
    let s := s.setB R.PWR_STAT.NIGHT_BUSY false
    let s := s.goto stTHERMALOFF
    let s := ((List.range 22).filter (2 ≤ ·)).foldl (fun s d => domOff s d false) s
    pairSettle (s.set R.PWR_DOM_EN.EN 0x1F)

/-- A reading with what follows: background passes (R104) and the shutdown (R598). -/
def sensorTaken (s : State) (reading : Option Int) : State :=
  let s := bgTrigger (bgTrigger (sensorReading s reading) .A) .B
  if tooHot s then thermalOff s else pairSettle s

/-- SENSOR_READING: the sensor is read every 1 ms (R594). -/
def sensorStep (s : State) (reading : Option Int) : State :=
  match s.lap .sensor 1000000 with
  | some s => sensorTaken s reading
  | none => s

/-! RESET (R30, R39, R669). -/

/-- Register fields that RESET leaves as they are: the crystal, temperature, rails, the claim line's level, fuses (R30, R41, R413,
R594, R609, R624). -/
def resetKept : List Fld :=
  [R.CLK_XO_STAT.AMP_OK, R.CLK_XO_STAT.XTD, R.PWR_STAT.BAND, R.PWR_STAT.WARN, R.PWR_STAT.SENS_FAULT, R.THERM_TEMP.TEMP,
   R.THERM_LOG.TRIPS, R.THERM_LOG.TRIP_TEMP, R.PWR_RAIL.GOOD, R.PAIR_STAT.PEER_CLAIM, R.HOST_LC.LC_STATE,
   R.HOST_LC.ROLLBACK, R.HOST_LC.FUSED, R.HOST_LC.REVOKED]

/-- An entry to RESET. -/
def enterReset (s : State) (cause : Nat) : State :=
  let r := resetKept.foldl (fun (t : State) f => t.set f (s.get f)) State.reset
  let r := { r with
    pending := s.pending
    freeCtr := s.freeCtr
    clk := { r.clk with good := s.clk.good, goodOnce := s.clk.goodOnce }
    time := { r.time with
      aon := s.time.aon
      marks := Map.put (s.time.marks.filter (fun m => m.1 = Timer.crystal.key ∨ m.1 = Timer.sensor.key)) Timer.hold.key s.time.aon }
    pwr := { r.pwr with
      hot := s.pwr.hot, seen := s.pwr.seen, cool := s.pwr.cool, throttleHot := s.pwr.throttleHot, porstLow := s.pwr.porstLow }
    ldg := { r.ldg with headA := s.ldg.headA, headB := s.ldg.headB, newerB := s.ldg.newerB, blown := s.ldg.blown }
    host := { r.host with hashes := s.host.hashes, perst := s.host.perst, boot := .idle } }
  (r.set R.SYS_STATE.STATE 0).set R.SYS_STATE.RESET_CAUSE cause

/-- PORST_LOW: PORST_N goes low (R39, R41). -/
def porstLow (s : State) : State :=
  let s := { s with pwr := { s.pwr with porstLow := true } }
  if s.dev = stTHERMALOFF || s.dev = 0 then s else enterReset s 1

/-- SYS_RESET with its key (R31, R39). -/
def sysReset (s : State) (key : Nat) : State :=
  if key % 65536 ≠ 0x5EED || s.dev = stTHERMALOFF || s.dev = 0 then s else enterReset s 2

/-- THERMAL_RESTART (R599). -/
def thermalRestart (s : State) : State :=
  if s.dev = stTHERMALOFF && decide (10000 ≤ s.pwr.cool) then enterReset s 3 else s

/-- VDD_AON_RISE: the always-on domain powers up; what only this clears is cleared (R30, R413, R595, R609). -/
def aonRise (s : State) : State :=
  let r := enterReset s 0
  let r := [R.CLK_XO_STAT.AMP_OK, R.PWR_STAT.BAND, R.PWR_STAT.WARN, R.PWR_STAT.SENS_FAULT, R.THERM_TEMP.TEMP,
    R.THERM_LOG.TRIPS, R.THERM_LOG.TRIP_TEMP].foldl (fun (t : State) f => t.set f (resetValue f)) r
  { r.setB R.CLK_XO_STAT.AMP_OK false with
    clk := { r.clk with good := false, goodOnce := false }
    time := .reset
    pwr := { r.pwr with hot := 0, seen := false, cool := 0, throttleHot := false } }

end Sys2Proof.Machine
end

