-- ==== Sys2Proof/Machine/Perf.lean ====
section
/-! DEFINITION. Performance counters and latency histograms (R500 to R503), events per command and occupancies per tick. -/

namespace Sys2Proof.Machine

open Sys2Proof

/-- Counter `n` counts at all. -/
def perfOn (s : State) (n : Nat) : Bool := s.on R.PERF_CTRL.GLOBAL_EN && s.on (R.PERF_SEL.EN.ix n)

/-- `k` events of a source: every running counter in event mode that selects it adds them (R500). -/
def perfEvent (s : State) (src k : Nat) : State :=
  if k = 0 || !s.on R.PERF_CTRL.GLOBAL_EN then s
  else (List.range 32).foldl (fun s n =>
    if perfOn s n && !s.on (R.PERF_SEL.MODE.ix n) && s.get (R.PERF_SEL.SRC.ix n) == src then
      s.addWrap (R.PERF_CNT.COUNT.ix n) k else s) s

/-- Entries waiting, or handed on and not yet executed (R474). -/
def schedOcc (s : State) : Nat := s.sched.entries.length

/-- What an occupancy source shows (R501); none for an event source or a reserved value. -/
def occupancyOf (s : State) (src : Nat) : Option Nat :=
  if src = 0x10 then some (s.getC .A R.FEC_POOL_STAT.CREDIT)
  else if src = 0x11 then some (s.getC .B R.FEC_POOL_STAT.CREDIT)
  else if src = 0x20 then some (schedOcc s)
  else if src = 0x22 then some s.ev.entries.length
  else if 0x30 ≤ src ∧ src < 0x34 then some (bufFill s (src - 0x30) / 1024)
  else if src = 0x38 then some ((List.range 16).filter (fun c => rplState s c == 3)).length
  else if 0x40 ≤ src ∧ src < 0x58 then some ((s.port (src - 0x40)).feed.bytes / 256)
  else if src = 0x60 then some (s.get R.CL_DUAL.HOLD_NS)
  else if src = 0x61 then some ((List.range 4).map (fun m => (md s m).queue.length)).sum
  else none

/-- A threshold-mode counter adds one for each of `k` control cycles in which its source exceeds N (R500). -/
def perfThreshold (s : State) (n k : Nat) : State :=
  match occupancyOf s (s.get (R.PERF_SEL.SRC.ix n)) with
  | some v => if s.get (R.PERF_THR.N.ix n) < v then s.addWrap (R.PERF_CNT.COUNT.ix n) k else s
  | none => s

/-- `k` control cycles pass: the control clock's events and the occupancies (R500, R501). -/
def perfCycles (s : State) (k : Nat) : State :=
  if !s.on R.PERF_CTRL.GLOBAL_EN then s
  else (List.range 32).foldl (fun s n =>
    if perfOn s n && s.on (R.PERF_SEL.MODE.ix n) then perfThreshold s n k else s) (perfEvent s 0 k)

/-- PERF_CLR zeroes the selected counters (R500). -/
def perfClr (s : State) (mask : Nat) : State :=
  (bitsSet 32 mask).foldl (fun s n => s.set (R.PERF_CNT.COUNT.ix n) 0) s

/-! Histograms (R502). -/

/-- The bin of a sample `v` in ns. -/
def histBin (log : Bool) (o w : Nat) (v : Int) : Nat :=
  let w := atLeast1 w
  let d := v - (o : Int)
  if d < (w : Int) then 0
  else
    let q := d.toNat / w
    if log then min 31 (Nat.log2 q + 1) else min 31 q

/-- The count of a bin, by 32 h + i; it saturates. -/
def histCount (s : State) (h i : Nat) : State :=
  let k := 32 * h + i
  let m : Map Nat := Map.set s.ctl.hist k (satTo 32 (s.ctl.hist.get k + 1))
  { s with ctl := { s.ctl with hist := m } }

/-- Histogram `h` records a source. -/
def histOn (s : State) (h src : Nat) : Bool := s.on (R.HIST_CFG.EN.ix h) && s.get (R.HIST_CFG.SRC.ix h) == src

/-- A sample of a source, in ns. -/
def histSample (s : State) (src : Nat) (v : Int) : State :=
  (List.range 8).foldl (fun s h =>
    if histOn s h src then
      histCount s h (histBin (s.on (R.HIST_CFG.LOG.ix h)) (s.get (R.HIST_ORG.O.ix h)) (s.get (R.HIST_CFG.W.ix h)) v)
    else s) s

/-- A sample whose latency the spec leaves open, drawn where a histogram records it (log entry 7). -/
def histFree (s : State) (src : Nat) : State :=
  if (List.range 8).any (fun h => histOn s h src) then histSample s.freeNext src s.free else s

/-- SNAP copies the bins of a histogram into the read window. -/
def histSnap (s : State) (h : Nat) : State :=
  (List.range 32).foldl (fun s i => s.set (wordAt (0x40080800 + 0x80 * h + 4 * i)) (s.ctl.hist.get (32 * h + i))) s

/-- CLEAR zeroes the bins of a histogram. -/
def histClear (s : State) (h : Nat) : State :=
  let m : Map Nat := s.ctl.hist.filter (fun e => e.1 / 32 ≠ h)
  { s with ctl := { s.ctl with hist := m } }

/-! Bus errors (R494). -/

/-- An access by a program (0), the host (1) or the Ubant port (2) completes with a bus error: it is counted and reported. -/
def busErr (s : State) (who addr : Nat) : State :=
  perfEvent ((s.bump R.BUS_ERR.COUNT).raise E.BUS_ERR (addr % 2 ^ 20 + 2 ^ 20 * who)) 3 1

end Sys2Proof.Machine
end

