-- ==== Sys2Proof/Machine/Ctl.lean ====
section
/-! DEFINITION. The control complex: channel SRAMs, channel registers, the voter, memory buckets, starts of the supervisor
(R476 to R490, R509 to R513, R536). -/

namespace Sys2Proof.Machine

open Sys2Proof

/-! SRAM of a channel: the running and the idle program bank and the data SRAM by address (R514), one canonical list of bytes.
A byte that nothing has written reads 0 (log entry 5). -/

/-- The byte at an address. -/
def memByte (m : List Host.Cell) (a : Nat) : BitVec 8 := (Map.find m a).getD 0

/-- That byte written; 0 needs no entry. -/
def memPut (m : List Host.Cell) (a : Nat) (v : BitVec 8) : List Host.Cell := Map.putD 0 m a v

/-- The form of an SRAM: addresses strictly rising, no entry equal to what an unlisted address reads as. -/
def Memory.wf (m : List Host.Cell) : Bool := Map.sorted m && m.all (fun c => c.2 ≠ 0)

/-- `n` bytes from `a` on, little-endian (R510). -/
def memLe (m : List Host.Cell) (a : Nat) : Nat → Nat
  | 0 => 0
  | n + 1 => (memByte m a).toNat + 256 * memLe m (a + 1) n

/-- The low `n` bytes of `v` written from `a` on. -/
def memPutLe (m : List Host.Cell) (a : Nat) : Nat → Nat → List Host.Cell
  | 0, _ => m
  | n + 1, v => memPutLe (memPut m a (BitVec.ofNat 8 v)) (a + 1) n (v / 256)

/-- `n` bytes from `a` on as a list. -/
def memBytes (m : List Host.Cell) (a n : Nat) : List Nat := (List.range n).map (fun i => (memByte m (a + i)).toNat)

/-- The end of program SRAM and the size of a bank. -/
def bankSize : Nat := 0x40000
/-- The base of data SRAM. -/
def dataLo : Nat := 0x100000
/-- The end of data SRAM. -/
def dataHi : Nat := 0x180000

/-- `n` bytes at `a` lie in program SRAM. -/
def inProg (a n : Nat) : Bool := decide (a + n ≤ 2 * bankSize)
/-- `n` bytes at `a` lie in data SRAM. -/
def inData (a n : Nat) : Bool := decide (dataLo ≤ a ∧ a + n ≤ dataHi)

/-- The control memory of a channel that holds an address: 0 and 1 the banks, 2 the data SRAM (R490). -/
def memKind (a : Nat) : Nat := if a < bankSize then 0 else if a < 2 * bankSize then 1 else 2

/-! Channels. -/

/-- A channel. -/
def chan (s : State) (m : Nat) : Chan := (s.ctl.chans[m]?).getD .reset
/-- The channels replaced. -/
def setChans (s : State) (cs : List Chan) : State := { s with ctl := { s.ctl with chans := cs } }

/-- The excluded channel; 3 for none (R505). -/
def excludedChan (s : State) : Nat := s.get R.VOTE_STAT.EXCLUDED

/-- The channels that carry control. -/
def liveChans (s : State) : List Nat := [0, 1, 2].filter (· ≠ excludedChan s)

/-- The lowest-numbered of them. -/
def leadChan (s : State) : Nat := (liveChans s).headD 0

/-- The channel that stands for the majority. -/
def lead (s : State) : Chan := chan s (leadChan s)

/-- The channels hold a program and the voter lets it run. -/
def ctlRuns (s : State) : Bool := s.ctl.started && (s.vote == vTMR || s.vote == vDUPLEX)

/-- The debugger has halted the channels (R633). -/
def halted (s : State) : Bool := s.on R.UB_STAT.HALTED

/-- A channel's change applied to every channel that carries control; an excluded channel stands still. -/
def onLive (s : State) (f : Chan → Chan) : State :=
  setChans s ((List.range 3).map (fun m => if m = excludedChan s then chan s m else f (chan s m)))

/-- A change applied to every channel. -/
def onAll (s : State) (f : Chan → Chan) : State := setChans s ((List.range 3).map (fun m => f (chan s m)))

/-- g0 to g15; g0 reads 0 (R509). -/
def Chan.gr (c : Chan) (n : Nat) : Nat := if n = 0 then 0 else c.g.get n
/-- A general register written; writes to g0 are discarded (R509). -/
def Chan.setG (c : Chan) (n v : Nat) : Chan :=
  if n = 0 then c else
    let m : Map Nat := Map.set c.g n (v % 2 ^ 32)
    { c with g := m }
/-- A special register as it is held (R512). -/
def Chan.sreg (c : Chan) (n : Nat) : Nat := c.sr.get n
/-- A special register written. -/
def Chan.setS (c : Chan) (n v : Nat) : Chan :=
  let m : Map Nat := Map.set c.sr n (v % 2 ^ 32)
  { c with sr := m }

/-- STATUS.TASK. -/
def Chan.task (c : Chan) : Bool := bitOf (c.sreg 0) 0
/-- STATUS.BANK. -/
def Chan.bank (c : Chan) : Nat := b2n (bitOf (c.sreg 0) 1)
/-- STATUS.EXC. -/
def Chan.exc (c : Chan) : Bool := bitOf (c.sreg 0) 2
/-- STATUS.OWNER. -/
def Chan.owner (c : Chan) : Nat := bitsOf (c.sreg 0) 20 16

/-- The registers of a channel as the supervisor of a bank starts with them (R536). -/
def Chan.start (c : Chan) (bank restart : Nat) : Chan :=
  let base := bank * bankSize
  let g : Map Nat := Map.set [] 14 (memLe c.mem (base + 24) 4)
  let sr : Map Nat := [(0, 0x1F0000 + 2 * bank)]
  let sr : Map Nat := Map.set sr 6 ((base + memLe c.mem (base + 20) 4) % 2 ^ 32 / 256 * 256)
  { g := g, pc := (base + memLe c.mem (base + 12) 4) % 2 ^ 32, sr := Map.set sr 18 restart, mem := c.mem, timer := false }

/-- Every channel that carries control starts the supervisor of a bank; the cycle count starts at 0 (R512, R536), and where none
ran the watchdog with them (R554). -/
def startChans (s : State) (bank restart : Nat) : State :=
  let s := onLive s (fun c => c.start bank restart)
  let s := if s.ctl.started then s else s.mark .kick
  { s.set R.PROG_STAT.RUN_BANK bank with
    ctl := { s.ctl with started := true, wfe := none, cycles := 0, sigAt := 0, evSeen := false, switchDue := false } }

/-- The running image's VERSION (R542). -/
def runVersion (s : State) : State :=
  s.set R.PROG_VER.VERSION (memLe (lead s).mem (s.get R.PROG_STAT.RUN_BANK * bankSize + 16) 4)

/-! Memory buckets (R488 to R490). Control memory m, or the other SRAMs of power domain d. -/

/-- UE of a memory. -/
def memUeF (dom : Bool) (i : Nat) : Fld := if dom then R.MEM_DOM_CNT.UE.ix i else R.MEM_CTL_CNT.UE.ix i
/-- BUCKET of a memory. -/
def memBucketF (dom : Bool) (i : Nat) : Fld := if dom then R.MEM_DOM_CNT.BUCKET.ix i else R.MEM_CTL_CNT.BUCKET.ix i
/-- CE of a memory. -/
def memCeF (dom : Bool) (i : Nat) : Fld := if dom then R.MEM_DOM_CE.CE.ix i else R.MEM_CTL_CE.CE.ix i

/-- A corrected error (R489). -/
def memCorrected (s : State) (dom : Bool) (i : Nat) : State :=
  let s := (s.bump (memCeF dom i)).bump (memBucketF dom i)
  if atLeast1 (s.get R.MEM_CTRL.THRESH) ≤ s.get (memBucketF dom i) then
    (s.set (memBucketF dom i) 0).raise E.MEM_CE_BUCKET (i + 32 * b2n dom)
  else s

/-- An uncorrectable word counted and reported (R490). -/
def memUncorr (s : State) (dom : Bool) (i : Nat) : State :=
  (s.bump (memUeF dom i)).raise E.MEM_UE (i + 32 * b2n dom)

/-- Every bucket falls by 1, down to 0. -/
def bucketFall (s : State) : State :=
  let leak := fun (dom : Bool) (s : State) (i : Nat) => s.set (memBucketF dom i) (s.get (memBucketF dom i) - 1)
  (List.range 22).foldl (leak true) ((List.range 9).foldl (leak false) s)

/-- MEM_BUCKET_LEAK: an end of LEAK_PERIOD ms, counted from the end of RESET or the last write of LEAK_PERIOD (R489). -/
def bucketLeak (s : State) : State :=
  match s.lap .memLeak (1000000 * atLeast1 (s.get R.MEM_CTRL.LEAK_PERIOD)) with
  | some s => bucketFall s
  | none => s

/-! The voter (R477 to R484). -/

/-- What a channel presents to the voter in a cycle. `refused` is an access that no register can take: narrower than 32 bits,
outside every region, or at the queue window where that is refused (R4, R468, R514). -/
inductive Req where
  | none
  | read (addr : Nat)
  | write (addr data : Nat)
  | insert (words : List Nat)
  | refused (store : Bool) (addr : Nat)
  deriving DecidableEq, Repr

/-- The cause code of a divergence in such an access (R479). -/
def Req.cause : Req → Nat
  | .none => 6
  | .write _ _ => 1
  | .read _ => 2
  | .insert _ => 3
  | .refused store _ => if store then 1 else 2

/-- The cause of a channel outvoted: the majority's access; a missing one is cause 6, and where the majority presents
nothing, the extra access names the cause. -/
def divCause (mine major : Req) : Nat :=
  match mine, major with
  | .none, _ => 6
  | m, .none => m.cause
  | _, m => m.cause

/-- DIV count of a channel. -/
def divF (ch : Nat) : Fld := if ch = 0 then R.VOTE_CNT.DIV_M else if ch = 1 then R.VOTE_CNT.DIV_N else R.VOTE_CNT.DIV_E

/-- FROZEN: every channel halts, the claim is released (R480, R484). -/
def freezeVote (s : State) (last cause : Nat) : State :=
  let s := (s.set R.VOTE_STAT.STATE vFROZEN).set R.VOTE_STAT.CAUSE cause
  let s := s.raise E.VOTE_FAIL (last + 256 * cause)
  pairSettle { s with
    sched := { s.sched with dropped := false }
    ctl := { s.ctl with wfe := none, switchDue := false, markDue := none, haltDue := false } }

/-- A channel is divergent: in TMR it is excluded, in DUPLEX voting fails (R479, R480). -/
def diverge (s : State) (ch cause : Nat) : State :=
  if s.vote = vTMR then
    let s := ((s.set R.VOTE_STAT.STATE vDUPLEX).set R.VOTE_STAT.EXCLUDED ch).set R.VOTE_STAT.CAUSE cause
    pairSettle (((s.mark .duplex).bump (divF ch)).raise E.VOTE_DIVERGE (ch + 256 * cause))
  else if (s.vote = vDUPLEX || s.vote = vRESYNC) && ch ≠ excludedChan s then freezeVote s ch cause
  else s

/-- One vote over what the live channels present: the access performed, if any (R478, R480). -/
def voteOn (s : State) (req : Nat → Req) : State × Option Req :=
  match liveChans s with
  | [a, b, c] =>
    let x := req a
    let y := req b
    let z := req c
    if x = y then ((if z = x then s else diverge s c (divCause z x)), some x)
    else if x = z then (diverge s b (divCause y x), some x)
    else if y = z then (diverge s a (divCause x y), some y)
    else (freezeVote s 3 (divCause x y), none)
  | [a, b] =>
    let x := req a
    let y := req b
    if x = y then (s, some x) else (freezeVote s (excludedChan s) (divCause x y), none)
  | _ => (s, none)

/-- The reports counted; a channel that reads an uncorrectable word diverges with cause 5 (R479, R490). -/
def eccStep (s : State) (corrected bad : List Nat) (a : Nat) : State :=
  let live := liveChans s
  let s := (live.filter corrected.contains).foldl (fun s ch => memCorrected s false (3 * ch + memKind a)) s
  (live.filter bad.contains).foldl (fun s ch => diverge (memUncorr s false (3 * ch + memKind a)) ch 5) s

/-- What the signature of a channel covers: program counter, general registers, special registers with the privilege level
(R477). -/
def chanState (c : Chan) : Nat × Map Nat × Map Nat × Bool := (c.pc, c.g, c.sr, c.timer)

/-- VOTE_SIGNATURE: the live channels' signatures are compared, once in every 1,024 control cycles (R477). -/
def voteSignature (s : State) : State :=
  if !ctlRuns s || s.ctl.cycles / 1024 == s.ctl.sigAt then s
  else
    let s := { s with ctl := { s.ctl with sigAt := s.ctl.cycles / 1024 } }
    match liveChans s with
    | [a, b, c] =>
      let x := chanState (chan s a)
      let y := chanState (chan s b)
      let z := chanState (chan s c)
      if x = y then (if z = x then s else diverge s c 4)
      else if x = z then diverge s b 4
      else if y = z then diverge s a 4
      else freezeVote s 3 4
    | [a, b] => if chanState (chan s a) = chanState (chan s b) then s else freezeVote s (excludedChan s) 4
    | _ => s

/-! Resynchronisation (R481 to R483). -/

/-- RESYNC begins. -/
def resyncBegin (s : State) (forced : Bool) : State :=
  let s := if forced then s.bump R.VOTE_CNT2.RESYNC_FORCED else s
  { (s.set R.VOTE_STAT.STATE vRESYNC) with ctl := { s.ctl with forced := forced } } |>.mark .resync |> pairSettle

/-- A MARK comes due: MARK_TAG, the wake latch and the wake condition (R512, R532). -/
def markWake (s : State) (tag : Nat) : State :=
  let s := onLive s (fun c => c.setS 17 tag)
  { s with ctl := { s.ctl with wakeLatch := setBit s.ctl.wakeLatch 1, evSeen := true } }

/-- A halt takes effect at an instruction boundary (R633). -/
def haltNow (s : State) (reason : Nat) : State :=
  ({ s with host := { s.host with dbgReason := reason } }.setB R.UB_STAT.HALTED true).raise E.UB_HALT reason

/-- Scheduler time within which a due entry prevents an idle slot, in ns (R481). -/
def idleWindow (s : State) : Nat := if s.dev = stNIGHT then 2000000 else 250000

end Sys2Proof.Machine
end

