-- ==== Sys2Proof/Machine/Prog.lean ====
section
/-! DEFINITION. Jenkel images and their verification, PROG_CTRL, the bank switch (R534 to R542, R623). -/

namespace Sys2Proof.Machine

open Sys2Proof

/-! Images (R534, R535). -/

/-- Little-endian field of a byte string. -/
def leAt (b : List Nat) (i n : Nat) : Nat := ofLe ((b.drop i).take n)

/-- LENGTH of an image. -/
def imgLength (b : List Nat) : Nat := leAt b 8 4
/-- VERSION of an image. -/
def imgVersion (b : List Nat) : Nat := leAt b 16 4

/-- The RESULT that stands for a header whose reserved bytes, or whose STACK in a task image, are not 0: R541 names no code
for it, so a free one other than 0 is shown (log entry 7). -/
def rOTHER : Nat := 16

/-- What the header of an image is refused with, by the codes of R541; 0 passes. `room` is what the image's place offers. -/
def headerResult (b : List Nat) (type room : Nat) : Nat :=
  let len := imgLength b
  let entry := leAt b 12 4
  let evec := leAt b 20 4
  if leAt b 0 4 ≠ 0x4A4E4B4C ∨ leAt b 4 2 ≠ 1 ∨ leAt b 6 1 ≠ type then 1
  else if len % 4 ≠ 0 ∨ 262144 < len ∨ room < len ∨ entry % 4 ≠ 0 ∨ entry < 128 ∨ len ≤ entry + 64 ∨
      (if type = 1 then evec % 256 ≠ 0 else evec ≠ 0) then 2
  else if leAt b 7 1 ≠ 0 ∨ leAt b 28 4 ≠ 0 ∨ ((b.drop 96).take 32).any (· != 0) ∨ (type = 2 ∧ leAt b 24 4 ≠ 0) then rOTHER
  else 0

/-- The lifecycle state that acts: BLANK acts as PRODUCTION (R624). -/
def lcState (s : State) : Nat := s.get R.HOST_LC.LC_STATE
/-- DEVELOP. -/
def lcDEVELOP : Nat := 1
/-- PRODUCTION. -/
def lcPRODUCTION : Nat := 2
/-- RETIRED. -/
def lcRETIRED : Nat := 3

/-- Key slot `n` is fused. -/
def slotFused (s : State) (n : Nat) : Bool := bitOf (s.get R.HOST_LC.FUSED) n
/-- Image-key slot `n` is revoked. -/
def slotRevoked (s : State) (n : Nat) : Bool := bitOf (s.get R.HOST_LC.REVOKED) n
/-- The hash fused in a key slot. -/
def slotHash (s : State) (n : Nat) : List Nat := (s.host.hashes.find n).getD []

/-- A public key that the device accepts for images (R623). -/
def keyAccepted (s : State) (key : List Nat) : Bool :=
  (lcState s == lcDEVELOP && [0, 1, 2].all (fun n => !slotFused s n)) ||
  [0, 1, 2].any (fun n => slotFused s n && !slotRevoked s n && sha256 key == slotHash s n)

/-- The outcome of a check of the image at `off` bytes into a bank (R535, R537, R541): the copies of every channel that is not
excluded are compared first. -/
def imageResult (s : State) (base off type : Nat) : Nat :=
  let copy := fun (m : Nat) => (chan s m).mem.filter (fun c => decide (base ≤ c.1 ∧ c.1 < base + bankSize))
  let m := (lead s).mem
  let h := memBytes m (base + off) 128
  let hr := headerResult h type (bankSize - off)
  let len := imgLength h
  let key := memBytes m (base + off + 64) 32
  if !(liveChans s).all (fun ch => copy ch == copy (leadChan s)) then 4
  else if hr ≠ 0 then hr
  else if !edVerify key (memBytes m (base + off) (len - 64)) (memBytes m (base + off + (len - 64)) 64) then 3
  else if !keyAccepted s key then 5
  else if imgVersion h / 65536 < s.get R.HOST_LC.ROLLBACK then 6
  else 0

/-- A result as registers show it: the free one drawn where R541 names no code. -/
def showResult (s : State) (r : Nat) : Nat × State := if r = rOTHER then (1 + s.free % 15, s.freeNext) else (r, s)

/-! PROG_CTRL (R537 to R540). -/

/-- The base of the bank that is not running. -/
def idleBase (s : State) : Nat := (1 - s.get R.PROG_STAT.RUN_BANK) * bankSize

/-- VERIFY begins: IDLE_OK clears. -/
def progVerify (s : State) : State :=
  let at' := s.get R.PROG_CTRL.TASK_AT
  let s := (s.setB R.PROG_STAT.BUSY true).setB R.PROG_STAT.IDLE_OK false
  { s with ctl := { s.ctl with taskAt := if 63 < at' then 0 else at' } }

/-- A check ends with RESULT; IDLE_OK is set only by a passing check of a supervisor image. -/
def progResult (s : State) (r : Nat) : State :=
  let x := showResult s r
  let s := (x.2.setB R.PROG_STAT.BUSY false).set R.PROG_STAT.RESULT x.1
  let s := if r = 0 then
      (s.set R.PROG_IDLE_VER.VERSION (memLe (lead s).mem (idleBase s + 4096 * s.ctl.taskAt + 16) 4)).setB
        R.PROG_STAT.IDLE_OK (s.ctl.taskAt == 0)
    else s
  s.raise E.PROG_VERIFY x.1

/-- PROG_VERIFY_DONE: the check completes. -/
def progVerifyDone (s : State) : State :=
  if !s.on R.PROG_STAT.BUSY then s
  else progResult s (imageResult s (idleBase s) (4096 * s.ctl.taskAt) (if s.ctl.taskAt = 0 then 1 else 2))

/-- A store to the bank that is not running: IDLE_OK clears, and a check in progress ends with RESULT 8 (R537). -/
def idleBankWritten (s : State) : State :=
  let s := s.setB R.PROG_STAT.IDLE_OK false
  if s.on R.PROG_STAT.BUSY then progResult s 8 else s

/-- PROG_SWITCH with its key: armed while IDLE_OK = 1, refused otherwise (R538). -/
def progSwitch (s : State) : State :=
  if s.on R.PROG_STAT.IDLE_OK then { s with ctl := { s.ctl with switchDue := true } } else s.raise E.PROG_SWITCH 256

/-- PROG_BANK_SWITCH: at an instruction boundary the supervisor starts from the other bank (R538, R539). -/
def bankSwitch (s : State) : State :=
  if !s.ctl.switchDue || !ctlRuns s then s
  else
    let bank := 1 - s.get R.PROG_STAT.RUN_BANK
    let s := runVersion (startChans s bank 2)
    (s.setB R.PROG_STAT.IDLE_OK false).raise E.PROG_SWITCH bank

/-- The supervisor restarts after a double fault (R521); a bank switch that is armed stays armed (R538). -/
def doubleFault (s : State) (code : Nat) : State :=
  let t := startChans s (lead s).bank (3 + 256 * code)
  { t with ctl := { t.ctl with switchDue := s.ctl.switchDue } }.raise E.CTL_FAULT code

/-- RESYNC_DONE: the copy is complete, after 4,096 + 131,072 + 2,048 control cycles. `ue` names a channel in which the copy
met an uncorrectable word and the memory (R480, R482, R483). -/
def resyncDone (s : State) (ue : Option (Nat × Nat)) : State :=
  if s.vote ≠ vRESYNC then s
  else
    let target := excludedChan s
    let failed := match ue with | some (ch, _) => ch ≠ target && decide (ch < 3) | none => false
    match failed, ue with
    | true, some (ch, k) => diverge (memUncorr s false (3 * ch + k % 3)) ch 5
    | _, _ =>
      match liveChans s with
      | [a, b] =>
        if chan s a ≠ chan s b then freezeVote s.freeNext (excludedChan s) (s.free % 16)
        else if s.age .resync < ctlNs s 137216 then s
        else
          let s := setChans s (s.ctl.chans.set target (chan s a))
          let s := ((s.set R.VOTE_STAT.STATE vTMR).set R.VOTE_STAT.EXCLUDED 3).bump R.VOTE_CNT2.RESYNCS
          let s := s.raise E.VOTE_RESYNC (b2n s.ctl.forced)
          let s := { s with ctl := { s.ctl with forced := false } }
          let s := match s.ctl.markDue with | some tag => markWake s tag | none => s
          let s := { s with ctl := { s.ctl with markDue := none } }
          let s := bankSwitch s
          pairSettle (if s.ctl.haltDue then haltNow { s with ctl := { s.ctl with haltDue := false } } 1 else s)
      | _ => s

end Sys2Proof.Machine
end

