-- ==== Sys2Proof/Machine/Boot.lean ====
section
/-! DEFINITION. The host's mailboxes and DMA jobs, the boot engine, the lifecycle, the optics records, flash access (R614 to
R629). -/

namespace Sys2Proof.Machine

open Sys2Proof

/-- An MSI-X message (R615). -/
def msix (s : State) (v : Nat) : State :=
  let m : Map Nat := Map.set s.host.msixSent v (s.host.msixSent.get v + 1)
  { s with host := { s.host with msixSent := m } }

/-- A bit of HOST_IRQ_STAT sets, and its vector is sent (R615). -/
def hostIrq (s : State) (bit vector : Nat) : State :=
  msix (s.set R.HOST_IRQ_STAT.STAT (setBit (s.get R.HOST_IRQ_STAT.STAT) bit)) vector

/-! Mailboxes (R616). -/

/-- FULL of a mailbox; `s2h` names the one from supervisor to host. -/
def mboxFull (s2h : Bool) : Fld := if s2h then R.MBOX_S2H.FULL else R.MBOX_H2S.FULL
/-- DROP. -/
def mboxDrop (s2h : Bool) : Fld := if s2h then R.MBOX_S2H.DROP else R.MBOX_H2S.DROP
/-- LEN. -/
def mboxLen (s2h : Bool) : Fld := if s2h then R.MBOX_S2H.LEN else R.MBOX_H2S.LEN

/-- MBOX_RING: the sender rings with a length; while FULL the ring is dropped. -/
def mboxRing (s : State) (s2h : Bool) (len : Nat) : State :=
  if s.on (mboxFull s2h) then s.setB (mboxDrop s2h) true
  else
    let s := (s.set (mboxLen s2h) len).setB (mboxFull s2h) true
    if s2h then hostIrq s 0 21 else s.raise E.HOST_MBOX (len % 8192)

/-- MBOX_ACK: the receiver acknowledges. -/
def mboxAck (s : State) (s2h : Bool) : State :=
  let s := s.setB (mboxFull s2h) false
  if s2h then s.raise E.HOST_MBOX_ACK 0 else s

/-! DMA (R617, R618). -/

/-- What a DMA job acts on. -/
inductive DmaTarget where
  | data | boot | regs
  deriving DecidableEq, Repr

/-- BOOTSEL as latched; 11 acts as 01 (R619). -/
def bootSel (s : State) : Nat := if s.get R.HOST_BOOT.BOOTSEL = 3 then 1 else s.get R.HOST_BOOT.BOOTSEL

/-- Host writes to program bank 0 are accepted (R621). -/
def bootWindow (s : State) : Bool :=
  (s.dev == stBOOT && (bootSel s == 1 || s.on R.SYS_STATE.BOOT_FAIL)) || (s.host.restart && bootSel s == 1)

/-- The job that a channel's registers describe. -/
def dmaJobOf (s : State) (k : Nat) : DmaJob :=
  ⟨s.on (R.DMA_CTRL.DIR.ix k), s.get (R.DMA_HADDR.HADDR.ix k) + 2 ^ 32 * s.get (R.DMA_HADDR_HI.HADDR.ix k),
    s.get (R.DMA_DADDR.DADDR.ix k), s.get (R.DMA_LEN.LEN.ix k)⟩

/-- The job of a channel. -/
def dmaJob (s : State) (k : Nat) : DmaJob := (s.host.jobs.find k).getD (dmaJobOf s k)

/-- The target of a job, where it is permitted (R617). -/
def dmaTarget (s : State) (k : Nat) : Option DmaTarget :=
  let j := dmaJob s k
  let a := j.addr
  let len := j.len
  let lo := dataLo + 4096 * s.get R.DMA_WIN.BASE
  let hi := min dataHi (dataLo + 4096 * s.get R.DMA_WIN.LIMIT)
  if len % 4 ≠ 0 ∨ len < 4 ∨ 1048576 < len ∨ a % 4 ≠ 0 ∨ j.haddr % 4 ≠ 0 then none
  else if lo ≤ a ∧ a + len ≤ hi then some .data
  else if a + len ≤ bankSize ∧ bootWindow s ∧ !j.toHost then some .boot
  else if 0x40000000 ≤ a ∧ a + len ≤ 0x40800000 then some .regs
  else none

/-- A job ends (R618). -/
def dmaEnd (s : State) (k status : Nat) : State :=
  let s := (s.setB (R.DMA_CTRL.BUSY.ix k) false).set (R.DMA_CTRL.STATUS.ix k) status
  (hostIrq s (1 + k) (22 + k)).raise E.DMA_DONE (k + 256 * status)

/-- DMA_START: a job begins, or ends at once where it is not permitted (R617, R618). -/
def dmaStart (s : State) (k : Nat) : State :=
  if s.on (R.DMA_CTRL.BUSY.ix k) then s
  else
    let m : Map DmaJob := Map.put s.host.jobs k (dmaJobOf s k)
    let s := { s.setB (R.DMA_CTRL.BUSY.ix k) true with host := { s.host with jobs := m } }
    if (dmaTarget s k).isSome then s else dmaEnd s k 1

/-- A job is aborted (R614, R617). -/
def dmaAbort (s : State) (k : Nat) : State := if s.on (R.DMA_CTRL.BUSY.ix k) then dmaEnd s k 4 else s

/-- Words written from an address on into every channel's SRAM. -/
def sramWords (s : State) (a : Nat) (ws : List Nat) : State :=
  onAll s (fun c => { c with mem := foldIdx (fun i m w => memPutLe m (a + 4 * i) 4 w) 0 c.mem ws })

/-! Link (R612, R614, R644). -/

/-- LINK_UP falls. -/
def linkDown (s : State) : State :=
  if s.on R.HOST_STAT.LINK_UP then
    (((s.setB R.HOST_STAT.LINK_UP false).set R.HOST_STAT.WIDTH 0).set R.HOST_STAT.SPEED 0).raise E.PCIE_LINK 0
  else s

/-- What an FLR, a hot reset, a link-down event and a transition to D3hot reset (R614). -/
def hostReset (s : State) : State :=
  let s := dmaAbort (dmaAbort s 0) 1
  let s := [R.MBOX_H2S.FULL, R.MBOX_H2S.DROP, R.MBOX_S2H.FULL, R.MBOX_S2H.DROP].foldl (fun s f => s.set f 0) s
  let s := s.set R.HOST_IRQ_MASK.MASK 0
  { s with host := { s.host with msixTable := [] } }

/-- HOST_LINK_RESET; `down` tells that the link goes down. -/
def hostLinkReset (s : State) (down : Bool) : State := hostReset (if down then linkDown s else s)

/-- PCIE_PERST: PCIE_PERST_N falls or rises (R644). -/
def pciePerst (s : State) (low : Bool) : State :=
  let s := { s with host := { s.host with perst := low } }
  if low then hostLinkReset s true else s

/-- PCIE_LINK_UP: link training completes (R612). -/
def pcieLinkUp (s : State) (width speed : Nat) : State :=
  if s.host.perst || s.dev = 0 || s.on R.HOST_STAT.LINK_UP then s
  else (((s.setB R.HOST_STAT.LINK_UP true).set R.HOST_STAT.WIDTH width).set R.HOST_STAT.SPEED speed).raise E.PCIE_LINK 256

/-- IRQ_N is asserted (R498, R615). -/
def irqN (s : State) : Bool :=
  (s.on R.EV_CTRL.OWNER && !s.ev.entries.isEmpty) ||
  (List.range 3).any (fun i => bitOf (s.get R.HOST_IRQ_STAT.STAT) i && !bitOf (s.get R.HOST_IRQ_MASK.MASK) i)

/-! Boot (R619 to R623, R485). -/

/-- The boot engine in a phase. -/
def setBoot (s : State) (b : BootPh) : State := { s with host := { s.host with boot := b } }

/-- The Pod configuration of a peer boot (R622). -/
def peerPods (s : State) : State :=
  let s := domPowerOn s dPOD
  let s := [40, 41, 42, 43, 44, 45, 46, 47].foldl (fun s n => laneEnable s n true) s
  podPortEnable (podPortEnable s 4 true) 5 true

/-- The boot engine begins with the latched source (R619, R620, R622). -/
def bootBegin (s : State) : State :=
  let sel := bootSel s
  let s := { s with host := { s.host with bootSrc := sel, bootLeft := [], bootSlot := 0, reqPort := 4 } }
  if sel = 0 then setBoot s .headers
  else if sel = 1 then setBoot s .host
  else setBoot (peerPods ((s.mark .boot).mark .bootReq)) .peer

/-- No image from the source that was tried: in BOOT the engine waits for a host load, at a control restart the voter stays
FROZEN (R39, R485, R619). -/
def bootFailed (s : State) (err : Nat) : State :=
  let s := s.set R.HOST_BOOT.LAST_ERR err
  if s.host.restart then
    let s := setBoot { s with host := { s.host with restart := false } } .idle
    (s.setB R.CTL_RESTART.RESTART false).raise E.CTL_RESTART 0
  else setBoot { s.setB R.SYS_STATE.BOOT_FAIL true with host := { s.host with bootSrc := 1, bootLeft := [] } } .host

/-- The next flash slot is read, or none is left (R620). -/
def nextSlot (s : State) (err : Nat) : State :=
  match s.host.bootLeft with
  | [] => bootFailed s err
  | n :: rest => setBoot { s with host := { s.host with bootLeft := rest, bootSlot := n } } .slot

/-- The slots in the order in which they are tried: headers that R534 accepts, the higher VERSION first (R620). -/
def slotOrder (h0 h1 : List Nat) : List Nat :=
  let ok0 := headerResult h0 1 bankSize == 0
  let ok1 := headerResult h1 1 bankSize == 0
  if ok0 && ok1 then (if imgVersion h1 ≤ imgVersion h0 then [0, 1] else [1, 0])
  else if ok0 then [0] else if ok1 then [1] else []

/-- BOOT_FLASH_HEADERS: both headers have been read. -/
def bootHeaders (s : State) (h0 h1 : List Nat) : State :=
  if s.host.boot ≠ .headers then s
  else nextSlot { s with host := { s.host with bootLeft := slotOrder h0 h1 } } 10

/-- An image in bank 0 of all three channels. -/
def loadBank0 (s : State) (img : List Nat) : State :=
  onAll s (fun c => { c with
    mem := foldIdx (fun i m b => memPut m i (BitVec.ofNat 8 b)) 0 c.mem (img.take bankSize) })

/-- BOOT_IMAGE_READ: the slot's image is in bank 0. -/
def bootImage (s : State) (img : List Nat) : State :=
  if s.host.boot ≠ .slot then s else setBoot (loadBank0 s img) .verify

/-- BOOT_GO: the host-loaded image is to be checked (R621). -/
def bootGo (s : State) : State := if s.host.boot = .host then setBoot s .verify else s

/-- A check failed: another source is tried (R619 to R622). -/
def bootRetry (s : State) (r : Nat) : State :=
  let x := showResult s r
  let s := x.2.set R.HOST_BOOT.LAST_ERR x.1
  if s.host.bootSrc = 0 then nextSlot s x.1
  else if s.host.bootSrc = 1 then (if s.host.restart then bootFailed s x.1 else setBoot s .host)
  else setBoot s .peer

/-- Registers that name the source of the running image (R636). -/
def bootSource (s : State) : State :=
  (s.set R.HOST_BOOT.SRC s.host.bootSrc).set R.HOST_BOOT.SLOT (if s.host.bootSrc = 0 then s.host.bootSlot else 0)

/-- The optics read of a carrier has ended: GOOD, BAD, or ABSENT after three NACKs (R623, R627). -/
def opticsEnded (s : State) (c : Carrier) : Bool := 2 ≤ idState s c || 3 ≤ s.host.nacks.get c

/-- The channels start after a boot, and the device leaves BOOT (R39, R536, R619). -/
def bootStart (s : State) : State :=
  let s := setBoot ((bootSource s).setB R.SYS_STATE.BOOT_FAIL false) .idle
  let s := runVersion (startChans s 0 0)
  let s := { s.setB R.PROG_STAT.IDLE_OK false with ctl := { s.ctl with wakeLatch := 0 } }
  let s := lanesSettle (releaseStarts (s.goto stSTANDBY))
  pairSettle (s.raise E.BOOT
    (s.host.bootSrc + 4 * s.get R.HOST_BOOT.SLOT + 256 * s.get R.HOST_BOOT.LAST_ERR))

/-- A verified image waits for both optics reads (R623). -/
def bootOptics (s : State) : State :=
  if s.host.boot = .passed && opticsEnded s .A && opticsEnded s .B then bootStart s else s

/-- BOOT_VERIFY_DONE: the check of the image in bank 0 ends (R619). -/
def bootVerifyDone (s : State) : State :=
  if s.host.boot ≠ .verify || s.host.restart || s.dev ≠ stBOOT then s
  else
    let r := imageResult s 0 0 1
    if r = 0 then bootOptics (setBoot s .passed) else bootRetry s r

/-- CTL_RESTART: in FROZEN, with its key, the channels are reset, their SRAMs cleared and the image loaded again (R485, R539,
R617). -/
def ctlRestart (s : State) (key : Nat) : State :=
  if key ≠ 0x5EED || !s.frozen || s.host.restart then s
  else
    let sram := fun (k : Nat) => match dmaTarget s k with | some .regs => false | _ => true
    let s := [0, 1].foldl (fun s k => if sram k then dmaAbort s k else s) s
    let s := setChans s [.reset, .reset, .reset]
    let s := ((s.setB R.PROG_STAT.IDLE_OK false).setB R.PROG_STAT.BUSY false).set R.PROG_STAT.RUN_BANK 0
    let s := s.setB R.CTL_RESTART.RESTART true
    bootBegin { s with
      ctl := { s.ctl with started := false, wfe := none, wakeLatch := 0, switchDue := false }
      host := { s.host with restart := true } }

/-- A peer boot asks on POD4 and POD5 in turn, on whichever is UP (R622). -/
def bootAsk (s : State) : State :=
  let k := if podUp s s.host.reqPort then s.host.reqPort else 9 - s.host.reqPort
  let s := if podUp s k then podSend s k 10 (msgBlock 0x20 0) else s
  { s with host := { s.host with reqPort := 9 - s.host.reqPort } }

/-- BOOT_REQ_SEND: every 100 ms of a peer boot (R622). -/
def bootReqSend (s : State) : State :=
  if s.host.boot ≠ .peer then s
  else match s.lap .bootReq 100000000 with
    | some s => bootAsk s
    | none => s

/-- BOOT_PEER_TIMEOUT: ten seconds without a verified peer image (R619). -/
def bootPeerTimeout (s : State) : State :=
  if s.host.boot = .peer && decide (10000000000 ≤ s.age .boot) then bootFailed s 9 else s

/-- A BOOT transfer has come in whole (R398, R622). -/
def bootReceive (s : State) (x : PodRx) : State :=
  if s.host.boot = .peer then setBoot (loadBank0 s x.data) .verify else s

/-- A BOOT_REQ has come in: the image of the running bank is sent in whole blocks of 16 bytes (R622). -/
def bootServe (s : State) (k : Nat) : State :=
  if s.on R.HOST_BOOT.BOOT_SERVE && s.ctl.started then
    let base := s.get R.PROG_STAT.RUN_BANK * bankSize
    let m := (lead s).mem
    let blocks := (memLe m (base + 8) 4 + 15) / 16
    let img := memBytes m base (min bankSize (16 * blocks))
    sendTransfer ({ s with host := { s.host with served := some (k, img) } }.raise E.BOOT_SERVE k) k 0x12 0 0 img []
  else s

/-- MSG blocks that belong to pairs and boot (R401, R546, R622). -/
def podOther (s : State) (k type content : Nat) : State :=
  if type = 0x10 then podBeat s k content
  else if type = 0x20 then bootServe s k
  else s.bump (R.POD_CNT1.MSG_BAD.ix k)

/-- A STREAM transfer comes in: the next OTUCn frame of the carrier that regenerates across the board, with the tag blocks in it
(R37, R320, R402; which carrier, log entry 105). -/
def streamReceive (s : State) (x : PodRx) : State :=
  let c := if acrossBoard s .A then .A else .B
  if !acrossBoard s c then s
  else
    s.setMh c { s.mh c with stream := ⟨x.data, x.tags.map (fun t => (t.1 / 16 - 1, t.2, 0)), none⟩ }

/-- Transfers delivered: STREAM to a regenerator, SYNC to the pair, BOOT to the boot engine; the others carry traffic (R398). -/
def podDeliver (s : State) (_k : Nat) (x : PodRx) : State :=
  if x.kind = 0x10 then streamReceive s x else if x.kind = 0x11 then syncReceive s x else if x.kind = 0x12 then bootReceive s x else s

/-! RESET_EXIT (R39, R634, R669). -/

/-- The boot engine powers PD_DBG in DEVELOP and RETIRED (R634). -/
def bootPower (s : State) : State :=
  if lcState s = lcDEVELOP ∨ lcState s = lcRETIRED then domPowerOn s dDBG else s

/-- RESET is left for BOOT, 10 µs after its entry at the earliest; the straps are sampled. `high` is the level of PORST_N. -/
def resetExit (s : State) (high : Bool) (bootsel pos pref xtd : Nat) : State :=
  let s := if s.dev = 0 then { s with pwr := { s.pwr with porstLow := !high } } else s
  if s.dev ≠ 0 || !high || !s.clk.good || !coolEnough s || decide (s.age .hold < 10000) then s
  else
    let s := ((s.set R.HOST_BOOT.BOOTSEL bootsel).set R.CLK_XO_STAT.XTD xtd).goto stBOOT
    let s := { s with
      pair := { s.pair with pos := pos % 2, pref := pref % 2 }
      host := { s.host with chal := s.free % 2 ^ 128 } }.freeNext
    bootBegin (bootPower ([Timer.memLeak, .refs, .diff, .beat, .syncTx].foldl State.mark s))

/-! Lifecycle (R624, R625). -/

/-- A command is refused. -/
def lcRefuse (s : State) (op rej : Nat) : State := (s.set R.HOST_LC.LC_REJ rej).raise E.LC (op + 256)

/-- LC_ADVANCE. -/
def lcAdvance (s : State) : State :=
  if lcState s = 0 ∨ lcState s = lcRETIRED then lcRefuse s 1 2
  else if lcState s = lcDEVELOP ∧ !(slotFused s 0 && slotFused s 3) then lcRefuse s 1 4
  else
    let s := s.set R.HOST_LC.LC_STATE (lcState s + 1)
    let s := if lcState s = lcRETIRED then { s with ldg := { s.ldg with blown := true } } else s
    s.raise E.LC 1

/-- LC_ROLLBACK. -/
def lcRollback (s : State) : State :=
  let v := s.get R.PROG_VER.VERSION / 65536
  if v ≤ s.get R.HOST_LC.ROLLBACK ∨ 127 < v then lcRefuse s 2 5 else (s.set R.HOST_LC.ROLLBACK v).raise E.LC 2

/-- LC_REVOKE. -/
def lcRevoke (s : State) (n : Nat) : State :=
  if 2 < n then lcRefuse s 3 1
  else if !([0, 1, 2].any (fun k => k ≠ n && slotFused s k && !slotRevoked s k)) then lcRefuse s 3 4
  else (s.set R.HOST_LC.REVOKED (setBit (s.get R.HOST_LC.REVOKED) n)).raise E.LC 3

/-- The KEY_HASH window. -/
def keyHash (s : State) : List Nat :=
  (List.range 8).flatMap (fun i => leBytes 4 (s.get (wordAt (0x40403100 + 4 * i))))

/-- LC_FUSE. -/
def lcFuse (s : State) (n : Nat) : State :=
  if 3 < n then lcRefuse s 4 1
  else if lcState s ≠ lcDEVELOP then lcRefuse s 4 2
  else if slotFused s n then lcRefuse s 4 3
  else
    let m : Map (List Nat) := Map.put s.host.hashes n (keyHash s)
    let s := { s with host := { s.host with hashes := m } }
    (s.set R.HOST_LC.FUSED (setBit (s.get R.HOST_LC.FUSED) n)).raise E.LC 4

/-- LC_CMD with its key (R625). -/
def lcCmd (s : State) (op n : Nat) : State :=
  match op with
  | 1 => lcAdvance s
  | 2 => lcRollback s
  | 3 => lcRevoke s n
  | 4 => lcFuse s n
  | _ => lcRefuse s op 1

/-! Identity records of the line optics (R626 to R628). -/

/-- The state of a record changes. -/
def setIdState (s : State) (c : Carrier) (st : Nat) : State :=
  if idState s c = st then s
  else
    let f := match c with | .A => R.ID_STAT.STATE_A | .B => R.ID_STAT.STATE_B
    (s.set f st).raise E.ID (c.num + 256 * st)

/-- A full read begins. -/
def idReadBegin (s : State) (c : Carrier) : State :=
  setIdState { s with host := { s.host with reading := s.host.reading.set c true } } c 1

/-- The master addresses 0x50 and gets an ACK or a NACK (R627). -/
def idPolled (s : State) (c : Carrier) (ack : Bool) : State :=
  if s.host.reading.get c then s
  else if ack then
    let s := { s with host := { s.host with nacks := s.host.nacks.set c 0 } }
    if idState s c = 0 then idReadBegin s c else s
  else
    let s := { s with host := { s.host with nacks := s.host.nacks.set c (min 3 (s.host.nacks.get c + 1)) } }
    if 3 ≤ s.host.nacks.get c then bootOptics (setIdState s c 0) else s

/-- ID_POLL: every 100 ms, first on entry to BOOT; the masters have no power in RESET (R627, R674). -/
def idPoll (s : State) (c : Carrier) (ack : Bool) : State :=
  if s.dev = 0 then s
  else match s.every (.poll c) 100000000 with
    | some s => idPolled s c ack
    | none => s

/-- ID_READ_DONE: the 256 bytes have been read (R626, R627). -/
def opticsReadDone (s : State) (c : Carrier) (b : List Nat) : State :=
  if !s.host.reading.get c then s
  else
    let s := { s with host := { s.host with reading := s.host.reading.set c false } }
    let s := (List.range 64).foldl (fun s i => s.set (wordAt (0x40404000 + 0x100 * c.num + 4 * i)) (leAt b (4 * i) 4)) s
    let good := crc32 ((b ++ List.replicate 252 0).take 252) == leAt b 252 4 && leAt b 48 2 == 0x0C01
    bootOptics (setIdState s c (if good then 2 else 3))

/-- ID_REREAD: a read is forced (R627). -/
def idReread (s : State) (c : Carrier) : State := if s.host.reading.get c then s else idReadBegin s c

/-! Flash (R629). -/

/-- The bytes of the flash command: OPCODE, the address where ADDR_EN asks for it, the buffer's bytes where it writes. -/
def spiBytes (s : State) : List Nat :=
  s.get R.SPI_CMD.OPCODE ::
  ((if s.on R.SPI_CMD.ADDR_EN then (leBytes 3 (s.get R.SPI_ADDR.ADDR)).reverse else []) ++
   (if s.on R.SPI_CMD.DIR then []
    else (List.range (min 256 (s.get R.SPI_CMD.LEN))).map (fun i =>
      s.get (wordAt (0x40403000 + i / 4 * 4)) / 256 ^ (i % 4) % 256)))

/-- SPI_START: the command goes out. -/
def spiStart (s : State) : State :=
  if s.on R.SPI_CMD.BUSY || s.host.boot = .headers || s.host.boot = .slot then s
  else { s.setB R.SPI_CMD.BUSY true with host := { s.host with
    spiOut := spiBytes s, spiIn := if s.on R.SPI_CMD.DIR then min 256 (s.get R.SPI_CMD.LEN) else 0 } }

/-- SPI_DONE: the command completes once every byte it reads has come; these fill the buffer. -/
def spiDone (s : State) (data : List Nat) : State :=
  if !s.on R.SPI_CMD.BUSY || decide (data.length < s.host.spiIn) then s
  else
    let s := foldIdx (fun i s b => setWindowByte s 0x40403000 i b) 0 s (data.take s.host.spiIn)
    s.setB R.SPI_CMD.BUSY false

/-! JTAG (R635). -/

/-- The instructions of the TAP. -/
def irBYPASS : Nat := 0
/-- IDCODE. -/
def irIDCODE : Nat := 1
/-- SAMPLE/PRELOAD. -/
def irSAMPLE : Nat := 2
/-- EXTEST. -/
def irEXTEST : Nat := 3
/-- CLAMP. -/
def irCLAMP : Nat := 4
/-- HIGHZ. -/
def irHIGHZ : Nat := 5
/-- EXTEST_PULSE. -/
def irPULSE : Nat := 6
/-- EXTEST_TRAIN. -/
def irTRAIN : Nat := 7

/-- The TAP loads an instruction. -/
def tapLoad (s : State) (ir : Nat) : State := { s with host := { s.host with ir := ir } }

/-- An instruction that loads only in RESET or BOOT; BYPASS is loaded in its place otherwise. -/
def tapDrive (s : State) (ir : Nat) : State :=
  if s.dev = 0 || s.dev = stBOOT then tapLoad s ir else (tapLoad s irBYPASS).raise E.JTAG_REFUSED 0

end Sys2Proof.Machine
end

