-- ==== Sys2Proof/Machine/Sched.lean ====
section
/-! DEFINITION. The line-time scheduler: entries, insertion, execution, hand-off, steps of time, freeze and cancellation (R458 to
R468, R516, R528 to R531). Execution takes the timed write as an argument, which the register fabric supplies. -/

namespace Sys2Proof.Machine

open Sys2Proof

/-! Actions (R459). -/

/-- ATW. -/
def aATW : Nat := 0
/-- COMMIT. -/
def aCOMMIT : Nat := 1
/-- LAUNCH_DAWN. -/
def aDAWN : Nat := 2
/-- LAUNCH_RPL. -/
def aRPL : Nat := 3
/-- MARK. -/
def aMARK : Nat := 4

/-- A launch. -/
def isLaunch (a : Nat) : Bool := a == aDAWN || a == aRPL

/-- The carrier that ARG0 of LAUNCH_DAWN names. -/
def carrierOf (n : Nat) : Carrier := if n = 0 then .A else .B

/-- The bit of a block in the block mask (R459). -/
def maskBit : Blk → Option Nat
  | .tx c => some (8 * c.num)
  | .conv c => some (8 * c.num + 1)
  | .rxdsp c => some (8 * c.num + 2)
  | .dawn c => some (8 * c.num + 3)
  | .fec c => some (8 * c.num + 4)
  | .framer c => some (8 * c.num + 5)
  | .cipher c => some (8 * c.num + 6)
  | .client => some 16
  | .flow => some 17
  | .store => some 18
  | .lanes => some 19
  | .pod => some 20
  | .sys => some 24
  | .clk => some 25
  | .time => some 26
  | .pwr => some 27
  | .madc => some 28
  | .pair => some 29
  | .perf => some 30
  | .hostif => some 31
  | .sched | .event | .ledger => none

/-- The bits of the mask that name blocks. -/
def maskBits : Nat := 0xFF1F7F7F

/-- The blocks of a mask, in its order. -/
def maskBlks (mask : Nat) : List Blk :=
  allBlks.filter (fun b => match maskBit b with | some i => bitOf mask i | none => false)

/-! Permissions of tasks (R516, R530). -/

/-- A block that no task may write. -/
def taskBarred : Blk → Bool
  | .sys | .clk | .pwr | .pair | .hostif | .perf | .event | .sched | .ledger => true
  | _ => false

/-- A task with permission mask `tperm` may act on a block. -/
def taskMay (tperm : Nat) (b : Blk) : Bool :=
  !taskBarred b && (match maskBit b with | some i => bitOf tperm i | none => false)

/-- A task may store to an address of the register space: the block's bit, and no key register or window (R516). -/
def taskStore (tperm addr : Nat) : Bool :=
  match blkAt addr with
  | some b =>
    taskMay tperm b &&
    (match b with
     | .cipher c => !(decide (addr / 4 = (R.CIPH_LOAD.KEY_LOAD.on c).addr / 4) || inWin (addr % 0x10000) 0x100 0x88)
     | _ => true)
  | none => false

/-! The queue. -/

/-- The entries replaced. -/
def setEntries (s : State) (es : List SchedEntry) : State := { s with sched := { s.sched with entries := es } }

/-- An entry leaves the queue. -/
def dropEntry (s : State) (e : SchedEntry) : State := setEntries s (s.sched.entries.filter (fun x => x.idx ≠ e.idx))

/-- The entry in a slot. -/
def entryAt (s : State) (i : Nat) : Option SchedEntry := s.sched.entries.find? (fun e => e.idx == i)

/-- The lowest slot without an entry (R460). -/
def freeSlot (s : State) : Nat :=
  ((List.range (s.sched.entries.length + 1)).find? (fun i => (entryAt s i).isNone)).getD 0

/-- SCHED_HWM follows the occupancy. -/
def schedHwm (s : State) : State := s.set R.SCHED_HWM.HWM (max (s.get R.SCHED_HWM.HWM) (schedOcc s))

/-- An entry is due (R462). -/
def isDue (s : State) (e : SchedEntry) : Bool := decide (e.time ≤ scaleNs s e.scale)

/-- A launch is less than 2,000 ns from being due (R462, R463). -/
def handDue (s : State) (e : SchedEntry) : Bool := decide (e.time < scaleNs s e.scale + 2000)

/-- The entry is late at its insertion (R463). -/
def isLate (s : State) (e : SchedEntry) : Bool := if isLaunch e.action then handDue s e else isDue s e

/-- Words 0 to 7 of an entry as the queue window shows them (R468). -/
def entryWord (e : SchedEntry) (w : Nat) : Nat :=
  match w with
  | 0 =>
    2 ^ 31 + e.action * 2 ^ 28 + (match e.scale with | .tbt => 0 | .p => 1 | .s => 2) * 2 ^ 26 + b2n e.late * 2 ^ 25 +
    e.owner * 2 ^ 20 + e.vtb * 2 ^ 18 + b2n e.fromPos * 2 ^ 17
  | 1 => e.time % 2 ^ 32
  | 2 => e.time / 2 ^ 32
  | 3 => e.arg0
  | 4 => e.arg1
  | 5 => e.arg2
  | 6 => e.tag
  | _ => if e.fromPos then e.frame32 else 0

/-- A word of the queue window by its offset (R468). -/
def queueWord (s : State) (o : Nat) : Nat :=
  match entryAt s (o / 32) with
  | some e => entryWord e (o % 32 / 4)
  | none => 0

/-! Execution (R459, R462, R464, R466). -/

/-- A block named by an executed COMMIT: a block without a carrier transfers, a carrier sub-block with CP_SEL = 0b01 waits
for its line-frame boundary (R18, R459). -/
def commitBlk (s : State) (b : Blk) : State :=
  if (blkCarrier b).isSome then
    if s.get (cpSelF b) = 1 then { s with named := b :: s.named.filter (· ≠ b) } else s
  else if b = .client then clientCommit s
  else transferBlk s b

/-- One more entry executed. -/
def countExec (s : State) : State := perfEvent (s.addWrap R.SCHED_EXEC.EXEC 1) 0x21 1

/-- A launch that was handed over has taken place, or was refused by its block. -/
def launchTaken (s : State) (action arg0 : Nat) : State :=
  match s.sched.entries.find? (fun e => e.handed && e.action == action && e.arg0 == arg0) with
  | some e => countExec (dropEntry s e)
  | none => s

/-- The entry of a Dawn launch that has taken place, or was refused. -/
def dawnTaken (s : State) (idx : Nat) : State :=
  match s.sched.entries.find? (fun e => e.handed && e.action == aDAWN && e.idx == idx) with
  | some e => countExec (dropEntry s e)
  | none => s

/-- A launch handed to TX begins or is refused (R66, R68, R266); `late` ns after its time. -/
def launchOne (s : State) (c : Carrier) (l : Launch) (late : Nat) : State :=
  let t := dawnTaken (txLaunchCheck s c l late) l.idx
  if txLaunchReason s c = 0 then frmBurstBegin t c else t

/-- ns from now to the time of a launch, negative when it has passed. -/
def launchIn (s : State) (l : Launch) : Int := (l.time : Int) - (scaleNs s l.scale : Int)

/-- TX receives a launch. Where the moment at which it must begin, its time less TX_LATENCY, has passed, it is checked at once
(R66, R68). -/
def launchReceive (s : State) (c : Carrier) (l : Launch) : State :=
  let s := s.setTxh c { s.txh c with launches := (s.txh c).launches ++ [l] }
  let ahead := launchIn s l
  if 1000 * ahead ≤ (s.getC c R.TX_LATENCY.LATENCY_PS : Int) then launchOne s c l (-ahead).toNat else s

/-- The launch handed to TX whose time comes first. -/
def nextLaunch (s : State) : List Launch → Option Launch
  | [] => none
  | l :: ls =>
    match nextLaunch s ls with
    | none => some l
    | some m => if launchIn s m < launchIn s l then some m else some l

/-- TX_LAUNCH_BEGIN: the moment of the next launch (R68). -/
def launchBegin (s : State) (c : Carrier) : State :=
  match nextLaunch s (s.txh c).launches with
  | some l => launchOne s c l 0
  | none => s

/-- A launch is handed to its block and stays counted until it takes place (R462, R474). A replay launch handed over late has
the execution time (R371). -/
def handOver (s : State) (e : SchedEntry) : State :=
  let s := setEntries s (s.sched.entries.map (fun x => if x.idx = e.idx then { x with handed := true } else x))
  if e.action = aDAWN then launchReceive s (carrierOf e.arg0) ⟨e.idx, e.scale, e.time, e.arg1⟩
  else
    let late := decide (e.time < tbtNs s)
    setJb s e.arg0 { jb s e.arg0 with launch := some (max e.time (tbtNs s), if late then none else some e.frame32) }

/-- A MARK executes: its event, and the wake of a WFE, which RESYNC delays (R459, R483). -/
def markExec (s : State) (tag : Nat) : State :=
  let s := s.raise E.SCHED_MARK (tag % 65536)
  if s.vote = vRESYNC then { s with ctl := { s.ctl with markDue := some tag } } else markWake s tag

/-- An entry is discarded because control writes are frozen (R466). -/
def frozenDrop (s : State) (e : SchedEntry) : State :=
  let s := (dropEntry s e).bump R.SCHED_CNT2.FROZEN_DROP
  if s.sched.dropped then s
  else { s with sched := { s.sched with dropped := true } }.raise E.SCHED_FROZEN_DROP 0

/-- An entry of the queue executes; a launch is handed over. `atw` performs a timed write. -/
def runEntry (atw : State → SchedEntry → State) (s : State) (e : SchedEntry) : State :=
  if !s.sched.entries.contains e then s
  else if s.frozen then frozenDrop s e
  else if isLaunch e.action then handOver s e
  else
    let s := countExec (dropEntry s e)
    if e.action = aATW then atw s e
    else if e.action = aCOMMIT then (maskBlks e.arg0).foldl commitBlk s
    else markExec s e.tag

/-- `x` comes before `y`: by time, then by insertion (R462). -/
def before (x y : SchedEntry) : Bool := decide (x.time < y.time) || (x.time == y.time && decide (x.order < y.order))

/-- An entry put in its place in order. -/
def placeEntry (x : SchedEntry) : List SchedEntry → List SchedEntry
  | [] => [x]
  | y :: l => if before x y then x :: y :: l else y :: placeEntry x l

/-- Entries in the order in which they execute. -/
def inOrder (es : List SchedEntry) : List SchedEntry := es.foldl (fun l x => placeEntry x l) []

/-- Entries not yet handed over that satisfy `p`, in order. -/
def waitingEntries (s : State) (p : SchedEntry → Bool) : List SchedEntry :=
  inOrder (s.sched.entries.filter (fun e => !e.handed && p e))

/-- An entry of its scale that executes before `e` is due. -/
def overtakes (s : State) (e : SchedEntry) : Bool :=
  s.sched.entries.any (fun x => !x.handed && !isLaunch x.action && x.scale == e.scale && isDue s x && before x e)

/-- The batch of an entry: same scale, same time (R462). -/
def batchOf (s : State) (e : SchedEntry) : List SchedEntry :=
  waitingEntries s (fun x => !isLaunch x.action && x.scale == e.scale && x.time == e.time)

/-- The due entry in slot `i`, of an action, executes with its batch, once no earlier entry of its scale is due (R459, R462). -/
def execDue (atw : State → SchedEntry → State) (s : State) (action i : Nat) : State :=
  match entryAt s i with
  | none => s
  | some e =>
    if e.action ≠ action ∨ !isDue s e ∨ overtakes s { e with order := 0 } then s
    else (batchOf s e).foldl (runEntry atw) s

/-- SCHED_LAUNCH_HANDOFF: the launch in slot `i` is handed over 2,000 ns before it is due (R462, R466). -/
def handoff (s : State) (i : Nat) : State :=
  match entryAt s i with
  | none => s
  | some e =>
    if e.handed || !isLaunch e.action || decide (scaleNs s e.scale + 2000 < e.time) then s
    else if s.frozen then frozenDrop s e
    else handOver s e

/-! Steps of time and the freeze (R465, R466). -/

/-- After a step of time, the entries that became due with it execute in order. -/
def steppedWith (atw : State → SchedEntry → State) (was s : State) : State :=
  let es := waitingEntries s (fun e => isDue s e && !isDue was e)
  if es.isEmpty then s
  else if s.frozen then es.foldl frozenDrop s
  else
    let n := es.length
    ((es.foldl (runEntry atw) s).addSat R.SCHED_CNT1.STEPPED n).raise E.SCHED_STEP (min n 0xFFFF)

/-- In the freeze, entries that have fallen due, and launches whose hand-off has come, are discarded (R466). -/
def frozenSweep (s : State) : State :=
  if s.frozen then
    (waitingEntries s (fun e => if isLaunch e.action then decide (e.time ≤ scaleNs s e.scale + 2000) else isDue s e)).foldl
      frozenDrop s
  else s

/-! Cancellation (R467). -/

/-- SCHED_CANCEL: waiting entries with a TAG are removed, of one owner where a task writes. -/
def schedCancel (s : State) (tag : Nat) (task : Option Nat) : State :=
  let hit := fun (e : SchedEntry) => !e.handed && e.tag == tag && (match task with | some o => e.owner == o | none => true)
  let n := (s.sched.entries.filter hit).length
  (setEntries s (s.sched.entries.filter (fun e => !hit e))).set R.SCHED_CANCEL_RES.REMOVED n

/-! Insertion (R458 to R463, R530). -/

/-- What a scheduling instruction asks for: action (5 for KIND 0b11), scale 0 to 3 as encoded, timebase, LATE flag, owner,
whether a task asks, its permission mask, the six words of the descriptor. -/
structure Insert where
  action : Nat
  scale : Nat
  vtb : Nat
  late : Bool
  owner : Nat
  task : Bool
  tperm : Nat
  w0 : Nat
  w1 : Nat
  arg0 : Nat
  arg1 : Nat
  arg2 : Nat
  tag : Nat
  deriving DecidableEq, Repr

/-- What the channels present to the voter (R461). -/
def Insert.words (i : Insert) : List Nat :=
  [i.action, i.scale, i.vtb, b2n i.late, i.owner, b2n i.task, i.tperm, i.w0, i.w1, i.arg0, i.arg1, i.arg2, i.tag]

/-- The insertion that such words ask for. -/
def insertOf (l : List Nat) : Insert :=
  let w := fun (i : Nat) => (l[i]?).getD 0
  { action := w 0, scale := w 1, vtb := w 2, late := w 3 != 0, owner := w 4, task := w 5 != 0, tperm := w 6, w0 := w 7, w1 := w 8,
    arg0 := w 9, arg1 := w 10, arg2 := w 11, tag := w 12 }

/-- The scale that the entry holds: a position is converted to TBT (R458). -/
def Insert.scaleOf (i : Insert) : Scale := if i.scale = 2 then .p else if i.scale = 3 then .s else .tbt

/-- The frame of a position: low 32 bits FRAME32, nearest to the current frame (R458). -/
def posFrame (s : State) (k frame32 : Nat) : Int :=
  let cur := vtbFrame s k
  cur + toSigned 32 (ofSigned 32 ((frame32 : Int) - cur))

/-- The time of the entry in ns (R455, R458). -/
def Insert.time (i : Insert) (s : State) : Nat :=
  if i.scale = 0 then
    ((vtbFrameStart s i.vtb (posFrame s i.vtb i.w0) + vtbLineStart s i.vtb (i.w1 / 2 ^ 20) + (i.w1 % 2 ^ 20 : Nat)) %
      (2 ^ 64 : Nat)).toNat
  else i.w0 + 2 ^ 32 * i.w1

/-- The entry, with its slot and the number of its insertion. Arguments that R459 shows as "—" are held as 0. -/
def Insert.entry (i : Insert) (s : State) : SchedEntry :=
  { idx := freeSlot s, action := i.action, scale := i.scaleOf, late := i.late, owner := i.owner % 32,
    vtb := if i.scale = 0 then i.vtb else 0, fromPos := i.scale == 0, time := i.time s,
    arg0 := if i.action = aMARK then 0 else i.arg0,
    arg1 := if i.action = aATW ∨ i.action = aDAWN then i.arg1 else 0,
    arg2 := if i.action = aATW then i.arg2 else 0,
    tag := i.tag, frame32 := if i.scale = 0 then i.w0 else 0, order := s.sched.order, handed := false }

/-- The queue has no room for the owner (R460). -/
def Insert.full (i : Insert) (s : State) : Bool :=
  decide (4096 ≤ schedOcc s) || (i.task && decide (min 4096 (s.get R.SCHED_CTRL.TASK_LIMIT) ≤ schedOcc s))

/-- BAD_POS (R460, R530). -/
def Insert.badPos (i : Insert) (s : State) : Bool :=
  let l := i.w1 / 2 ^ 20
  (i.scale == 0 && (!vtbRunning s i.vtb || l == 0 || decide (vtbL s i.vtb < l))) ||
  (isLaunch i.action && decide (2 ≤ i.scale))

/-- A register address that a timed write may have: a register of a block, outside SCHED (R460). -/
def atwAddr (a : Nat) : Bool :=
  a % 4 == 0 && (match blkAt a with | some b => b != .sched | none => false)

/-- BAD_TARGET (R460, R530). -/
def Insert.badTarget (i : Insert) : Bool :=
  (i.action == aATW && (!atwAddr i.arg0 || (i.task && !taskStore i.tperm i.arg0))) ||
  (i.task && i.action == aCOMMIT && !(maskBlks i.arg0).all (taskMay i.tperm)) ||
  (i.task && i.action == aDAWN && !taskMay i.tperm (.tx (carrierOf i.arg0))) ||
  (i.task && i.action == aRPL && !taskMay i.tperm .store)

/-- BAD_ARG (R460). -/
def Insert.badArg (i : Insert) (s : State) : Bool :=
  decide (4 < i.action) ||
  (i.action == aCOMMIT && (i.arg0 == 0 || i.arg0 &&& (0xFFFFFFFF ^^^ maskBits) != 0)) ||
  (i.action == aDAWN && decide (1 < i.arg0 ∨ 65535 < i.arg1)) ||
  (i.action == aRPL && decide (15 < i.arg0 ∨ i.scale ≠ 0 ∨ i.vtb ≠ s.get (R.RPL_DEST.VTB.ix i.arg0)))

/-- A failure status (R460). -/
def failStatus (code : Nat) : Nat := 2 ^ 31 + code

/-- The failure of an insertion, lowest code first (R19, R460, R528, R530); 0 for none. -/
def Insert.code (i : Insert) (s : State) : Nat :=
  if i.full s then 1
  else if i.badPos s then 2
  else if (i.task && decide (16 ≤ i.owner)) || i.badTarget then 3
  else if decide (4 < i.action) || i.badArg s then 4
  else if isLate s (i.entry s) && !i.late then 5
  else if s.frozen then 6
  else 0

/-- An insertion: the status word, and the queue with the entry, or a late entry executed at once (R460, R463). -/
def insertWith (atw : State → SchedEntry → State) (s : State) (i : Insert) : State × Nat :=
  let code := i.code s
  let e := i.entry s
  if code = 1 then ((s.bump R.SCHED_CNT1.FULL_REJ).raise E.SCHED_FULL (i.owner % 32), failStatus 1)
  else if code = 5 then
    ((s.bump R.SCHED_CNT0.LATE_DROP).raise E.SCHED_LATE (i.tag % 65536 + 65536), failStatus 5)
  else if code ≠ 0 then (s, failStatus code)
  else
    let lateNow := isLate s e
    let s := schedHwm { s with sched := { s.sched with entries := s.sched.entries ++ [e], order := s.sched.order + 1 } }
    if lateNow then
      let s := (s.bump R.SCHED_CNT0.LATE_EXEC).raise E.SCHED_LATE (i.tag % 65536)
      (runEntry atw s e, e.idx)
    else (s, e.idx)

end Sys2Proof.Machine
end

