-- ==== Sys2Proof/Machine/Fabric.lean ====
section
/-! DEFINITION. The register fabric: what a read of a register returns and does, what a write does, bus errors, timed writes
(R4 to R18, R25, R431, R432, R459, R464, R465, R494, R499). Writes that step time run due entries of the scheduler, which
write in turn; they take that step as an argument. -/

namespace Sys2Proof.Machine

open Sys2Proof

/-! Reach of a register (R5, R22, R386, R491, R494). -/

/-- The lane whose switch a register lies behind. -/
def laneOfReg (b : Blk) (addr : Nat) : Option Nat :=
  let o := addr % 0x10000
  if o < 0x1000 ∨ 0x1600 ≤ o then none
  else match b with
    | .lanes => some ((o - 0x1000) / 0x40)
    | .pod => some (24 + (o - 0x1000) / 0x40)
    | _ => none

/-- The register's domain is on and clocked, and its lane is on. Under a stalled mux the access is withdrawn after 50 µs with
a bus error, without effect (R495). -/
def reachable (s : State) (b : Blk) (addr : Nat) : Bool :=
  let d := regDom b addr
  s.domOn d && !s.domGated d && (match laneOfReg b addr with | some n => laneEnabled s n | none => true) &&
  (match regMux s b with | some m => !s.on (R.CLK_MUX.MUX_STALL.ix m) | none => true)

/-- The block of an aligned register address (R4, R5). -/
def regBlk (addr : Nat) : Option Blk := if addr % 4 = 0 then blkAt addr else none

/-- The access path of a requester (R432). -/
def pathOf : Requester → Nat
  | .control | .scheduler => 0
  | .host => 1
  | .ubant => 2

/-- A voted control write. -/
def votedBy : Requester → Bool
  | .control | .scheduler => true
  | .host | .ubant => false

/-! Reading. -/

/-- A field as a read returns it (R6, R9): WO fields read 0, STAGED fields their shadow copies. -/
def fieldRead (s : State) (f : Fld) : Nat :=
  match f.acc with
  | .wo => 0
  | _ => if f.upd = .staged then s.staged f else s.get f

/-- The fields of a register put together. -/
def plainRead (s : State) (b : Blk) (addr : Nat) : Nat :=
  (fieldsAt b addr).foldl (fun w f => w ||| fieldRead s f <<< f.lsb) 0

/-- The same at reset values, as a block in SOFT_RESET shows it (R14). -/
def resetRead (b : Blk) (addr : Nat) : Nat :=
  (fieldsAt b addr).foldl (fun w f => w ||| resetValue f <<< f.lsb) 0

/-- A window word of a block in SOFT_RESET (R14). -/
def winReset (addr : Nat) (w : Win) : Nat :=
  match w with
  | .txLut k => linearWord (k % 1024)
  | _ => R.resets.get (wordAt addr).key

/-- A window word. -/
def winRead (s : State) (b : Blk) (addr : Nat) (w : Win) : Nat :=
  match w, b with
  | .txLut k, .tx c => txLutRead s c k
  | .dawnSeed o, .dawn c => s.get (seedWord c (s.getC c R.DAWN_SEED_SEL.ENTRY) o)
  | .staged, _ => s.staged (wordAt addr)
  | .wo, _ | .woVoted, _ => 0
  | .ledger k, _ => leAt (s.ldg.buf.headD []) (4 * k) 4
  | _, _ => s.get (wordAt addr)

/-- The head of the event queue. -/
def evHead (s : State) : Ev := s.ev.entries.headD ⟨0, 0, 0, 0⟩

/-- The index of a register of an array at an address. -/
def arrIx (f : Fld) (addr : Nat) : Option Nat :=
  (f.elem addr).map (fun _ => if f.stride = 0 then 0 else (addr - f.addr) / f.stride)

/-- Registers of EVENT that show the queue (R504). -/
def evRead (s : State) (addr w : Nat) : Nat :=
  let h := evHead s
  if addr = R.EV_STAT.DEPTH.addr then w ||| s.ev.entries.length
  else if addr = R.EV_HEAD.ID.addr then (if s.ev.entries.isEmpty then 0 else 2 ^ 31 + h.id * 256 + h.count)
  else if addr = R.EV_HEAD_DATA.DATA.addr then h.data
  else if addr = R.EV_HEAD_TIME.TIME.addr then h.time
  else if addr = (R.EV_MASK.MASK.ix 10).addr then w % 65536
  else w

/-- Registers of TIME that show counts (R471 to R473). -/
def timeRead (s : State) (addr w : Nat) : Nat :=
  if addr = (R.TD_NOW.NOW.ix 0).addr then domNow s 0
  else if addr = (R.TD_NOW.NOW.ix 1).addr then domNow s 1
  else if addr = (R.TD_SLEW_LEFT.LEFT.ix 0).addr then ofSigned 32 ((domSlew s 0).tdiv timeUnit)
  else if addr = (R.TD_SLEW_LEFT.LEFT.ix 1).addr then ofSigned 32 ((domSlew s 1).tdiv timeUnit)
  else if addr = R.AON_NOW.AON.addr then s.time.aon
  else match [0, 1, 2, 3].find? (fun k => addr == (R.VTB_POS.FRAME.ix k).addr || addr == (R.VTB_LINE.LINE_PS.ix k).addr) with
    | some k => if addr = (R.VTB_POS.FRAME.ix k).addr then vtbPos s k else vtbLinePs s k
    | none => w

/-- A register whose value is a measurement that the spec gives no rule for: it is free at each read (R388, R439; log entry 7). -/
def openRead (b : Blk) (addr : Nat) : Option Fld :=
  match b with
  | .clk => if addr = R.CLK_PERR.PERR_PS.addr then some R.CLK_PERR.PERR_PS else none
  | .lanes | .pod => (fieldsAt b addr).find? (fun f => f.addr % 0x1000 % 0x40 == 8 && f.lsb == 16)
  | _ => none

/-- A register is shown at its reset value: its block is in SOFT_RESET (R14). The block header, EVENT from 0x200 upward (R670) and
PWR but for what R671 names stand as they are. -/
def showsReset (s : State) (b : Blk) (addr : Nat) : Bool :=
  let o := addr % 0x10000
  s.on (resettingF b) && decide (o = 8 ∨ 16 ≤ o) &&
  (match b with
   | .event => decide (16 ≤ o ∧ o < 0x200)
   | .pwr => false
   | _ => true)

/-- The WS bits of a register whose action is in progress (R6). -/
def wsBits (s : State) (b : Blk) (addr : Nat) : Nat :=
  match b with
  | .conv c =>
    if addr = (R.CAL_CTRL.BG_START.on c).addr then
      b2n (s.onC c R.CONV_STAT.BG_BUSY || s.onC c R.CONV_STAT.BG_PENDING) * 8 + b2n (s.cvh c).fgByWrite * 16
    else if addr = (R.CAL_IMG_CTRL.SNAP.on c).addr then
      (match (s.cvh c).job with | .snap => 1 | .load => 2 | .none => 0)
    else 0
  | .framer c => if addr = (R.FRM_DM.DM_START.on c).addr then b2n ((s.mh c).dmPending || (s.mh c).dmRunning) else 0
  | .cipher c =>
    if addr = (R.CIPH_LOAD.KEY_LOAD.on c).addr then
      (match (s.ch c).job with | .key .. => 0x100 | .kek clear _ => if clear then 0x200 else 0x400 | .exportKek => 0x800 | .none => 0)
    else 0
  | .store =>
    if addr = R.STORE_MOD_CTRL.REREAD.addr then (List.range 4).foldl (fun w m => w + b2n (md s m).reading * 2 ^ (8 + m)) 0
    else match arrIx R.RING_CMD.DISARM addr, arrIx R.RPL_CMD.PREPARE addr with
      | some r, _ => b2n (rg s r).stopping * 2
      | _, some j => b2n (rplState s j == 1)
      | _, _ => 0
  | .sys =>
    if addr = R.SYS_STATE_REQ.KEY.addr then b2n (s.pwr.night == 1) + b2n (s.pwr.night == 2 || s.pwr.wakePend) * 2 else 0
  | .clk => if addr = R.FMEAS_CTRL.START.addr then b2n (s.on R.FMEAS_CTRL.BUSY) else 0
  | .madc =>
    if addr = R.MADC_CMD.CAL_ZERO.addr then (match s.pwr.cal with | some false => 1 | some true => 2 | none => 0) else 0
  | .event =>
    if addr = R.PROG_CTRL.VERIFY.addr then b2n (s.on R.PROG_STAT.BUSY) + b2n s.ctl.switchDue * 2
    else 0
  | .hostif =>
    if addr = R.ID_CTRL.REREAD.addr then b2n s.host.reading.A * 0x10000 + b2n s.host.reading.B * 0x20000
    else if addr = R.HOST_BOOT.BOOT_GO.addr then b2n (s.host.boot == .verify && s.host.bootSrc == 1)
    else if addr = R.SPI_CMD.START.addr then b2n (s.on R.SPI_CMD.BUSY) * 2 ^ 31
    else match arrIx R.DMA_CTRL.START addr with
      | some k => b2n (s.on (R.DMA_CTRL.BUSY.ix k)) * 2 ^ 31
      | none => 0
  | _ => 0

/-- The value of a register at an address of a block, up to 48 bits. -/
def regValue (s : State) (b : Blk) (addr : Nat) : Nat :=
  let o := addr % 0x10000
  match winAt b o with
  | some w => if showsReset s b addr then winReset addr w else winRead s b addr w
  | none =>
    if o = 0 then blkCode b * 65536 + blkInstanceNo b * 256 + 0xB0
    else if showsReset s b addr then
      (if o = 8 then plainRead s b addr % 256 + resetRead b addr / 256 * 256 else resetRead b addr)
    else
      let w := plainRead s b addr ||| wsBits s b addr
      let w := if o = 12 then w ||| 2 * b2n (s.commitPending b) else w
      let w := match openRead b addr with | some f => w ||| (s.free % 2 ^ f.width) <<< f.lsb | none => w
      match b with
      | .event => evRead s addr w
      | .time => timeRead s addr w
      | .sched => if o = 8 then w ||| schedOcc s * 65536 ||| b2n s.frozen * 2 ^ 31 else w
      | .pair =>
        if addr = R.PAIR_HEALTH.HEALTH.addr then healthWord s
        else if addr = R.PAIR_MASK.FAULT_MASK.addr then w ||| 5
        else if addr = R.PAIR_STAT.WTR_LEFT.addr then w ||| (wtrLeft s % 4096) * 256 else w
      | .dawn c =>
        if addr = (R.DAWN_MS.MS.on c).addr then dawnMs s c
        else if o = 8 then w ||| b2n (expectedEntry s c).isSome * 65536 else w
      | .framer c =>
        if c = .B ∧ (o = R.FRM_DUAL.WTR.addr % 0x10000 ∨ o = R.FRM_DUAL_STAT.SEL.addr % 0x10000) then 0 else w
      | _ => w

/-- The register at an address is the low word of a wider result (R431). -/
def wideAt (b : Blk) (addr : Nat) : Bool := (fieldsAt b addr).any (·.wide)

/-- The snapshot of a wide result on an access path (R431, R432). -/
def snapKey (path addr : Nat) : Nat := path * 2 ^ 40 + addr
/-- That snapshot. -/
def snapOf (s : State) (path addr : Nat) : Nat := s.ctl.snaps.get (snapKey path addr)
/-- That snapshot replaced. -/
def setSnap (s : State) (path addr v : Nat) : State :=
  let m : Map Nat := Map.set s.ctl.snaps (snapKey path addr) v
  { s with ctl := { s.ctl with snaps := m } }

/-- The high word that goes with a snapshot: SUPERSEDED and bits 47:32 (R431). -/
def highWord (snap now : Nat) : Nat := b2n (snap != now) * 2 ^ 31 + snap / 2 ^ 32 % 65536

/-- The restart value of an RC field (R6, R474, R504, R254). -/
def restartValue (s : State) (f : Fld) : Nat :=
  if f = R.EV_STAT.HWM then satTo 6 s.ev.entries.length
  else if f = R.SCHED_HWM.HWM then schedOcc s
  else if f = R.FEC_POOL_STAT.CREDIT_MIN.on .A then s.getC .A R.FEC_POOL_STAT.CREDIT
  else if f = R.FEC_POOL_STAT.CREDIT_MIN.on .B then s.getC .B R.FEC_POOL_STAT.CREDIT
  else resetValue f

/-- The RC fields of a register restart (R6). -/
def rcClear (s : State) (b : Blk) (addr : Nat) : State :=
  ((fieldsAt b addr).filter (fun f => f.acc == .rc)).foldl (fun s f => s.set f (restartValue s f)) s

/-- The owner's snapshot of the head's COUNT (R499). -/
def evSnap (s : State) : State :=
  { s with ev := { s.ev with snap := s.ev.entries.head?.map (·.count), recorded := none } }

/-- The path of the reader that owns the event queue (R498). -/
def evOwner (s : State) : Nat := s.get R.EV_CTRL.OWNER

/-- The side effects of a read, beside the snapshot. -/
def readEffect (s : State) (path : Nat) (b : Blk) (addr : Nat) : State :=
  let s := if (openRead b addr).isSome then s.freeNext else s
  if addr = R.EV_HEAD.ID.addr then (if path = evOwner s then evSnap s else s)
  else if addr = R.CL_TS_NS.NS.addr then tsPop s
  else if showsReset s b addr then s
  else rcClear s b addr

/-- A 32-bit read at a register address that can be reached: the word, and what the read does. -/
def readWord (s : State) (path : Nat) (b : Blk) (addr : Nat) : State × Nat :=
  let v := regValue s b addr
  if wideAt b addr then (readEffect (setSnap s path addr v) path b addr, v % 2 ^ 32)
  else if decide (4 ≤ addr % 0x10000) && (winAt b (addr % 0x10000 - 4)).isNone && wideAt b (addr - 4) then
    (s, highWord (snapOf s path (addr - 4)) (regValue s b (addr - 4)))
  else (readEffect s path b addr, v % 2 ^ 32)

/-- A read of the register space; none is a bus error (R5, R494). -/
def regRead (s : State) (path addr : Nat) : State × Option Nat :=
  match regBlk addr with
  | none => (s, none)
  | some b =>
    if reachable s b addr then
      let r := readWord s path b addr
      (r.1, some r.2)
    else (s, none)

/-- What a failed read returns to a host (R494, R613). -/
def badData : Nat := 0xBAD00BAD

/-! Writing fields (R6 to R11). -/

/-- The part of a written word that belongs to a field. -/
def fieldOf (f : Fld) (v : Nat) : Nat := bitsOf v (f.lsb + f.width - 1) f.lsb

/-- Fields that only a voted control write changes (R25, R503, R540, R636). -/
def votedFields : List Fld :=
  [R.SYS_CTRL.HOST_LOCK, R.PERF_CTRL.PERF_TASK_EN, R.PROG_CTRL.TASK_AT, R.DMA_WIN.BASE, R.DMA_WIN.LIMIT, R.ID_CTRL.OVR,
   R.UB_CTRL.DBG_BLOCK, R.HOST_BOOT.BOOT_SERVE]

/-- Fields of the lanes whose writes have behaviour. -/
def laneHooked : List Fld := [R.LN_CTRL.RX_INV, R.LN_CTRL.AUTO_POL, R.LN_PAT.GEN_EN, R.LN_PAT.CHK_EN]

/-- RW fields whose writes have behaviour of their own, which `regHook` gives them. -/
def hookedFields : Blk → List Fld
  | .sys => [R.SYS_CMODE.MODE, R.SYS_CMODE.BEXA_BURST, R.SYS_CMODE.REGEN_XDEV]
  | .clk => [R.CLK_MUX.SEL, R.CLK_MUX.DOM_RST]
  | .time => [R.TD_CTRL.VALID, R.VTB_CFG.EN]
  | .pwr => [R.PWR_DOM_EN.EN, R.PWR_CGATE.GATE, R.THERM_CTRL.THROTTLE_TEST]
  | .madc => [R.MADC_CH.CH]
  | .pair => [R.PAIR_CMD.CLAIM_INHIBIT]
  | .tx c => [R.TX_CTRL.MUTE.on c]
  | .conv c => [R.CAL_CTRL.MODEL.on c]
  | .dawn c => [R.DAWN_EXPECT.VALID.on c, R.DAWN_EXPECT.SRC_ID.on c]
  | .framer c =>
    [R.FRM_FORCE.FORCE.on c, R.FRM_FORCE.BIP_INJ.on c] ++
    (if c = .B then [R.FRM_DUAL.SEL_MODE, R.FRM_DUAL.WTR, R.FRM_DUAL.STORE_ASSIST].map (·.on .B) else [])
  | .client => [R.CL_PORT_CFG.EN]
  | .lanes => R.LANES_EN.EN :: laneHooked
  | .pod => [R.POD_LANE_EN.EN, R.POD_PORT.EN] ++ laneHooked.map (fun f => { f with addr := f.addr + 0x10000 })
  | .hostif => [R.MBOX_H2S.LEN, R.MBOX_S2H.LEN]
  | _ => []

/-- "Stopped" for a HALTED field at an address (R11, R33, R136, R334, R353, R370, R387, R456). -/
def fieldStopped (s : State) (b : Blk) (addr : Nat) (f : Fld) : Bool :=
  let o := addr % 0x10000
  match b with
  | .time => !s.on (R.VTB_CFG.EN.ix ((o - 0x100) / 0x20))
  | .rxdsp c =>
    if decide (0x100 ≤ o) || f == R.RX_SHIFT.SH_FF.on c then (subBlocks c).all (fun x => !s.running x) else !s.running b
  | .client => if 0x1000 ≤ o then !portRunning s ((o - 0x1000) / 0x100) else !s.running b
  | .flow => !ringArmed s ((o - 0x1000) / 0x20)
  | .store =>
    if 0x3000 ≤ o then !rplActive s ((o - 0x3000) / 0x40)
    else if 0x1000 ≤ o then !ringArmed s ((o - 0x1000) / 0x20) else !s.running b
  | .lanes => (laneOwner s ((o - 0x1000) / 0x40)).isNone
  | .pod =>
    if 0x1000 ≤ o then !s.on (R.POD_PORT.EN.ix ((o - 0x1000) / 0x100))
    else !s.on (R.POD_PORT.EN.ix 4) && !s.on (R.POD_PORT.EN.ix 5)
  | _ => !s.running b

/-- A field of a written register: the field as the tables give it, and the one at the address. -/
def fieldPairs (b : Blk) (addr : Nat) : List (Fld × Fld) :=
  (rowsOf b).filterMap (fun f => (f.elem addr).map (fun g => (f, g)))

/-- A field without behaviour of its own takes its part of the word (R6 to R9, R11). -/
def writeField (s : State) (voted : Bool) (b : Blk) (addr v : Nat) (fg : Fld × Fld) : State :=
  let f := fg.1
  let g := fg.2
  let x := fieldOf g v
  match f.acc with
  | .ro | .rc | .wo | .ws => s
  | .w1c => s.set g ((s.get g ||| x) ^^^ x)
  | .rw =>
    if (hookedFields b).contains f || (votedFields.contains f && !voted) then s
    else match f.upd with
      | .staged => s.stage g x
      | .halted => if fieldStopped s b addr g then s.set g x else s
      | _ => s.set g x

/-- A HALTED field of the register is written with another value while it is not stopped (R11). -/
def haltedDiffers (s : State) (b : Blk) (addr v : Nat) : Bool :=
  b != .sys && (fieldPairs b addr).any (fun fg =>
    fg.1.upd == .halted && fg.1.acc == .rw && !(hookedFields b).contains fg.1 &&
    !fieldStopped s b addr fg.2 && s.get fg.2 != fieldOf fg.2 v)

/-- Every field without behaviour of its own, with the discard of R11. -/
def writePlain (s : State) (voted : Bool) (b : Blk) (addr v : Nat) : State :=
  let t := (fieldPairs b addr).foldl (fun s fg => writeField s voted b addr v fg) s
  if haltedDiffers s b addr v then haltedDiscard t b addr else t

/-! Windows. -/

/-- A write to a window word; false is a bus error (R9, R11, R59, R204, R313, R330, R616, R634, R636). -/
def winWrite (s : State) (by' : Requester) (b : Blk) (addr v : Nat) (w : Win) : State × Bool :=
  match w, b with
  | .txLut k, .tx c =>
    if s.running (.tx c) && s.getC c R.TX_LUT_CTRL.BANK_SEL == k / 1024 then
      ((if txLutRead s c k = v then s else haltedDiscard s b addr), true)
    else (txLutWrite s c k v, true)
  | .rxSeed k, .rxdsp c => (seedWindowWrite s c k v, true)
  | .dawnSeed o, .dawn c => (dawnSeedWrite s c o v, true)
  | .ro, _ | .ledger _, _ => (s, true)
  | .convImg, .conv c => (if s.onC c R.CAL_IMG_CTRL.BUSY then s else s.set (wordAt addr) v, true)
  | .staged, _ => (s.stage (wordAt addr) v, true)
  | .wo, _ => if by' = .ubant then (s, false) else (s.set (wordAt addr) v, true)
  | .woVoted, _ => if votedBy by' then (s.set (wordAt addr) v, true) else (s, false)
  | .h2s, _ =>
    if votedBy by' then (s, true)
    else if s.on R.MBOX_H2S.FULL then (s.setB R.MBOX_H2S.DROP true, true)
    else (s.set (wordAt addr) v, true)
  | .s2h, _ =>
    if !votedBy by' then (s, true)
    else if s.on R.MBOX_S2H.FULL then (s.setB R.MBOX_S2H.DROP true, true)
    else (s.set (wordAt addr) v, true)
  | .voted, _ => if votedBy by' then (s.set (wordAt addr) v, true) else (s, true)
  | _, _ =>
    if by' = .ubant && decide (addr / 0x100000 = 0x401 ∨ addr / 0x100000 = 0x402) && (blkAt addr == some (.cipher .A) || blkAt addr == some (.cipher .B))
    then (s, false) else (s.set (wordAt addr) v, true)

/-! Registers with behaviour. -/

/-- BLK_CTRL (R13, R14, R665, R666). -/
def ctrlWrite (s : State) (b : Blk) (v : Nat) : State :=
  levels (if bitOf v 1 then softReset s b else runWrite s b (bitOf v 0))

/-- BLK_COMMIT (R16, R17). -/
def commitWrite (s : State) (b : Blk) (v : Nat) : State :=
  let s := if (blkCarrier b).isSome && decide (bitsOf v 9 8 < 2) then s.set (cpSelF b) (bitsOf v 9 8) else s
  if bitOf v 0 then commitReq s b else s

/-- MUTE is written, with the frames lost with a burst that it cuts off (R69, R343). -/
def muteWrite (s : State) (c : Carrier) (mute : Bool) : State := abortLoss s (txMuteWrite s c mute) c

/-- EV_POP: the owner removes the head; later occurrences are queued again (R499). -/
def evPop (s : State) (path : Nat) : State :=
  if path ≠ evOwner s then s
  else match s.ev.entries with
    | [] => s
    | h :: rest =>
      let rise := match s.ev.snap with | some k => h.count - k | none => 0
      let rec' := s.ev.recorded.getD (h.data, h.time)
      let s := histSample { s with ev := ⟨rest, none, none⟩ } 1 ((s.time.aon + 2 ^ 48 - h.time) % 2 ^ 48 : Nat)
      if rise = 0 then s else s.enqueueEvent ⟨h.id, rise, rec'.1, rec'.2⟩

/-- SYS_STATE_REQ, by the precedence of R40. -/
def stateReq (s : State) (v : Nat) : State :=
  if bitOf v 2 && bitsOf v 31 16 == 0x5EED && s.dev ≠ stTHERMALOFF then sysReset s 0x5EED
  else
    let standby := s.dev == stSTANDBY
    let s := if bitOf v 1 then wake s else s
    if !bitOf v 0 then s else if standby then nightReq s else s.raise E.NIGHT_REFUSED 0

/-- SYS and CLK. -/
def hookClk (s : State) (addr v : Nat) : State :=
  match arrIx R.CLK_REF_CFG.EN addr, arrIx R.CLK_MUX.SEL addr with
  | some r, _ => refRestart s r
  | _, some n =>
    let on := fieldOf R.CLK_MUX.DOM_RST v != 0
    let s := if s.on (R.CLK_MUX.DOM_RST.ix n) = on then s else domRstWrite s n on
    let sel := fieldOf R.CLK_MUX.SEL v
    let s := if s.get (R.CLK_MUX.SEL.ix n) = sel then s else muxSelWrite s n sel
    if bitOf v 9 then muxForce s n else s
  | _, _ => if addr = R.FMEAS_CTRL.START.addr && bitOf v 0 then fmeasStart s else s

/-- TIME; `stepped` runs what a step of time makes due (R465). -/
def hookTime (stepped : State → State → State) (s : State) (addr v : Nat) : State :=
  match arrIx R.TD_CTRL.VALID addr, arrIx R.TD_STEP.STEP addr, arrIx R.TD_SLEW.SLEW addr, arrIx R.VTB_CFG.EN addr with
  | some d, _, _, _ =>
    let s := domValidWrite s d (bitOf v 31)
    if bitOf v 0 then stepped s (tdSet s d) else s
  | _, some d, _, _ => stepped s (tdStep s d v)
  | _, _, some d, _ => tdSlew s d v
  | _, _, _, some k => vtbEnable s k (bitOf v 31)
  | _, _, _, _ =>
    if addr = R.TIME_CTRL.SW_REQ.addr then
      if bitOf v 2 then stepped s (swForce s) else if bitOf v 1 then swReq s else s
    else if addr = R.CAP_CTRL.CAP_NOW.addr && bitOf v 0 then timeCapture s false
    else if addr = R.PPS_OUT_CFG.EN.addr || addr = R.PPS_OUT_OFF.OFF_NS.addr then ppsConfig s
    else s

/-- PWR and THERM. -/
def hookPwr (s : State) (addr v : Nat) : State :=
  if addr = R.PWR_DOM_EN.EN.addr then domEnWrite s v
  else if addr = R.PWR_DOM_FORCE.FORCE_OFF.addr then (bitsSet 22 v).foldl domForceOff s
  else if addr = R.PWR_CGATE.GATE.addr then cgateWrite s v
  else if addr = R.PWR_CGATE_FORCE.FORCE.addr then (bitsSet 22 v).foldl cgateForce s
  else if addr = R.THERM_CTRL.THROTTLE_TEST.addr then
    let on := fieldOf R.THERM_CTRL.THROTTLE_TEST v != 0
    if s.on R.THERM_CTRL.THROTTLE_TEST = on then s else throttleTest s on
  else s

/-- EVENT: the queue, the control restart, PROG_CTRL (R485, R499, R537, R538). -/
def hookEvent (s : State) (by' : Requester) (addr v : Nat) : State :=
  if addr = R.EV_POP.POP.addr then (if bitOf v 0 then evPop s (pathOf by') else s)
  else if addr = R.MEM_CTRL.LEAK_PERIOD.addr then s.mark .memLeak
  else if addr = R.CTL_RESTART.RESTART.addr then
    if bitOf v 0 && !votedBy by' then ctlRestart s (bitsOf v 31 16) else s
  else if addr = R.PROG_CTRL.VERIFY.addr && votedBy by' then
    let s := if bitOf v 0 then progVerify s else s
    if bitOf v 1 && bitsOf v 31 16 == 0x5EED then progSwitch s else s
  else s

/-- PAIR. -/
def hookPair (s : State) (by' : Requester) (addr v : Nat) : State :=
  if addr = R.PAIR_CMD.KICK.addr then
    let s := if bitOf v 4 && votedBy by' then kick s else s
    let s := if bitOf v 3 then revertGo s else s
    let s := if bitOf v 2 then pairRelease s (bitsOf v 31 16) else s
    claimInhibit s (fieldOf R.PAIR_CMD.CLAIM_INHIBIT v != 0)
  else
    let s := if addr = R.PAIR_TIMERS.KICK_MS.addr then s.mark .kick else s
    let s := if addr = R.PAIR_SYNC.SYNC_SEND.addr && bitOf v 31 then syncSend s else s
    pairSettle s

/-- PERF. -/
def hookPerf (s : State) (addr v : Nat) : State :=
  if addr = R.PERF_CLR.CLR.addr then perfClr s v
  else match arrIx R.HIST_CMD.SNAP addr with
    | some h =>
      let s := if bitOf v 1 then histSnap s h else s
      if bitOf v 0 then histClear s h else s
    | none => s

/-- CONV of a carrier; FG_START and MODEL are HALTED, with one discard for a write (R11, R97, R108); SNAP and LOAD together
perform LOAD alone (R112). A write of BG_MODE starts no pass by itself: R104 names the events that do (log entry 102). -/
def hookConv (s : State) (c : Carrier) (addr v : Nat) : State :=
  if addr = (R.CAL_CTRL.MODEL.on c).addr then
    let banded := fieldOf R.CAL_CTRL.MODEL v != 0
    let s :=
      if s.running (.conv c) && (bitOf v 4 || s.onC c R.CAL_CTRL.MODEL != banded) then haltedDiscard s (.conv c) addr
      else if s.running (.conv c) then s
      else
        let s := modelChange s c banded
        if bitOf v 4 then fgStart s c else s
    if bitOf v 3 then passRequest s c else s
  else if addr = (R.CAL_IMG_CTRL.SNAP.on c).addr then
    if bitOf v 1 then calLoad s c else if bitOf v 0 then calSnap s c else s
  else if addr % 0x10000 < 0x18 ∧ 0x10 ≤ addr % 0x10000 then levels (pllRatesAll s)
  else tiaFollow s c

/-- RXDSP of a carrier. SEED_CLEAR and SEED_CAPTURE in one write: cleared first, then captured, the model's order (R172; log
entry 100). -/
def hookRx (s : State) (c : Carrier) (addr v : Nat) : State :=
  if addr = (R.RX_SEED_CTRL.SEED_CLEAR.on c).addr then
    let s := if bitOf v 2 then seedClear s c else s
    if bitOf v 3 then seedCapture s c else s
  else if addr = (R.RX_ACQ_CTRL.ACQ_RESTART.on c).addr then
    if bitOf v 8 then acqFrameLock (acqRestart s c) c else s
  else if addr = (R.RX_TAP_CTRL.TAP_SNAP.on c).addr then (if bitOf v 0 then tapSnap s c else s)
  else if addr = (R.RX_RATE.SYM_RATE.on c).addr then levels (pllRatesAll s)
  else s

/-- DAWN of a carrier (R204, R205); outputs at rest follow a new PRESET (R188). -/
def hookDawn (s : State) (c : Carrier) (addr v : Nat) : State :=
  if addr = (R.DAWN_EXPECT.VALID.on c).addr then expectWrite s c v
  else if addr = (R.DAWN_SEED_CMD.OP.on c).addr then
    match bitsOf v 9 8 with
    | 0 => seedFreeze s c (v % 64)
    | 1 => seedThaw s c (v % 64)
    | 2 => seedInvalidate s c (v % 64)
    | _ => s
  else if addr = (R.DAWN_AGC.PRESET.on c).addr then dawnRest s c
  else s

/-- FRAMER of a carrier. The skew that a realignment finds is free (log entry 7). -/
def hookFramer (s : State) (c : Carrier) (addr v : Nat) : State :=
  let s := if addr = (R.FRM_FORCE.FORCE.on c).addr then defectForce s c v else s
  let s := if c = .A ∧ addr = R.FRM_DUAL.REALIGN.addr ∧ bitOf v 2 then dualRealign s.freeNext (s.free % 2 ^ 28 : Nat) else s
  let s := if addr = (R.FRM_DM.DM_START.on c).addr ∧ bitOf v 0 then dmStart s c else s
  levels (frmRefresh s c)

/-- CIPHER of a carrier. -/
def hookCipher (s : State) (c : Carrier) (by' : Requester) (addr v : Nat) : State :=
  if addr = (R.CIPH_LOAD.KEY_LOAD.on c).addr then
    let s := if bitOf v 8 then keyLoad s c (s.getC c R.CIPH_LOAD.TARGET) else s
    let s := if bitOf v 9 && votedBy by' then kekClear s c .control else s
    let s := if bitOf v 10 then kekBlob s c else s
    if bitOf v 11 then kekExport s c else s
  else s

/-- STORE. -/
def hookStore (before s : State) (addr v : Nat) : State :=
  if addr = R.STORE_MOD_CTRL.REREAD.addr then
    (List.range 4).foldl (fun s m =>
      let rises := bitOf v m && !bitOf (before.get R.STORE_MOD_CTRL.ID_OVERRIDE) m
      if rises || bitOf v (8 + m) then modReread s m else s) s
  else if addr = R.STORE_ECC_CTRL.LEAK_PERIOD.addr then leakRestart s
  else match arrIx R.RING_CMD.ARM addr, arrIx R.RPL_CMD.STOP addr with
    | some r, _ =>
      let s := if bitOf v 0 then ringArm s r else s
      let s := if bitOf v 1 then ringDisarm s r else s
      if bitOf v 2 then ringClear s r else s
    | _, some c =>
      let s := if bitOf v 0 then rplPrepare s c else s
      let s := if bitOf v 1 then rplLaunchNow s c else s
      if bitOf v 2 then rplStop s c else s
    | _, _ => s

/-- LN_PAT_WRITE: GEN_EN is HALTED (R11, R388, R406). -/
def lnPatWrite (s : State) (b : Blk) (n addr : Nat) (gen chk : Bool) : State :=
  let old := s.on (laneF n R.LN_PAT.GEN_EN)
  let stopped := fieldStopped s b addr R.LN_PAT.GEN_EN
  let s := if !stopped && gen != old then haltedDiscard s b addr else s
  lanePatWrite s n (if stopped then gen else old) chk

/-- The registers of a lane. -/
def hookLane (s : State) (b : Blk) (n addr v : Nat) : State :=
  let o := addr % 0x40
  if o = 0 then laneAutoPol (laneRxInv s n (fieldOf R.LN_CTRL.RX_INV v != 0)) n (fieldOf R.LN_CTRL.AUTO_POL v != 0)
  else if o = 4 then firRefresh s n
  else if o = 12 then
    let s := lnPatWrite s b n addr (fieldOf R.LN_PAT.GEN_EN v != 0) (fieldOf R.LN_PAT.CHK_EN v != 0)
    if bitOf v 23 then laneInjOne s n else s
  else s

/-- Lane enables whose bits change. -/
def laneEnables (s : State) (base : Nat) (v : Nat) : State :=
  (List.range 24).foldl (fun s i => if laneEnabled s (base + i) = bitOf v i then s else laneEnable s (base + i) (bitOf v i)) s

/-- LANES and POD. -/
def hookLanes (s : State) (b : Blk) (addr v : Nat) : State :=
  match laneOfReg b addr with
  | some n => hookLane s b n addr v
  | none =>
    if addr = R.LANES_EN.EN.addr then laneEnables s 0 v
    else if addr = R.POD_LANE_EN.EN.addr then laneEnables s 24 v
    else match arrIx R.POD_PORT.EN addr with
      | some k => if s.on (R.POD_PORT.EN.ix k) = bitOf v 31 then s else podPortEnable s k (bitOf v 31)
      | none => s

/-- A mailbox register: the acknowledge first, then the ring (R616). -/
def mboxWrite (s : State) (by' : Requester) (s2h : Bool) (v : Nat) : State :=
  let sends := (votedBy by') == s2h
  let s := if bitOf v 29 && !sends then mboxAck s s2h else s
  if bitOf v 28 then (if sends then mboxRing s s2h (v % 8192) else s) else s.set (mboxLen s2h) (v % 8192)

/-- HOSTIF. -/
def hookHost (s : State) (by' : Requester) (addr v : Nat) : State :=
  if addr = R.HOST_BOOT.BOOT_GO.addr then (if bitOf v 0 && by' = .host then bootGo s else s)
  else if addr = R.MBOX_H2S.LEN.addr then mboxWrite s by' false v
  else if addr = R.MBOX_S2H.LEN.addr then mboxWrite s by' true v
  else if addr = R.ID_CTRL.REREAD.addr then
    let s := if bitOf v 16 then idReread s .A else s
    if bitOf v 17 then idReread s .B else s
  else if addr = R.LC_CMD.OP.addr then
    if votedBy by' && bitsOf v 31 16 == 0x5EED then lcCmd s (v % 16) (bitsOf v 7 4) else s
  else if addr = R.SPI_CMD.START.addr then (if bitOf v 31 then spiStart s else s)
  else match arrIx R.DMA_CTRL.START addr with
    | some k => if bitOf v 31 then dmaStart s k else s
    | none => s

/-- What a write to a register does beside its plain fields. -/
def regHook (stepped : State → State → State) (before s : State) (by' : Requester) (b : Blk) (addr v : Nat) : State :=
  match b with
  | .sys =>
    if addr = R.SYS_STATE_REQ.KEY.addr then stateReq s v
    else match arrIx R.SYS_CMODE.MODE addr with
      | some i => cmodeWrite s (carrierOf i) v
      | none => s
  | .clk => levels (hookClk s addr v)
  | .time => hookTime stepped s addr v
  | .sched => if addr = R.SCHED_CANCEL.TAG.addr then schedCancel s v none else s
  | .pwr => hookPwr s addr v
  | .madc =>
    if addr = R.MADC_CH.CH.addr then madcChannel s (v % 16)
    else if addr = R.MADC_CMD.CAL_ZERO.addr then
      let s := if bitOf v 0 then madcCal s false else s
      if bitOf v 1 then madcCal s true else s
    else s
  | .event => hookEvent s by' addr v
  | .pair => hookPair s by' addr v
  | .perf => hookPerf s addr v
  | .ledger =>
    if addr = R.LDG_CMD.OP.addr then ldgCmd s (v % 16) (bitsOf v 15 8) (bitsOf v 31 16)
    else if addr = R.LDG_POP.POP.addr && bitOf v 0 then ldgPop s else s
  | .tx c =>
    if addr = (R.TX_CTRL.MUTE.on c).addr then muteWrite s c (fieldOf R.TX_CTRL.MUTE v != 0)
    else if addr = (R.TX_RATE.SYM_RATE.on c).addr then levels (pllRatesAll s)
    else if addr = (R.TX_DIAG.LPBK.on c).addr then levels (acqFrameLock (rxLoopFollow s c) c)
    else s
  | .conv c => hookConv s c addr v
  | .rxdsp c => hookRx s c addr v
  | .dawn c => hookDawn s c addr v
  | .framer c => hookFramer s c addr v
  | .cipher c => hookCipher s c by' addr v
  | .client =>
    match arrIx R.CL_PORT_CFG.EN addr with
    | some p =>
      if s.on (R.CL_PORT_CFG.EN.ix p) = bitOf v 31 then replRefresh s p
      else if bitOf v 31 then portEnable s p else portDisable s p
    | none => s
  | .store => hookStore before s addr v
  | .lanes | .pod => levels (hookLanes s b addr v)
  | .hostif => hookHost s by' addr v
  | .fec _ | .flow => s

/-- A write at a register address that can be reached; false is a bus error. -/
def writeReached (stepped : State → State → State) (s : State) (by' : Requester) (b : Blk) (addr v : Nat) : State × Bool :=
  let o := addr % 0x10000
  if s.on (resettingF b) && decide (o ≠ 4) && !(b == .event && decide (0x200 ≤ o)) then (s, true)
  else if o = 0 then (s, true)
  else if o = 4 then (ctrlWrite s b v, true)
  else if o = 12 then (commitWrite s b v, true)
  else match winAt b o with
    | some w => winWrite s by' b addr v w
    | none => (regHook stepped s (writePlain s (votedBy by') b addr v) by' b addr v, true)

/-- HOST_LOCK refuses the write (R25). -/
def hostLocked (s : State) (by' : Requester) (b : Blk) : Bool :=
  !votedBy by' && s.on R.SYS_CTRL.HOST_LOCK && b != .hostif && b != .event && b != .ledger

/-- A write that is not the supervisor's and would clear the key-encryption key: a bus error and no change (R313). -/
def hostClearsKek (by' : Requester) (b : Blk) (addr v : Nat) : Bool :=
  match b with
  | .cipher c => !votedBy by' && addr == (R.CIPH_LOAD.KEK_CLEAR.on c).addr && bitOf v 9
  | _ => false

/-- A 32-bit write to the register space; false is a bus error, which has changed nothing (R4, R5, R25, R494). -/
def regWriteWith (stepped : State → State → State) (s : State) (by' : Requester) (addr v : Nat) : State × Bool :=
  match regBlk addr with
  | none => (s, false)
  | some b =>
    if hostLocked s by' b || !reachable s b addr || hostClearsKek by' b addr v then (s, false)
    else writeReached stepped s by' b addr (v % 2 ^ 32)

/-! Timed writes (R459, R464, R465). -/

/-- The bits of a register that belong to RW fields, or to a window that keeps what is written. -/
def rwMask (b : Blk) (addr : Nat) : Nat :=
  if addr % 0x10000 = 4 then 1
  else if addr % 0x10000 = 12 then 0x300
  else match winAt b (addr % 0x10000) with
    | some .wo | some .woVoted | some .ro | some (.ledger _) => 0
    | some _ => 0xFFFFFFFF
    | none => (fieldsAt b addr).foldl (fun m f => if f.acc == .rw then m ||| (2 ^ f.width - 1) <<< f.lsb else m) 0

/-- The word that an ATW writes: bits in the mask as given, RW bits outside it as read, all others 0 (R459). -/
def atwWord (s : State) (addr data mask : Nat) : Nat :=
  match regBlk addr with
  | some b => (data &&& mask) ||| (regValue s b addr &&& rwMask b addr &&& (mask ^^^ 0xFFFFFFFF))
  | none => data &&& mask

/-- A timed write; a bus error is counted and reported (R464). The latency recorded is that of the completion, within the
bound of R462 (log entry 7). -/
def atwWith (stepped : State → State → State) (s : State) (e : SchedEntry) : State :=
  let r := regWriteWith stepped s .scheduler e.arg0 (atwWord s e.arg0 e.arg1 e.arg2)
  let s := histFree (perfEvent r.1 2 1) 0
  if r.2 then s else (s.bump R.SCHED_CNT2.ATW_ERR).raise E.SCHED_ATW_ERR (e.arg0 % 2 ^ 20)

/-- What a step of time makes due, with `n` steps in one another: each executes an entry fewer in the queue (R465). -/
def steppedFuel : Nat → State → State → State
  | 0, _, s => s
  | n + 1, was, s => steppedWith (atwWith (steppedFuel n)) was s

/-- A step of time. -/
def stepped (was s : State) : State := steppedFuel (s.sched.entries.length + 1) was s

/-- A timed write. -/
def atw (s : State) (e : SchedEntry) : State := atwWith stepped s e

/-- A register write. -/
def regWrite (s : State) (by' : Requester) (addr v : Nat) : State × Bool := regWriteWith stepped s by' addr v

/-- A write by the host or the Ubant port, with the count of a bus error (R494). -/
def busWrite (s : State) (by' : Requester) (addr v : Nat) : State × Bool :=
  let r := regWrite s by' addr v
  if r.2 then r else (busErr r.1 (pathOf by') addr, false)

/-- A read on a path, with the count of a bus error (R494). -/
def busRead (s : State) (path addr : Nat) : State × Option Nat :=
  let r := regRead s path addr
  match r.2 with
  | some v => (r.1, some v)
  | none => (busErr r.1 path addr, none)

end Sys2Proof.Machine
end

