-- ==== Sys2Proof/Machine/Isa.lean ====
section
/-! DEFINITION. The control instruction set: encodings, exceptions, accesses, and the one path on which every instruction runs
(R509 to R533). An instruction acts on each channel that carries control with that channel's registers; what leaves the channels
goes through the voter (R477, R478). -/

namespace Sys2Proof.Machine

open Sys2Proof

/-! Instruction words (R523). -/

/-- Format A. -/
def encA (op : Nat) (gd ga gb : BitVec 4) (func : Nat) : Nat :=
  op * 2 ^ 26 + gd.toNat * 2 ^ 22 + ga.toNat * 2 ^ 18 + gb.toNat * 2 ^ 14 + func
/-- Format I, and format T with its flags. -/
def encI (op : Nat) (gd ga : BitVec 4) (imm : BitVec 18) : Nat :=
  op * 2 ^ 26 + gd.toNat * 2 ^ 22 + ga.toNat * 2 ^ 18 + imm.toNat
/-- Format J. -/
def encJ (op : Nat) (off : BitVec 26) : Nat := op * 2 ^ 26 + off.toNat

/-! Channel registers as words. -/

/-- A general register (R509). -/
def Chan.rd (c : Chan) (r : BitVec 4) : Word := BitVec.ofNat 32 (c.gr r.toNat)
/-- A general register written. -/
def Chan.wr (c : Chan) (r : BitVec 4) (v : Word) : Chan := c.setG r.toNat v.toNat
/-- PC at an address. -/
def Chan.goto (c : Chan) (a : Nat) : Chan := { c with pc := a % 2 ^ 32 }
/-- PC at the next instruction. -/
def Chan.next (c : Chan) : Chan := c.goto (c.pc + 4)

/-- The task code region holds `n` bytes at `a` (R512, R514). -/
def Chan.inTcode (c : Chan) (a n : Nat) : Bool := decide (c.sreg 7 ≤ a ∧ a + n ≤ c.sreg 8)
/-- The task data region holds `n` bytes at `a`. -/
def Chan.inTdata (c : Chan) (a n : Nat) : Bool := decide (c.sreg 9 ≤ a ∧ a + n ≤ c.sreg 10)

/-! Exceptions (R518 to R521). -/

/-- ILLEGAL. -/
def xILLEGAL : Nat := 1
/-- PRIV. -/
def xPRIV : Nat := 2
/-- ALIGN. -/
def xALIGN : Nat := 3
/-- ACCESS. -/
def xACCESS : Nat := 4
/-- BUS. -/
def xBUS : Nat := 5
/-- SYSCALL. -/
def xSYSCALL : Nat := 6
/-- WFE_TASK. -/
def xWFE : Nat := 7
/-- TIMER. -/
def xTIMER : Nat := 8
/-- EVENT. -/
def xEVENT : Nat := 9

/-- An exception to be taken: its code, EADDR where it applies, EPC, and whether it belongs to the instruction at hand; EINSN of
one that comes before it is free (log entry 7). -/
structure Trap where
  code : Nat
  ea : Option Nat
  epc : Nat
  own : Bool
  deriving DecidableEq, Repr

/-- An exception of the instruction at PC. -/
def Chan.trap (c : Chan) (code : Nat) (ea : Option Nat) : Trap := ⟨code, ea, c.pc, true⟩

/-- Exception entry (R519). -/
def Chan.enter (c : Chan) (t : Trap) (insn : Nat) : Chan :=
  let st := c.sreg 0
  let c := (((c.setS 2 st).setS 1 t.epc).setS 3 t.code).setS 5 insn
  let c := match t.ea with | some a => c.setS 4 a | none => c
  let c := c.setS 0 (setBit (clrBit st 0) 2)
  let c := if t.code = xTIMER then { c with timer := false } else c
  c.goto (c.sreg 6 + 16 * t.code)

/-- Return from an exception (R519). -/
def Chan.eret (c : Chan) : Chan :=
  (c.setS 0 ((c.sreg 2 &&& 0x1F0005) ||| 2 * c.bank)).goto (c.sreg 1)

/-- A channel after a double fault (R521). -/
def Chan.refault (c : Chan) (code : Nat) : Chan := c.start c.bank (3 + 256 * code)

/-- Where a fetch is refused: ALIGN, then ACCESS (R514, R515, R520). -/
def Chan.fetchCode (c : Chan) (a : Nat) : Option Nat :=
  if a % 4 ≠ 0 then some xALIGN
  else if !inProg a 4 || (c.task && !c.inTcode a 4) then some xACCESS
  else none

/-- The exception due before the instruction at PC (R520). -/
def dueTrap (s : State) (c : Chan) : Option Trap :=
  if c.task && bitOf (c.sreg 13) 0 && s.ctl.evSeen then some ⟨xEVENT, none, c.pc, false⟩
  else if c.task && c.timer then some ⟨xTIMER, none, c.pc, false⟩
  else match c.fetchCode c.pc with
    | some code => some ⟨code, some c.pc, c.pc, false⟩
    | none => none

/-- `n` cycles at the privilege level `task`: TSLICE counts (R512, R520). -/
def Chan.spend (c : Chan) (task : Bool) (n : Nat) : Chan :=
  if !task || c.sreg 12 = 0 then c
  else if c.sreg 12 ≤ n then { c.setS 12 0 with timer := true }
  else c.setS 12 (c.sreg 12 - n)

/-! What an instruction does on a channel. -/

/-- The instruction completes in `n` cycles, takes an exception, or presents an access. -/
inductive Eff where
  | ok (c : Chan) (n : Nat)
  | trap (t : Trap)
  | ask (r : Req)
  deriving DecidableEq, Repr

/-- What the channel presents to the voter. -/
def Eff.req : Eff → Req
  | .ask r => r
  | _ => .none

/-- The address of an access. -/
def Req.addr : Req → Nat
  | .read a | .write a _ | .refused _ a => a
  | _ => 0

/-- The effect once the access has completed, in `k` cycles, with its answer or with a bus error (R515). -/
def Eff.answered (e : Eff) (answer : Option Nat) (ans : Chan → Nat → Chan) (k : Nat) (c : Chan) : Eff :=
  match e with
  | .ask r => match answer with | some v => .ok (ans c v) k | none => .trap (c.trap xBUS (some r.addr))
  | _ => e

/-- Cycles of the effect (R527). -/
def Eff.cycles : Eff → Nat
  | .ok _ n => n
  | _ => 2

/-- The effect on a channel, which ran at level `task`. -/
def Chan.take (c : Chan) (e : Eff) (insn : Nat) : Chan :=
  match e with
  | .ok c' n => c'.spend c.task n
  | .trap t => if c.exc then c.refault t.code else (c.spend c.task 2).enter t insn
  | .ask _ => c

/-- The channels execute an instruction now: they run, none waits in WFE, and no halt holds them but for a step (R532, R633). -/
def mayRun (s : State) : Bool := ctlRuns s && s.ctl.wfe.isNone && (!halted s || s.host.step)

/-- A voted register write, with its counts (R478, R501, R502). -/
def votedWrite (s : State) (a v : Nat) : State × Bool :=
  let r := regWrite s .control a v
  (histFree (perfEvent r.1 2 1) 10, r.2)

/-- The access that the vote lets through, in `k` cycles; none is a bus error (R461, R478, R494). -/
def perform (s : State) (r : Req) (k : Nat) : State × Option Nat :=
  match r with
  | .none => (s, some 0)
  | .read a => busRead s 0 a
  | .write a v =>
    let w := votedWrite s a v
    if w.2 then (w.1, some 0) else (busErr w.1 0 a, none)
  | .refused _ a => (busErr s 0 a, none)
  | .insert l =>
    let x := insertWith atw s (insertOf l)
    (histSample x.1 2 (k * 5 / 4 : Nat), some x.2)

/-- A step of the debugger ends with a halt (R633). -/
def endStep (s : State) : State :=
  if s.host.step then haltNow { s with host := { s.host with step := false } } 4 else s

/-- The lead channel takes a double fault. -/
def leadFault (c : Chan) (e : Eff) : Option Nat :=
  match e with
  | .trap t => if c.exc then some t.code else none
  | _ => none

/-- The lead channel's exception does not belong to the instruction at hand. -/
def foreignTrap : Eff → Bool
  | .trap t => !t.own
  | _ => false

/-- The instruction retires (R501). -/
def Eff.retired : Eff → Bool
  | .ok _ _ => true
  | _ => false

/-- The channels take their effects, by channel number. -/
def settleInsn (s : State) (e : Nat → Eff) (insn : Nat) : State :=
  let l := e (leadChan s)
  let c0 := lead s
  let foreign := foreignTrap l
  let word := if foreign then s.free % 2 ^ 32 else insn
  let s := if foreign then s.freeNext else s
  let s := perfEvent s 1 (b2n l.retired)
  match leadFault c0 l with
  | some code => doubleFault s code
  | none =>
    let s := setChans s ((List.range 3).map (fun m => if m = excludedChan s then chan s m else (chan s m).take (e m) word))
    { s with ctl := { s.ctl with cycles := (s.ctl.cycles + l.cycles) % 2 ^ 48 } }

/-- One instruction on the channels: exceptions due at the boundary and on its fetch, its effect on each channel, the vote over
what they present, the access, its answer. `insn` is the word, `k` the cycles of an access. -/
def runInsn (s : State) (insn k : Nat) (f : Chan → Eff) (ans : Chan → Nat → Chan) : State :=
  if !mayRun s then s
  else
    let eff := fun (m : Nat) => match dueTrap s (chan s m) with | some t => Eff.trap t | none => f (chan s m)
    let v := voteOn { s with ctl := { s.ctl with evSeen := false } } (fun m => (eff m).req)
    match v.2 with
    | none => v.1
    | some r =>
      let p := perform v.1 r k
      if !ctlRuns p.1 then p.1
      else endStep (settleInsn p.1 (fun m => (eff m).answered p.2 ans k (chan p.1 m)) insn)

/-- The instruction itself is reached: the channels run and nothing is due before it. -/
def reached (s : State) : Bool := mayRun s && (dueTrap s (lead s)).isNone

/-- An instruction that presents no access. -/
def runPlain (s : State) (insn : Nat) (f : Chan → Eff) : State := runInsn s insn 0 f (fun c _ => c)

/-- An instruction that writes a result into gd. -/
def runAlu (s : State) (insn n : Nat) (gd : BitVec 4) (f : Chan → Word) : State :=
  runPlain s insn (fun c => .ok ((c.wr gd (f c)).next) n)

/-- A field that must be 0 and is not takes ILLEGAL (R518). -/
def legal (ok : Bool) (f : Chan → Eff) (c : Chan) : Eff := if ok then f c else .trap (c.trap xILLEGAL none)

/-! Arithmetic (R524 to R526). -/

/-- 1 for true. -/
def flagWord (b : Bool) : Word := if b then 1 else 0
/-- The low five bits as an amount of a shift. -/
def shAmount (v : Word) : Nat := v.toNat % 32
/-- The high half of the signed product. -/
def mulHighS (a b : Word) : Word := BitVec.ofInt 32 (a.toInt * b.toInt / 2 ^ 32)
/-- The high half of the unsigned product. -/
def mulHighU (a b : Word) : Word := BitVec.ofNat 32 (a.toNat * b.toNat / 2 ^ 32)
/-- FLD: `w` bits from bit `i` on; a width of 0 is 32. -/
def fieldWord (a : Word) (i w : Nat) : Word := BitVec.ofNat 32 (a.toNat / 2 ^ i % 2 ^ (if w = 0 then 32 else w))

/-! Jumps (R524, R526). -/

/-- A jump to `t`: a target that cannot be fetched takes its exception at the jump, which then has no effect (log entry 74). -/
def jumpTo (c c' : Chan) (t : Nat) : Eff :=
  match c.fetchCode t with
  | some code => .trap (c.trap code (some t))
  | none => .ok (c'.goto t) 2

/-- PC moved by a signed count of words. -/
def Chan.rel (c : Chan) (n : Int) : Nat := (((c.pc : Int) + 4 * n) % (2 ^ 32 : Nat)).toNat

/-- A branch. -/
def runBranch (s : State) (insn : Nat) (off : BitVec 18) (cond : Chan → Bool) : State :=
  runPlain s insn (fun c => if cond c then jumpTo c c (c.rel off.toInt) else .ok c.next 1)

/-! Special registers (R512, R513). -/

/-- VOTE_STAT as the voter reports it (R505, R533). -/
def voteStat (s : State) : Nat := regValue s .event R.VOTE_STAT.STATE.addr % 2 ^ 32

/-- A special register as SRD returns it. -/
def sregRead (s : State) (c : Chan) (path n : Nat) : Nat :=
  if n = 14 then s.ctl.cycles % 2 ^ 32
  else if n = 15 then highWord (snapOf s path 0) s.ctl.cycles
  else c.sreg n

/-- A read of CYCLE_LO takes the snapshot (R431, R512). -/
def sregSnap (s : State) (path n : Nat) : State := if n = 14 then setSnap s path 0 s.ctl.cycles else s

/-- A special register written at supervisor level; what the table makes read-only keeps its value. -/
def Chan.sregWrite (c : Chan) (n v : Nat) : Chan :=
  if n = 0 then c.setS 0 ((v &&& 0x1F0004) ||| (c.sreg 0 &&& 3))
  else if n = 6 then c.setS 6 (v / 256 * 256)
  else if 7 ≤ n ∧ n ≤ 10 then c.setS n (v / 4096 * 4096)
  else if n = 12 then { c.setS 12 v with timer := false }
  else if n = 13 then c.setS 13 (v % 2)
  else if n = 1 ∨ n = 2 ∨ n = 11 ∨ n = 19 ∨ n = 20 then c.setS n v
  else c

/-- The snapshot path of SRD: the channels' own (R512). -/
def srdPath : Nat := 3

/-- SRD. -/
def runSrd (s : State) (insn : Nat) (gd : BitVec 4) (n : Nat) (ok : Bool) : State :=
  let v := fun (c : Chan) => BitVec.ofNat 32 (sregRead s c srdPath n)
  let t := runPlain s insn (legal ok (fun c =>
    if c.task && n ≠ 0 && n ≠ 14 && n ≠ 15 then .trap (c.trap xPRIV none) else .ok ((c.wr gd (v c)).next) 1))
  if reached s && ok then setSnap t srdPath 0 (snapOf (sregSnap s srdPath n) srdPath 0) else t

/-- SWR. -/
def runSwr (s : State) (insn : Nat) (ga : BitVec 4) (n : Nat) (ok : Bool) : State :=
  runPlain s insn (legal ok (fun c =>
    if c.task then .trap (c.trap xPRIV none) else .ok ((c.sregWrite n (c.rd ga).toNat).next) 1))

/-! Data accesses (R514 to R517). -/

/-- The first byte of the running bank that its supervisor may store to (R517, R536). -/
def Chan.taskArea (c : Chan) : Nat :=
  let base := c.bank * bankSize
  base + (memLe c.mem (base + 8) 4 + 4095) / 4096 * 4096

/-- An address lies in the running bank. -/
def Chan.inRunBank (c : Chan) (a : Nat) : Bool := a / bankSize == c.bank

/-- The address lies in the register space, or in the queue window. -/
def inRegs (a : Nat) : Bool := decide (0x40000000 ≤ a ∧ a < 0x40800000)
/-- The queue window (R468). -/
def inQueue (a : Nat) : Bool := decide (0x200000 ≤ a ∧ a < 0x220000)

/-- An access of `n` bytes is not aligned (R515). -/
def misaligned (a n : Nat) : Bool := a % n != 0

/-- A task may not read the register: PERF without PERF_TASK_EN (R503, R514). -/
def taskBlind (s : State) (a : Nat) : Bool := decide (blkAt a = some .perf) && !s.on R.PERF_CTRL.PERF_TASK_EN

/-- A load of `n` bytes at `a`: exceptions in the order of R520, or the bytes, or an access presented. `got` takes the value. -/
def loadEff (s : State) (c : Chan) (a n : Nat) (got : Nat → Chan) : Eff :=
  if misaligned a n then .trap (c.trap xALIGN (some a))
  else if inProg a n then
    if c.task && !c.inTcode a n then .trap (c.trap xACCESS (some a)) else .ok (got (memLe c.mem a n)) 2
  else if inData a n then
    if c.task && !c.inTdata a n then .trap (c.trap xACCESS (some a)) else .ok (got (memLe c.mem a n)) 2
  else if inQueue a then
    if c.task then .ask (.refused false a)
    else .ok (got (queueWord s (a / 4 * 4 - 0x200000) / 2 ^ (8 * (a % 4)) % 2 ^ (8 * n))) 2
  else if inRegs a then
    if c.task && taskBlind s a then .trap (c.trap xACCESS (some a))
    else if n = 4 then .ask (.read a) else .ask (.refused false a)
  else if c.task then .trap (c.trap xACCESS (some a))
  else .ask (.refused false a)

/-- `n` bytes stored in the channel's SRAM. -/
def Chan.store (c : Chan) (a n v : Nat) : Chan := { c with mem := memPutLe c.mem a n v }

/-- A store of the low `n` bytes of `v` at `a`. -/
def storeEff (c : Chan) (a n v : Nat) : Eff :=
  if misaligned a n then .trap (c.trap xALIGN (some a))
  else if inProg a n then
    if c.task || (c.inRunBank a && decide (a < c.taskArea)) then .trap (c.trap xACCESS (some a))
    else .ok ((c.store a n v).next) 1
  else if inData a n then
    if c.task && !c.inTdata a n then .trap (c.trap xACCESS (some a)) else .ok ((c.store a n v).next) 1
  else if inQueue a then .ask (.refused true a)
  else if inRegs a then
    if c.task && !taskStore (c.sreg 11) a then .trap (c.trap xACCESS (some a))
    else if n = 4 then .ask (.write a (v % 2 ^ 32)) else .ask (.refused true a)
  else if c.task then .trap (c.trap xACCESS (some a))
  else .ask (.refused true a)

/-- The address of a load or store: ga + imm (R524). -/
def Chan.ea (c : Chan) (ga : BitVec 4) (imm : BitVec 18) : Nat := (c.rd ga + imm.signExtend 32).toNat

/-- The lead channel reaches an access to its SRAM at `a`, and what the SRAM reports there has its effect (R479, R490). -/
def sramReport (s : State) (corrected bad : List Nat) (a : Nat) (e : Eff) : State :=
  if reached s && (inProg a 1 || inData a 1) && e.retired then eccStep s corrected bad a else s

/-- A load; `k` cycles of a register access, what the SRAMs of the channels report. -/
def runLoad (s : State) (insn k n : Nat) (gd ga : BitVec 4) (imm : BitVec 18) (corrected bad : List Nat) (ext : Nat → Word) :
    State :=
  let f := fun (c : Chan) => loadEff s c (c.ea ga imm) n (fun v => (c.wr gd (ext v)).next)
  let t := sramReport s corrected bad ((lead s).ea ga imm) (f (lead s))
  runInsn t insn k f (fun c v => (c.wr gd (ext v)).next)

/-- A store; one to the bank that is not running is noted (R537). -/
def runStore (s : State) (insn k n : Nat) (gd ga : BitVec 4) (imm : BitVec 18) : State :=
  let f := fun (c : Chan) => storeEff c (c.ea ga imm) n (c.rd gd).toNat
  let t := runInsn s insn k f (fun c _ => c.next)
  let c := lead s
  let a := c.ea ga imm
  if reached s && (f c).retired && inProg a n && !c.inRunBank a then idleBankWritten t else t

/-- Sign extension of a byte. -/
def extB (v : Nat) : Word := (BitVec.ofNat 8 v).signExtend 32
/-- Sign extension of a halfword. -/
def extH (v : Nat) : Word := (BitVec.ofNat 16 v).signExtend 32
/-- Zero extension. -/
def extZ (v : Nat) : Word := BitVec.ofNat 32 v

/-! Scheduling instructions (R528 to R531). -/

/-- The flags of format T: SCALE, VTB, LATE, KIND, and bits 10:0, which must be 0. -/
structure Flags where
  scale : BitVec 2
  vtb : BitVec 2
  late : Bool
  kind : BitVec 2
  rest : BitVec 11
  deriving DecidableEq, Repr

/-- The flags as they are encoded. -/
def Flags.bits (f : Flags) : BitVec 18 :=
  BitVec.ofNat 18 (f.scale.toNat * 2 ^ 16 + f.vtb.toNat * 2 ^ 14 + b2n f.late * 2 ^ 13 + f.kind.toNat * 2 ^ 11 + f.rest.toNat)

/-- No field that must be 0 is set (R528). -/
def Flags.legal (f : Flags) (launch : Bool) : Bool :=
  f.rest == 0 && (f.scale == 0 || f.vtb == 0) && (launch || f.kind == 0)

/-- What a channel asks for: the fields of its instruction, its privilege, its descriptor (R529, R531). -/
def Chan.insertion (c : Chan) (action : Nat) (f : Flags) (a : Nat) : Insert :=
  let w := fun (i : Nat) => memLe c.mem (a + 4 * i) 4
  { action := action, scale := f.scale.toNat, vtb := f.vtb.toNat, late := f.late,
    owner := if c.task then c.owner else 31, task := c.task, tperm := c.sreg 11,
    w0 := w 0, w1 := w 1, arg0 := w 2, arg1 := w 3, arg2 := w 4, tag := w 5 }

/-- A scheduling instruction: ILLEGAL, the descriptor's ALIGN and ACCESS, then the insertion (R528, R529). -/
def schedEff (c : Chan) (action : Nat) (launch : Bool) (f : Flags) (ga : BitVec 4) : Eff :=
  let a := (c.rd ga).toNat
  if !f.legal launch then .trap (c.trap xILLEGAL none)
  else if misaligned a 4 then .trap (c.trap xALIGN (some a))
  else if !inData a 24 || (c.task && !c.inTdata a 24) then .trap (c.trap xACCESS (some a))
  else .ask (.insert (c.insertion action f a).words)

/-- A scheduling instruction whose status takes `k` cycles. -/
def runSched (s : State) (insn k action : Nat) (launch : Bool) (f : Flags) (gd ga : BitVec 4) : State :=
  runInsn s insn k (fun c => schedEff c action launch f ga) (fun c v => (c.wr gd (BitVec.ofNat 32 v)).next)

/-! WFE (R532). -/

/-- WFE: it returns at once with the reasons latched, or waits. -/
def runWfe (s : State) (insn : Nat) (ga : BitVec 4) (ok : Bool) : State :=
  let latch := s.ctl.wakeLatch
  let c := lead s
  let t := runPlain s insn (legal ok (fun c =>
    if c.task then .trap ⟨xWFE, none, (c.pc + 4) % 2 ^ 32, true⟩
    else .ok (if latch = 0 then c.next else (c.setS 16 latch).next) 1))
  if !(reached s && ok) || c.task || !ctlRuns t then t
  else if latch ≠ 0 then { t with ctl := { t.ctl with wakeLatch := 0 } }
  else
    let n := (c.rd ga).toNat
    { t with ctl := { t.ctl with wfe := some (if n = 0 then 0 else t.ctl.cycles + n) } }

/-- WFE_WAKE: a wake condition ends the wait, `k` cycles after it. -/
def wfeWake (s : State) (k : Nat) : State :=
  if !ctlRuns s || s.ctl.wfe.isNone || s.ctl.wakeLatch = 0 then s
  else
    let s' := onLive s (fun c => c.setS 16 s.ctl.wakeLatch)
    { s' with ctl := { s'.ctl with wfe := none, wakeLatch := 0, cycles := (s'.ctl.cycles + min k 4) % 2 ^ 48 } }

/-- WFE_TIMEOUT: the limit has passed without a wake condition. -/
def wfeTimeout (s : State) : State :=
  match s.ctl.wfe with
  | some d =>
    if !ctlRuns s || s.ctl.wakeLatch ≠ 0 || d = 0 || s.ctl.cycles < d then s
    else { onLive s (fun c => c.setS 16 4) with ctl := { (onLive s (fun c => c.setS 16 4)).ctl with wfe := none } }
  | none => s

/-- TSLICE_EXPIRY: the time slice of a task has reached 0 with its last instruction, and TIMER is taken at the boundary, or EVENT
where that is due as well (R518, R520). -/
def tsliceExpiry (s : State) : State :=
  if mayRun s && (lead s).task && (lead s).timer then
    settleInsn { s with ctl := { s.ctl with evSeen := false } } (fun m => match dueTrap s (chan s m) with
      | some t => if t.code = xTIMER ∨ t.code = xEVENT then .trap t else .ok (chan s m) 0
      | none => .ok (chan s m) 0) 0
  else s

/-- ACCESS_WITHDRAW of an access by the program: the instruction `insn` takes BUS (R495). -/
def withdrawProgram (s : State) (insn addr : Nat) : State :=
  runInsn s insn 0 (fun _ => .ask (.refused false addr)) (fun c _ => c)

end Sys2Proof.Machine
end

