-- ==== Sys2Proof/Machine/HostCmd.lean ====
section
/-! DEFINITION. Requests from outside the programs: BAR0, DMA, the Ubant port and its debug registers; commands of the control
complex that no instruction gives: scrubs, resynchronisation, control restart, updates (R476 to R499, R537, R538, R613 to R634). -/

namespace Sys2Proof.Machine

open Sys2Proof

/-- The voter lets control writes through (R480). -/
def votes (s : State) : Bool := s.dev != 0 && (s.vote == vTMR || s.vote == vDUPLEX)

/-- A command that is a write to a register of a block acts where the register can be reached: not in RESET, in a domain that
is on and clocked, and not while the block returns to its reset values (R14, R494, R673). -/
def reach (s : State) (b : Blk) (f : State → State) : State :=
  if s.dev = 0 || !reachable s b (blkBase b) || s.on (resettingF b) then s else f s

/-- The same for a write that only voted control makes; in RESYNC the scheduler makes it (R483, R484). -/
def reachVoted (s : State) (b : Blk) (f : State → State) : State := if s.frozen then s else reach s b f

/-! Host requests (R613). -/

/-- HOST_ERR records the offset of a failed access. -/
def hostErr (s : State) (addr : Nat) : State := (s.setB R.HOST_ERR.VALID true).set R.HOST_ERR.OFFSET (addr % 2 ^ 23)

/-- A 32-bit host write. -/
def hostWrite (s : State) (addr v : Nat) : State :=
  let r := busWrite s .host addr v
  if r.2 then r.1 else hostErr r.1 addr

/-- A 32-bit host read, whose latency no rule gives (R502; log entry 7). -/
def hostRead (s : State) (addr : Nat) : State :=
  let r := busRead s 1 addr
  let t := histFree r.1 3
  if r.2.isSome then t else hostErr t addr

/-- A host access that completes with a bus error. -/
def hostRefused (s : State) (addr : Nat) : State := hostErr (busErr s 1 addr) addr

/-- The register-space address of a BAR0 offset (R24). -/
def bar0 (off : Nat) : Nat := 0x40000000 + off % 0x800000

/-- HOST_BAR0_REQUEST: 32-bit accesses in address order. The link is up outside RESET (R612, R673). -/
def bar0Request (s : State) (r : Bar0Req) : State :=
  if s.dev = 0 || s.host.perst then s
  else match r with
    | .read off n => (List.range n).foldl (fun s i => hostRead s (bar0 (off + 4 * i))) s
    | .write off ws => foldIdx (fun i s w => hostWrite s (bar0 (off + 4 * i)) w) 0 s ws
    | .narrow _ off => hostRefused s (bar0 off)

/-! Register writes and reads as commands (R6, R431, R477, R478). -/

/-- A write that the channels present. -/
def coresWrite (s : State) (m n e : Option (Nat × Nat)) : State :=
  if !votes s then s
  else
    let say := fun (x : Option (Nat × Nat)) => match x with | some p => Req.write p.1 (p.2 % 2 ^ 32) | none => .none
    let v := voteOn s (fun i => say (if i = 0 then m else if i = 1 then n else e))
    match v.2 with
    | some (.write a x) => (perform v.1 (.write a x) 0).1
    | _ => v.1

/-- A control write and a host write of one cycle: the control write first, but for a host ACK of the mailbox that the
supervisor rings (R25, R616). -/
def hostFirst (addr data : Nat) : Bool := addr == R.MBOX_S2H.LEN.addr && bitOf data 29

/-- REGISTER_WRITE. -/
def writeRequest (s : State) (w : WriteReq) : State :=
  match w with
  | .voted m n e => coresWrite s m n e
  | .both m n e a x =>
    if s.dev = 0 then s
    else if hostFirst a x then coresWrite (hostWrite s a x) m n e
    else hostWrite (coresWrite s m n e) a x
  | .single ubant size a x =>
    if s.dev = 0 then s
    else if ubant then
      if size = 4 then (busWrite s .ubant a x).1 else busErr s 2 a
    else if size = 4 then hostWrite s a x else hostRefused s a

/-- A read of a register: READ_CLEAR and WIDE_READ_SNAPSHOT. A control read goes through the voter. -/
def readRequest (s : State) (by' : Requester) (a : Nat) : State :=
  if s.dev = 0 then s
  else match by' with
    | .control | .scheduler => if votes s then (busRead s 0 a).1 else s
    | .host => hostRead s a
    | .ubant => (busRead s 2 a).1

/-- ACCESS_WITHDRAW: an access that has not completed within 50 µs; `insn` is the word of a program's instruction (R464, R495,
R613). -/
def accessWithdraw (s : State) (by' : Requester) (insn addr : Nat) : State :=
  if s.dev = 0 then s
  else match by' with
    | .control => withdrawProgram s insn addr
    | .host => hostRefused s addr
    | .ubant => { busErr s 2 addr with host := { s.host with ubOut := 4 * 2 ^ 32 } }
    | .scheduler => (s.bump R.SCHED_CNT2.ATW_ERR).raise E.SCHED_ATW_ERR (addr % 2 ^ 20)

/-! DMA (R617, R618). -/

/-- Host accesses, one word each, until one fails; the failing address. -/
def dmaWrites (s : State) (a : Nat) : List Nat → State × Option Nat
  | [] => (s, none)
  | w :: ws =>
    let r := busWrite s .host a w
    if r.2 then dmaWrites r.1 (a + 4) ws else (r.1, some a)

/-- Reads likewise, with the words read, last first. -/
def dmaReads (s : State) (a : Nat) (ws : List Nat) : Nat → State × List Nat × Option Nat
  | 0 => (s, ws, none)
  | n + 1 =>
    let r := busRead s 1 a
    match r.2 with
    | some w => dmaReads r.1 (a + 4) (w :: ws) n
    | none => (r.1, ws, some a)

/-- Words of the SRAMs, each that of two channels at least; where all three differ no rule gives it (R617). -/
def sramReads (s : State) (a : Nat) (ws : List Nat) : Nat → State × List Nat
  | 0 => (s, ws)
  | n + 1 =>
    let w := fun (i : Nat) => memLe (chan s i).mem a 4
    if w 0 = w 1 ∨ w 0 = w 2 then sramReads s (a + 4) (w 0 :: ws) n
    else if w 1 = w 2 then sramReads s (a + 4) (w 1 :: ws) n
    else sramReads s.freeNext (a + 4) (s.free % 2 ^ 32 :: ws) n

/-- Words leave for host memory. -/
def dmaSend (s : State) (k : Nat) (ws : List Nat) : State :=
  let m : Map (Nat × List Nat) := Map.put s.host.dmaOut k ((dmaJob s k).haddr, ws)
  { s with host := { s.host with dmaOut := m } }

/-- A job on registers ends. -/
def dmaRegsEnd (r : State × Option Nat) (k status : Nat) : State :=
  if !r.1.on (R.DMA_CTRL.BUSY.ix k) then r.1
  else match r.2 with
    | some a => dmaEnd (r.1.set (R.DMA_DADDR.DADDR.ix k) a) k 2
    | none => dmaEnd r.1 k status

/-- DMA_DONE: the words of a job that reads host memory have come, or the device's words have gone; `err` is a PCIe error after
the words given. A job is not done before all its words have come, and jobs on an SRAM wait in RESYNC. -/
def dmaDone (s : State) (k : Nat) (ws : List Nat) (err : Bool) : State :=
  if !s.on (R.DMA_CTRL.BUSY.ix k) then s
  else
    let n := (dmaJob s k).len / 4
    let a := (dmaJob s k).addr
    let toHost := (dmaJob s k).toHost
    let status := if err then 3 else 0
    if !err && !toHost && decide (ws.length < n) then s
    else match dmaTarget s k with
    | none => dmaEnd s k 1
    | some .regs =>
      if toHost then
        let r := dmaReads s a [] n
        dmaRegsEnd (dmaSend r.1 k r.2.1.reverse, r.2.2) k status
      else dmaRegsEnd (dmaWrites s a (ws.take n)) k status
    | some _ =>
      if s.vote = vRESYNC then s
      else if toHost then
        let r := sramReads s a [] n
        dmaEnd (dmaSend r.1 k r.2.reverse) k status
      else dmaEnd (sramWords s a (ws.take n)) k status

/-! The control complex (R477 to R490, R537, R538). -/

/-- No entry falls due and no launch is handed on within the window (R481). -/
def idleSlot (s : State) : Bool :=
  s.sched.entries.all (fun e => e.handed ||
    decide (scaleNs s e.scale + idleWindow s < (if isLaunch e.action then e.time - 2000 else e.time)))

/-- RESYNC_START. -/
def resyncStart (s : State) : State := if s.vote = vDUPLEX && idleSlot s then resyncBegin s false else s

/-- RESYNC_FORCED: RESYNC_WAIT ms of DUPLEX have passed (R480, R481). -/
def resyncForced (s : State) : State :=
  if s.vote = vDUPLEX ∧ 1000000 * atLeast1 (s.get R.VOTE_CTRL.RESYNC_WAIT) ≤ s.age .duplex then resyncBegin s true else s

/-- CTL_RESTART_DONE: the image is verified and the channels start in TMR, or another is tried (R485). -/
def ctlRestartDone (s : State) : State :=
  if !s.host.restart || s.host.boot ≠ .verify then s
  else
    let s := s.set R.VOTE_STAT.EXCLUDED 3
    let r := imageResult s 0 0 1
    if r ≠ 0 then bootRetry s r
    else
      let s := setBoot { bootSource (frozenSweep s) with host := { (bootSource (frozenSweep s)).host with restart := false } } .idle
      let s := runVersion (startChans s 0 1)
      let s := ((s.set R.VOTE_STAT.STATE vTMR).setB R.CTL_RESTART.RESTART false).raise E.CTL_RESTART 1
      pairSettle s

/-- The power domain of the other SRAMs is on and clocked. -/
def scrubbed (s : State) (dom : Bool) (i : Nat) : Bool :=
  !dom || (s.domOn i && !s.domGated i && (muxNs s (domMux s i) 1).isSome)

/-- What a check found in a word of control memory i (3 × channel + k), or of an SRAM of power domain i (R479, R487 to R490).
The target of a resynchronisation does not count (R480). -/
def scrubFound (s : State) (dom : Bool) (i : Nat) (v : Scrub) : State :=
  match v with
    | .clean => s
    | .corrected => memCorrected s dom i
    | .bad =>
      if dom then memUncorr s true i
      else if s.vote = vRESYNC && i / 3 = excludedChan s then s
      else diverge (memUncorr s false i) (i / 3) 5

/-- SCRUB_CHECK: each memory's scrubber checks a word every 2^SCRUB_LOG2 cycles of its clock, a value below 4 acting as 4
(R487). -/
def scrubCheck (s : State) (dom : Bool) (i : Nat) (v : Scrub) : State :=
  let n := 2 ^ max 4 (s.get R.MEM_CTRL.SCRUB_LOG2)
  let period := (if dom then muxNs s (domMux s i) n else some (ctlNs s n)).getD 0
  if s.dev = 0 || !scrubbed s dom i then s
  else match s.lap (.scrub (if dom then 10 + i else i)) period with
    | some s => scrubFound s dom i v
    | none => s

/-- PROG_VERIFY: the voted write of PROG_CTRL with TASK_AT and VERIFY. -/
def progVerifyAt (s : State) (at' : Nat) : State := progVerify (s.set R.PROG_CTRL.TASK_AT at')

/-! The Ubant port (R630 to R634). -/

/-- The port has power. -/
def ubOn (s : State) : Bool := s.dev != 0 && s.domOn dDBG && !s.domGated dDBG

/-- The port carries out commands that a locked port refuses (R624, R631, R632). -/
def ubOpen (s : State) : Bool :=
  !s.on R.UB_CTRL.DBG_BLOCK &&
  (s.on R.UB_STAT.UNLOCKED || lcState s == lcRETIRED || (lcState s == lcDEVELOP && !slotFused s 3))

/-- The response: ACK and DATA (R630). -/
def ubSay (s : State) (ack data : Nat) : State :=
  { s with host := { s.host with ubOut := ack * 2 ^ 32 + data % 2 ^ 32 } }

/-- A response whose DATA no rule gives (log entry 7). -/
def ubAck (s : State) (ack : Nat) : State := ubSay s.freeNext ack s.free

/-- OK. -/
def ackOK : Nat := 1
/-- ERR. -/
def ackERR : Nat := 4
/-- LOCKED. -/
def ackLOCKED : Nat := 7

/-- A command that a locked port refuses. -/
def ubCmd (s : State) (f : State → State) : State :=
  if !ubOn s then s else if !ubOpen s then ubAck s ackLOCKED else f s

/-- A command that DBG_BLOCK alone refuses. -/
def ubFree (s : State) (f : State → State) : State :=
  if !ubOn s then s else if s.on R.UB_CTRL.DBG_BLOCK then ubAck s ackLOCKED else f s

/-- RD. -/
def ubRd (s : State) (a : Nat) : State :=
  let r := busRead s 2 a
  match r.2 with
  | some v => ubSay r.1 ackOK v
  | none => ubAck r.1 ackERR

/-- WR. -/
def ubWr (s : State) (a v : Nat) : State :=
  let r := busWrite s .ubant a v
  ubAck r.1 (if r.2 then ackOK else ackERR)

/-- A word of program or data SRAM. -/
def sramWord (a : Nat) : Bool := a % 4 == 0 && (inProg a 4 || inData a 4)

/-- MRD. -/
def ubMrd (s : State) (a : Nat) : State :=
  if sramWord a && decide (s.host.dbgCh < 3) then ubSay s ackOK (memLe (chan s s.host.dbgCh).mem a 4) else ubAck s ackERR

/-- A word into every channel's SRAM; one in the bank that is not running is noted (R537). -/
def sramPoke (s : State) (a v : Nat) : State :=
  let t := sramWords s a [v]
  if inProg a 4 && a / bankSize != s.get R.PROG_STAT.RUN_BANK then idleBankWritten t else t

/-- MWR. -/
def ubMwr (s : State) (a v : Nat) : State :=
  if halted s && sramWord a then ubAck (sramPoke s a v) ackOK else ubAck s ackERR

/-- A halt is requested (R633). -/
def haltReq (s : State) : State :=
  if halted s then s
  else if s.vote = vRESYNC then { s with ctl := { s.ctl with haltDue := true } }
  else if ctlRuns s then haltNow s 1 else s

/-- RESUME. -/
def dbgResume (s : State) : State :=
  if halted s then { s.setB R.UB_STAT.HALTED false with host := { s.host with step := false } } else s

/-- STEP: the next instruction runs, and the channels halt again. -/
def dbgStep (s : State) : State := if halted s then { s with host := { s.host with step := true } } else s

/-- The bits of DCTRL. -/
def dctrl (s : State) (v : Nat) : State :=
  let s := { s with host := { s.host with dbgCh := bitsOf v 5 4 } }
  let s := if bitOf v 0 then haltReq s else s
  let s := if bitOf v 1 then dbgResume s else s
  if bitOf v 2 then dbgStep s else s

/-- A debug register as DRD returns it; none is ERR. -/
def debugRead (s : State) (n : Nat) : Option Nat :=
  let ch := s.host.dbgCh
  if n = 0 then some (16 * ch)
  else if n = 1 then some (b2n (halted s) + 2 * s.host.dbgReason)
  else if n = 2 then some (lead s).pc
  else if 0x10 ≤ n ∧ n < 0x20 ∧ ch < 3 then some ((chan s ch).gr (n - 0x10))
  else if 0x20 ≤ n ∧ n < 0x40 ∧ ch < 3 then some (sregRead s (chan s ch) 2 (n - 0x20))
  else if 0x40 ≤ n ∧ n < 0x44 then some (s.host.bp.get (n - 0x40))
  else if n = 0x44 ∨ n = 0x45 then some (s.host.wp.get (n - 0x44))
  else none

/-- DRD. -/
def ubDrd (s : State) (n : Nat) : State :=
  match debugRead s n with
  | some v => ubSay (if n = 0x2E then sregSnap s 2 14 else s) ackOK v
  | none => ubAck s ackERR

/-- A debug register written; none is ERR. Registers of the channels are written while they are halted. -/
def debugWrite (s : State) (n v : Nat) : Option State :=
  if n = 0 then some (dctrl s v)
  else if 0x40 ≤ n ∧ n < 0x44 then
    let m : Map Nat := Map.set s.host.bp (n - 0x40) (v &&& 0xFFFFFFFD)
    some { s with host := { s.host with bp := m } }
  else if n = 0x44 ∨ n = 0x45 then
    let m : Map Nat := Map.set s.host.wp (n - 0x44) v
    some { s with host := { s.host with wp := m } }
  else if !halted s then none
  else if n = 2 then some (onAll s (fun c => c.goto v))
  else if 0x10 ≤ n ∧ n < 0x20 then some (onAll s (fun c => c.setG (n - 0x10) v))
  else if 0x20 ≤ n ∧ n < 0x40 then some (onAll s (fun c => c.sregWrite (n - 0x20) v))
  else none

/-- DWR. -/
def ubDwr (s : State) (n v : Nat) : State :=
  match debugWrite s n (v % 2 ^ 32) with
  | some t => ubAck t ackOK
  | none => ubAck s ackERR

/-- ID is allowed whatever blocks the port. -/
def ubId (s : State) : State := if ubOn s then ubSay s ackOK (s.get R.SYS_DEVID.DEVICE_ID) else s

/-- CHAL. -/
def ubChal (s : State) (a : Nat) : State := ubSay s ackOK (s.host.chal / 2 ^ (32 * (a % 4)) % 2 ^ 32)

/-- RESP. -/
def ubResp (s : State) (a v : Nat) : State :=
  let i := a % 32
  if i < 24 then
    let m : Map Nat := Map.set s.host.resp i (v % 2 ^ 32)
    ubAck { s with host := { s.host with resp := m } } ackOK
  else ubAck s ackERR

/-- Response words as bytes, least significant first. -/
def respBytes (s : State) (i n : Nat) : List Nat := (List.range n).flatMap (fun k => leBytes 4 (s.host.resp.get (i + k)))

/-- The response unlocks the port (R632). -/
def unlockOk (s : State) : Bool :=
  let key := respBytes s 16 8
  let msg := leBytes 16 s.host.chal ++ leBytes 4 (s.getC .A R.CONV_DIE_TAG.DIE_TAG) ++ leBytes 4 (s.get R.SYS_DEVID.DEVICE_ID)
  slotFused s 3 && sha256 key == slotHash s 3 && edVerify key msg (respBytes s 0 16)

/-- UNLOCK: an attempt draws a new challenge; after three failures it is refused (R632). -/
def ubUnlock (s : State) : State :=
  let good := !s.on R.UB_STAT.LOCKOUT && unlockOk s
  let s := { s with host := { s.host with chal := s.free % 2 ^ 128 } }.freeNext
  if good then ubAck ((s.setB R.UB_STAT.UNLOCKED true).raise E.UB_UNLOCK 1) ackOK
  else
    let s := s.bump R.UB_STAT.FAILS
    let s := if 3 ≤ s.get R.UB_STAT.FAILS then s.setB R.UB_STAT.LOCKOUT true else s
    ubAck (s.raise E.UB_UNLOCK (256 * s.get R.UB_STAT.LOCKOUT)) ackERR

/-- DBG_HALT_REQ, DBG_RESUME and DBG_STEP: DWR of DCTRL with one bit, CH as it stands. -/
def dbgBit (s : State) (i : Nat) : State := ubCmd s (fun s => ubDwr s 0 (16 * s.host.dbgCh + 2 ^ i))

/-- Breakpoints and watchpoints work while the port has power and is open. -/
def dbgWatches (s : State) : Bool := ubOn s && ctlRuns s && !halted s

/-- DBG_BREAKPOINT: PC stands at an enabled breakpoint. -/
def dbgBreakpoint (s : State) (i : Nat) : State :=
  let b := s.host.bp.get i
  if dbgWatches s && s.ctl.wfe.isNone && decide (i < 4) && bitOf b 0 && b / 4 == (lead s).pc / 4 then haltNow s 2 else s

/-- DBG_WATCHPOINT: the access just made lies in an enabled watchpoint's word. -/
def dbgWatchpoint (s : State) (i addr : Nat) (store : Bool) : State :=
  let w := s.host.wp.get i
  if dbgWatches s && decide (i < 2) && bitOf w (b2n store) && w / 4 == addr / 4 then haltNow s 3 else s

end Sys2Proof.Machine
end

