-- ==== Sys2Proof/Machine/Meaning.lean ====
section
/-! DEFINITION. What the meanings of commands share: the outcome with the queue as it stands, and commands that several blocks
meet together. -/

namespace Sys2Proof.Machine

open Sys2Proof

/-- The outcome of a command that turns `s` into `t`: a next state, with the queue of `s`. -/
def done (s t : State) : Host.Outcome State Fault Refusal := .next { t with pending := s.pending }

/-! Time (log entry 1). -/

/-- Control cycles pass for channels that execute nothing: CYCLE counts (R512). -/
def waitCycles (s : State) (n : Nat) : State :=
  if ctlRuns s && (s.ctl.wfe.isSome || halted s) then { s with ctl := { s.ctl with cycles := (s.ctl.cycles + n) % 2 ^ 48 } } else s

/-- One AON cycle without a command: the time scales, counters, and in the freeze the entries that have fallen due. In RESET
AON time alone counts (R443 to R446, R466, R500). -/
def idle (s : State) : State :=
  if s.dev = 0 then { s with time := { s.time with aon := (s.time.aon + 20) % 2 ^ 48 } }
  else
    let n := ctlPerAon s
    frozenSweep (waitCycles (perfCycles (timeTick s) n) n)

/-! Carriers. -/

/-- Traffic of a block whose clocks come through the muxes `ms`: while one of them runs from the crystal or waits for a
stopped clock, the block passes none and `t` does not come about (R415, R427, R428). -/
def traffic (s : State) (ms : List Nat) (t : State) : State := if ms.all s.muxOnPll then t else s

/-- The mux of a carrier's TX DSP clock (R427). -/
def txMux (c : Carrier) : List Nat := [4 + 2 * c.num]
/-- The mux of a carrier's RX DSP clock. -/
def rxMux (c : Carrier) : List Nat := [5 + 2 * c.num]

/-- RUN of a block is set. -/
def startCmd (s : State) (b : Blk) : State := reach s b (fun s => levels (runSet s b))

/-- RUN of a block is cleared. -/
def stopCmd (s : State) (b : Blk) : State := reach s b (fun s => levels (runClear s b))

/-- RUN of RXDSP is set; aligners that are in frame already are met at once (R155). -/
def rxStart (s : State) (c : Carrier) : State := reach s (.rxdsp c) (fun s => levels (acqFrameLock (runSet s (.rxdsp c)) c))

/-- The samples of a line frame, as RXDSP, DAWN and the decoder's count meet it; in the Dawn modes only within a burst (R196). -/
def lineFrame (s : State) (c : Carrier) (adc : List (List Int)) : State :=
  if !rxDelivers s c then s else fecRxFrame (dawnLineFrame s c adc) c (rxHdr s c adc)

/-- A latch, or a Bexa qualification, gives FRAMER its alignment (R272). -/
def latchCmd (s t : State) (c : Carrier) : State :=
  if dawnState t c ≠ dawnState s c then levels (frmLatch t c) else t

/-- Shortfall codewords in the decoder. -/
def shorts (s : State) (c : Carrier) : Nat := ((s.fh c).cws.filter (·.short)).length

/-- Codewords that became shortfalls are counted (R501). -/
def perfShort (s t : State) (c : Carrier) : State := perfEvent t (0x14 + c.num) (shorts t c - shorts s c)

/-- A codeword is released: counted, and the first one of a seeded burst gives its ACQ_NS (R501, R502). Its data pass the
remover, in ZR400 its mapping (R306, R340). -/
def releaseCmd (s : State) (c : Carrier) : State :=
  let t := frmCodeword s c
  let n := (s.fh c).cws.length - (t.fh c).cws.length
  let t := perfEvent t (0x12 + c.num) n
  let t := if s.mode c ≠ mZR400 then remDrain t c else if n = 0 then t else zrGive t c
  match (s.dh c).acqNs, (t.dh c).acqNs with
  | none, some v => histSample t (8 + c.num) (v : Nat)
  | _, _ => t

/-- The STREAM transfer of R402: in REGEN across the board each frame received leaves over the bond, or over the port of
XDEV_PORT, with the frame count as TAG and the tag blocks that it holds (log entry 105). -/
def streamSend (s : State) (c : Carrier) : State :=
  let k := if s.on R.POD_STAT.BONDED then 4 else 4 + s.get R.POD_CFG.XDEV_PORT
  let h := s.mh c
  if podUp s k then
    sendTransfer s k 0x10 h.rxCount h.rxCount h.rxFrame.bytes (h.rxFrame.tags.map (fun t => (16 * (t.1 + 1), t.2.1)))
  else s

/-- FRAMER_RX_FRAME with what a received frame brings: in BEXA, where CIPHER is bypassed, its payload for the ports (R320,
R340), in REGEN across the board its STREAM transfer. -/
def rxFrameCmd (s : State) (c : Carrier) : State :=
  let t := frmRxFrame s c
  if (t.mh c).rxCount = (s.mh c).rxCount then t
  else if t.mode c = mBEXA then giveWords t (frameWords (rxMapNow t c) (otuN t c) (t.mh c).rxFrame.bytes) false
  else if acrossBoard t c then streamSend t c
  else t

/-! Store. -/

/-- ID_OVERRIDE of a module is set: where it rises, the identity read is repeated (R357). -/
def idOverride (s : State) (m : Nat) : State :=
  let old := s.get R.STORE_MOD_CTRL.ID_OVERRIDE
  let t := s.set R.STORE_MOD_CTRL.ID_OVERRIDE (setBit old m)
  if bitOf old m then t else modReread t m

/-- The time of a launch that the scheduler has handed on arrives (R371, R462). -/
def replayLaunch (s : State) (ch : Nat) : State :=
  let t := rplLaunch s ch
  if (jb s ch).launch.isSome && (jb t ch).launch.isNone then launchTaken t aRPL ch else t

/-! Lanes and Pod ports. -/

/-- The block of a lane: CL0 to CL23, PD0 to PD23. -/
def laneBlk (n : Nat) : Blk := if n < 24 then .lanes else .pod

/-- A command that is a write to a lane's own registers. -/
def reachLane (s : State) (n : Nat) (f : State → State) : State :=
  if s.dev = 0 || !reachable s (laneBlk n) (laneF n R.LN_CTRL.RX_INV).addr || s.on (resettingF (laneBlk n)) then s else f s

/-- The next MSG block that the port has received (R401): links, beats, boot requests. -/
def podMessage (s : State) (k : Nat) : State :=
  match inboxTake s k 0xB4 with
  | some (p, t) => hbWake s (levels (podMsg podOther t k p))
  | none => s

/-- A port goes down: a lane leaves SYNC, or EN is cleared (R397). -/
def portDown (s : State) (k : Nat) (lane : Option Nat) : State :=
  match lane with
  | some n => levels (podLaneLost s n)
  | none => reach s .pod (fun s => levels (if s.on (R.POD_PORT.EN.ix k) then podPortEnable s k false else s))

/-- READ_DATA has come in at a store port. -/
def readData (s : State) (k : Nat) : Bool :=
  !isPeer k && (match (pp s k).fin with | some (x, _, _) => x.kind == 3 | none => false)

/-- A transfer is complete; READ_DATA brings the module's report (R367, R398, R502). -/
def transferCmd (s : State) (k : Nat) (rep : Option ReadReport) : State :=
  let t := levels (podTransfer podDeliver s k)
  if readData s k then
    let t := histFree t (4 + k)
    match rep with | some r => readReport t k r | none => t
  else t

/-! Instructions. -/

/-- An instruction of one cycle with a field that must be 0 or small. -/
def runLegal (s : State) (insn : Nat) (gd : BitVec 4) (ok : Bool) (f : Chan → Word) : State :=
  runPlain s insn (legal ok (fun c => .ok ((c.wr gd (f c)).next) 1))

/-- LAUNCH with KIND 0b10, or with the reserved KIND 0b11 (R528). -/
def runMark (s : State) (gd ga : BitVec 4) (scale vtb : BitVec 2) (late reserved : Bool) (rest : BitVec 11) (k : Nat) : State :=
  let fl : Flags := ⟨scale, vtb, late, if reserved then 3 else 2, rest⟩
  runSched s (encI 0x3A gd ga fl.bits) k (if reserved then 5 else aMARK) true fl gd ga

/-! Mailboxes (R616). -/

/-- A sender rings: the supervisor by a voted write, or the host. -/
def ringCmd (s : State) (s2h : Bool) (len : Nat) : State :=
  if s2h then reachVoted s .hostif (fun s => mboxRing s true (len % 8192)) else reach s .hostif (fun s => mboxRing s false (len % 8192))

/-- A receiver acknowledges. -/
def ackCmd (s : State) (s2h : Bool) : State :=
  if s2h then reach s .hostif (fun s => mboxAck s true) else reachVoted s .hostif (fun s => mboxAck s false)

end Sys2Proof.Machine
end

