-- ==== Sys2Proof/Machine/CmdCipher.lean ====
section
/-! DEFINITION. Meanings: CIPHER (R295 to R331). -/

namespace Sys2Proof.Machine

open Sys2Proof

/-- CIPHER_START (R322): Setting RUN in CIPHER checks segment size and key slot and starts encryption and the remover. -/
def execCipherStart (c : Carrier) (s : State) : Host.Outcome State Fault Refusal :=
  done s (startCmd s (.cipher c))

/-- CIPHER_RUN_CLEAR (R322): Clearing RUN closes the segment in progress with its tag block, keeping keys and
counters. -/
def execCipherRunClear (c : Carrier) (s : State) : Host.Outcome State Fault Refusal :=
  done s (stopCmd s (.cipher c))

/-- CIPH_SEGMENT_END (R304): A segment ends, its tag block is inserted and the next segment starts under the next
counter value. -/
def execCiphSegmentEnd (c : Carrier) (s : State) : Host.Outcome State Fault Refusal :=
  done s (traffic s [1] (levels (segmentEnd s c)))

/-- CIPH_ANCHOR_INSERT (R305): At each anchor frame the transmit part inserts an anchor block carrying counter, offset
and switch state. -/
def execCiphAnchorInsert (c : Carrier) (s : State) : Host.Outcome State Fault Refusal :=
  done s (traffic s [1] (anchorInsert s c))

/-- CIPH_ANCHOR_RECEIVE (R306): The remover takes a received anchor block, adopting, resyncing, rejecting or arming a
receive switch. -/
def execCiphAnchorReceive (c : Carrier) (s : State) : Host.Outcome State Fault Refusal :=
  done s (traffic s [1] (anchorReceive s c))

/-- CIPH_SEGMENT_VERDICT (R309): 40 ns after a tag block arrives the segment is passed or failed and frames are
released or dropped. -/
def execCiphSegmentVerdict (c : Carrier) (s : State) : Host.Outcome State Fault Refusal :=
  done s (traffic s [1] (levels (segmentVerdict s c)))

/-- RNG_TEST_RESULT (R299): A noise-source health test fails or passes again, setting or clearing RNG_FAULT. -/
def execRngTestResult (c : Carrier) (fail : Bool) (s : State) : Host.Outcome State Fault Refusal :=
  done s (rngTest s c fail)

/-- KEK_CLEAR (R313): KEK_CLEAR loads the KEK from the clear window, for voted writes only. -/
def execKekClear (c : Carrier) (s : State) : Host.Outcome State Fault Refusal :=
  done s (reachVoted s (.cipher c) (fun s => kekClear s c .control))

/-- KEK_BLOB (R313): KEK_BLOB unwraps the KEK from the blob window under the device wrap key. -/
def execKekBlob (c : Carrier) (s : State) : Host.Outcome State Fault Refusal :=
  done s (reach s (.cipher c) (fun s => kekBlob s c))

/-- KEK_EXPORT (R313): KEK_EXPORT writes the wrapped KEK into the blob window. -/
def execKekExport (c : Carrier) (s : State) : Host.Outcome State Fault Refusal :=
  done s (reach s (.cipher c) (fun s => kekExport s c))

/-- KEY_LOAD (R314): KEY_LOAD checks a wrapped traffic key and loads the target slot or sets REJ_CODE. -/
def execKeyLoad (c : Carrier) (target : Nat) (s : State) : Host.Outcome State Fault Refusal :=
  done s (reach s (.cipher c) (fun s => keyLoad (s.setC c R.CIPH_LOAD.TARGET target) c (target % 4)))

/-- CIPH_LOAD_DONE (R314): A key or KEK operation completes and BUSY clears. -/
def execCiphLoadDone (c : Carrier) (s : State) : Host.Outcome State Fault Refusal :=
  done s (loadDone s c)

end Sys2Proof.Machine
end

