-- ==== Sys2Proof/Machine/CmdClient.lean ====
section
/-! DEFINITION. Meanings: CLIENT (R332 to R353). -/

namespace Sys2Proof.Machine

open Sys2Proof

/-- CL_PORT_ENABLE (R334): Setting EN checks the port configuration and starts the port or sets CFG_ERR. -/
def execClPortEnable (p : Nat) (s : State) : Host.Outcome State Fault Refusal :=
  done s (reach s .client (fun s => levels (if s.on (R.CL_PORT_CFG.EN.ix p) then s else portEnable s p)))

/-- CL_PORT_DISABLE (R334): Clearing EN stops the port at the end of the frame in progress in each direction. -/
def execClPortDisable (p : Nat) (s : State) : Host.Outcome State Fault Refusal :=
  done s (reach s .client (fun s => levels (if s.on (R.CL_PORT_CFG.EN.ix p) then portDisable s p else s)))

/-- CL_LINK_CHANGE (R335): PCS alignment or local fault changes LINK_UP and raises EV_CL_LINK. -/
def execClLinkChange (p : Nat) (aligned : Bool) (locks : Nat) (lf rf : Bool) (s : State) : Host.Outcome State Fault Refusal :=
  done s (linkChange s p aligned locks lf rf)

/-- CL_INGRESS_FRAME (R333): A frame received on a port is checked, timestamped, tapped and buffered or dropped. -/
def execClIngressFrame (p : Nat) (f : List Nat) (sub corr uncorr : Nat) (s : State) :
    Host.Outcome State Fault Refusal :=
  done s (traffic s [2] (ingressFrame s p f sub corr uncorr))

/-- CL_EGRESS_FRAME (R344): A frame sent on a port is given its PTP egress correction or timestamp. -/
def execClEgressFrame (p sub : Nat) (s : State) : Host.Outcome State Fault Refusal :=
  done s (traffic s [2] (egressFrame s p sub))

/-- IMP_HEADER (R341): An IMP header is received and checked, delineating units and gaining or losing sync. -/
def execImpHeader (p : Nat) (s : State) : Host.Outcome State Fault Refusal :=
  done s (levels (impHeader s p))

/-- CL_TS_POP (R348): A read of CL_TS_NS returns and removes the timestamp FIFO head. -/
def execClTsPop (by' : Requester) (s : State) : Host.Outcome State Fault Refusal :=
  done s (readRequest s by' R.CL_TS_NS.NS.addr)

end Sys2Proof.Machine
end

