-- ==== Sys2Proof/Machine/CmdClk.lean ====
section
/-! DEFINITION. Meanings: CLK (R413 to R442). -/

namespace Sys2Proof.Machine

open Sys2Proof

/-- XO_AMP_CHANGE (R413): AMP_OK rises or falls, starting or restarting the strap delay. -/
def execXoAmpChange (up : Bool) (s : State) : Host.Outcome State Fault Refusal :=
  done s (levels (xoAmp s up))

/-- CLOCK_GOOD (R413): AMP_OK held for the strap delay reports clock-good. -/
def execClockGood (xtd : Nat) (s : State) : Host.Outcome State Fault Refusal :=
  done s (levels (clockGood s xtd))

/-- XO_FAIL (R414): AMP_OK falling for 10 µs after clock-good sets XO_FAIL and moves AON to the backup oscillator. -/
def execXoFail (s : State) : Host.Outcome State Fault Refusal :=
  done s (levels (xoFail s))

/-- PLL_LOCK (R415): A PLL locks and its muxes change over to it. -/
def execPllLock (n : Nat) (s : State) : Host.Outcome State Fault Refusal :=
  done s (levels (pllLock s n))

/-- PLL_UNLOCK (R416): A PLL loses lock; for SYSPLL MUX0 moves to the crystal at once. -/
def execPllUnlock (n : Nat) (s : State) : Host.Outcome State Fault Refusal :=
  done s (levels (pllUnlock s n))

/-- SYSPLL_RELOCK_RETURN (R416): SYSPLL relocked for 1 ms returns MUX0 to its selected source. -/
def execSyspllRelockReturn (s : State) : Host.Outcome State Fault Refusal :=
  done s (levels (sysReturn s))

/-- PLL_RATE_CHANGE (R415): A rate-field change moves the PLL's muxes to the crystal and relocks at the new rate. -/
def execPllRateChange (n : Nat) (s : State) : Host.Outcome State Fault Refusal :=
  done s (levels (pllRates s n))

/-- REFSEL_ACCEPT (R417): REFSEL pins stable for 1 ms change the selected reference and raise EV_REF_SWITCH. -/
def execRefselAccept (sel : Nat) (s : State) : Host.Outcome State Fault Refusal :=
  done s (refselAccept s sel)

/-- REF_MEASUREMENT (R418): Every 100 ms each monitored reference is measured and its qualification and agreement
updated. -/
def execRefMeasurement (ms : List (Nat × Bool)) (s : State) : Host.Outcome State Fault Refusal :=
  done s (refMeasurements s ms)

/-- REF_LOA (R418): No edge for 2.5 nominal periods sets LOA and HARD_OUT. -/
def execRefLoa (r : Nat) (s : State) : Host.Outcome State Fault Refusal :=
  done s (refLoa s r)

/-- REF_MONITOR_RESTART (R418): A write to FREQ_HZ or EN restarts the reference monitor. -/
def execRefMonitorRestart (r : Nat) (en : Bool) (freq : Nat) (s : State) : Host.Outcome State Fault Refusal :=
  done s (reach s .clk (fun s => refRestart ((s.setB (R.CLK_REF_CFG.EN.ix r) en).set (R.CLK_REF_CFG.FREQ_HZ.ix r) freq) r))

/-- DPLL_LOCK (R422): Phase within ±10 ns for 1 s moves ACQUIRE to LOCKED. -/
def execDpllLock (s : State) : Host.Outcome State Fault Refusal :=
  done s (dpllLock s)

/-- DPLL_PHASE_ABSORB_DONE (R425): The phase offset measurement of a new reference completes and is absorbed. -/
def execDpllPhaseAbsorbDone (ps : Int) (s : State) : Host.Outcome State Fault Refusal :=
  done s (dpllAbsorbed s ps)

/-- DPLL_HIST_VALID (R422): The DPLL locked for HOLD_AVG sets HIST_VALID. -/
def execDpllHistValid (s : State) : Host.Outcome State Fault Refusal :=
  done s (dpllHist s)

/-- CLK_MUX_SEL_WRITE (R429): A write of CLK_MUXn.SEL starts a switch or is refused with SEL_REJ. -/
def execClkMuxSelWrite (n sel : Nat) (s : State) : Host.Outcome State Fault Refusal :=
  done s (reach s .clk (fun s => levels (muxSelWrite s n (sel % 4))))

/-- MUX_CHANGEOVER (R428): A mux sees the low phases of both clocks and changes over. -/
def execMuxChangeover (n : Nat) (s : State) : Host.Outcome State Fault Refusal :=
  done s (levels (muxChangeover s n))

/-- MUX_STALL (R428): 256 cycles of the new clock without the old sets MUX_STALL. -/
def execMuxStall (n : Nat) (s : State) : Host.Outcome State Fault Refusal :=
  done s (levels (muxStall s n))

/-- MUX_FORCE (R428): FORCE with DOM_RST changes a stalled mux over at once. -/
def execMuxForce (n : Nat) (s : State) : Host.Outcome State Fault Refusal :=
  done s (reach s .clk (fun s => levels (muxForce s n)))

/-- FMEAS_START (R430): START begins counting a clock over the gate interval. -/
def execFmeasStart (s : State) : Host.Outcome State Fault Refusal :=
  done s (reach s .clk (fun s => fmeasStart s))

/-- FMEAS_DONE (R430): The gate ends, COUNT is stored and EV_FMEAS_DONE is raised. -/
def execFmeasDone (count : Nat) (s : State) : Host.Outcome State Fault Refusal :=
  done s (fmeasDone s count)

end Sys2Proof.Machine
end

