-- ==== Sys2Proof/Machine/CmdControl.lean ====
section
/-! DEFINITION. Meanings: voting, memories, clock gates, events and counters (R476 to R503). -/

namespace Sys2Proof.Machine

open Sys2Proof

/-- VOTE_SIGNATURE (R477): Every 1,024 control cycles the channels' state signatures are compared. -/
def execVoteSignature (s : State) : Host.Outcome State Fault Refusal :=
  done s (voteSignature s)

/-- RESYNC_START (R481): An idle slot in DUPLEX begins a resynchronisation and stalls the channels. -/
def execResyncStart (s : State) : Host.Outcome State Fault Refusal :=
  done s (resyncStart s)

/-- RESYNC_FORCED (R480): RESYNC_WAIT elapsing in DUPLEX forces a resynchronisation. -/
def execResyncForced (s : State) : Host.Outcome State Fault Refusal :=
  done s (resyncForced s)

/-- RESYNC_DONE (R482): The copy completes and checks, and all three channels restart in TMR. -/
def execResyncDone (ue : Option (Nat × Nat)) (s : State) : Host.Outcome State Fault Refusal :=
  done s (resyncDone s ue)

/-- CTL_RESTART (R485): CTL_RESTART with KEY in FROZEN resets the channels and reloads the supervisor. -/
def execCtlRestart (key : Nat) (s : State) : Host.Outcome State Fault Refusal :=
  done s (reach s .event (fun s => ctlRestart s key))

/-- CTL_RESTART_DONE (R485): The restart image is verified and the channels start in TMR, or stay FROZEN. -/
def execCtlRestartDone (s : State) : Host.Outcome State Fault Refusal :=
  done s (ctlRestartDone s)

/-- SCRUB_CHECK (R487): Every 2^SCRUB_LOG2 cycles the scrubber checks one word and rewrites it corrected. -/
def execScrubCheck (dom : Bool) (i : Nat) (v : Scrub) (s : State) : Host.Outcome State Fault Refusal :=
  done s (scrubCheck s dom i v)

/-- MEM_BUCKET_LEAK (R489): Every LEAK_PERIOD ms each memory's corrected-error bucket falls by 1. -/
def execMemBucketLeak (s : State) : Host.Outcome State Fault Refusal :=
  done s (bucketLeak s)

/-- CGATE_REQUEST (R492): Setting GATE starts a drain of the domain or is refused if a block runs. -/
def execCgateRequest (d : Nat) (s : State) : Host.Outcome State Fault Refusal :=
  done s (reach s .pwr (fun s => cgateRequest s d))

/-- CGATE_ACK (R492): The domain's bus-idle acknowledge stops its clocks and sets GATED. -/
def execCgateAck (d : Nat) (s : State) : Host.Outcome State Fault Refusal :=
  done s (cgateAck s d)

/-- CGATE_TIMEOUT (R492): The drain times out and the gate stays open with TIMEOUT set. -/
def execCgateTimeout (d : Nat) (s : State) : Host.Outcome State Fault Refusal :=
  done s (cgateTimeout s d)

/-- CGATE_FORCE (R493): FORCE during a drain aborts accesses and gates at once. -/
def execCgateForce (d : Nat) (s : State) : Host.Outcome State Fault Refusal :=
  done s (reach s .pwr (fun s => cgateForce s d))

/-- CGATE_CLEAR (R493): Clearing GATE restarts the domain's clocks. -/
def execCgateClear (d : Nat) (s : State) : Host.Outcome State Fault Refusal :=
  done s (reach s .pwr (fun s => cgateClear s d))

/-- ACCESS_WITHDRAW (R495): A register access not completed within 50 µs is withdrawn with a bus error. -/
def execAccessWithdraw (by' : Requester) (insn addr : Nat) (s : State) : Host.Outcome State Fault Refusal :=
  done s (accessWithdraw s by' insn addr)

/-- EV_HEAD_READ (R499): An owner read of EV_HEAD snapshots the head entry's COUNT. -/
def execEvHeadRead (by' : Requester) (s : State) : Host.Outcome State Fault Refusal :=
  done s (readRequest s by' R.EV_HEAD.ID.addr)

/-- EV_POP (R499): EV_POP by the owner removes the head entry, requeuing later occurrences. -/
def execEvPop (by' : Requester) (s : State) : Host.Outcome State Fault Refusal :=
  done s (reach s .event (fun s => evPop s (pathOf by')))

/-- PERF_CLR (R500): A write of PERF_CLR zeroes the selected counters. -/
def execPerfClr (mask : Nat) (s : State) : Host.Outcome State Fault Refusal :=
  done s (reach s .perf (fun s => perfClr s mask))

/-- HIST_SNAP (R502): SNAP copies a histogram's bins into the read window. -/
def execHistSnap (h : Nat) (s : State) : Host.Outcome State Fault Refusal :=
  done s (reach s .perf (fun s => histSnap s h))

/-- HIST_CLEAR (R502): CLEAR zeroes a histogram's bins. -/
def execHistClear (h : Nat) (s : State) : Host.Outcome State Fault Refusal :=
  done s (reach s .perf (fun s => histClear s h))

end Sys2Proof.Machine
end

