-- ==== Sys2Proof/Machine/CmdConv.lean ====
section
/-! DEFINITION. Meanings: CONV (R87 to R133). -/

namespace Sys2Proof.Machine

open Sys2Proof

/-- CONV_START (R92): Setting RUN in CONV checks the configuration and starts the parts, running foreground
calibration first if CAL_VALID is 0. -/
def execConvStart (c : Carrier) (s : State) : Host.Outcome State Fault Refusal :=
  done s (startCmd s (.conv c))

/-- FG_START (R97): FG_START while CONV is stopped starts foreground calibration. -/
def execFgStart (c : Carrier) (s : State) : Host.Outcome State Fault Refusal :=
  done s (reach s (.conv c) (fun s => fgStart s c))

/-- FG_CAL_DONE (R97): Foreground calibration ends, stores accepted results, sets CAL_VALID and lets RUNNING rise. -/
def execFgCalDone (c : Carrier) (runs : List (Trim × Trim)) (s : State) : Host.Outcome State Fault Refusal :=
  done s (levels (carrierFollow (fgDone s c runs) (.conv c)))

/-- CONV_RUN_CLEAR (R93): Clearing RUN in CONV stops both parts, zeroes the DAC output and abandons a background step. -/
def execConvRunClear (c : Carrier) (s : State) : Host.Outcome State Fault Refusal :=
  done s (stopCmd s (.conv c))

/-- BG_START (R104): BG_START requests a background pass, or sets BG_PENDING during a pass. -/
def execBgStart (c : Carrier) (s : State) : Host.Outcome State Fault Refusal :=
  done s (reach s (.conv c) (fun s => passRequest s c))

/-- BG_PASS_END (R104): A background pass completes, T_LAST is updated and a pending pass starts. -/
def execBgPassEnd (c : Carrier) (dac : List (Trim × Trim)) (s : State) : Host.Outcome State Fault Refusal :=
  done s (bgPassEnd s c dac)

/-- BG_ROUND_END (R98): At the end of a round of 2^18 slice samples the step acts on the residual per the background
state machine. -/
def execBgRoundEnd (c : Carrier) (n : Nat) (res : Trim) (s : State) : Host.Outcome State Fault Refusal :=
  done s (bgRoundEnd s c n res)

/-- BG_MEASURE_DONE (R98): After two measurement runs the results are accepted or rejected and the slice takes new or
old trims. -/
def execBgMeasureDone (c : Carrier) (n : Nat) (r1 r2 : Trim) (s : State) : Host.Outcome State Fault Refusal :=
  done s (bgMeasureDone s c n r1 r2)

/-- RAMP_INTERVAL (R100): At each ramp interval a trim of an occupied slice or the spare moves by at most one code. -/
def execRampInterval (c : Carrier) (s : State) : Host.Outcome State Fault Refusal :=
  done s (rampInterval s c)

/-- TRIM_INTERPOLATE (R107): Every 10 ms in BANDED the applied trims are recomputed from the valid sets and the diode
temperature. -/
def execTrimInterpolate (c : Carrier) (s : State) : Host.Outcome State Fault Refusal :=
  done s (trimInterpolate s c)

/-- MODEL_CHANGE (R108): A write changing CAL_CTRL.MODEL converts the calibration sets between VOLATILE and BANDED. -/
def execModelChange (c : Carrier) (banded : Bool) (s : State) : Host.Outcome State Fault Refusal :=
  done s (reach s (.conv c) (fun s => modelChange s c banded))

/-- CAL_SNAP (R110): SNAP starts exporting the calibration image into the window. -/
def execCalSnap (c : Carrier) (s : State) : Host.Outcome State Fault Refusal :=
  done s (reach s (.conv c) (fun s => calSnap s c))

/-- CAL_SNAP_DONE (R110): The export completes with GENERATION and CRC written and BUSY cleared. -/
def execCalSnapDone (c : Carrier) (s : State) : Host.Outcome State Fault Refusal :=
  done s (calSnapDone s c)

/-- CAL_LOAD (R111): LOAD checks the image in the window in order and rejects it or begins installing it. -/
def execCalLoad (c : Carrier) (s : State) : Host.Outcome State Fault Refusal :=
  done s (reach s (.conv c) (fun s => calLoad s c))

/-- CAL_LOAD_DONE (R111): An accepted image is installed, CAL_GEN and CAL_VALID are set and fail bits clear. -/
def execCalLoadDone (c : Carrier) (s : State) : Host.Outcome State Fault Refusal :=
  done s (calLoadDone s c)

/-- ADC_LEVEL_UPDATE (R128): Every 2^24 ADC samples the RMS and CLIP of each ADC are updated. -/
def execAdcLevelUpdate (c : Carrier) (ls : List (Nat × Nat)) (s : State) : Host.Outcome State Fault Refusal :=
  done s (adcLevelUpdate s c ls)

/-- BIAS_STEP (R116): Every microsecond each bias output moves one code toward its CODE. -/
def execBiasStep (c : Carrier) (s : State) : Host.Outcome State Fault Refusal :=
  done s (biasStep s c)

end Sys2Proof.Machine
end

