-- ==== Sys2Proof/Machine/CmdDawn.lean ====
section
/-! DEFINITION. Meanings: DAWN and Bexa bursts (R182 to R224). -/

namespace Sys2Proof.Machine

open Sys2Proof

/-- DAWN_START (R210): Setting RUN in DAWN checks the configuration and enters SEARCH or sets CFG_ERR. -/
def execDawnStart (c : Carrier) (s : State) : Host.Outcome State Fault Refusal :=
  done s (startCmd s (.dawn c))

/-- DAWN_RUN_CLEAR (R211): Clearing RUN enters STOPPED, abandoning any burst without write-back. -/
def execDawnRunClear (c : Carrier) (s : State) : Host.Outcome State Fault Refusal :=
  done s (reach s (.dawn c) (fun s => levels (burstOver s (runClear s (.dawn c)) c true)))

/-- DAWN_LIGHT_SET (R186): The ADC RMS over 256 samples reaching BURST_THR sets LIGHT. -/
def execDawnLightSet (c : Carrier) (rms : Nat) (s : State) : Host.Outcome State Fault Refusal :=
  done s (dawnLightSet s c rms)

/-- DAWN_LIGHT_CLEAR (R186): 4,096 consecutive samples below the threshold clear LIGHT. -/
def execDawnLightClear (c : Carrier) (rms : Nat) (s : State) : Host.Outcome State Fault Refusal :=
  done s (dawnLightClear s c rms)

/-- DAWN_GAIN_UPDATE (R188): Every 24 ns in SEARCH with LIGHT the fast gain loop steps each TIA code toward TARGET. -/
def execDawnGainUpdate (c : Carrier) (rms : List Nat) (s : State) : Host.Outcome State Fault Refusal :=
  done s (traffic s (rxMux c) (dawnGainUpdate s c rms))

/-- DAWN_DETECTION (R187): A preamble detection at an enabled rate starts, replaces or intrudes on a candidate per the
burst state machine. -/
def execDawnDetection (c : Carrier) (ds : List (Nat × Nat × Int)) (s : State) : Host.Outcome State Fault Refusal :=
  done s (traffic s (rxMux c) (dawnDetection s c ds))

/-- DAWN_SYNC_LATCH (R190): The sync-word correlation reaching half its ideal value fixes the burst position, freezes
frequency and dispersion and latches SSI. -/
def execDawnSyncLatch (c : Carrier) (fo cd : Int) (rms : Nat) (s : State) : Host.Outcome State Fault Refusal :=
  done s (traffic s (rxMux c) (latchCmd s (syncLatch s c fo cd rms) c))

/-- DAWN_SYNC_WIN_EXPIRY (R193): SYNC_WIN expiring before a latch counts a false alarm, releases the gain and resumes
SEARCH. -/
def execDawnSyncWinExpiry (c : Carrier) (s : State) : Host.Outcome State Fault Refusal :=
  done s (syncWinExpiry s c)

/-- DAWN_DESCRIPTOR (R191): The decoded descriptor selects a Seed-table entry for PRELOAD, or leads to COLD or
DISCARD. -/
def execDawnDescriptor (c : Carrier) (coded : Nat) (s : State) : Host.Outcome State Fault Refusal :=
  done s (traffic s (rxMux c) (levels (burstOver s (dawnDescriptor s c coded) c false)))

/-- DAWN_PRELOAD_DONE (R199): The preload of taps, loading and key slot completes and RXDSP enters PILOT. -/
def execDawnPreloadDone (c : Carrier) (s : State) : Host.Outcome State Fault Refusal :=
  done s (traffic s (rxMux c) (levels (burstOver s (preloadDone s c) c false)))

/-- DAWN_BURST_END (R200): The last symbol of frame N-1 leaves the demapper and the burst's write-back starts or is
refused. -/
def execDawnBurstEnd (c : Carrier) (s : State) : Host.Outcome State Fault Refusal :=
  done s (levels (burstOver s (dawnBurstEnd s c) c false))

/-- DAWN_WRITEBACK_DONE (R191): The write-back completes, the entry is released, DAWN_BURST is updated and SEARCH
resumes. -/
def execDawnWritebackDone (c : Carrier) (s : State) : Host.Outcome State Fault Refusal :=
  done s (writebackDone s c)

/-- DAWN_EXPECT_WRITE (R205): A write of DAWN_EXPECT names the expected source and moves the TIA rest values in
SEARCH. -/
def execDawnExpectWrite (c : Carrier) (v : Nat) (s : State) : Host.Outcome State Fault Refusal :=
  done s (reach s (.dawn c) (fun s => expectWrite s c (v % 2 ^ 32)))

/-- SEED_FREEZE (R204): DAWN_SEED_CMD FREEZE sets FROZEN on an entry. -/
def execSeedFreeze (c : Carrier) (e : Nat) (s : State) : Host.Outcome State Fault Refusal :=
  done s (reach s (.dawn c) (fun s => seedFreeze s c e))

/-- SEED_THAW (R204): DAWN_SEED_CMD THAW clears FROZEN on an entry. -/
def execSeedThaw (c : Carrier) (e : Nat) (s : State) : Host.Outcome State Fault Refusal :=
  done s (reach s (.dawn c) (fun s => seedThaw s c e))

/-- SEED_INVALIDATE (R204): DAWN_SEED_CMD INVALIDATE clears VALID of an entry and cancels its pending write-back. -/
def execSeedInvalidate (c : Carrier) (e : Nat) (s : State) : Host.Outcome State Fault Refusal :=
  done s (reach s (.dawn c) (fun s => seedInvalidate s c e))

/-- DAWN_SEED_WRITE (R204): A write to the Seed-table window updates the selected entry, or is discarded while it is
in use. -/
def execDawnSeedWrite (c : Carrier) (off v : Nat) (s : State) : Host.Outcome State Fault Refusal :=
  done s (reach s (.dawn c) (fun s => dawnSeedWrite s c off (v % 2 ^ 32)))

/-- BEXA_ENERGY (R209): DWELL consecutive windows at BEXA_THR declare energy and freeze the gain. -/
def execBexaEnergy (c : Carrier) (rms : Nat) (s : State) : Host.Outcome State Fault Refusal :=
  done s (traffic s (rxMux c) (bexaEnergy s c rms))

/-- BEXA_QUALIFY (R209): The Bexa sync word at two positions 65,536 symbols apart qualifies the burst and latches SSI. -/
def execBexaQualify (c : Carrier) (fo cd : Int) (rms : Nat) (s : State) : Host.Outcome State Fault Refusal :=
  done s (traffic s (rxMux c) (latchCmd s (bexaQualify s c fo cd rms) c))

end Sys2Proof.Machine
end

