-- ==== Sys2Proof/Machine/CmdDebug.lean ====
section
/-! DEFINITION. Meanings: the Ubant port, debug and JTAG (R630 to R635). -/

namespace Sys2Proof.Machine

open Sys2Proof

/-- UB_RD (R631): Ubant RD performs a 32-bit register read on the Ubant path. -/
def execUbRd (addr : Nat) (s : State) : Host.Outcome State Fault Refusal :=
  done s (ubCmd s (fun s => ubRd s addr))

/-- UB_WR (R631): Ubant WR performs a 32-bit register write as a host write. -/
def execUbWr (addr v : Nat) (s : State) : Host.Outcome State Fault Refusal :=
  done s (ubCmd s (fun s => ubWr s addr v))

/-- UB_MRD (R631): Ubant MRD reads an SRAM word of the selected channel. -/
def execUbMrd (addr : Nat) (s : State) : Host.Outcome State Fault Refusal :=
  done s (ubCmd s (fun s => ubMrd s addr))

/-- UB_MWR (R631): Ubant MWR writes an SRAM word into all three channels while halted. -/
def execUbMwr (addr v : Nat) (s : State) : Host.Outcome State Fault Refusal :=
  done s (ubCmd s (fun s => ubMwr s addr v))

/-- UB_DRD (R631): Ubant DRD reads a debug register. -/
def execUbDrd (n : Nat) (s : State) : Host.Outcome State Fault Refusal :=
  done s (ubCmd s (fun s => ubDrd s n))

/-- UB_DWR (R631): Ubant DWR writes a debug register. -/
def execUbDwr (n v : Nat) (s : State) : Host.Outcome State Fault Refusal :=
  done s (ubCmd s (fun s => ubDwr s n v))

/-- UB_ID (R631): Ubant ID returns SYS_DEVID. -/
def execUbId (s : State) : Host.Outcome State Fault Refusal :=
  done s (ubId s)

/-- UB_CHAL (R631): Ubant CHAL returns a word of the unlock challenge. -/
def execUbChal (addr : Nat) (s : State) : Host.Outcome State Fault Refusal :=
  done s (ubFree s (fun s => ubChal s addr))

/-- UB_RESP (R631): Ubant RESP writes a word of the unlock response. -/
def execUbResp (addr v : Nat) (s : State) : Host.Outcome State Fault Refusal :=
  done s (ubFree s (fun s => ubResp s addr v))

/-- UB_UNLOCK (R632): Ubant UNLOCK checks the response and unlocks the port or counts a failure. -/
def execUbUnlock (s : State) : Host.Outcome State Fault Refusal :=
  done s (ubFree s (fun s => ubUnlock s))

/-- DBG_HALT_REQ (R633): HALT_REQ stops all three channels at the same instruction boundary. -/
def execDbgHaltReq (s : State) : Host.Outcome State Fault Refusal :=
  done s (dbgBit s 0)

/-- DBG_RESUME (R633): RESUME restarts the halted channels. -/
def execDbgResume (s : State) : Host.Outcome State Fault Refusal :=
  done s (dbgBit s 1)

/-- DBG_STEP (R633): STEP executes one instruction on all three channels. -/
def execDbgStep (s : State) : Host.Outcome State Fault Refusal :=
  done s (dbgBit s 2)

/-- DBG_BREAKPOINT (R633): A breakpoint halts the channels before its instruction. -/
def execDbgBreakpoint (i : Nat) (s : State) : Host.Outcome State Fault Refusal :=
  done s (dbgBreakpoint s i)

/-- DBG_WATCHPOINT (R633): A watchpoint halts the channels after its access. -/
def execDbgWatchpoint (i addr : Nat) (store : Bool) (s : State) : Host.Outcome State Fault Refusal :=
  done s (dbgWatchpoint s i addr store)

/-- JTAG_BYPASS (R635): The TAP loads BYPASS. -/
def execJtagBypass (s : State) : Host.Outcome State Fault Refusal :=
  done s (tapLoad s irBYPASS)

/-- JTAG_IDCODE (R635): The TAP loads IDCODE. -/
def execJtagIdcode (s : State) : Host.Outcome State Fault Refusal :=
  done s (tapLoad s irIDCODE)

/-- JTAG_SAMPLE_PRELOAD (R635): The TAP loads SAMPLE/PRELOAD on the boundary register. -/
def execJtagSamplePreload (s : State) : Host.Outcome State Fault Refusal :=
  done s (tapLoad s irSAMPLE)

/-- JTAG_EXTEST (R635): The TAP loads EXTEST in RESET or BOOT, or BYPASS with EV_JTAG_REFUSED otherwise. -/
def execJtagExtest (s : State) : Host.Outcome State Fault Refusal :=
  done s (tapDrive s irEXTEST)

/-- JTAG_CLAMP (R635): The TAP loads CLAMP in RESET or BOOT, or is refused. -/
def execJtagClamp (s : State) : Host.Outcome State Fault Refusal :=
  done s (tapDrive s irCLAMP)

/-- JTAG_HIGHZ (R635): The TAP loads HIGHZ in RESET or BOOT, or is refused. -/
def execJtagHighz (s : State) : Host.Outcome State Fault Refusal :=
  done s (tapDrive s irHIGHZ)

/-- JTAG_EXTEST_PULSE (R635): The TAP loads EXTEST_PULSE for AC-coupled lanes in RESET or BOOT, or is refused. -/
def execJtagExtestPulse (s : State) : Host.Outcome State Fault Refusal :=
  done s (tapDrive s irPULSE)

/-- JTAG_EXTEST_TRAIN (R635): The TAP loads EXTEST_TRAIN for AC-coupled lanes in RESET or BOOT, or is refused. -/
def execJtagExtestTrain (s : State) : Host.Outcome State Fault Refusal :=
  done s (tapDrive s irTRAIN)

end Sys2Proof.Machine
end

