-- ==== Sys2Proof/Machine/CmdFabric.lean ====
section
/-! DEFINITION. Meanings: the register fabric and the common header of every block (R4 to R18). -/

namespace Sys2Proof.Machine

open Sys2Proof

/-- REGISTER_WRITE (R6): A write to a register field without behaviour of its own is applied according to its access
code and update class, or refused with a bus error. -/
def execRegisterWrite (w : WriteReq) (s : State) : Host.Outcome State Fault Refusal :=
  done s (writeRequest s w)

/-- READ_CLEAR (R6): A read of an RC field returns its value and then sets the field to its restart value. -/
def execReadClear (by' : Requester) (addr : Nat) (s : State) : Host.Outcome State Fault Refusal :=
  done s (readRequest s by' addr)

/-- WIDE_READ_SNAPSHOT (R431): A read of the low word of a result wider than 32 bits returns bits 31:0 and snapshots
the whole value for the requester's access path. -/
def execWideReadSnapshot (by' : Requester) (addr : Nat) (s : State) : Host.Outcome State Fault Refusal :=
  done s (readRequest s by' addr)

/-- SOFT_RESET (R13): Writing SOFT_RESET starts the return of a block's fields to reset values, discards shadow copies
and clears RUN. -/
def execSoftReset (b : Blk) (s : State) : Host.Outcome State Fault Refusal :=
  done s (reach s b (fun s => levels (softReset s b)))

/-- SOFT_RESET_DONE (R13): After 64 cycles of the block's clock the soft reset completes and RESETTING clears. -/
def execSoftResetDone (b : Blk) (s : State) : Host.Outcome State Fault Refusal :=
  done s (levels (softResetDone s b))

/-- COMMIT_REQ (R16): Writing COMMIT_REQ arms the transfer of the block's shadow copies at the next commit point
selected by CP_SEL. -/
def execCommitReq (b : Blk) (sel : Nat) (s : State) : Host.Outcome State Fault Refusal :=
  done s (reach s b (fun s => levels (commitWrite s b (1 + 256 * (sel % 4)))))

/-- COMMIT_TICK (R18): Every 512 cycles of its register DSP clock, CONV, RXDSP and DAWN reach a commit point and
pending shadow copies transfer. -/
def execCommitTick (b : Blk) (s : State) : Host.Outcome State Fault Refusal :=
  done s (levels (commitTick s b))

/-- DEFERRED_START (R666): In the cycle after a stopping block's RUNNING falls with RUN set again, the block makes its
start checks and starts. -/
def execDeferredStart (b : Blk) (s : State) : Host.Outcome State Fault Refusal :=
  done s (levels (deferredStart s b))

/-- BLOCK_CLOCK_START (R672): A block waiting with RUN set for its traffic clock repeats its start checks in the first
cycle after its mux changes over to the PLL and starts. -/
def execBlockClockStart (b : Blk) (s : State) : Host.Outcome State Fault Refusal :=
  done s (levels (clockStart s b))

end Sys2Proof.Machine
end

