-- ==== Sys2Proof/Machine/CmdFec.lean ====
section
/-! DEFINITION. Meanings: FEC (R225 to R257). -/

namespace Sys2Proof.Machine

open Sys2Proof

/-- FEC_START (R248): Setting RUN in FEC checks the configuration and starts the encoder and decoder as their
neighbours run. -/
def execFecStart (c : Carrier) (s : State) : Host.Outcome State Fault Refusal :=
  done s (startCmd s (.fec c))

/-- FEC_RUN_CLEAR (R249): Clearing RUN finishes the encoder codeword, stops the decoder and empties the pool. -/
def execFecRunClear (c : Carrier) (s : State) : Host.Outcome State Fault Refusal :=
  done s (stopCmd s (.fec c))

/-- FEC_ENC_CODEWORD (R230): The encoder starts a codeword, or delivers zero pad before an anchor frame. -/
def execFecEncCodeword (c : Carrier) (s : State) : Host.Outcome State Fault Refusal :=
  done s (traffic s (txMux c) (encCodeword s c))

/-- FEC_ENC_OVERRUN (R232): A data bit arriving with the encoder buffer full discards the next data block, counts
ENC_DROP and raises EV_FEC_ENC_OVERRUN. -/
def execFecEncOverrun (c : Carrier) (s : State) : Host.Outcome State Fault Refusal :=
  done s (traffic s (txMux c) (encOverrun s c))

/-- FEC_CODEWORD_ARRIVE (R237): The last LLR of a codeword arrives and its deposit is added to the pool credit. -/
def execFecCodewordArrive (c : Carrier) (now : Nat) (s : State) : Host.Outcome State Fault Refusal :=
  done s (traffic s (rxMux c) (codewordArrive s c now))

/-- FEC_ITERATION_END (R234): An iteration completes, the parity checks are evaluated, and decoding continues or
stops. -/
def execFecIterationEnd (c : Carrier) (i now : Nat) (s : State) : Host.Outcome State Fault Refusal :=
  done s (traffic s (rxMux c) (perfShort s (iterationEnd s c i now) c))

/-- FEC_DEADLINE (R239): The deadline 48 cycles before a codeword's release stops its iterations. -/
def execFecDeadline (c : Carrier) (i : Nat) (s : State) : Host.Outcome State Fault Refusal :=
  done s (perfShort s (fecDeadline s c i) c)

/-- FEC_CODEWORD_RELEASE (R239): At the fixed latency the codeword passes BCH and is delivered with its UNCORR flag
and counted. -/
def execFecCodewordRelease (c : Carrier) (s : State) : Host.Outcome State Fault Refusal :=
  done s (traffic s (rxMux c) (releaseCmd s c))

/-- FEC_ANCHOR_ALIGN (R231): A received anchor frame gives codeword alignment, realigning and raising EV_FEC_REALIGN
on a mismatch. -/
def execFecAnchorAlign (c : Carrier) (s : State) : Host.Outcome State Fault Refusal :=
  done s (traffic s (rxMux c) (anchorAlign s c))

/-- FEC_INTERVAL_END (R244): At the end of a monitoring interval BER, iteration mean, histogram and margins are
updated. -/
def execFecIntervalEnd (c : Carrier) (s : State) : Host.Outcome State Fault Refusal :=
  done s (intervalEnd s c)

end Sys2Proof.Machine
end

