-- ==== Sys2Proof/Machine/CmdFramer.lean ====
section
/-! DEFINITION. Meanings: FRAMER and DUAL (R258 to R294). -/

namespace Sys2Proof.Machine

open Sys2Proof

/-- FRAMER_START (R289): Setting RUN in FRAMER checks N and starts transmission with every aligner in HUNT. -/
def execFramerStart (c : Carrier) (s : State) : Host.Outcome State Fault Refusal :=
  done s (startCmd s (.framer c))

/-- FRAMER_RUN_CLEAR (R289): Clearing RUN stops transmission after the frame in progress, clears defects and asserts
SSF. -/
def execFramerRunClear (c : Carrier) (s : State) : Host.Outcome State Fault Refusal :=
  done s (stopCmd s (.framer c))

/-- FRAMER_TX_FRAME (R262): FRAMER starts sending an OTUCn frame with its overhead, PSI and maintenance signals. -/
def execFramerTxFrame (c : Carrier) (s : State) : Host.Outcome State Fault Refusal :=
  done s (traffic s [1] (levels (frmTxFrame s c)))

/-- LINE_ALIGN_CHECK (R268): The line aligner tests its pattern and moves between HUNT, PRESYNC and SYNC. -/
def execLineAlignCheck (c : Carrier) (o bits pos : Nat) (s : State) : Host.Outcome State Fault Refusal :=
  done s (traffic s [1] (levels (lineAlignCheck s c o bits pos)))

/-- FAS_ALIGN_CHECK (R268): The FAS aligner tests for the FAS of slice 1 and moves between HUNT, PRESYNC and SYNC. -/
def execFasAlignCheck (c : Carrier) (skew : Int) (s : State) : Host.Outcome State Fault Refusal :=
  done s (traffic s [1] (levels (fasAlignCheck s c skew)))

/-- FRAMER_RX_FRAME (R273): A received OTUCn frame's TTI, PSI, STAT, BIP, BEI, BDI, IAE and DMp overhead are
processed. -/
def execFramerRxFrame (c : Carrier) (s : State) : Host.Outcome State Fault Refusal :=
  done s (traffic s [1] (levels (rxFrameCmd s c)))

/-- DEFECT_TIMER (R278): A 3 ms aligner timer expires and dLOF-L, dLOF or dLOM is declared or cleared. -/
def execDefectTimer (c : Carrier) (d : Nat) (s : State) : Host.Outcome State Fault Refusal :=
  done s (levels (defectTimer s c d))

/-- FECX_WINDOW (R278): At the end of each 64-frame window dFECX is evaluated. -/
def execFecxWindow (c : Carrier) (s : State) : Host.Outcome State Fault Refusal :=
  done s (levels (fecxWindow s c))

/-- PM_SECOND (R286): At each second boundary the carrier's near-end and far-end second is classified and dDEG
evaluated. -/
def execPmSecond (s : State) : Host.Outcome State Fault Refusal :=
  done s (levels (secondBoundary s))

/-- PM_SECOND_FINAL (R287): Ten seconds after a second ends its classification becomes final, counters update and a
record goes to the ledger. -/
def execPmSecondFinal (s : State) : Host.Outcome State Fault Refusal :=
  done s (pmFinal s)

/-- DEFECT_FORCE (R280): A write to FRM_FORCE declares forced defects at once with their consequent actions. -/
def execDefectForce (c : Carrier) (v : Nat) (s : State) : Host.Outcome State Fault Refusal :=
  done s (reach s (.framer c) (fun s => levels (defectForce s c (v % 2 ^ 32))))

/-- DM_START (R277): DM_START toggles the transmitted DMp and timestamps the delay measurement. -/
def execDmStart (c : Carrier) (s : State) : Host.Outcome State Fault Refusal :=
  done s (reach s (.framer c) (fun s => dmStart s c))

/-- DM_TIMEOUT (R277): A delay measurement without reply after 1 s ends with DM_NS 0xFFFF_FFFF. -/
def execDmTimeout (c : Carrier) (s : State) : Host.Outcome State Fault Refusal :=
  done s (dmTimeout s c)

/-- DUAL_SEGMENT_OUTPUT (R282): At each segment's output time the selector delivers a good copy, switching or counting
a failed segment. -/
def execDualSegmentOutput (s : State) : Host.Outcome State Fault Refusal :=
  done s (traffic s [1] (levels (dualSegment s)))

/-- DUAL_REALIGN (R282): REALIGN resets the output delay D, which is set again at the next alignment. -/
def execDualRealign (skew : Int) (s : State) : Host.Outcome State Fault Refusal :=
  done s (reach s (.framer .A) (fun s => levels (dualRealign s skew)))

/-- DUAL_WTR_EXPIRY (R283): The wait-to-restore of an excluded carrier expires and it is readmitted. -/
def execDualWtrExpiry (c : Carrier) (s : State) : Host.Outcome State Fault Refusal :=
  done s (levels (wtrExpiry s c))

/-- DUAL_ANCHOR_COMPARE (R284): At each anchor frame the two carriers' rate and segment size are compared for dDMM. -/
def execDualAnchorCompare (s : State) : Host.Outcome State Fault Refusal :=
  done s (levels (anchorCompare s))

/-- DSKEW_CLEAR_TIMER (R284): One second with every copy in time clears dDSKEW. -/
def execDskewClearTimer (c : Carrier) (s : State) : Host.Outcome State Fault Refusal :=
  done s (levels (dskewClear s c))

/-- PSR_HOLDOFF_EXPIRY (R285): aSF held for PSR_HOLDOFF with a masked defect asserts the pair switch request. -/
def execPsrHoldoffExpiry (c : Carrier) (s : State) : Host.Outcome State Fault Refusal :=
  done s (levels (psrHoldoff s c))

end Sys2Proof.Machine
end

