-- ==== Sys2Proof/Machine/CmdHost.lean ====
section
/-! DEFINITION. Meanings: the host interface, boot, lifecycle, optics and flash (R612 to R629). -/

namespace Sys2Proof.Machine

open Sys2Proof

/-- HOST_BAR0_REQUEST (R613): A BAR0 request is split into 32-bit accesses, failures completing with 0xBAD0_0BAD and
HOST_ERR. -/
def execHostBar0Request (r : Bar0Req) (s : State) : Host.Outcome State Fault Refusal :=
  done s (bar0Request s r)

/-- HOST_LINK_RESET (R614): FLR, hot reset, link down or D3hot resets DMA, mailbox flags, IRQ mask and MSI-X table. -/
def execHostLinkReset (down : Bool) (s : State) : Host.Outcome State Fault Refusal :=
  done s (hostLinkReset s down)

/-- PCIE_PERST (R644): PCIE_PERST_N low acts as a link-down event and holds the link down. -/
def execPciePerst (low : Bool) (s : State) : Host.Outcome State Fault Refusal :=
  done s (pciePerst s low)

/-- MBOX_RING (R616): A sender's RING sets FULL and notifies the receiver, or sets DROP while FULL. -/
def execMboxRing (s2h : Bool) (len : Nat) (s : State) : Host.Outcome State Fault Refusal :=
  done s (ringCmd s s2h len)

/-- MBOX_ACK (R616): A receiver's ACK clears FULL. -/
def execMboxAck (s2h : Bool) (s : State) : Host.Outcome State Fault Refusal :=
  done s (ackCmd s s2h)

/-- DMA_START (R617): START begins a DMA job between host memory and a permitted device target. -/
def execDmaStart (k : Nat) (dir : Bool) (s : State) : Host.Outcome State Fault Refusal :=
  done s (reach s .hostif (fun s => dmaStart (if s.on (R.DMA_CTRL.BUSY.ix k) then s else s.setB (R.DMA_CTRL.DIR.ix k) dir) k))

/-- DMA_DONE (R618): A DMA job ends with its STATUS, an interrupt bit and EV_DMA_DONE. -/
def execDmaDone (k : Nat) (ws : List Nat) (err : Bool) (s : State) : Host.Outcome State Fault Refusal :=
  done s (dmaDone s k ws err)

/-- BOOT_FLASH_HEADERS (R620): The boot engine finishes reading both flash headers and picks the slot to try. -/
def execBootFlashHeaders (h0 h1 : List Nat) (s : State) : Host.Outcome State Fault Refusal :=
  done s (bootHeaders s h0 h1)

/-- BOOT_IMAGE_READ (R620): A flash image has been read into bank 0 and verification begins. -/
def execBootImageRead (img : List Nat) (s : State) : Host.Outcome State Fault Refusal :=
  done s (bootImage s img)

/-- BOOT_VERIFY_DONE (R619): Image verification ends and the channels start, another source is tried, or BOOT_FAIL is
set. -/
def execBootVerifyDone (s : State) : Host.Outcome State Fault Refusal :=
  done s (bootVerifyDone s)

/-- BOOT_GO (R621): BOOT_GO starts verification of the host-loaded image. -/
def execBootGo (s : State) : Host.Outcome State Fault Refusal :=
  done s (reach s .hostif (fun s => bootGo s))

/-- BOOT_REQ_SEND (R622): Every 100 ms a peer boot sends BOOT_REQ on an UP port. -/
def execBootReqSend (s : State) : Host.Outcome State Fault Refusal :=
  done s (bootReqSend s)

/-- BOOT_PEER_TIMEOUT (R619): Ten seconds without a verified peer image sets BOOT_FAIL. -/
def execBootPeerTimeout (s : State) : Host.Outcome State Fault Refusal :=
  done s (bootPeerTimeout s)

/-- LC_ADVANCE (R625): LC_CMD OP 1 advances the lifecycle state or is refused. -/
def execLcAdvance (s : State) : Host.Outcome State Fault Refusal :=
  done s (reachVoted s .hostif (fun s => lcAdvance s))

/-- LC_ROLLBACK (R625): LC_CMD OP 2 raises ROLLBACK to the running image's epoch or is refused. -/
def execLcRollback (s : State) : Host.Outcome State Fault Refusal :=
  done s (reachVoted s .hostif (fun s => lcRollback s))

/-- LC_REVOKE (R625): LC_CMD OP 3 revokes an image-key slot or is refused. -/
def execLcRevoke (n : Nat) (s : State) : Host.Outcome State Fault Refusal :=
  done s (reachVoted s .hostif (fun s => lcRevoke s n))

/-- LC_FUSE (R625): LC_CMD OP 4 fuses a key slot with KEY_HASH or is refused. -/
def execLcFuse (n : Nat) (s : State) : Host.Outcome State Fault Refusal :=
  done s (reachVoted s .hostif (fun s => lcFuse s n))

/-- ID_POLL (R627): Every 100 ms the optics I2C address is polled, starting a read or marking ABSENT. -/
def execIdPoll (c : Carrier) (ack : Bool) (s : State) : Host.Outcome State Fault Refusal :=
  done s (idPoll s c ack)

/-- ID_READ_DONE (R627): An optics identity read completes and the record becomes GOOD or BAD. -/
def execIdReadDone (c : Carrier) (b : List Nat) (s : State) : Host.Outcome State Fault Refusal :=
  done s (opticsReadDone s c b)

/-- ID_REREAD (R627): REREAD forces a read of an optics identity record. -/
def execIdReread (c : Carrier) (s : State) : Host.Outcome State Fault Refusal :=
  done s (reach s .hostif (fun s => idReread s c))

/-- SPI_START (R629): SPI_CMD START sends one flash command and begins moving data. -/
def execSpiStart (s : State) : Host.Outcome State Fault Refusal :=
  done s (reach s .hostif (fun s => spiStart s))

/-- SPI_DONE (R629): The flash command completes and BUSY clears. -/
def execSpiDone (data : List Nat) (s : State) : Host.Outcome State Fault Refusal :=
  done s (spiDone s data)

/-- PCIE_LINK_UP (R612): PCIe link training completes, LINK_UP, WIDTH and SPEED are set and EV_PCIE_LINK is raised
with bit 8 set. -/
def execPcieLinkUp (width speed : Nat) (s : State) : Host.Outcome State Fault Refusal :=
  done s (pcieLinkUp s width speed)

end Sys2Proof.Machine
end

