-- ==== Sys2Proof/Machine/CmdIsa.lean ====
section
/-! DEFINITION. Meanings: the control instruction set (R509 to R533). -/

namespace Sys2Proof.Machine

open Sys2Proof

/-- ADD (R525): gd receives ga plus gb. -/
def execAdd (gd ga gb : BitVec 4) (s : State) : Host.Outcome State Fault Refusal :=
  done s (runAlu s (encA 0 gd ga gb 0) 1 gd (fun c => c.rd ga + c.rd gb))

/-- SUB (R525): gd receives ga minus gb. -/
def execSub (gd ga gb : BitVec 4) (s : State) : Host.Outcome State Fault Refusal :=
  done s (runAlu s (encA 0 gd ga gb 1) 1 gd (fun c => c.rd ga - c.rd gb))

/-- AND (R525): gd receives ga AND gb. -/
def execAnd (gd ga gb : BitVec 4) (s : State) : Host.Outcome State Fault Refusal :=
  done s (runAlu s (encA 0 gd ga gb 2) 1 gd (fun c => c.rd ga &&& c.rd gb))

/-- IOR (R525): gd receives ga inclusive OR gb. -/
def execIor (gd ga gb : BitVec 4) (s : State) : Host.Outcome State Fault Refusal :=
  done s (runAlu s (encA 0 gd ga gb 3) 1 gd (fun c => c.rd ga ||| c.rd gb))

/-- XOR (R525): gd receives ga exclusive OR gb. -/
def execXor (gd ga gb : BitVec 4) (s : State) : Host.Outcome State Fault Refusal :=
  done s (runAlu s (encA 0 gd ga gb 4) 1 gd (fun c => c.rd ga ^^^ c.rd gb))

/-- SHL (R525): gd receives ga shifted left by gb[4:0]. -/
def execShl (gd ga gb : BitVec 4) (s : State) : Host.Outcome State Fault Refusal :=
  done s (runAlu s (encA 0 gd ga gb 5) 1 gd (fun c => c.rd ga <<< shAmount (c.rd gb)))

/-- SHR (R525): gd receives ga shifted right with zero fill. -/
def execShr (gd ga gb : BitVec 4) (s : State) : Host.Outcome State Fault Refusal :=
  done s (runAlu s (encA 0 gd ga gb 6) 1 gd (fun c => c.rd ga >>> shAmount (c.rd gb)))

/-- ASR (R525): gd receives ga shifted right with sign fill. -/
def execAsr (gd ga gb : BitVec 4) (s : State) : Host.Outcome State Fault Refusal :=
  done s (runAlu s (encA 0 gd ga gb 7) 1 gd (fun c => (c.rd ga).sshiftRight (shAmount (c.rd gb))))

/-- CLS (R525): gd receives 1 if ga is less than gb signed, else 0. -/
def execCls (gd ga gb : BitVec 4) (s : State) : Host.Outcome State Fault Refusal :=
  done s (runAlu s (encA 0 gd ga gb 8) 1 gd (fun c => flagWord ((c.rd ga).slt (c.rd gb))))

/-- CLU (R525): gd receives 1 if ga is less than gb unsigned, else 0. -/
def execClu (gd ga gb : BitVec 4) (s : State) : Host.Outcome State Fault Refusal :=
  done s (runAlu s (encA 0 gd ga gb 9) 1 gd (fun c => flagWord ((c.rd ga).ult (c.rd gb))))

/-- ANDN (R525): gd receives ga AND NOT gb. -/
def execAndn (gd ga gb : BitVec 4) (s : State) : Host.Outcome State Fault Refusal :=
  done s (runAlu s (encA 0 gd ga gb 10) 1 gd (fun c => c.rd ga &&& ~~~(c.rd gb)))

/-- MINS (R525): gd receives the signed minimum of ga and gb. -/
def execMins (gd ga gb : BitVec 4) (s : State) : Host.Outcome State Fault Refusal :=
  done s (runAlu s (encA 0 gd ga gb 11) 1 gd (fun c => if (c.rd ga).slt (c.rd gb) then c.rd ga else c.rd gb))

/-- MAXS (R525): gd receives the signed maximum of ga and gb. -/
def execMaxs (gd ga gb : BitVec 4) (s : State) : Host.Outcome State Fault Refusal :=
  done s (runAlu s (encA 0 gd ga gb 12) 1 gd (fun c => if (c.rd ga).slt (c.rd gb) then c.rd gb else c.rd ga))

/-- MUL (R524): gd receives the low 32 bits of ga times gb. -/
def execMul (gd ga gb : BitVec 4) (s : State) : Host.Outcome State Fault Refusal :=
  done s (runAlu s (encA 1 gd ga gb 0) 3 gd (fun c => c.rd ga * c.rd gb))

/-- MHS (R524): gd receives the high 32 bits of the signed product. -/
def execMhs (gd ga gb : BitVec 4) (s : State) : Host.Outcome State Fault Refusal :=
  done s (runAlu s (encA 1 gd ga gb 1) 3 gd (fun c => mulHighS (c.rd ga) (c.rd gb)))

/-- MHU (R524): gd receives the high 32 bits of the unsigned product. -/
def execMhu (gd ga gb : BitVec 4) (s : State) : Host.Outcome State Fault Refusal :=
  done s (runAlu s (encA 1 gd ga gb 2) 3 gd (fun c => mulHighU (c.rd ga) (c.rd gb)))

/-- SRD (R512): gd receives a special register, subject to privilege. -/
def execSrd (gd : BitVec 4) (n : Nat) (rest : BitVec 26) (s : State) : Host.Outcome State Fault Refusal :=
  done s (runSrd s (encA 2 gd 0 0 n + rest.toNat) gd n (rest == 0))

/-- SWR (R512): A special register receives ga, subject to privilege. -/
def execSwr (ga : BitVec 4) (n : Nat) (rest : BitVec 26) (s : State) : Host.Outcome State Fault Refusal :=
  done s (runSwr s (encA 3 0 ga 0 n + rest.toNat) ga n (rest == 0))

/-- SYSCALL (R518): SYSCALL takes the SYSCALL exception to the supervisor. -/
def execSyscall (n : Nat) (rest : BitVec 26) (s : State) : Host.Outcome State Fault Refusal :=
  done s (runPlain s (encA 4 0 0 0 n + rest.toNat) (legal (rest == 0) (fun c => .trap ⟨xSYSCALL, none, (c.pc + 4) % 2 ^ 32, true⟩)))

/-- ERET (R519): ERET restores STATUS from ESTATUS and PC from EPC. -/
def execEret (rest : BitVec 26) (s : State) : Host.Outcome State Fault Refusal :=
  done s (runPlain s (5 * 2 ^ 26 + rest.toNat) (legal (rest == 0) (fun c => if c.task then .trap (c.trap xPRIV none) else .ok c.eret 2)))

/-- FENCE (R517): FENCE discards stale fetched words and makes earlier stores visible to fetch. -/
def execFence (rest : BitVec 26) (s : State) : Host.Outcome State Fault Refusal :=
  done s (runPlain s (6 * 2 ^ 26 + rest.toNat) (legal (rest == 0) (fun c => .ok c.next 4)))

/-- WFE (R532): WFE returns at once if the wake latch is set, otherwise waits; at task level it takes WFE_TASK. -/
def execWfe (ga : BitVec 4) (rest : BitVec 26) (s : State) : Host.Outcome State Fault Refusal :=
  done s (runWfe s (encA 7 0 ga 0 0 + rest.toNat) ga (rest == 0))

/-- WFE_WAKE (R532): A wake condition ends a waiting WFE and records the reason in WAKE. -/
def execWfeWake (k : Nat) (s : State) : Host.Outcome State Fault Refusal :=
  done s (wfeWake s k)

/-- WFE_TIMEOUT (R532): ga control cycles without a wake condition end WFE with WAKE.TIMEOUT. -/
def execWfeTimeout (s : State) : Host.Outcome State Fault Refusal :=
  done s (wfeTimeout s)

/-- VCHK (R533): gd receives VOTE_STAT as the voter reports it. -/
def execVchk (gd : BitVec 4) (rest : BitVec 26) (s : State) : Host.Outcome State Fault Refusal :=
  done s (runPlain s (encA 8 gd 0 0 0 + rest.toNat) (legal (rest == 0) (fun c => .ok ((c.wr gd (BitVec.ofNat 32 (voteStat s))).next) 1)))

/-- CALLR (R524): gd receives PC + 4 and PC jumps to ga. -/
def execCallr (gd ga : BitVec 4) (rest : BitVec 26) (s : State) : Host.Outcome State Fault Refusal :=
  done s (runPlain s (encA 9 gd ga 0 0 + rest.toNat) (legal (rest == 0) (fun c => jumpTo c (c.wr gd (BitVec.ofNat 32 (c.pc + 4))) (c.rd ga).toNat)))

/-- ADDK (R524): gd receives ga plus the sign-extended immediate. -/
def execAddk (gd ga : BitVec 4) (imm : BitVec 18) (s : State) : Host.Outcome State Fault Refusal :=
  done s (runAlu s (encI 0x10 gd ga imm) 1 gd (fun c => c.rd ga + imm.signExtend 32))

/-- ANDK (R524): gd receives ga AND the zero-extended immediate. -/
def execAndk (gd ga : BitVec 4) (imm : BitVec 18) (s : State) : Host.Outcome State Fault Refusal :=
  done s (runAlu s (encI 0x11 gd ga imm) 1 gd (fun c => c.rd ga &&& imm.setWidth 32))

/-- IORK (R524): gd receives ga inclusive OR the zero-extended immediate. -/
def execIork (gd ga : BitVec 4) (imm : BitVec 18) (s : State) : Host.Outcome State Fault Refusal :=
  done s (runAlu s (encI 0x12 gd ga imm) 1 gd (fun c => c.rd ga ||| imm.setWidth 32))

/-- XORK (R524): gd receives ga exclusive OR the zero-extended immediate. -/
def execXork (gd ga : BitVec 4) (imm : BitVec 18) (s : State) : Host.Outcome State Fault Refusal :=
  done s (runAlu s (encI 0x13 gd ga imm) 1 gd (fun c => c.rd ga ^^^ imm.setWidth 32))

/-- CLSK (R524): gd receives 1 if ga is less than the immediate signed, else 0. -/
def execClsk (gd ga : BitVec 4) (imm : BitVec 18) (s : State) : Host.Outcome State Fault Refusal :=
  done s (runAlu s (encI 0x14 gd ga imm) 1 gd (fun c => flagWord ((c.rd ga).slt (imm.signExtend 32))))

/-- SHLK (R524): gd receives ga shifted left by imm[4:0]. -/
def execShlk (gd ga : BitVec 4) (imm : BitVec 18) (s : State) : Host.Outcome State Fault Refusal :=
  done s (runLegal s (encI 0x15 gd ga imm) gd (decide (imm.toNat < 32)) (fun c => c.rd ga <<< imm.toNat))

/-- SHRK (R524): gd receives ga shifted right with zero fill by imm[4:0]. -/
def execShrk (gd ga : BitVec 4) (imm : BitVec 18) (s : State) : Host.Outcome State Fault Refusal :=
  done s (runLegal s (encI 0x16 gd ga imm) gd (decide (imm.toNat < 32)) (fun c => c.rd ga >>> imm.toNat))

/-- ASRK (R524): gd receives ga shifted right with sign fill by imm[4:0]. -/
def execAsrk (gd ga : BitVec 4) (imm : BitVec 18) (s : State) : Host.Outcome State Fault Refusal :=
  done s (runLegal s (encI 0x17 gd ga imm) gd (decide (imm.toNat < 32)) (fun c => (c.rd ga).sshiftRight imm.toNat))

/-- SETH (R524): gd receives imm[17:0] times 2^14. -/
def execSeth (gd ga : BitVec 4) (imm : BitVec 18) (s : State) : Host.Outcome State Fault Refusal :=
  done s (runLegal s (encI 0x18 gd ga imm) gd (ga == 0) (fun _ => imm.setWidth 32 <<< 14))

/-- PCR (R524): gd receives PC plus imm times 4. -/
def execPcr (gd ga : BitVec 4) (imm : BitVec 18) (s : State) : Host.Outcome State Fault Refusal :=
  done s (runLegal s (encI 0x19 gd ga imm) gd (ga == 0) (fun c => BitVec.ofNat 32 (c.rel imm.toInt)))

/-- LDB (R524): gd receives the sign-extended byte at ga + imm. -/
def execLdb (gd ga : BitVec 4) (imm : BitVec 18) (k : Nat) (corr bad : List Nat) (s : State) :
    Host.Outcome State Fault Refusal :=
  done s (runLoad s (encI 0x1a gd ga imm) k 1 gd ga imm corr bad extB)

/-- LDBZ (R524): gd receives the zero-extended byte at ga + imm. -/
def execLdbz (gd ga : BitVec 4) (imm : BitVec 18) (k : Nat) (corr bad : List Nat) (s : State) :
    Host.Outcome State Fault Refusal :=
  done s (runLoad s (encI 0x1b gd ga imm) k 1 gd ga imm corr bad extZ)

/-- LDH (R524): gd receives the sign-extended halfword at ga + imm. -/
def execLdh (gd ga : BitVec 4) (imm : BitVec 18) (k : Nat) (corr bad : List Nat) (s : State) :
    Host.Outcome State Fault Refusal :=
  done s (runLoad s (encI 0x1c gd ga imm) k 2 gd ga imm corr bad extH)

/-- LDHZ (R524): gd receives the zero-extended halfword at ga + imm. -/
def execLdhz (gd ga : BitVec 4) (imm : BitVec 18) (k : Nat) (corr bad : List Nat) (s : State) :
    Host.Outcome State Fault Refusal :=
  done s (runLoad s (encI 0x1d gd ga imm) k 2 gd ga imm corr bad extZ)

/-- LDW (R524): gd receives the word at ga + imm, with register-space loads completing at the register. -/
def execLdw (gd ga : BitVec 4) (imm : BitVec 18) (k : Nat) (corr bad : List Nat) (s : State) :
    Host.Outcome State Fault Refusal :=
  done s (runLoad s (encI 0x1e gd ga imm) k 4 gd ga imm corr bad extZ)

/-- FLD (R524): gd receives a zero-extended bit field of ga. -/
def execFld (gd ga : BitVec 4) (imm : BitVec 18) (s : State) : Host.Outcome State Fault Refusal :=
  done s (runLegal s (encI 0x1F gd ga imm) gd (decide (imm.toNat < 1024)) (fun c => fieldWord (c.rd ga) (imm.toNat % 32) (imm.toNat / 32)))

/-- STB (R524): The byte at ga + imm receives gd. -/
def execStb (gd ga : BitVec 4) (imm : BitVec 18) (k : Nat) (s : State) : Host.Outcome State Fault Refusal :=
  done s (runStore s (encI 0x20 gd ga imm) k 1 gd ga imm)

/-- STH (R524): The halfword at ga + imm receives gd. -/
def execSth (gd ga : BitVec 4) (imm : BitVec 18) (k : Nat) (s : State) : Host.Outcome State Fault Refusal :=
  done s (runStore s (encI 0x21 gd ga imm) k 2 gd ga imm)

/-- STW (R516): The word at ga + imm receives gd, subject to region and task permissions. -/
def execStw (gd ga : BitVec 4) (imm : BitVec 18) (k : Nat) (s : State) : Host.Outcome State Fault Refusal :=
  done s (runStore s (encI 0x22 gd ga imm) k 4 gd ga imm)

/-- BR_EQ (R524): Branch if ga equals gb. -/
def execBrEq (ga gb : BitVec 4) (off : BitVec 18) (s : State) : Host.Outcome State Fault Refusal :=
  done s (runBranch s (encI 0x28 ga gb off) off (fun c => c.rd ga == c.rd gb))

/-- BR_NE (R524): Branch if ga differs from gb. -/
def execBrNe (ga gb : BitVec 4) (off : BitVec 18) (s : State) : Host.Outcome State Fault Refusal :=
  done s (runBranch s (encI 0x29 ga gb off) off (fun c => c.rd ga != c.rd gb))

/-- BR_LTS (R524): Branch if ga is less than gb signed. -/
def execBrLts (ga gb : BitVec 4) (off : BitVec 18) (s : State) : Host.Outcome State Fault Refusal :=
  done s (runBranch s (encI 0x2a ga gb off) off (fun c => (c.rd ga).slt (c.rd gb)))

/-- BR_LES (R524): Branch if ga is at most gb signed. -/
def execBrLes (ga gb : BitVec 4) (off : BitVec 18) (s : State) : Host.Outcome State Fault Refusal :=
  done s (runBranch s (encI 0x2b ga gb off) off (fun c => (c.rd ga).sle (c.rd gb)))

/-- BR_LTU (R524): Branch if ga is less than gb unsigned. -/
def execBrLtu (ga gb : BitVec 4) (off : BitVec 18) (s : State) : Host.Outcome State Fault Refusal :=
  done s (runBranch s (encI 0x2c ga gb off) off (fun c => (c.rd ga).ult (c.rd gb)))

/-- BR_LEU (R524): Branch if ga is at most gb unsigned. -/
def execBrLeu (ga gb : BitVec 4) (off : BitVec 18) (s : State) : Host.Outcome State Fault Refusal :=
  done s (runBranch s (encI 0x2d ga gb off) off (fun c => (c.rd ga).ule (c.rd gb)))

/-- BR_ANY (R524): Branch if ga AND gb is not zero. -/
def execBrAny (ga gb : BitVec 4) (off : BitVec 18) (s : State) : Host.Outcome State Fault Refusal :=
  done s (runBranch s (encI 0x2e ga gb off) off (fun c => c.rd ga &&& c.rd gb != 0))

/-- BR_NONE (R524): Branch if ga AND gb is zero. -/
def execBrNone (ga gb : BitVec 4) (off : BitVec 18) (s : State) : Host.Outcome State Fault Refusal :=
  done s (runBranch s (encI 0x2f ga gb off) off (fun c => c.rd ga &&& c.rd gb == 0))

/-- GO (R524): PC moves by the offset times 4. -/
def execGo (off : BitVec 26) (s : State) : Host.Outcome State Fault Refusal :=
  done s (runPlain s (encJ 0x30 off) (fun c => jumpTo c c (c.rel off.toInt)))

/-- CALL (R524): g15 receives PC + 4 and PC moves by the offset times 4. -/
def execCall (off : BitVec 26) (s : State) : Host.Outcome State Fault Refusal :=
  done s (runPlain s (encJ 0x31 off) (fun c => jumpTo c (c.wr 15 (BitVec.ofNat 32 (c.pc + 4))) (c.rel off.toInt)))

/-- ATW (R528): The ATW instruction inserts a timed-write entry from its descriptor and returns a status. -/
def execAtw (gd ga : BitVec 4) (scale vtb : BitVec 2) (late : Bool) (kind : BitVec 2) (rest : BitVec 11) (k : Nat) (s : State) :
    Host.Outcome State Fault Refusal :=
  done s (runSched s (encI 0x38 gd ga (Flags.mk scale vtb late kind rest).bits) k aATW false ⟨scale, vtb, late, kind, rest⟩ gd ga)

/-- COMMIT (R528): The COMMIT instruction inserts a COMMIT entry and returns a status. -/
def execCommit (gd ga : BitVec 4) (scale vtb : BitVec 2) (late : Bool) (kind : BitVec 2) (rest : BitVec 11) (k : Nat) (s : State) :
    Host.Outcome State Fault Refusal :=
  done s (runSched s (encI 0x39 gd ga (Flags.mk scale vtb late kind rest).bits) k aCOMMIT false ⟨scale, vtb, late, kind, rest⟩ gd ga)

/-- LAUNCH_DAWN (R530): LAUNCH with KIND DAWN inserts a Dawn launch entry and returns a status. -/
def execLaunchDawn (gd ga : BitVec 4) (scale vtb : BitVec 2) (late : Bool) (rest : BitVec 11) (k : Nat) (s : State) :
    Host.Outcome State Fault Refusal :=
  done s (runSched s (encI 0x3A gd ga (Flags.mk scale vtb late 0 rest).bits) k aDAWN true ⟨scale, vtb, late, 0, rest⟩ gd ga)

/-- LAUNCH_RPL (R530): LAUNCH with KIND RPL inserts a replay launch entry and returns a status. -/
def execLaunchRpl (gd ga : BitVec 4) (scale vtb : BitVec 2) (late : Bool) (rest : BitVec 11) (k : Nat) (s : State) :
    Host.Outcome State Fault Refusal :=
  done s (runSched s (encI 0x3A gd ga (Flags.mk scale vtb late 1 rest).bits) k aRPL true ⟨scale, vtb, late, 1, rest⟩ gd ga)

/-- MARK (R530): LAUNCH with KIND MARK inserts a MARK entry and returns a status. -/
def execMark (gd ga : BitVec 4) (scale vtb : BitVec 2) (late reserved : Bool) (rest : BitVec 11) (k : Nat) (s : State) :
    Host.Outcome State Fault Refusal :=
  done s (runMark s gd ga scale vtb late reserved rest k)

/-- TSLICE_EXPIRY (R518): TSLICE reaching 0 at task level raises the TIMER exception. -/
def execTsliceExpiry (s : State) : Host.Outcome State Fault Refusal :=
  done s (tsliceExpiry s)

end Sys2Proof.Machine
end

