-- ==== Sys2Proof/Machine/CmdLanes.lean ====
section
/-! DEFINITION. Meanings: the serial lanes (R384 to R389, R406). -/

namespace Sys2Proof.Machine

open Sys2Proof

/-- LANE_ENABLE (R388): Setting a lane enable bit powers the lane and leaves OFF. -/
def execLaneEnable (n : Nat) (s : State) : Host.Outcome State Fault Refusal :=
  done s (reach s (laneBlk n) (fun s => levels (if laneEnabled s n then s else laneEnable s n true)))

/-- LANE_DISABLE (R386): Clearing a lane enable bit removes power within 1 µs and its port loses alignment. -/
def execLaneDisable (n : Nat) (s : State) : Host.Outcome State Fault Refusal :=
  done s (reach s (laneBlk n) (fun s => levels (if laneEnabled s n then laneEnable s n false else s)))

/-- LANE_POWERED (R388): Lane power-up completes and the lane enters IDLE or LOCKING. -/
def execLanePowered (n : Nat) (s : State) : Host.Outcome State Fault Refusal :=
  done s (levels (lanePowered s n))

/-- LANE_CDR_LOCK (R388): The CDR locks and the lane enters ADAPT. -/
def execLaneCdrLock (n : Nat) (s : State) : Host.Outcome State Fault Refusal :=
  done s (levels (laneCdrLock s n))

/-- LANE_ADAPT_DONE (R388): CTLE and DFE converge and the lane enters READY or PATTERN. -/
def execLaneAdaptDone (n : Nat) (s : State) : Host.Outcome State Fault Refusal :=
  done s (levels (laneAdaptDone s n))

/-- LANE_CDR_LOSS (R388): CDR lock lost for 1 µs returns the lane to LOCKING. -/
def execLaneCdrLoss (n : Nat) (s : State) : Host.Outcome State Fault Refusal :=
  done s (levels (laneCdrLoss s n))

/-- LANE_POL_TIMER (R389): Every 10 ms without PCS lock a client lane with AUTO_POL toggles POL_INV. -/
def execLanePolTimer (n : Nat) (s : State) : Host.Outcome State Fault Refusal :=
  done s (levels (lanePolTimer s n))

/-- LANE_RX_INV_WRITE (R389): A write to RX_INV sets POL_INV at once and returns Pod alignment to HUNT. -/
def execLaneRxInvWrite (n : Nat) (inv : Bool) (s : State) : Host.Outcome State Fault Refusal :=
  done s (reachLane s n (fun s => levels (laneRxInv s n inv)))

/-- LANE_PAT_LOCK (R406): The pattern checker gains or loses lock and raises EV_LANE_PAT. -/
def execLanePatLock (n window : Nat) (s : State) : Host.Outcome State Fault Refusal :=
  done s (lanePatLock s n window)

/-- LANE_INJ_ONE (R406): INJ_ONE inverts one transmitted bit. -/
def execLaneInjOne (n : Nat) (s : State) : Host.Outcome State Fault Refusal :=
  done s (reachLane s n (fun s => laneInjOne s n))

/-- LN_PAT_WRITE (R388): A write that sets or clears GEN_EN or CHK_EN in LN_PAT moves a lane from IDLE to LOCKING, or
from PATTERN to READY or IDLE. -/
def execLnPatWrite (n : Nat) (gen chk : Bool) (s : State) : Host.Outcome State Fault Refusal :=
  done s (reachLane s n (fun s => levels (lnPatWrite s (laneBlk n) n (laneF n R.LN_PAT.GEN_EN).addr gen chk)))

end Sys2Proof.Machine
end

