-- ==== Sys2Proof/Machine/CmdLedger.lean ====
section
/-! DEFINITION. Meanings: the ledger (R563 to R583). -/

namespace Sys2Proof.Machine

open Sys2Proof

/-- LDG_START (R576): At each partition start the core takes the valid chain head and writes a resume record. -/
def execLdgStart (okA okB : Bool) (s : State) : Host.Outcome State Fault Refusal :=
  done s (ldgStart s okA okB)

/-- LDG_SECOND_RECORD (R568): A final-second record from FRAMER or CLIENT is counted into its object's interval. -/
def execLdgSecondRecord (s : State) : Host.Outcome State Fault Refusal :=
  done s (ldgTake s)

/-- LDG_TICK (R569): Each ledger tick checks for objects whose records have stopped. -/
def execLdgTick (s : State) : Host.Outcome State Fault Refusal :=
  done s (ldgTick s)

/-- BOOK_OPEN (R572): BOOK_OPEN checks and opens a booking for an object. -/
def execBookOpen (obj : Nat) (s : State) : Host.Outcome State Fault Refusal :=
  done s (reach s .ledger (fun s => ldgCmd s 1 (obj % 256) 0))

/-- BOOK_CLOSE (R572): BOOK_CLOSE checks and closes an open booking. -/
def execBookClose (no : Nat) (s : State) : Host.Outcome State Fault Refusal :=
  done s (reach s .ledger (fun s => ldgCmd s 2 0 (no % 65536)))

/-- LDG_POP (R577): POP removes the head record from the ledger buffer. -/
def execLdgPop (s : State) : Host.Outcome State Fault Refusal :=
  done s (reach s .ledger (fun s => ldgPop s))

end Sys2Proof.Machine
end

