-- ==== Sys2Proof/Machine/CmdMadc.lean ====
section
/-! DEFINITION. Meanings: MADC (R601 to R611). -/

namespace Sys2Proof.Machine

open Sys2Proof

/-- MADC_START (R602): Setting RUN in MADC checks RATE and ORDER and starts conversion or sets CFG_ERR. -/
def execMadcStart (s : State) : Host.Outcome State Fault Refusal :=
  done s (reach s .madc (fun s => runSet s .madc))

/-- MADC_RESULT (R603): A conversion result is corrected and delivered, setting OVR if unread. -/
def execMadcResult (raw : Int) (s : State) : Host.Outcome State Fault Refusal :=
  done s (madcResult s raw)

/-- MADC_CH_WRITE (R604): A write of MADC_CH abandons the conversion and restarts the filter. -/
def execMadcChWrite (ch : Nat) (s : State) : Host.Outcome State Fault Refusal :=
  done s (reach s .madc (fun s => madcChannel s (ch % 16)))

/-- CAL_ZERO (R605): CAL_ZERO starts averaging eight settled results into the channel offset. -/
def execCalZero (s : State) : Host.Outcome State Fault Refusal :=
  done s (reach s .madc (fun s => madcCal s false))

/-- CAL_FS (R605): CAL_FS starts averaging eight settled results to compute the channel gain. -/
def execCalFs (s : State) : Host.Outcome State Fault Refusal :=
  done s (reach s .madc (fun s => madcCal s true))

/-- MADC_CAL_DONE (R605): The calibration command completes, storing or rejecting the value and raising EV_MADC_CAL. -/
def execMadcCalDone (s : State) : Host.Outcome State Fault Refusal :=
  done s (madcCalDone s)

/-- MADC_RUN_CLEAR (R605): Clearing RUN in MADC stops conversion and abandons any calibration command in progress,
keeping the old values and setting CAL_ERR. -/
def execMadcRunClear (s : State) : Host.Outcome State Fault Refusal :=
  done s (reach s .madc (fun s => runClear s .madc))

end Sys2Proof.Machine
end

