-- ==== Sys2Proof/Machine/CmdPair.lean ====
section
/-! DEFINITION. Meanings: PAIR (R544 to R562). -/

namespace Sys2Proof.Machine

open Sys2Proof

/-- HB_SEND (R546): Every HB_PERIOD a beat with sequence number and health word is sent on each path. -/
def execHbSend (s : State) : Host.Outcome State Fault Refusal :=
  done s (hbSend s)

/-- HB_RECEIVE (R547): A valid peer beat restarts the miss timer, brings the path up and updates PAIR_PEER. -/
def execHbReceive (pod : Bool) (seq h crc : Nat) (s : State) : Host.Outcome State Fault Refusal :=
  done s (hbWake s (hbReceive s pod seq h crc))

/-- HB_MISS (R547): The miss timer expires, counting a missed beat and losing the path after three. -/
def execHbMiss (pod : Bool) (s : State) : Host.Outcome State Fault Refusal :=
  done s (hbWake s (hbMiss s pod))

/-- CLAIM_BACKOFF_EXPIRY (R550): At the end of the back-off the unit claims if the claim rule holds. -/
def execClaimBackoffExpiry (s : State) : Host.Outcome State Fault Refusal :=
  done s (backoffExpiry s)

/-- CLAIM_IN_ASSERTED (R545): CLAIM_IN_N asserted drops transmit enable and sends a claiming unit to COLLIDED. -/
def execClaimInAsserted (s : State) : Host.Outcome State Fault Refusal :=
  done s (claimInAsserted s)

/-- CLAIM_IN_RELEASED (R545): The peer releasing its claim lets a unit in BACKOFF or COLLIDED claim. -/
def execClaimInReleased (s : State) : Host.Outcome State Fault Refusal :=
  done s (hbWake s (claimInReleased s))

/-- CLAIM_GRANT (R550): CLAIM_IN_N deasserted for 1 µs grants the claim and the device enters RUN. -/
def execClaimGrant (s : State) : Host.Outcome State Fault Refusal :=
  done s (claimGrant s)

/-- COLLISION_BACKOFF (R550): A unit acting as PAIRPOS 1 releases after 10 µs in COLLIDED. -/
def execCollisionBackoff (s : State) : Host.Outcome State Fault Refusal :=
  done s (collisionBackoff s)

/-- COLLISION_UNRESOLVED (R550): 100 µs in COLLIDED raises EV_PAIR_COLLIDE with bit 8 set. -/
def execCollisionUnresolved (s : State) : Host.Outcome State Fault Refusal :=
  done s (collisionUnresolved s)

/-- KICK (R554): A voted KICK restarts the watchdog and clears WDOG. -/
def execKick (s : State) : Host.Outcome State Fault Refusal :=
  done s (reachVoted s .pair (fun s => kick s))

/-- WDOG_EXPIRY (R554): KICK_MS without a voted KICK sets WDOG in the health word. -/
def execWdogExpiry (s : State) : Host.Outcome State Fault Refusal :=
  done s (wdogExpiry s)

/-- PAIR_RELEASE (R553): PAIR_CMD.RELEASE with KEY releases the claim with cause 3. -/
def execPairRelease (key : Nat) (s : State) : Host.Outcome State Fault Refusal :=
  done s (reach s .pair (fun s => pairRelease s key))

/-- CLAIM_INHIBIT (R550): Setting CLAIM_INHIBIT releases any claim and makes the unit ineligible. -/
def execClaimInhibit (on : Bool) (s : State) : Host.Outcome State Fault Refusal :=
  done s (reach s .pair (fun s => claimInhibit s on))

/-- REVERT_WTR_END (R556): The preferred unit's WTR count ends and REQ is set in its health word. -/
def execRevertWtrEnd (s : State) : Host.Outcome State Fault Refusal :=
  done s (revertEnd s)

/-- REVERT_GO (R556): REVERT_GO in mode 0b10 releases the active unit when the peer shows REQ. -/
def execRevertGo (s : State) : Host.Outcome State Fault Refusal :=
  done s (reach s .pair (fun s => revertGo s))

/-- SYNC_SEND (R557): SYNC_SEND sends the PAIR transmit window as one SYNC transfer. -/
def execSyncSend (s : State) : Host.Outcome State Fault Refusal :=
  done s (reach s .pair (fun s => syncSend s))

/-- SYNC_PERIOD_SEND (R557): Every SYNC_PERIOD ms the transmit window is sent as a SYNC transfer. -/
def execSyncPeriodSend (s : State) : Host.Outcome State Fault Refusal :=
  done s (syncPeriod s)

/-- PIN_READBACK_MISMATCH (R548): The level read back from HB_OUT or CLAIM_OUT_N differs from the level driven for 1
µs, setting HB_SELF or CLAIM_SENSE in the health word and raising EV_PAIR_FAULT. -/
def execPinReadbackMismatch (claim bad : Bool) (s : State) : Host.Outcome State Fault Refusal :=
  done s (readback s claim bad)

end Sys2Proof.Machine
end

