-- ==== Sys2Proof/Machine/CmdPod.lean ====
section
/-! DEFINITION. Meanings: POD (R390 to R405). -/

namespace Sys2Proof.Machine

open Sys2Proof

/-- POD_BLOCK (R390): A 132-bit Pod block is received and classified as data, control or discarded. -/
def execPodBlock (port w : Nat) (s : State) : Host.Outcome State Fault Refusal :=
  done s (traffic s [3] (levels (podBlock s port w)))

/-- POD_COMMA_ALIGN (R394): A store lane checks for a comma hit and steps its alignment state machine. -/
def execPodCommaAlign (n window at' : Nat) (s : State) : Host.Outcome State Fault Refusal :=
  done s (levels (commaAlign s n window at'))

/-- POD_HEADER_HUNT (R395): A peer lane hunts headers, slipping bits or toggling polarity until header lock. -/
def execPodHeaderHunt (n hdr : Nat) (s : State) : Host.Outcome State Fault Refusal :=
  done s (levels (headerHunt s n hdr))

/-- POD_AM_ALIGN (R395): A peer lane checks for an AM at the expected position and steps its alignment. -/
def execPodAmAlign (n p bip at' : Nat) (s : State) : Host.Outcome State Fault Refusal :=
  done s (levels (amAlign s n p bip at'))

/-- POD_DESKEW (R396): A port with all lanes in SYNC deskews them and goes UP (store) or sends LINK_ID (peer). -/
def execPodDeskew (k skew : Nat) (s : State) : Host.Outcome State Fault Refusal :=
  done s (levels (podDeskew s k skew))

/-- POD_PORT_ENABLE (R397): Setting a Pod port's EN starts its alignment. -/
def execPodPortEnable (k : Nat) (s : State) : Host.Outcome State Fault Refusal :=
  done s (reach s .pod (fun s => levels (if s.on (R.POD_PORT.EN.ix k) then s else podPortEnable s k true)))

/-- POD_MSG (R401): A MSG block is received and passed on by type, or discarded and counted. -/
def execPodMsg (k : Nat) (s : State) : Host.Outcome State Fault Refusal :=
  done s (podMessage s k)

/-- POD_LINK_ID_TIMER (R397): Every 1 ms an UP peer port sends LINK_ID. -/
def execPodLinkIdTimer (k : Nat) (s : State) : Host.Outcome State Fault Refusal :=
  done s (linkIdTimer s k)

/-- POD_PORT_DOWN (R397): A lane leaving SYNC or EN cleared takes the port DOWN and loses transfers in flight. -/
def execPodPortDown (k : Nat) (lane : Option Nat) (s : State) : Host.Outcome State Fault Refusal :=
  done s (portDown s k lane)

/-- POD_TRANSFER_RECEIVE (R398): A complete transfer is received, its CRC checked and its content delivered by KIND. -/
def execPodTransferReceive (k : Nat) (rep : Option ReadReport) (s : State) : Host.Outcome State Fault Refusal :=
  done s (transferCmd s k rep)

/-- POD_ACK (R399): An ACK or NAK is received for a store transfer, retiring or resending it. -/
def execPodAck (k : Nat) (s : State) : Host.Outcome State Fault Refusal :=
  done s (levels (podAck s k))

/-- POD_RETRY_TIMEOUT (R399): No answer within 10 µs resends a store transfer and counts RETRIES. -/
def execPodRetryTimeout (k tag : Nat) (s : State) : Host.Outcome State Fault Refusal :=
  done s (levels (podRetryTimeout s k tag))

/-- POD_BOND_FORM (R403): POD4 and POD5 meeting the bond conditions form the bond and set BONDED. -/
def execPodBondForm (skew : Nat) (s : State) : Host.Outcome State Fault Refusal :=
  done s (bondForm s skew)

/-- POD_BOND_TIMEOUT (R403): Bond conditions unmet 10 ms after both ports are UP raise EV_POD_BOND with data 2. -/
def execPodBondTimeout (s : State) : Host.Outcome State Fault Refusal :=
  done s (bondTimeout s)

/-- POD_TIME_SEND (R405): Every TIME_PERIOD µs an UP peer port sends a TIME block. -/
def execPodTimeSend (k sub : Nat) (s : State) : Host.Outcome State Fault Refusal :=
  done s (timeSend s k sub)

/-- POD_TIME_RECEIVE (R405): A received TIME block yields DELAY and OFFSET and sets VALID. -/
def execPodTimeReceive (k sub : Nat) (s : State) : Host.Outcome State Fault Refusal :=
  done s (timeReceive s k sub)

end Sys2Proof.Machine
end

