-- ==== Sys2Proof/Machine/CmdPower.lean ====
section
/-! DEFINITION. Meanings: power, Night and thermal protection (R584 to R600). -/

namespace Sys2Proof.Machine

open Sys2Proof

/-- DOMAIN_POWER_ON (R586): Setting a PWR_DOM_EN bit queues the domain for power-on. -/
def execDomainPowerOn (d : Nat) (s : State) : Host.Outcome State Fault Refusal :=
  done s (reach s .pwr (fun s => domPowerOn s d))

/-- DOMAIN_POWERED (R586): A domain's power ramp completes, ON is set and the next queued domain starts. -/
def execDomainPowered (d : Nat) (s : State) : Host.Outcome State Fault Refusal :=
  done s (domPowered s d)

/-- DOMAIN_POWER_OFF (R587): Clearing a PWR_DOM_EN bit is refused or starts a drain of the domain. -/
def execDomainPowerOff (d : Nat) (s : State) : Host.Outcome State Fault Refusal :=
  done s (reach s .pwr (fun s => domPowerOff s d))

/-- DOMAIN_OFF_ACK (R587): The drain acknowledges and the domain is switched off. -/
def execDomainOffAck (d : Nat) (s : State) : Host.Outcome State Fault Refusal :=
  done s (domOffAck s d)

/-- DOMAIN_DRAIN_TIMEOUT (R587): The power-off drain times out and the domain stays on with REJ set. -/
def execDomainDrainTimeout (d : Nat) (s : State) : Host.Outcome State Fault Refusal :=
  done s (domDrainTimeout s d)

/-- DOMAIN_FORCE_OFF (R588): FORCE_OFF switches a domain off at once, failing its accesses. -/
def execDomainForceOff (d : Nat) (s : State) : Host.Outcome State Fault Refusal :=
  done s (reach s .pwr (fun s => domForceOff s d))

/-- RAIL_FAULT (R585): A rail out of tolerance for 2 µs clears GOOD, sets LATCH and raises EV_RAIL_FAULT. -/
def execRailFault (r : Nat) (s : State) : Host.Outcome State Fault Refusal :=
  done s (railFault s r)

/-- NIGHT_STOP_TIMEOUT (R590): A block not at its stop point 1 ms into Night entry is stopped at once. -/
def execNightStopTimeout (s : State) : Host.Outcome State Fault Refusal :=
  done s (nightStopTimeout s)

/-- NIGHT_ENTRY_DONE (R590): Night entry completes with lanes and domains off and the control clock at 100 MHz. -/
def execNightEntryDone (s : State) : Host.Outcome State Fault Refusal :=
  done s (nightEntryDone s)

/-- WAKE_DONE (R592): Enabled carrier domains are on and locked, WAKE_DONE is set and EV_NIGHT_READY raised. -/
def execWakeDone (s : State) : Host.Outcome State Fault Refusal :=
  done s (wakeDone s)

/-- SENSOR_READING (R594): Every millisecond the diode is read and band, warning, throttle and shutdown are evaluated. -/
def execSensorReading (t : Option Int) (s : State) : Host.Outcome State Fault Refusal :=
  done s (sensorStep s t)

/-- THERMAL_RESTART (R599): 10,000 consecutive readings below 90 °C leave THERMAL-OFF for RESET. -/
def execThermalRestart (s : State) : Host.Outcome State Fault Refusal :=
  done s (thermalRestart s)

/-- THROTTLE_TEST (R597): A write of THROTTLE_TEST sets or releases the throttle indication. -/
def execThrottleTest (on : Bool) (s : State) : Host.Outcome State Fault Refusal :=
  done s (reach s .pwr (fun s => throttleTest s on))

/-- RAIL_WITHIN_TOLERANCE (R585): A rail that had left tolerance returns within 95 % to 105 % of nominal and its GOOD
bit in PWR_RAIL sets again. -/
def execRailWithinTolerance (r : Nat) (s : State) : Host.Outcome State Fault Refusal :=
  done s (railGood s r)

end Sys2Proof.Machine
end

