-- ==== Sys2Proof/Machine/CmdProg.lean ====
section
/-! DEFINITION. Meanings: program update by bank switch (R537 to R542). -/

namespace Sys2Proof.Machine

open Sys2Proof

/-- PROG_VERIFY (R537): VERIFY starts checking the image in the bank that is not running. -/
def execProgVerify (taskAt : Nat) (s : State) : Host.Outcome State Fault Refusal :=
  done s (reachVoted s .event (fun s => progVerifyAt s taskAt))

/-- PROG_VERIFY_DONE (R537): The check completes, sets RESULT and IDLE_OK and raises EV_PROG_VERIFY. -/
def execProgVerifyDone (s : State) : Host.Outcome State Fault Refusal :=
  done s (progVerifyDone s)

/-- PROG_SWITCH (R538): SWITCH with KEY and IDLE_OK arms a bank switch, or is refused. -/
def execProgSwitch (key : Nat) (s : State) : Host.Outcome State Fault Refusal :=
  done s (reachVoted s .event (fun s => if key % 65536 = 0x5EED then progSwitch s else s))

/-- PROG_BANK_SWITCH (R538): At the next instruction boundary the supervisor restarts from the other bank. -/
def execProgBankSwitch (s : State) : Host.Outcome State Fault Refusal :=
  done s (bankSwitch s)

end Sys2Proof.Machine
end

