-- ==== Sys2Proof/Machine/CmdRxdsp.lean ====
section
/-! DEFINITION. Meanings: RXDSP (R134 to R181). -/

namespace Sys2Proof.Machine

open Sys2Proof

/-- RXDSP_START (R160): Setting RUN in RXDSP checks the configuration and starts acquisition in WAIT_LIGHT or sets
CFG_ERR. -/
def execRxdspStart (c : Carrier) (s : State) : Host.Outcome State Fault Refusal :=
  done s (rxStart s c)

/-- RXDSP_RUN_CLEAR (R161): Clearing RUN stops RXDSP within the LIVE time and returns acquisition to STOPPED. -/
def execRxdspRunClear (c : Carrier) (s : State) : Host.Outcome State Fault Refusal :=
  done s (stopCmd s (.rxdsp c))

/-- LOL_WINDOW (R146): Every 1,024 DSP cycles the ADC RMS is compared with the LOL thresholds and LOL is set or
cleared. -/
def execLolWindow (c : Carrier) (rms : Nat) (s : State) : Host.Outcome State Fault Refusal :=
  done s (levels (frmLolWindow s c rms))

/-- RX_SAT_WINDOW (R135): Each window of 1,024 DSP cycles with a saturated sample increments the stage's SAT count,
raising EV_RX_SAT at 63. -/
def execRxSatWindow (c : Carrier) (s : State) : Host.Outcome State Fault Refusal :=
  done s (traffic s (rxMux c) (rxSatWindow s c))

/-- RX_LINE_FRAME (R151): Each received line frame's header sets the loading for demapping and its idle status for
adaptation. -/
def execRxLineFrame (c : Carrier) (adc : List (List Int)) (s : State) :
    Host.Outcome State Fault Refusal :=
  done s (traffic s (rxMux c) (lineFrame s c adc))

/-- ACQ_FREQ_READY (R155): The coarse frequency estimate completes and acquisition moves to CD_SEARCH or CLOCK. -/
def execAcqFreqReady (c : Carrier) (fo : Int) (s : State) : Host.Outcome State Fault Refusal :=
  done s (traffic s (rxMux c) (acqFrameLock (acqFreqReady s c fo) c))

/-- ACQ_CD_READY (R155): The dispersion estimate completes, the CD filter is loaded and acquisition moves to CLOCK. -/
def execAcqCdReady (c : Carrier) (cd : Int) (s : State) : Host.Outcome State Fault Refusal :=
  done s (traffic s (rxMux c) (acqFrameLock (acqCdReady s c cd) c))

/-- ACQ_TIMING_LOCK (R155): The timing loop locks and acquisition moves to BLIND. -/
def execAcqTimingLock (c : Carrier) (s : State) : Host.Outcome State Fault Refusal :=
  done s (traffic s (rxMux c) (acqFrameLock (acqMove s c aCLOCK aBLIND) c))

/-- ACQ_BLIND_STABLE (R155): The modulus error is stable over four windows and acquisition moves to FRAME. -/
def execAcqBlindStable (c : Carrier) (s : State) : Host.Outcome State Fault Refusal :=
  done s (traffic s (rxMux c) (acqFrameLock (acqMove s c aBLIND aFRAME) c))

/-- ACQ_PILOT_STABLE (R155): Pilot phase lock with a stable SNR over 16 frames moves acquisition to DD. -/
def execAcqPilotStable (c : Carrier) (s : State) : Host.Outcome State Fault Refusal :=
  done s (traffic s (rxMux c) (acqFrameLock (acqPilotStable s c) c))

/-- ACQ_DD_STABLE (R155): A stable SNR over 64 frames enters TRACK, sets LOCKED and raises EV_RX_ACQ_DONE. -/
def execAcqDdStable (c : Carrier) (s : State) : Host.Outcome State Fault Refusal :=
  done s (traffic s (rxMux c) (acqFrameLock (acqDdStable s c) c))

/-- ACQ_LOCK_LOST (R155): Out-of-frame for 256 frames in TRACK clears LOCKED and restarts acquisition. -/
def execAcqLockLost (c : Carrier) (s : State) : Host.Outcome State Fault Refusal :=
  done s (acqFrameLock (acqLockLost s c) c)

/-- RESUME_TIMEOUT (R155): RESUME without in-frame for 1 ms moves to SEEDED or FREQ_COARSE. -/
def execResumeTimeout (c : Carrier) (s : State) : Host.Outcome State Fault Refusal :=
  done s (acqFrameLock (resumeTimeout s c) c)

/-- SEEDED_TIMEOUT (R155): SEEDED without in-frame for 2 ms moves to FREQ_COARSE. -/
def execSeededTimeout (c : Carrier) (s : State) : Host.Outcome State Fault Refusal :=
  done s (acqFrameLock (seededTimeout s c) c)

/-- ACQ_TIMEOUT (R155): The acquisition timer reaching ACQ_TIMEOUT sets FAIL_STATE, counts ATTEMPTS and restarts
acquisition. -/
def execAcqTimeout (c : Carrier) (s : State) : Host.Outcome State Fault Refusal :=
  done s (acqFrameLock (acqTimeout s c) c)

/-- ACQ_RESTART (R155): ACQ_RESTART reinitialises the FFE and restarts acquisition. -/
def execAcqRestart (c : Carrier) (s : State) : Host.Outcome State Fault Refusal :=
  done s (reach s (.rxdsp c) (fun s => acqFrameLock (acqRestart s c) c))

/-- SEED_AUTO_CAPTURE (R148): Every 2^(SEED_PERIOD+10) qualifying frames in TRACK the carrier seed is captured. -/
def execSeedAutoCapture (c : Carrier) (s : State) : Host.Outcome State Fault Refusal :=
  done s (seedAutoCapture s c)

/-- SEED_CAPTURE (R148): SEED_CAPTURE in TRACK captures the carrier seed. -/
def execSeedCapture (c : Carrier) (s : State) : Host.Outcome State Fault Refusal :=
  done s (reach s (.rxdsp c) (fun s => seedCapture s c))

/-- SEED_CLEAR (R148): SEED_CLEAR makes the carrier seed invalid. -/
def execSeedClear (c : Carrier) (s : State) : Host.Outcome State Fault Refusal :=
  done s (reach s (.rxdsp c) (fun s => seedClear s c))

/-- SEED_WINDOW_WRITE (R149): A write to the seed window while stopped loads seed content, and SEED_META with VALID
makes it valid. -/
def execSeedWindowWrite (c : Carrier) (w v : Nat) (s : State) : Host.Outcome State Fault Refusal :=
  done s (reach s (.rxdsp c) (fun s => seedWindowWrite s c w (v % 2 ^ 32)))

/-- RX_METRIC_UPDATE (R159): Every 1,024 line frames the SNR, offset, PMD and tap-energy metrics are updated. -/
def execRxMetricUpdate (c : Carrier) (s : State) : Host.Outcome State Fault Refusal :=
  done s (traffic s (rxMux c) (rxMetricUpdate s c))

/-- TAP_SNAP (R178): TAP_SNAP copies the FFE and DFE taps into the snapshot window. -/
def execTapSnap (c : Carrier) (s : State) : Host.Outcome State Fault Refusal :=
  done s (reach s (.rxdsp c) (fun s => tapSnap s c))

end Sys2Proof.Machine
end

