-- ==== Sys2Proof/Machine/CmdSched.lean ====
section
/-! DEFINITION. Meanings: the line-time scheduler (R458 to R468). -/

namespace Sys2Proof.Machine

open Sys2Proof

/-- SCHED_ATW_EXECUTE (R459): A due ATW entry performs its masked voted write. -/
def execSchedAtwExecute (slot : Nat) (s : State) : Host.Outcome State Fault Refusal :=
  done s (execDue atw s aATW slot)

/-- SCHED_COMMIT_EXECUTE (R459): A due COMMIT entry names blocks for their CP_SEL 0b01 commit point. -/
def execSchedCommitExecute (slot : Nat) (s : State) : Host.Outcome State Fault Refusal :=
  done s (levels (execDue atw s aCOMMIT slot))

/-- SCHED_MARK_EXECUTE (R459): A due MARK entry raises EV_SCHED_MARK and wakes a WFE. -/
def execSchedMarkExecute (slot : Nat) (s : State) : Host.Outcome State Fault Refusal :=
  done s (execDue atw s aMARK slot)

/-- SCHED_LAUNCH_HANDOFF (R462): A launch entry is handed to TX or STORE 2,000 ns before it is due. -/
def execSchedLaunchHandoff (slot : Nat) (s : State) : Host.Outcome State Fault Refusal :=
  done s (handoff s slot)

/-- SCHED_CANCEL (R467): A write of SCHED_CANCEL removes waiting entries with the given TAG. -/
def execSchedCancel (tag : Nat) (task : Option Nat) (s : State) : Host.Outcome State Fault Refusal :=
  done s (reach s .sched (fun s => schedCancel s tag task))

end Sys2Proof.Machine
end

