-- ==== Sys2Proof/Machine/CmdStore.lean ====
section
/-! DEFINITION. Meanings: flow taps, STORE and replay (R354 to R383). -/

namespace Sys2Proof.Machine

open Sys2Proof

/-- STORE_ID_READ_DONE (R357): The module identity read completes and the module enters RECOVERING or ID_BAD. -/
def execStoreIdReadDone (m : Nat) (b : List Nat) (s : State) : Host.Outcome State Fault Refusal :=
  done s (idReadDone s m b)

/-- STORE_RECOVERY_DONE (R362): Recovery of every ring completes and the module becomes READY. -/
def execStoreRecoveryDone (m : Nat) (rings : List RingImage) (fills : List (Nat × Nat)) (s : State) :
    Host.Outcome State Fault Refusal :=
  done s (recoveryDone s m rings fills)

/-- STORE_REREAD (R357): REREAD repeats the identity read of a module in ID_BAD. -/
def execStoreReread (m : Nat) (s : State) : Host.Outcome State Fault Refusal :=
  done s (reach s .store (fun s => modReread s m))

/-- STORE_ID_OVERRIDE (R357): Setting ID_OVERRIDE repeats the identity read and uses the module with default values. -/
def execStoreIdOverride (m : Nat) (s : State) : Host.Outcome State Fault Refusal :=
  done s (reach s .store (fun s => idOverride s m))

/-- RING_ARM (R358): ARM checks the ring and admits it for recording or sets REJ_CODE. -/
def execRingArm (r : Nat) (s : State) : Host.Outcome State Fault Refusal :=
  done s (reach s .store (fun s => ringArm s r))

/-- RING_DISARM (R363): DISARM stops recording at the next unit boundary and saves the pointers. -/
def execRingDisarm (r : Nat) (s : State) : Host.Outcome State Fault Refusal :=
  done s (reach s .store (fun s => ringDisarm s r))

/-- RING_CLEAR (R363): CLEAR frees a non-armed ring's extents and zeroes HEAD and TAIL. -/
def execRingClear (r : Nat) (s : State) : Host.Outcome State Fault Refusal :=
  done s (reach s .store (fun s => ringClear s r))

/-- RING_PTR_SAVE (R361): Every PTR_PERIOD ms an armed ring's older pointer copy is written. -/
def execRingPtrSave (r : Nat) (s : State) : Host.Outcome State Fault Refusal :=
  done s (ringPtrSave s r)

/-- STORE_OVERLOAD_EXIT (R365): The write buffer falling below 25 % ends overload. -/
def execStoreOverloadExit (m : Nat) (s : State) : Host.Outcome State Fault Refusal :=
  done s (overloadExit s m)

/-- STORE_DROP_LEVEL_STEP (R365): Each further ms of overload raises the drop level by 1. -/
def execStoreDropLevelStep (m : Nat) (s : State) : Host.Outcome State Fault Refusal :=
  done s (dropLevelStep s m)

/-- STORE_DROP_LEVEL_RESET (R365): After 10 ms without overload the drop level returns to its start value. -/
def execStoreDropLevelReset (m : Nat) (s : State) : Host.Outcome State Fault Refusal :=
  done s (dropLevelReset s m)

/-- RING_RATE_WINDOW (R366): Every 100 ms a ring's write rate is compared with its declared rate and OVERRATE counted. -/
def execRingRateWindow (r : Nat) (s : State) : Host.Outcome State Fault Refusal :=
  done s (ringRateWindow s r)

/-- STORE_ECC_LEAK (R368): Every LEAK_PERIOD ms a module's corrected-line bucket falls by 1. -/
def execStoreEccLeak (m : Nat) (s : State) : Host.Outcome State Fault Refusal :=
  done s (eccLeak s m)

/-- RING_EXTENT_ENTER (R369): A ring about to enter its next extent swaps in a less-worn free extent or sets
WEAR_STUCK. -/
def execRingExtentEnter (r : Nat) (s : State) : Host.Outcome State Fault Refusal :=
  done s (ringExtentEnter s r)

/-- RPL_PREPARE (R371): PREPARE checks a replay job, charges the budget and starts reading. -/
def execRplPrepare (ch : Nat) (s : State) : Host.Outcome State Fault Refusal :=
  done s (reach s .store (fun s => rplPrepare s ch))

/-- RPL_PREPARE_DONE (R371): The channel buffer fills or holds the last unit and the channel becomes READY. -/
def execRplPrepareDone (ch : Nat) (s : State) : Host.Outcome State Fault Refusal :=
  done s (rplPrepareDone s ch)

/-- RPL_LAUNCH (R371): A scheduled LAUNCH at its time moves a READY channel to RUNNING, or is refused. -/
def execRplLaunch (ch : Nat) (s : State) : Host.Outcome State Fault Refusal :=
  done s (replayLaunch s ch)

/-- RPL_LAUNCH_NOW (R371): LAUNCH_NOW moves a READY channel to RUNNING at once, or is refused. -/
def execRplLaunchNow (ch : Nat) (s : State) : Host.Outcome State Fault Refusal :=
  done s (reach s .store (fun s => rplLaunchNow s ch))

/-- RPL_UNIT_START (R372): A replay unit's start time arrives, unsent packets are dropped and the job ends after COUNT
units. -/
def execRplUnitStart (ch : Nat) (s : State) : Host.Outcome State Fault Refusal :=
  done s (traffic s [3] (rplUnitStart s ch))

/-- RPL_PACKET_SEND (R373): A replayed packet is rewritten and sent at its time. -/
def execRplPacketSend (ch sub : Nat) (s : State) : Host.Outcome State Fault Refusal :=
  done s (traffic s [3] (rplPacketSend (replaySend sub) s ch))

/-- RPL_STOP (R371): STOP ends a replay job with reason 5 and releases its charge. -/
def execRplStop (ch : Nat) (s : State) : Host.Outcome State Fault Refusal :=
  done s (reach s .store (fun s => rplStop s ch))

/-- STORE_RUN_CLEAR (R382): Clearing STORE RUN disarms every ring and stops every job. -/
def execStoreRunClear (s : State) : Host.Outcome State Fault Refusal :=
  done s (stopCmd s .store)

end Sys2Proof.Machine
end

