-- ==== Sys2Proof/Machine/CmdSys.lean ====
section
/-! DEFINITION. Meanings: SYS and the device states (R28 to R41). -/

namespace Sys2Proof.Machine

open Sys2Proof

/-- SYS_CMODE_WRITE (R35): A write to SYS_CMODE_A or SYS_CMODE_B checks the mode combination, sets or clears MODE_ERR
and releases pending starts. -/
def execSysCmodeWrite (c : Carrier) (v : Nat) (s : State) : Host.Outcome State Fault Refusal :=
  done s (reach s .sys (fun s => cmodeWrite s c v))

/-- SYS_RESET (R31): SYS_RESET with key 0x5EED enters RESET with cause 0b010. -/
def execSysReset (key : Nat) (s : State) : Host.Outcome State Fault Refusal :=
  done s (reach s .sys (fun s => stateReq s (65536 * (key % 65536) + 4)))

/-- WAKE_REQ (R592): WAKE_REQ in NIGHT returns the device to STANDBY and begins the wake power sequence. -/
def execWakeReq (s : State) : Host.Outcome State Fault Refusal :=
  done s (reach s .sys (fun s => stateReq s 2))

/-- NIGHT_REQ (R590): NIGHT_REQ accepted in STANDBY enters NIGHT and begins stopping blocks and powering down domains. A request
beaten by a transition of higher precedence in its cycle, whose command comes before it, is refused (R40). -/
def execNightReq (beaten : Bool) (s : State) : Host.Outcome State Fault Refusal :=
  done s (reach s .sys (fun s => if beaten then s.raise E.NIGHT_REFUSED 0 else stateReq s 1))

/-- VDD_AON_RISE (R30): The rise of VDD_AON powers the always-on domain, sets RESET_CAUSE to power-on and clears
sticky AON state. -/
def execVddAonRise (s : State) : Host.Outcome State Fault Refusal :=
  done s (aonRise s)

/-- PORST_LOW (R39): PORST_N low outside THERMAL-OFF enters RESET with cause 0b001. -/
def execPorstLow (s : State) : Host.Outcome State Fault Refusal :=
  done s (porstLow s)

/-- RESET_EXIT (R669): The device leaves RESET for BOOT at the first AON cycle with PORST_N high, clock-good and the
thermal condition met, and samples the straps. -/
def execResetExit (high : Bool) (bootsel pos pref xtd : Nat) (s : State) : Host.Outcome State Fault Refusal :=
  done s (resetExit s high bootsel pos pref xtd)

end Sys2Proof.Machine
end

