-- ==== Sys2Proof/Machine/CmdTime.lean ====
section
/-! DEFINITION. Meanings: time domains and video timebases (R443 to R457). -/

namespace Sys2Proof.Machine

open Sys2Proof

/-- TD_SET (R446): SET loads a domain's full 64-bit count from TD_SET. -/
def execTdSet (d : Nat) (s : State) : Host.Outcome State Fault Refusal :=
  done s (reach s .time (fun s => stepped s (tdSet s d)))

/-- TD_STEP (R446): A write of TD_STEP adds a signed step to a domain's count. -/
def execTdStep (d v : Nat) (s : State) : Host.Outcome State Fault Refusal :=
  done s (reach s .time (fun s => stepped s (tdStep s d v)))

/-- TD_SLEW (R446): A write of TD_SLEW starts a slew of the domain at SLEW_RATE. -/
def execTdSlew (d v : Nat) (s : State) : Host.Outcome State Fault Refusal :=
  done s (reach s .time (fun s => tdSlew s d v))

/-- TD_VALID_WRITE (R447): A write of VALID sets or clears domain validity and starts or restarts the lease. -/
def execTdValidWrite (d : Nat) (on : Bool) (s : State) : Host.Outcome State Fault Refusal :=
  done s (reach s .time (fun s => domValidWrite s d on))

/-- TD_LEASE_EXPIRY (R447): The lease expiring clears VALID and raises EV_TIME_VALID. -/
def execTdLeaseExpiry (d : Nat) (s : State) : Host.Outcome State Fault Refusal :=
  done s (leaseExpiry s d)

/-- TIME_EXT_WRAP (R444): The 48-bit domain count wrapping increments EXT and raises EV_TIME_EXT. -/
def execTimeExtWrap (d : Nat) (s : State) : Host.Outcome State Fault Refusal :=
  done s (timeExtWrap s d)

/-- TIME_DIFF_MEASURE (R448): Every millisecond S - P is measured and DISAGREE updated. -/
def execTimeDiffMeasure (err : Int) (s : State) : Host.Outcome State Fault Refusal :=
  done s (diffMeasure s err)

/-- SW_REQ (R450): SW_REQ requests a seamless domain switch, which is accepted with a residual or refused. -/
def execSwReq (target : Nat) (s : State) : Host.Outcome State Fault Refusal :=
  done s (reach s .time (fun s => swReq (s.set R.TIME_CTRL.SW_TARGET target)))

/-- SW_FORCE (R451): SW_FORCE switches the active domain at once, stepping TBT. -/
def execSwForce (target : Nat) (s : State) : Host.Outcome State Fault Refusal :=
  done s (reach s .time (fun s => stepped s (swForce (s.set R.TIME_CTRL.SW_TARGET target))))

/-- TIME_RESIDUAL_DONE (R450): The switch residual reaches 0 and SLEWING clears. -/
def execTimeResidualDone (s : State) : Host.Outcome State Fault Refusal :=
  done s (residDone s)

/-- CAP_NOW (R452): CAP_NOW latches P, S and AON time. -/
def execCapNow (s : State) : Host.Outcome State Fault Refusal :=
  done s (reach s .time (fun s => timeCapture s false))

/-- PPS_IN_EDGE (R452): A PPS_IN edge latches P, S and AON time. -/
def execPpsInEdge (rising : Bool) (s : State) : Host.Outcome State Fault Refusal :=
  done s (ppsIn s rising)

/-- PPS_OUT_PULSE (R453): The source time crossing a second boundary starts a PPS_OUT pulse. -/
def execPpsOutPulse (s : State) : Host.Outcome State Fault Refusal :=
  done s (ppsOut s)

/-- VTB_ENABLE (R456): Setting a timebase EN starts it, or sets CFG_ERR for an invalid raster and rate. -/
def execVtbEnable (k : Nat) (s : State) : Host.Outcome State Fault Refusal :=
  done s (reach s .time (fun s => vtbEnable s k true))

/-- VTB_FRAME_START (R457): A timebase frame begins and VFRAMEk pulses. -/
def execVtbFrameStart (k : Nat) (s : State) : Host.Outcome State Fault Refusal :=
  done s (vtbFrameBegin s k)

end Sys2Proof.Machine
end

