-- ==== Sys2Proof/Machine/CmdTx.lean ====
section
/-! DEFINITION. Meanings: TX (R47 to R86). -/

namespace Sys2Proof.Machine

open Sys2Proof

/-- TX_START (R60): Setting RUN in TX checks the configuration and either sets CFG_ERR or transfers shadow copies and
starts frames. -/
def execTxStart (c : Carrier) (s : State) : Host.Outcome State Fault Refusal :=
  done s (startCmd s (.tx c))

/-- TX_FRAME_START (R51): At each transmit line-frame boundary TX sets FILL, builds the header and applies pending
transfers and mute changes. -/
def execTxFrameStart (c : Carrier) (s : State) : Host.Outcome State Fault Refusal :=
  done s (traffic s (txMux c) (levels (ciphTxFrame s c)))

/-- TX_RUN_CLEAR (R64): Clearing RUN in TX makes it stop at the end of the frame or burst in progress. -/
def execTxRunClear (c : Carrier) (s : State) : Host.Outcome State Fault Refusal :=
  done s (stopCmd s (.tx c))

/-- TX_STOP_DONE (R64): When the last symbol has left the DAC pins, TX RUNNING falls and the output is held at mute. -/
def execTxStopDone (c : Carrier) (s : State) : Host.Outcome State Fault Refusal :=
  done s (levels (carrierFollow (txStopDone s c) (.tx c)))

/-- TX_MUTE_WRITE (R65): A write of TX_CTRL.MUTE puts the output at mute within the LIVE time or releases it for the
next frame. -/
def execTxMuteWrite (c : Carrier) (mute : Bool) (s : State) : Host.Outcome State Fault Refusal :=
  done s (reach s (.tx c) (fun s => muteWrite s c mute))

/-- TX_LAUNCH_BEGIN (R68): At the moment a Dawn launch must begin, TX checks it and starts the preamble or refuses it. -/
def execTxLaunchBegin (c : Carrier) (s : State) : Host.Outcome State Fault Refusal :=
  done s (traffic s (txMux c) (launchBegin s c))

end Sys2Proof.Machine
end

