-- ==== Sys2Proof/Machine/Dispatch.lean ====
section
/-! DEFINITION. One arm for each command. -/

namespace Sys2Proof.Machine

open Sys2Proof

def exec (i : Instr) (s : State) : Host.Outcome State Fault Refusal :=
  match i with
  | .registerWrite w => Sys2Proof.Machine.execRegisterWrite w s
  | .readClear by' addr => Sys2Proof.Machine.execReadClear by' addr s
  | .wideReadSnapshot by' addr => Sys2Proof.Machine.execWideReadSnapshot by' addr s
  | .softReset b => Sys2Proof.Machine.execSoftReset b s
  | .softResetDone b => Sys2Proof.Machine.execSoftResetDone b s
  | .commitReq b sel => Sys2Proof.Machine.execCommitReq b sel s
  | .commitTick b => Sys2Proof.Machine.execCommitTick b s
  | .deferredStart b => Sys2Proof.Machine.execDeferredStart b s
  | .blockClockStart b => Sys2Proof.Machine.execBlockClockStart b s
  | .sysCmodeWrite c v => Sys2Proof.Machine.execSysCmodeWrite c v s
  | .sysReset key => Sys2Proof.Machine.execSysReset key s
  | .wakeReq => Sys2Proof.Machine.execWakeReq s
  | .nightReq beaten => Sys2Proof.Machine.execNightReq beaten s
  | .vddAonRise => Sys2Proof.Machine.execVddAonRise s
  | .porstLow => Sys2Proof.Machine.execPorstLow s
  | .resetExit high bootsel pos pref xtd => Sys2Proof.Machine.execResetExit high bootsel pos pref xtd s
  | .txStart c => Sys2Proof.Machine.execTxStart c s
  | .txFrameStart c => Sys2Proof.Machine.execTxFrameStart c s
  | .txRunClear c => Sys2Proof.Machine.execTxRunClear c s
  | .txStopDone c => Sys2Proof.Machine.execTxStopDone c s
  | .txMuteWrite c mute => Sys2Proof.Machine.execTxMuteWrite c mute s
  | .txLaunchBegin c => Sys2Proof.Machine.execTxLaunchBegin c s
  | .convStart c => Sys2Proof.Machine.execConvStart c s
  | .fgStart c => Sys2Proof.Machine.execFgStart c s
  | .fgCalDone c runs => Sys2Proof.Machine.execFgCalDone c runs s
  | .convRunClear c => Sys2Proof.Machine.execConvRunClear c s
  | .bgStart c => Sys2Proof.Machine.execBgStart c s
  | .bgPassEnd c dac => Sys2Proof.Machine.execBgPassEnd c dac s
  | .bgRoundEnd c n res => Sys2Proof.Machine.execBgRoundEnd c n res s
  | .bgMeasureDone c n r1 r2 => Sys2Proof.Machine.execBgMeasureDone c n r1 r2 s
  | .rampInterval c => Sys2Proof.Machine.execRampInterval c s
  | .trimInterpolate c => Sys2Proof.Machine.execTrimInterpolate c s
  | .modelChange c banded => Sys2Proof.Machine.execModelChange c banded s
  | .calSnap c => Sys2Proof.Machine.execCalSnap c s
  | .calSnapDone c => Sys2Proof.Machine.execCalSnapDone c s
  | .calLoad c => Sys2Proof.Machine.execCalLoad c s
  | .calLoadDone c => Sys2Proof.Machine.execCalLoadDone c s
  | .adcLevelUpdate c ls => Sys2Proof.Machine.execAdcLevelUpdate c ls s
  | .biasStep c => Sys2Proof.Machine.execBiasStep c s
  | .rxdspStart c => Sys2Proof.Machine.execRxdspStart c s
  | .rxdspRunClear c => Sys2Proof.Machine.execRxdspRunClear c s
  | .lolWindow c rms => Sys2Proof.Machine.execLolWindow c rms s
  | .rxSatWindow c => Sys2Proof.Machine.execRxSatWindow c s
  | .rxLineFrame c adc => Sys2Proof.Machine.execRxLineFrame c adc s
  | .acqFreqReady c fo => Sys2Proof.Machine.execAcqFreqReady c fo s
  | .acqCdReady c cd => Sys2Proof.Machine.execAcqCdReady c cd s
  | .acqTimingLock c => Sys2Proof.Machine.execAcqTimingLock c s
  | .acqBlindStable c => Sys2Proof.Machine.execAcqBlindStable c s
  | .acqPilotStable c => Sys2Proof.Machine.execAcqPilotStable c s
  | .acqDdStable c => Sys2Proof.Machine.execAcqDdStable c s
  | .acqLockLost c => Sys2Proof.Machine.execAcqLockLost c s
  | .resumeTimeout c => Sys2Proof.Machine.execResumeTimeout c s
  | .seededTimeout c => Sys2Proof.Machine.execSeededTimeout c s
  | .acqTimeout c => Sys2Proof.Machine.execAcqTimeout c s
  | .acqRestart c => Sys2Proof.Machine.execAcqRestart c s
  | .seedAutoCapture c => Sys2Proof.Machine.execSeedAutoCapture c s
  | .seedCapture c => Sys2Proof.Machine.execSeedCapture c s
  | .seedClear c => Sys2Proof.Machine.execSeedClear c s
  | .seedWindowWrite c w v => Sys2Proof.Machine.execSeedWindowWrite c w v s
  | .rxMetricUpdate c => Sys2Proof.Machine.execRxMetricUpdate c s
  | .tapSnap c => Sys2Proof.Machine.execTapSnap c s
  | .dawnStart c => Sys2Proof.Machine.execDawnStart c s
  | .dawnRunClear c => Sys2Proof.Machine.execDawnRunClear c s
  | .dawnLightSet c rms => Sys2Proof.Machine.execDawnLightSet c rms s
  | .dawnLightClear c rms => Sys2Proof.Machine.execDawnLightClear c rms s
  | .dawnGainUpdate c rms => Sys2Proof.Machine.execDawnGainUpdate c rms s
  | .dawnDetection c ds => Sys2Proof.Machine.execDawnDetection c ds s
  | .dawnSyncLatch c fo cd rms => Sys2Proof.Machine.execDawnSyncLatch c fo cd rms s
  | .dawnSyncWinExpiry c => Sys2Proof.Machine.execDawnSyncWinExpiry c s
  | .dawnDescriptor c coded => Sys2Proof.Machine.execDawnDescriptor c coded s
  | .dawnPreloadDone c => Sys2Proof.Machine.execDawnPreloadDone c s
  | .dawnBurstEnd c => Sys2Proof.Machine.execDawnBurstEnd c s
  | .dawnWritebackDone c => Sys2Proof.Machine.execDawnWritebackDone c s
  | .dawnExpectWrite c v => Sys2Proof.Machine.execDawnExpectWrite c v s
  | .seedFreeze c e => Sys2Proof.Machine.execSeedFreeze c e s
  | .seedThaw c e => Sys2Proof.Machine.execSeedThaw c e s
  | .seedInvalidate c e => Sys2Proof.Machine.execSeedInvalidate c e s
  | .dawnSeedWrite c off v => Sys2Proof.Machine.execDawnSeedWrite c off v s
  | .bexaEnergy c rms => Sys2Proof.Machine.execBexaEnergy c rms s
  | .bexaQualify c fo cd rms => Sys2Proof.Machine.execBexaQualify c fo cd rms s
  | .fecStart c => Sys2Proof.Machine.execFecStart c s
  | .fecRunClear c => Sys2Proof.Machine.execFecRunClear c s
  | .fecEncCodeword c => Sys2Proof.Machine.execFecEncCodeword c s
  | .fecEncOverrun c => Sys2Proof.Machine.execFecEncOverrun c s
  | .fecCodewordArrive c now => Sys2Proof.Machine.execFecCodewordArrive c now s
  | .fecIterationEnd c n now => Sys2Proof.Machine.execFecIterationEnd c n now s
  | .fecDeadline c idx => Sys2Proof.Machine.execFecDeadline c idx s
  | .fecCodewordRelease c => Sys2Proof.Machine.execFecCodewordRelease c s
  | .fecAnchorAlign c => Sys2Proof.Machine.execFecAnchorAlign c s
  | .fecIntervalEnd c => Sys2Proof.Machine.execFecIntervalEnd c s
  | .framerStart c => Sys2Proof.Machine.execFramerStart c s
  | .framerRunClear c => Sys2Proof.Machine.execFramerRunClear c s
  | .framerTxFrame c => Sys2Proof.Machine.execFramerTxFrame c s
  | .lineAlignCheck c o bits pos => Sys2Proof.Machine.execLineAlignCheck c o bits pos s
  | .fasAlignCheck c skew => Sys2Proof.Machine.execFasAlignCheck c skew s
  | .framerRxFrame c => Sys2Proof.Machine.execFramerRxFrame c s
  | .defectTimer c d => Sys2Proof.Machine.execDefectTimer c d s
  | .fecxWindow c => Sys2Proof.Machine.execFecxWindow c s
  | .pmSecond => Sys2Proof.Machine.execPmSecond s
  | .pmSecondFinal => Sys2Proof.Machine.execPmSecondFinal s
  | .defectForce c v => Sys2Proof.Machine.execDefectForce c v s
  | .dmStart c => Sys2Proof.Machine.execDmStart c s
  | .dmTimeout c => Sys2Proof.Machine.execDmTimeout c s
  | .dualSegmentOutput => Sys2Proof.Machine.execDualSegmentOutput s
  | .dualRealign skew => Sys2Proof.Machine.execDualRealign skew s
  | .dualWtrExpiry c => Sys2Proof.Machine.execDualWtrExpiry c s
  | .dualAnchorCompare => Sys2Proof.Machine.execDualAnchorCompare s
  | .dskewClearTimer c => Sys2Proof.Machine.execDskewClearTimer c s
  | .psrHoldoffExpiry c => Sys2Proof.Machine.execPsrHoldoffExpiry c s
  | .cipherStart c => Sys2Proof.Machine.execCipherStart c s
  | .cipherRunClear c => Sys2Proof.Machine.execCipherRunClear c s
  | .ciphSegmentEnd c => Sys2Proof.Machine.execCiphSegmentEnd c s
  | .ciphAnchorInsert c => Sys2Proof.Machine.execCiphAnchorInsert c s
  | .ciphAnchorReceive c => Sys2Proof.Machine.execCiphAnchorReceive c s
  | .ciphSegmentVerdict c => Sys2Proof.Machine.execCiphSegmentVerdict c s
  | .rngTestResult c fail => Sys2Proof.Machine.execRngTestResult c fail s
  | .kekClear c => Sys2Proof.Machine.execKekClear c s
  | .kekBlob c => Sys2Proof.Machine.execKekBlob c s
  | .kekExport c => Sys2Proof.Machine.execKekExport c s
  | .keyLoad c target => Sys2Proof.Machine.execKeyLoad c target s
  | .ciphLoadDone c => Sys2Proof.Machine.execCiphLoadDone c s
  | .clPortEnable p => Sys2Proof.Machine.execClPortEnable p s
  | .clPortDisable p => Sys2Proof.Machine.execClPortDisable p s
  | .clLinkChange p aligned locks lf rf => Sys2Proof.Machine.execClLinkChange p aligned locks lf rf s
  | .clIngressFrame p f sub corr uncorr => Sys2Proof.Machine.execClIngressFrame p f sub corr uncorr s
  | .clEgressFrame p sub => Sys2Proof.Machine.execClEgressFrame p sub s
  | .impHeader p => Sys2Proof.Machine.execImpHeader p s
  | .clTsPop by' => Sys2Proof.Machine.execClTsPop by' s
  | .storeIdReadDone m b => Sys2Proof.Machine.execStoreIdReadDone m b s
  | .storeRecoveryDone m rings fills => Sys2Proof.Machine.execStoreRecoveryDone m rings fills s
  | .storeReread m => Sys2Proof.Machine.execStoreReread m s
  | .storeIdOverride m => Sys2Proof.Machine.execStoreIdOverride m s
  | .ringArm r => Sys2Proof.Machine.execRingArm r s
  | .ringDisarm r => Sys2Proof.Machine.execRingDisarm r s
  | .ringClear r => Sys2Proof.Machine.execRingClear r s
  | .ringPtrSave r => Sys2Proof.Machine.execRingPtrSave r s
  | .storeOverloadExit m => Sys2Proof.Machine.execStoreOverloadExit m s
  | .storeDropLevelStep m => Sys2Proof.Machine.execStoreDropLevelStep m s
  | .storeDropLevelReset m => Sys2Proof.Machine.execStoreDropLevelReset m s
  | .ringRateWindow r => Sys2Proof.Machine.execRingRateWindow r s
  | .storeEccLeak m => Sys2Proof.Machine.execStoreEccLeak m s
  | .ringExtentEnter r => Sys2Proof.Machine.execRingExtentEnter r s
  | .rplPrepare ch => Sys2Proof.Machine.execRplPrepare ch s
  | .rplPrepareDone ch => Sys2Proof.Machine.execRplPrepareDone ch s
  | .rplLaunch ch => Sys2Proof.Machine.execRplLaunch ch s
  | .rplLaunchNow ch => Sys2Proof.Machine.execRplLaunchNow ch s
  | .rplUnitStart ch => Sys2Proof.Machine.execRplUnitStart ch s
  | .rplPacketSend ch sub => Sys2Proof.Machine.execRplPacketSend ch sub s
  | .rplStop ch => Sys2Proof.Machine.execRplStop ch s
  | .storeRunClear => Sys2Proof.Machine.execStoreRunClear s
  | .laneEnable n => Sys2Proof.Machine.execLaneEnable n s
  | .laneDisable n => Sys2Proof.Machine.execLaneDisable n s
  | .lanePowered n => Sys2Proof.Machine.execLanePowered n s
  | .laneCdrLock n => Sys2Proof.Machine.execLaneCdrLock n s
  | .laneAdaptDone n => Sys2Proof.Machine.execLaneAdaptDone n s
  | .laneCdrLoss n => Sys2Proof.Machine.execLaneCdrLoss n s
  | .lanePolTimer n => Sys2Proof.Machine.execLanePolTimer n s
  | .laneRxInvWrite n inv => Sys2Proof.Machine.execLaneRxInvWrite n inv s
  | .podBlock port w => Sys2Proof.Machine.execPodBlock port w s
  | .podCommaAlign n window at' => Sys2Proof.Machine.execPodCommaAlign n window at' s
  | .podHeaderHunt n hdr => Sys2Proof.Machine.execPodHeaderHunt n hdr s
  | .podAmAlign n p bip at' => Sys2Proof.Machine.execPodAmAlign n p bip at' s
  | .podDeskew k skew => Sys2Proof.Machine.execPodDeskew k skew s
  | .podPortEnable k => Sys2Proof.Machine.execPodPortEnable k s
  | .podMsg k => Sys2Proof.Machine.execPodMsg k s
  | .podLinkIdTimer k => Sys2Proof.Machine.execPodLinkIdTimer k s
  | .podPortDown k lane => Sys2Proof.Machine.execPodPortDown k lane s
  | .podTransferReceive k rep => Sys2Proof.Machine.execPodTransferReceive k rep s
  | .podAck k => Sys2Proof.Machine.execPodAck k s
  | .podRetryTimeout k tag => Sys2Proof.Machine.execPodRetryTimeout k tag s
  | .podBondForm skew => Sys2Proof.Machine.execPodBondForm skew s
  | .podBondTimeout => Sys2Proof.Machine.execPodBondTimeout s
  | .podTimeSend k sub => Sys2Proof.Machine.execPodTimeSend k sub s
  | .podTimeReceive k sub => Sys2Proof.Machine.execPodTimeReceive k sub s
  | .lanePatLock n window => Sys2Proof.Machine.execLanePatLock n window s
  | .laneInjOne n => Sys2Proof.Machine.execLaneInjOne n s
  | .xoAmpChange up => Sys2Proof.Machine.execXoAmpChange up s
  | .clockGood xtd => Sys2Proof.Machine.execClockGood xtd s
  | .xoFail => Sys2Proof.Machine.execXoFail s
  | .pllLock n => Sys2Proof.Machine.execPllLock n s
  | .pllUnlock n => Sys2Proof.Machine.execPllUnlock n s
  | .syspllRelockReturn => Sys2Proof.Machine.execSyspllRelockReturn s
  | .pllRateChange n => Sys2Proof.Machine.execPllRateChange n s
  | .refselAccept sel => Sys2Proof.Machine.execRefselAccept sel s
  | .refMeasurement ms => Sys2Proof.Machine.execRefMeasurement ms s
  | .refLoa r => Sys2Proof.Machine.execRefLoa r s
  | .refMonitorRestart r en freq => Sys2Proof.Machine.execRefMonitorRestart r en freq s
  | .dpllLock => Sys2Proof.Machine.execDpllLock s
  | .dpllPhaseAbsorbDone ps => Sys2Proof.Machine.execDpllPhaseAbsorbDone ps s
  | .dpllHistValid => Sys2Proof.Machine.execDpllHistValid s
  | .clkMuxSelWrite n sel => Sys2Proof.Machine.execClkMuxSelWrite n sel s
  | .muxChangeover n => Sys2Proof.Machine.execMuxChangeover n s
  | .muxStall n => Sys2Proof.Machine.execMuxStall n s
  | .muxForce n => Sys2Proof.Machine.execMuxForce n s
  | .fmeasStart => Sys2Proof.Machine.execFmeasStart s
  | .fmeasDone count => Sys2Proof.Machine.execFmeasDone count s
  | .tdSet d => Sys2Proof.Machine.execTdSet d s
  | .tdStep d v => Sys2Proof.Machine.execTdStep d v s
  | .tdSlew d v => Sys2Proof.Machine.execTdSlew d v s
  | .tdValidWrite d on => Sys2Proof.Machine.execTdValidWrite d on s
  | .tdLeaseExpiry d => Sys2Proof.Machine.execTdLeaseExpiry d s
  | .timeExtWrap d => Sys2Proof.Machine.execTimeExtWrap d s
  | .timeDiffMeasure err => Sys2Proof.Machine.execTimeDiffMeasure err s
  | .swReq target => Sys2Proof.Machine.execSwReq target s
  | .swForce target => Sys2Proof.Machine.execSwForce target s
  | .timeResidualDone => Sys2Proof.Machine.execTimeResidualDone s
  | .capNow => Sys2Proof.Machine.execCapNow s
  | .ppsInEdge rising => Sys2Proof.Machine.execPpsInEdge rising s
  | .ppsOutPulse => Sys2Proof.Machine.execPpsOutPulse s
  | .vtbEnable k => Sys2Proof.Machine.execVtbEnable k s
  | .vtbFrameStart k => Sys2Proof.Machine.execVtbFrameStart k s
  | .schedAtwExecute slot => Sys2Proof.Machine.execSchedAtwExecute slot s
  | .schedCommitExecute slot => Sys2Proof.Machine.execSchedCommitExecute slot s
  | .schedMarkExecute slot => Sys2Proof.Machine.execSchedMarkExecute slot s
  | .schedLaunchHandoff slot => Sys2Proof.Machine.execSchedLaunchHandoff slot s
  | .schedCancel tag task => Sys2Proof.Machine.execSchedCancel tag task s
  | .voteSignature => Sys2Proof.Machine.execVoteSignature s
  | .resyncStart => Sys2Proof.Machine.execResyncStart s
  | .resyncForced => Sys2Proof.Machine.execResyncForced s
  | .resyncDone ue => Sys2Proof.Machine.execResyncDone ue s
  | .ctlRestart key => Sys2Proof.Machine.execCtlRestart key s
  | .ctlRestartDone => Sys2Proof.Machine.execCtlRestartDone s
  | .scrubCheck dom idx v => Sys2Proof.Machine.execScrubCheck dom idx v s
  | .memBucketLeak => Sys2Proof.Machine.execMemBucketLeak s
  | .cgateRequest d => Sys2Proof.Machine.execCgateRequest d s
  | .cgateAck d => Sys2Proof.Machine.execCgateAck d s
  | .cgateTimeout d => Sys2Proof.Machine.execCgateTimeout d s
  | .cgateForce d => Sys2Proof.Machine.execCgateForce d s
  | .cgateClear d => Sys2Proof.Machine.execCgateClear d s
  | .accessWithdraw by' insn addr => Sys2Proof.Machine.execAccessWithdraw by' insn addr s
  | .evHeadRead by' => Sys2Proof.Machine.execEvHeadRead by' s
  | .evPop by' => Sys2Proof.Machine.execEvPop by' s
  | .perfClr mask => Sys2Proof.Machine.execPerfClr mask s
  | .histSnap h => Sys2Proof.Machine.execHistSnap h s
  | .histClear h => Sys2Proof.Machine.execHistClear h s
  | .add gd ga gb => Sys2Proof.Machine.execAdd gd ga gb s
  | .sub gd ga gb => Sys2Proof.Machine.execSub gd ga gb s
  | .and gd ga gb => Sys2Proof.Machine.execAnd gd ga gb s
  | .ior gd ga gb => Sys2Proof.Machine.execIor gd ga gb s
  | .xor gd ga gb => Sys2Proof.Machine.execXor gd ga gb s
  | .shl gd ga gb => Sys2Proof.Machine.execShl gd ga gb s
  | .shr gd ga gb => Sys2Proof.Machine.execShr gd ga gb s
  | .asr gd ga gb => Sys2Proof.Machine.execAsr gd ga gb s
  | .cls gd ga gb => Sys2Proof.Machine.execCls gd ga gb s
  | .clu gd ga gb => Sys2Proof.Machine.execClu gd ga gb s
  | .andn gd ga gb => Sys2Proof.Machine.execAndn gd ga gb s
  | .mins gd ga gb => Sys2Proof.Machine.execMins gd ga gb s
  | .maxs gd ga gb => Sys2Proof.Machine.execMaxs gd ga gb s
  | .mul gd ga gb => Sys2Proof.Machine.execMul gd ga gb s
  | .mhs gd ga gb => Sys2Proof.Machine.execMhs gd ga gb s
  | .mhu gd ga gb => Sys2Proof.Machine.execMhu gd ga gb s
  | .srd gd n rest => Sys2Proof.Machine.execSrd gd n rest s
  | .swr ga n rest => Sys2Proof.Machine.execSwr ga n rest s
  | .syscall n rest => Sys2Proof.Machine.execSyscall n rest s
  | .eret rest => Sys2Proof.Machine.execEret rest s
  | .fence rest => Sys2Proof.Machine.execFence rest s
  | .wfe ga rest => Sys2Proof.Machine.execWfe ga rest s
  | .wfeWake k => Sys2Proof.Machine.execWfeWake k s
  | .wfeTimeout => Sys2Proof.Machine.execWfeTimeout s
  | .vchk gd rest => Sys2Proof.Machine.execVchk gd rest s
  | .callr gd ga rest => Sys2Proof.Machine.execCallr gd ga rest s
  | .addk gd ga imm => Sys2Proof.Machine.execAddk gd ga imm s
  | .andk gd ga imm => Sys2Proof.Machine.execAndk gd ga imm s
  | .iork gd ga imm => Sys2Proof.Machine.execIork gd ga imm s
  | .xork gd ga imm => Sys2Proof.Machine.execXork gd ga imm s
  | .clsk gd ga imm => Sys2Proof.Machine.execClsk gd ga imm s
  | .shlk gd ga imm => Sys2Proof.Machine.execShlk gd ga imm s
  | .shrk gd ga imm => Sys2Proof.Machine.execShrk gd ga imm s
  | .asrk gd ga imm => Sys2Proof.Machine.execAsrk gd ga imm s
  | .seth gd ga imm => Sys2Proof.Machine.execSeth gd ga imm s
  | .pcr gd ga imm => Sys2Proof.Machine.execPcr gd ga imm s
  | .ldb gd ga imm k corr bad => Sys2Proof.Machine.execLdb gd ga imm k corr bad s
  | .ldbz gd ga imm k corr bad => Sys2Proof.Machine.execLdbz gd ga imm k corr bad s
  | .ldh gd ga imm k corr bad => Sys2Proof.Machine.execLdh gd ga imm k corr bad s
  | .ldhz gd ga imm k corr bad => Sys2Proof.Machine.execLdhz gd ga imm k corr bad s
  | .ldw gd ga imm k corr bad => Sys2Proof.Machine.execLdw gd ga imm k corr bad s
  | .fld gd ga imm => Sys2Proof.Machine.execFld gd ga imm s
  | .stb gd ga imm k => Sys2Proof.Machine.execStb gd ga imm k s
  | .sth gd ga imm k => Sys2Proof.Machine.execSth gd ga imm k s
  | .stw gd ga imm k => Sys2Proof.Machine.execStw gd ga imm k s
  | .brEq ga gb off => Sys2Proof.Machine.execBrEq ga gb off s
  | .brNe ga gb off => Sys2Proof.Machine.execBrNe ga gb off s
  | .brLts ga gb off => Sys2Proof.Machine.execBrLts ga gb off s
  | .brLes ga gb off => Sys2Proof.Machine.execBrLes ga gb off s
  | .brLtu ga gb off => Sys2Proof.Machine.execBrLtu ga gb off s
  | .brLeu ga gb off => Sys2Proof.Machine.execBrLeu ga gb off s
  | .brAny ga gb off => Sys2Proof.Machine.execBrAny ga gb off s
  | .brNone ga gb off => Sys2Proof.Machine.execBrNone ga gb off s
  | .go off => Sys2Proof.Machine.execGo off s
  | .call off => Sys2Proof.Machine.execCall off s
  | .atw gd ga scale vtb late kind rest k => Sys2Proof.Machine.execAtw gd ga scale vtb late kind rest k s
  | .commit gd ga scale vtb late kind rest k => Sys2Proof.Machine.execCommit gd ga scale vtb late kind rest k s
  | .launchDawn gd ga scale vtb late rest k => Sys2Proof.Machine.execLaunchDawn gd ga scale vtb late rest k s
  | .launchRpl gd ga scale vtb late rest k => Sys2Proof.Machine.execLaunchRpl gd ga scale vtb late rest k s
  | .mark gd ga scale vtb late reserved rest k => Sys2Proof.Machine.execMark gd ga scale vtb late reserved rest k s
  | .tsliceExpiry => Sys2Proof.Machine.execTsliceExpiry s
  | .progVerify taskAt => Sys2Proof.Machine.execProgVerify taskAt s
  | .progVerifyDone => Sys2Proof.Machine.execProgVerifyDone s
  | .progSwitch key => Sys2Proof.Machine.execProgSwitch key s
  | .progBankSwitch => Sys2Proof.Machine.execProgBankSwitch s
  | .hbSend => Sys2Proof.Machine.execHbSend s
  | .hbReceive pod seq h crc => Sys2Proof.Machine.execHbReceive pod seq h crc s
  | .hbMiss pod => Sys2Proof.Machine.execHbMiss pod s
  | .claimBackoffExpiry => Sys2Proof.Machine.execClaimBackoffExpiry s
  | .claimInAsserted => Sys2Proof.Machine.execClaimInAsserted s
  | .claimInReleased => Sys2Proof.Machine.execClaimInReleased s
  | .claimGrant => Sys2Proof.Machine.execClaimGrant s
  | .collisionBackoff => Sys2Proof.Machine.execCollisionBackoff s
  | .collisionUnresolved => Sys2Proof.Machine.execCollisionUnresolved s
  | .kick => Sys2Proof.Machine.execKick s
  | .wdogExpiry => Sys2Proof.Machine.execWdogExpiry s
  | .pairRelease key => Sys2Proof.Machine.execPairRelease key s
  | .claimInhibit on => Sys2Proof.Machine.execClaimInhibit on s
  | .revertWtrEnd => Sys2Proof.Machine.execRevertWtrEnd s
  | .revertGo => Sys2Proof.Machine.execRevertGo s
  | .syncSend => Sys2Proof.Machine.execSyncSend s
  | .syncPeriodSend => Sys2Proof.Machine.execSyncPeriodSend s
  | .ldgStart okA okB => Sys2Proof.Machine.execLdgStart okA okB s
  | .ldgSecondRecord => Sys2Proof.Machine.execLdgSecondRecord s
  | .ldgTick => Sys2Proof.Machine.execLdgTick s
  | .bookOpen obj => Sys2Proof.Machine.execBookOpen obj s
  | .bookClose no => Sys2Proof.Machine.execBookClose no s
  | .ldgPop => Sys2Proof.Machine.execLdgPop s
  | .domainPowerOn d => Sys2Proof.Machine.execDomainPowerOn d s
  | .domainPowered d => Sys2Proof.Machine.execDomainPowered d s
  | .domainPowerOff d => Sys2Proof.Machine.execDomainPowerOff d s
  | .domainOffAck d => Sys2Proof.Machine.execDomainOffAck d s
  | .domainDrainTimeout d => Sys2Proof.Machine.execDomainDrainTimeout d s
  | .domainForceOff d => Sys2Proof.Machine.execDomainForceOff d s
  | .railFault r => Sys2Proof.Machine.execRailFault r s
  | .nightStopTimeout => Sys2Proof.Machine.execNightStopTimeout s
  | .nightEntryDone => Sys2Proof.Machine.execNightEntryDone s
  | .wakeDone => Sys2Proof.Machine.execWakeDone s
  | .sensorReading t => Sys2Proof.Machine.execSensorReading t s
  | .thermalRestart => Sys2Proof.Machine.execThermalRestart s
  | .throttleTest on => Sys2Proof.Machine.execThrottleTest on s
  | .madcStart => Sys2Proof.Machine.execMadcStart s
  | .madcResult raw => Sys2Proof.Machine.execMadcResult raw s
  | .madcChWrite ch => Sys2Proof.Machine.execMadcChWrite ch s
  | .calZero => Sys2Proof.Machine.execCalZero s
  | .calFs => Sys2Proof.Machine.execCalFs s
  | .madcCalDone => Sys2Proof.Machine.execMadcCalDone s
  | .hostBar0Request r => Sys2Proof.Machine.execHostBar0Request r s
  | .hostLinkReset down => Sys2Proof.Machine.execHostLinkReset down s
  | .pciePerst low => Sys2Proof.Machine.execPciePerst low s
  | .mboxRing s2h len => Sys2Proof.Machine.execMboxRing s2h len s
  | .mboxAck s2h => Sys2Proof.Machine.execMboxAck s2h s
  | .dmaStart k dir => Sys2Proof.Machine.execDmaStart k dir s
  | .dmaDone k ws err => Sys2Proof.Machine.execDmaDone k ws err s
  | .bootFlashHeaders h0 h1 => Sys2Proof.Machine.execBootFlashHeaders h0 h1 s
  | .bootImageRead img => Sys2Proof.Machine.execBootImageRead img s
  | .bootVerifyDone => Sys2Proof.Machine.execBootVerifyDone s
  | .bootGo => Sys2Proof.Machine.execBootGo s
  | .bootReqSend => Sys2Proof.Machine.execBootReqSend s
  | .bootPeerTimeout => Sys2Proof.Machine.execBootPeerTimeout s
  | .lcAdvance => Sys2Proof.Machine.execLcAdvance s
  | .lcRollback => Sys2Proof.Machine.execLcRollback s
  | .lcRevoke n => Sys2Proof.Machine.execLcRevoke n s
  | .lcFuse n => Sys2Proof.Machine.execLcFuse n s
  | .idPoll c ack => Sys2Proof.Machine.execIdPoll c ack s
  | .idReadDone c b => Sys2Proof.Machine.execIdReadDone c b s
  | .idReread c => Sys2Proof.Machine.execIdReread c s
  | .spiStart => Sys2Proof.Machine.execSpiStart s
  | .spiDone data => Sys2Proof.Machine.execSpiDone data s
  | .ubRd addr => Sys2Proof.Machine.execUbRd addr s
  | .ubWr addr v => Sys2Proof.Machine.execUbWr addr v s
  | .ubMrd addr => Sys2Proof.Machine.execUbMrd addr s
  | .ubMwr addr v => Sys2Proof.Machine.execUbMwr addr v s
  | .ubDrd n => Sys2Proof.Machine.execUbDrd n s
  | .ubDwr n v => Sys2Proof.Machine.execUbDwr n v s
  | .ubId => Sys2Proof.Machine.execUbId s
  | .ubChal addr => Sys2Proof.Machine.execUbChal addr s
  | .ubResp addr v => Sys2Proof.Machine.execUbResp addr v s
  | .ubUnlock => Sys2Proof.Machine.execUbUnlock s
  | .dbgHaltReq => Sys2Proof.Machine.execDbgHaltReq s
  | .dbgResume => Sys2Proof.Machine.execDbgResume s
  | .dbgStep => Sys2Proof.Machine.execDbgStep s
  | .dbgBreakpoint idx => Sys2Proof.Machine.execDbgBreakpoint idx s
  | .dbgWatchpoint idx addr store => Sys2Proof.Machine.execDbgWatchpoint idx addr store s
  | .jtagBypass => Sys2Proof.Machine.execJtagBypass s
  | .jtagIdcode => Sys2Proof.Machine.execJtagIdcode s
  | .jtagSamplePreload => Sys2Proof.Machine.execJtagSamplePreload s
  | .jtagExtest => Sys2Proof.Machine.execJtagExtest s
  | .jtagClamp => Sys2Proof.Machine.execJtagClamp s
  | .jtagHighz => Sys2Proof.Machine.execJtagHighz s
  | .jtagExtestPulse => Sys2Proof.Machine.execJtagExtestPulse s
  | .jtagExtestTrain => Sys2Proof.Machine.execJtagExtestTrain s
  | .pcieLinkUp width speed => Sys2Proof.Machine.execPcieLinkUp width speed s
  | .railWithinTolerance r => Sys2Proof.Machine.execRailWithinTolerance r s
  | .pinReadbackMismatch claim bad => Sys2Proof.Machine.execPinReadbackMismatch claim bad s
  | .lnPatWrite n gen chk => Sys2Proof.Machine.execLnPatWrite n gen chk s
  | .madcRunClear => Sys2Proof.Machine.execMadcRunClear s

end Sys2Proof.Machine
end

