-- ==== Sys2Proof/WellFormed.lean ====
section
/-! DEFINITION. Well-formed commands: operands within the ranges that the spec gives them. -/

namespace Sys2Proof

/-- A byte string. -/
def bytes (l : List Nat) : Bool := l.all (fun x => decide (x < 256))
/-- A byte string of a length. -/
def bytesOf (l : List Nat) (n : Nat) : Bool := l.length == n && bytes l
/-- A list of words. -/
def words (l : List Nat) : Bool := l.all (fun x => decide (x < 2 ^ 32))
/-- Numbers of channels. -/
def chans (l : List Nat) : Bool := l.all (fun x => decide (x < 3))
/-- An address and its data. -/
def pairOk (x : Nat × Nat) : Bool := decide (x.1 < 2 ^ 32) && decide (x.2 < 2 ^ 32)
/-- A register write of R4. -/
def WriteReq.wf : WriteReq → Bool
  | .voted m n e => m.all pairOk && n.all pairOk && e.all pairOk
  | .both m n e addr data =>
    m.all pairOk && n.all pairOk && e.all pairOk && decide (addr < 2 ^ 32) && decide (data < 2 ^ 32) &&
    [m, n, e].all (fun x => x.all (fun p => p.1 == addr))
  | .single _ size addr data => (size == 1 || size == 2 || size == 4) && decide (addr < 2 ^ 32) && decide (data < 2 ^ 32)
/-- A BAR0 request of R613: within the 8 MiB of the register space. -/
def Bar0Req.wf : Bar0Req → Bool
  | .read off n => decide (0 < n) && decide (off + 4 * n ≤ 0x800000)
  | .write off ws => !ws.isEmpty && decide (off + 4 * ws.length ≤ 0x800000) && words ws
  | .narrow _ off => decide (off < 0x800000)
/-- The blocks whose commit points are ticks of their clock (R18). -/
def isTick : Blk → Bool
  | .conv _ | .rxdsp _ | .dawn _ => true
  | _ => false
/-- A signed value of 7 bits. -/
def in7 (x : Int) : Bool := decide (-64 ≤ x) && decide (x ≤ 63)
/-- Unused bits of a word: none in a field that the instruction uses. -/
def restOk (rest used : BitVec 26) : Bool := rest &&& used == 0

/-- A command is well-formed. -/
def WellFormed : Instr → Bool
  | .registerWrite w => w.wf
  | .readClear _ addr => decide (addr < 2 ^ 32)
  | .wideReadSnapshot _ addr => decide (addr < 2 ^ 32)
  | .softReset _ => true
  | .softResetDone _ => true
  | .commitReq _ sel => decide (sel < 4)
  | .commitTick b => isTick b
  | .deferredStart _ => true
  | .blockClockStart _ => true
  | .sysCmodeWrite _ v => decide (v < 2 ^ 32)
  | .sysReset key => decide (key < 2 ^ 16)
  | .wakeReq => true
  | .nightReq _ => true
  | .vddAonRise => true
  | .porstLow => true
  | .resetExit _ bootsel pos pref xtd => decide (bootsel < 4) && decide (pos < 2) && decide (pref < 2) && decide (xtd < 4)
  | .txStart _ => true
  | .txFrameStart _ => true
  | .txRunClear _ => true
  | .txStopDone _ => true
  | .txMuteWrite _ _ => true
  | .txLaunchBegin _ => true
  | .convStart _ => true
  | .fgStart _ => true
  | .fgCalDone _ _ => true
  | .convRunClear _ => true
  | .bgStart _ => true
  | .bgPassEnd _ _ => true
  | .bgRoundEnd _ n _ => decide (n < 4)
  | .bgMeasureDone _ n _ _ => decide (n < 4)
  | .rampInterval _ => true
  | .trimInterpolate _ => true
  | .modelChange _ _ => true
  | .calSnap _ => true
  | .calSnapDone _ => true
  | .calLoad _ => true
  | .calLoadDone _ => true
  | .adcLevelUpdate _ _ => true
  | .biasStep _ => true
  | .rxdspStart _ => true
  | .rxdspRunClear _ => true
  | .lolWindow _ _ => true
  | .rxSatWindow _ => true
  | .rxLineFrame _ adc => decide (adc.length = 4) && adc.all (fun l => decide (l.length = (adc.headD []).length) && l.all in7)
  | .acqFreqReady _ _ => true
  | .acqCdReady _ _ => true
  | .acqTimingLock _ => true
  | .acqBlindStable _ => true
  | .acqPilotStable _ => true
  | .acqDdStable _ => true
  | .acqLockLost _ => true
  | .resumeTimeout _ => true
  | .seededTimeout _ => true
  | .acqTimeout _ => true
  | .acqRestart _ => true
  | .seedAutoCapture _ => true
  | .seedCapture _ => true
  | .seedClear _ => true
  | .seedWindowWrite _ w v => decide (w < 0x213) && decide (v < 2 ^ 32)
  | .rxMetricUpdate _ => true
  | .tapSnap _ => true
  | .dawnStart _ => true
  | .dawnRunClear _ => true
  | .dawnLightSet _ _ => true
  | .dawnLightClear _ _ => true
  | .dawnGainUpdate _ _ => true
  | .dawnDetection _ ds => ds.all (fun d => decide (d.1 < 4))
  | .dawnSyncLatch _ _ _ _ => true
  | .dawnSyncWinExpiry _ => true
  | .dawnDescriptor _ coded => decide (coded < 2 ^ 128)
  | .dawnPreloadDone _ => true
  | .dawnBurstEnd _ => true
  | .dawnWritebackDone _ => true
  | .dawnExpectWrite _ v => decide (v < 2 ^ 32)
  | .seedFreeze _ e => decide (e < 64)
  | .seedThaw _ e => decide (e < 64)
  | .seedInvalidate _ e => decide (e < 64)
  | .dawnSeedWrite _ off v => decide (off < 0x1000) && decide (v < 2 ^ 32)
  | .bexaEnergy _ _ => true
  | .bexaQualify _ _ _ _ => true
  | .fecStart _ => true
  | .fecRunClear _ => true
  | .fecEncCodeword _ => true
  | .fecEncOverrun _ => true
  | .fecCodewordArrive _ _ => true
  | .fecIterationEnd _ _ _ => true
  | .fecDeadline _ _ => true
  | .fecCodewordRelease _ => true
  | .fecAnchorAlign _ => true
  | .fecIntervalEnd _ => true
  | .framerStart _ => true
  | .framerRunClear _ => true
  | .framerTxFrame _ => true
  | .lineAlignCheck _ o bits _ => decide (o < 2) && decide (bits < 2 ^ 384)
  | .fasAlignCheck _ _ => true
  | .framerRxFrame _ => true
  | .defectTimer _ d => decide (1 ≤ d) && decide (d ≤ 3)
  | .fecxWindow _ => true
  | .pmSecond => true
  | .pmSecondFinal => true
  | .defectForce _ v => decide (v < 2 ^ 32)
  | .dmStart _ => true
  | .dmTimeout _ => true
  | .dualSegmentOutput => true
  | .dualRealign _ => true
  | .dualWtrExpiry _ => true
  | .dualAnchorCompare => true
  | .dskewClearTimer _ => true
  | .psrHoldoffExpiry _ => true
  | .cipherStart _ => true
  | .cipherRunClear _ => true
  | .ciphSegmentEnd _ => true
  | .ciphAnchorInsert _ => true
  | .ciphAnchorReceive _ => true
  | .ciphSegmentVerdict _ => true
  | .rngTestResult _ _ => true
  | .kekClear _ => true
  | .kekBlob _ => true
  | .kekExport _ => true
  | .keyLoad _ target => decide (target < 4)
  | .ciphLoadDone _ => true
  | .clPortEnable p => decide (p < 24)
  | .clPortDisable p => decide (p < 24)
  | .clLinkChange p _ _ _ _ => decide (p < 24)
  | .clIngressFrame p f sub _ _ => decide (p < 24) && bytes f && decide (sub < 20)
  | .clEgressFrame p sub => decide (p < 24) && decide (sub < 20)
  | .impHeader p => decide (p < 24)
  | .clTsPop _ => true
  | .storeIdReadDone m b => decide (m < 4) && bytesOf b 256
  | .storeRecoveryDone m _ _ => decide (m < 4)
  | .storeReread m => decide (m < 4)
  | .storeIdOverride m => decide (m < 4)
  | .ringArm r => decide (r < 256)
  | .ringDisarm r => decide (r < 256)
  | .ringClear r => decide (r < 256)
  | .ringPtrSave r => decide (r < 256)
  | .storeOverloadExit m => decide (m < 4)
  | .storeDropLevelStep m => decide (m < 4)
  | .storeDropLevelReset m => decide (m < 4)
  | .ringRateWindow r => decide (r < 256)
  | .storeEccLeak m => decide (m < 4)
  | .ringExtentEnter r => decide (r < 256)
  | .rplPrepare ch => decide (ch < 16)
  | .rplPrepareDone ch => decide (ch < 16)
  | .rplLaunch ch => decide (ch < 16)
  | .rplLaunchNow ch => decide (ch < 16)
  | .rplUnitStart ch => decide (ch < 16)
  | .rplPacketSend ch sub => decide (ch < 16) && decide (sub < 20)
  | .rplStop ch => decide (ch < 16)
  | .storeRunClear => true
  | .laneEnable n => decide (n < 48)
  | .laneDisable n => decide (n < 48)
  | .lanePowered n => decide (n < 48)
  | .laneCdrLock n => decide (n < 48)
  | .laneAdaptDone n => decide (n < 48)
  | .laneCdrLoss n => decide (n < 48)
  | .lanePolTimer n => decide (n < 48)
  | .laneRxInvWrite n _ => decide (n < 48)
  | .podBlock port w => decide (port < 6) && decide (w < 2 ^ 132)
  | .podCommaAlign n window _ => decide (n < 48) && decide (window < 2 ^ 132)
  | .podHeaderHunt n hdr => decide (n < 48) && decide (hdr < 16)
  | .podAmAlign n p bip _ => decide (n < 48) && decide (p < 2 ^ 128) && decide (bip < 256)
  | .podDeskew k _ => decide (k < 6)
  | .podPortEnable k => decide (k < 6)
  | .podMsg k => decide (k < 6)
  | .podLinkIdTimer k => decide (k < 6)
  | .podPortDown k _ => decide (k < 6)
  | .podTransferReceive k _ => decide (k < 6)
  | .podAck k => decide (k < 6)
  | .podRetryTimeout k tag => decide (k < 6) && decide (tag < 2 ^ 16)
  | .podBondForm _ => true
  | .podBondTimeout => true
  | .podTimeSend k _ => decide (k < 6)
  | .podTimeReceive k _ => decide (k < 6)
  | .lanePatLock n _ => decide (n < 48)
  | .laneInjOne n => decide (n < 48)
  | .xoAmpChange _ => true
  | .clockGood xtd => decide (xtd < 4)
  | .xoFail => true
  | .pllLock n => decide (n < 8)
  | .pllUnlock n => decide (n < 8)
  | .syspllRelockReturn => true
  | .pllRateChange n => decide (n < 8)
  | .refselAccept sel => decide (sel < 4)
  | .refMeasurement _ => true
  | .refLoa r => decide (r < 4)
  | .refMonitorRestart r _ freq => decide (r < 4) && decide (freq < 0x40000000)
  | .dpllLock => true
  | .dpllPhaseAbsorbDone _ => true
  | .dpllHistValid => true
  | .clkMuxSelWrite n sel => decide (n < 8) && decide (sel < 4)
  | .muxChangeover n => decide (n < 8)
  | .muxStall n => decide (n < 8)
  | .muxForce n => decide (n < 8)
  | .fmeasStart => true
  | .fmeasDone _ => true
  | .tdSet d => decide (d < 2)
  | .tdStep d v => decide (d < 2) && decide (v < 2 ^ 32)
  | .tdSlew d v => decide (d < 2) && decide (v < 2 ^ 32)
  | .tdValidWrite d _ => decide (d < 2)
  | .tdLeaseExpiry d => decide (d < 2)
  | .timeExtWrap d => decide (d < 2)
  | .timeDiffMeasure _ => true
  | .swReq target => decide (target < 2)
  | .swForce target => decide (target < 2)
  | .timeResidualDone => true
  | .capNow => true
  | .ppsInEdge _ => true
  | .ppsOutPulse => true
  | .vtbEnable k => decide (k < 4)
  | .vtbFrameStart k => decide (k < 4)
  | .schedAtwExecute slot => decide (slot < 4096)
  | .schedCommitExecute slot => decide (slot < 4096)
  | .schedMarkExecute slot => decide (slot < 4096)
  | .schedLaunchHandoff slot => decide (slot < 4096)
  | .schedCancel tag _ => decide (tag < 2 ^ 32)
  | .voteSignature => true
  | .resyncStart => true
  | .resyncForced => true
  | .resyncDone ue => ue.all (fun x => decide (x.1 < 3) && decide (x.2 < 3))
  | .ctlRestart key => decide (key < 2 ^ 16)
  | .ctlRestartDone => true
  | .scrubCheck dom i _ => decide (i < if dom then 22 else 9)
  | .memBucketLeak => true
  | .cgateRequest d => decide (d < 22)
  | .cgateAck d => decide (d < 22)
  | .cgateTimeout d => decide (d < 22)
  | .cgateForce d => decide (d < 22)
  | .cgateClear d => decide (d < 22)
  | .accessWithdraw _ insn addr => decide (insn < 2 ^ 32) && decide (addr < 2 ^ 32)
  | .evHeadRead _ => true
  | .evPop _ => true
  | .perfClr mask => decide (mask < 2 ^ 32)
  | .histSnap h => decide (h < 8)
  | .histClear h => decide (h < 8)
  | .add _ _ _ => true
  | .sub _ _ _ => true
  | .and _ _ _ => true
  | .ior _ _ _ => true
  | .xor _ _ _ => true
  | .shl _ _ _ => true
  | .shr _ _ _ => true
  | .asr _ _ _ => true
  | .cls _ _ _ => true
  | .clu _ _ _ => true
  | .andn _ _ _ => true
  | .mins _ _ _ => true
  | .maxs _ _ _ => true
  | .mul _ _ _ => true
  | .mhs _ _ _ => true
  | .mhu _ _ _ => true
  | .srd _ n rest => decide (n < 32) && restOk rest 0x3C0001F
  | .swr _ n rest => decide (n < 32) && restOk rest 0x3C001F
  | .syscall n rest => decide (n < 16384) && restOk rest 0x3FFF
  | .eret _ => true
  | .fence _ => true
  | .wfe _ rest => restOk rest 0x3C0000
  | .wfeWake _ => true
  | .wfeTimeout => true
  | .vchk _ rest => restOk rest 0x3C00000
  | .callr _ _ rest => restOk rest 0x3FC0000
  | .addk _ _ _ => true
  | .andk _ _ _ => true
  | .iork _ _ _ => true
  | .xork _ _ _ => true
  | .clsk _ _ _ => true
  | .shlk _ _ _ => true
  | .shrk _ _ _ => true
  | .asrk _ _ _ => true
  | .seth _ _ _ => true
  | .pcr _ _ _ => true
  | .ldb _ _ _ _ corr bad => chans corr && chans bad
  | .ldbz _ _ _ _ corr bad => chans corr && chans bad
  | .ldh _ _ _ _ corr bad => chans corr && chans bad
  | .ldhz _ _ _ _ corr bad => chans corr && chans bad
  | .ldw _ _ _ _ corr bad => chans corr && chans bad
  | .fld _ _ _ => true
  | .stb _ _ _ _ => true
  | .sth _ _ _ _ => true
  | .stw _ _ _ _ => true
  | .brEq _ _ _ => true
  | .brNe _ _ _ => true
  | .brLts _ _ _ => true
  | .brLes _ _ _ => true
  | .brLtu _ _ _ => true
  | .brLeu _ _ _ => true
  | .brAny _ _ _ => true
  | .brNone _ _ _ => true
  | .go _ => true
  | .call _ => true
  | .atw _ _ _ _ _ _ _ _ => true
  | .commit _ _ _ _ _ _ _ _ => true
  | .launchDawn _ _ _ _ _ _ _ => true
  | .launchRpl _ _ _ _ _ _ _ => true
  | .mark _ _ _ _ _ _ _ _ => true
  | .tsliceExpiry => true
  | .progVerify taskAt => decide (taskAt < 256)
  | .progVerifyDone => true
  | .progSwitch key => decide (key < 2 ^ 16)
  | .progBankSwitch => true
  | .hbSend => true
  | .hbReceive _ seq h crc => decide (seq < 256) && decide (h < 2 ^ 32) && decide (crc < 256)
  | .hbMiss _ => true
  | .claimBackoffExpiry => true
  | .claimInAsserted => true
  | .claimInReleased => true
  | .claimGrant => true
  | .collisionBackoff => true
  | .collisionUnresolved => true
  | .kick => true
  | .wdogExpiry => true
  | .pairRelease key => decide (key < 2 ^ 16)
  | .claimInhibit _ => true
  | .revertWtrEnd => true
  | .revertGo => true
  | .syncSend => true
  | .syncPeriodSend => true
  | .ldgStart _ _ => true
  | .ldgSecondRecord => true
  | .ldgTick => true
  | .bookOpen obj => decide (obj < 256)
  | .bookClose no => decide (no < 2 ^ 16)
  | .ldgPop => true
  | .domainPowerOn d => decide (d < 22)
  | .domainPowered d => decide (d < 22)
  | .domainPowerOff d => decide (d < 22)
  | .domainOffAck d => decide (d < 22)
  | .domainDrainTimeout d => decide (d < 22)
  | .domainForceOff d => decide (d < 22)
  | .railFault r => decide (r < 10)
  | .nightStopTimeout => true
  | .nightEntryDone => true
  | .wakeDone => true
  | .sensorReading _ => true
  | .thermalRestart => true
  | .throttleTest _ => true
  | .madcStart => true
  | .madcResult _ => true
  | .madcChWrite ch => decide (ch < 16)
  | .calZero => true
  | .calFs => true
  | .madcCalDone => true
  | .hostBar0Request r => r.wf
  | .hostLinkReset _ => true
  | .pciePerst _ => true
  | .mboxRing _ len => decide (len ≤ 4096)
  | .mboxAck _ => true
  | .dmaStart k _ => decide (k < 2)
  | .dmaDone k ws _ => decide (k < 2) && words ws
  | .bootFlashHeaders h0 h1 => bytesOf h0 128 && bytesOf h1 128
  | .bootImageRead img => bytes img
  | .bootVerifyDone => true
  | .bootGo => true
  | .bootReqSend => true
  | .bootPeerTimeout => true
  | .lcAdvance => true
  | .lcRollback => true
  | .lcRevoke n => decide (n < 16)
  | .lcFuse n => decide (n < 16)
  | .idPoll _ _ => true
  | .idReadDone _ b => bytesOf b 256
  | .idReread _ => true
  | .spiStart => true
  | .spiDone data => bytes data
  | .ubRd addr => decide (addr < 2 ^ 32)
  | .ubWr addr v => decide (addr < 2 ^ 32) && decide (v < 2 ^ 32)
  | .ubMrd addr => decide (addr < 2 ^ 32)
  | .ubMwr addr v => decide (addr < 2 ^ 32) && decide (v < 2 ^ 32)
  | .ubDrd n => decide (n < 2 ^ 32)
  | .ubDwr n v => decide (n < 2 ^ 32) && decide (v < 2 ^ 32)
  | .ubId => true
  | .ubChal addr => decide (addr < 2 ^ 32)
  | .ubResp addr v => decide (addr < 2 ^ 32) && decide (v < 2 ^ 32)
  | .ubUnlock => true
  | .dbgHaltReq => true
  | .dbgResume => true
  | .dbgStep => true
  | .dbgBreakpoint i => decide (i < 4)
  | .dbgWatchpoint i addr _ => decide (i < 2) && decide (addr < 2 ^ 32)
  | .jtagBypass => true
  | .jtagIdcode => true
  | .jtagSamplePreload => true
  | .jtagExtest => true
  | .jtagClamp => true
  | .jtagHighz => true
  | .jtagExtestPulse => true
  | .jtagExtestTrain => true
  | .pcieLinkUp width speed => decide (width < 5) && decide (speed < 6)
  | .railWithinTolerance r => decide (r < 10)
  | .pinReadbackMismatch _ _ => true
  | .lnPatWrite n _ _ => decide (n < 48)
  | .madcRunClear => true

end Sys2Proof
end

