-- ==== Sys2Proof/Safety.lean ====
section
/-! DEFINITION. What counts as a safe run: the machine stops nowhere, the queue holds well-formed commands and is served first in,
first out, storage keeps its canonical form. -/

namespace Sys2Proof.Safety

open Sys2Proof.Machine

/-- Every waiting command is well-formed. -/
def queueWf (s : State) : Bool := s.pending.all WellFormed

/-- The register storage and the three channels' SRAMs have the canonical form. -/
def storageWf (s : State) : Bool :=
  Map.wf s.regs && s.ctl.chans.length == 3 && s.ctl.chans.all (fun c => Memory.wf c.mem)

/-- The step answers a next state. -/
def goesOn (s : State) : Prop := ∃ t, step s = .next t

/-- `k` steps answer a next state: the run meets no fault and no refusal. -/
def runsFor (s : State) (k : Nat) : Prop := ∃ t, Host.Core.run core k s = .next t

end Sys2Proof.Safety
end

