-- ==== Sys2Proof/Certificates/Slice0/Obligations.lean ====
section
/-! DEFINITION. The statements for the provers, and the few words that they are written with: what a command answers (`Does`),
its frame (`Keeps`), the events that it raises (`Raised`). -/

namespace Sys2Proof.Spec

open Sys2Proof Sys2Proof.Machine

/-! What the statements are written with. -/

/-- The command answers a next state, and that state satisfies `P`. -/
def Does (i : Instr) (s : State) (P : State → Prop) : Prop := ∃ t, exec i s = .next t ∧ P t

/-- A register of a block is reached: the device is out of RESET, the block's domain is on and clocked, and no SOFT_RESET of the
block is in progress (R14, R494, R673). -/
abbrev Open (s : State) (b : Blk) : Prop :=
  s.dev ≠ 0 ∧ reachable s b (blkBase b) = true ∧ s.on (resettingF b) = false

/-- The pieces of state beside the register fields. `wake` is the wake latch with its note of a wake condition, `msix` the
messages sent; `marks` the moments from which timers
count (log entry 56); `ctl`, `host` and `time` are the rest of these three. -/
inductive Part where
  | pending | shadow | freeCtr | named | waiting | stops | ev | wake | ctl | msix | host | clk | store | client | link | time | marks
  | sched | pair | pwr | ldg
  | tx (c : Carrier) | conv (c : Carrier) | rx (c : Carrier) | dawn (c : Carrier) | fec (c : Carrier) | frm (c : Carrier)
  | ciph (c : Carrier)
  deriving DecidableEq, Repr

/-- The piece is the same in both states. -/
def Part.same (s t : State) : Part → Prop
  | .pending => t.pending = s.pending
  | .shadow => t.shadow = s.shadow
  | .freeCtr => t.freeCtr = s.freeCtr
  | .named => t.named = s.named
  | .waiting => t.waiting = s.waiting
  | .stops => t.stops = s.stops
  | .ev => t.ev = s.ev
  | .wake => t.ctl.wakeLatch = s.ctl.wakeLatch ∧ t.ctl.evSeen = s.ctl.evSeen
  | .ctl => { t.ctl with wakeLatch := s.ctl.wakeLatch, evSeen := s.ctl.evSeen } = s.ctl
  | .msix => t.host.msixSent = s.host.msixSent
  | .host => { t.host with msixSent := s.host.msixSent } = s.host
  | .clk => t.clk = s.clk
  | .store => t.store = s.store
  | .client => t.client = s.client
  | .link => t.link = s.link
  | .time => { t.time with marks := s.time.marks } = s.time
  | .marks => t.time.marks = s.time.marks
  | .sched => t.sched = s.sched
  | .pair => t.pair = s.pair
  | .pwr => t.pwr = s.pwr
  | .ldg => t.ldg = s.ldg
  | .tx c => t.tx.get c = s.tx.get c
  | .conv c => t.conv.get c = s.conv.get c
  | .rx c => t.rx.get c = s.rx.get c
  | .dawn c => t.dawn.get c = s.dawn.get c
  | .fec c => t.fec.get c = s.fec.get c
  | .frm c => t.frm.get c = s.frm.get c
  | .ciph c => t.ciph.get c = s.ciph.get c

/-- The frame of a command: every register field but those of `fs` and those in the windows of `bs` reads as before, and every
other piece of state but those of `ps` is as before. -/
def Keeps (s t : State) (fs : List Fld) (bs : List Blk) (ps : List Part) : Prop :=
  (∀ k, k ∉ fs.map Fld.key → (∀ b ∈ bs, inBlk b k = false) → t.regs.get k = s.regs.get k) ∧ ∀ p, p ∉ ps → p.same s t

/-- The register fields that raising an event may change (R497, R504). -/
abbrev evF : List Fld := [R.EV_STAT.HWM, R.EV_STAT.LOST_TOTAL]
/-- The pieces that raising an event may change: the queue, the wake latch, the messages to the host (R496, R498, R532). -/
abbrev evP : List Part := [.ev, .wake, .msix]

/-- The event queue is as raising the event leaves it (R496 to R499). -/
abbrev Raised (s t : State) (id data : Nat) : Prop := t.ev = (s.raise id data).ev

/-- The register fields that levels may change when a command ends (R65, R69, R343, R350, R545 to R562): the replacement signals
of the ports, PAIR_STAT, the device state, the gates at the transmitters with a burst that they cut off, and the events. -/
def lvF : List Fld :=
  evF ++ (List.range 24).map R.CL_PORT_STAT.REPL_ACT.ix ++ (List.range 24).map R.CL_EG_LOSS.BURST_LOSS.ix ++
  [R.PAIR_STAT.WIRING_ERR, R.PAIR_STAT.POD_UP, R.PAIR_STAT.PIN_UP, R.PAIR_STAT.GRANTED, R.PAIR_STAT.OWN_CLAIM,
   R.PAIR_STAT.CLAIM_STATE, R.SYS_STATE.STATE] ++
  [Carrier.A, .B].flatMap (fun (c : Carrier) => [R.TX_STAT.MUTE_CTRL, R.TX_STAT.MUTE_GATE, R.TX_STAT.MUTE_STOP, R.TX_STAT.MUTE_GAP,
    R.TX_STAT.MUTED, R.TX_STAT.BURST, R.TX_BURST.ACTIVE, R.TX_BURST.FRAMES_LEFT, R.TX_BURST_CNT.ABORTS].map (fun (f : Fld) => f.on c))
/-- The other pieces that levels may change. -/
abbrev lvP : List Part := evP ++ [.pair, .client, .freeCtr, .marks]


/-- The start checks of a block pass, its clock apart: no MODE_ERR holds it (R35), the check of its chapter gives no code, and
CONV has a valid calibration and runs none. -/
def startsNow (s : State) (b : Blk) : Bool :=
  ((blkCarrier b).isNone || !s.modeErr) &&
  (match b with
   | .tx c => txCfgCode s c == 0
   | .conv c => convCfgCode s c == 0 && s.onC c R.CONV_STAT.CAL_VALID && !s.onC c R.CONV_STAT.FG_BUSY
   | .rxdsp c => rxCfgCode s c == 0
   | .dawn c => dawnCfgCode s c == 0
   | .fec c => fecCfgCode s c == 0
   | .framer c => frmCfgCode s c == 0
   | .cipher c => ciphCfgCode s c == 0
   | .madc => madcCfgOk s
   | _ => !alwaysRuns b)


/-- Every register field reads its reset value, but the device state, the cause of the reset, and those that RESET keeps, which
read as before (R39, R41, R594, R609). -/
def AfterReset (s t : State) : Prop :=
  (∀ k, k ∉ resetKept.map Fld.key → k ≠ R.SYS_STATE.STATE.key → k ≠ R.SYS_STATE.RESET_CAUSE.key →
    t.regs.get k = R.resets.get k) ∧
  ∀ f ∈ resetKept, t.get f = s.get f % 2 ^ f.width


/-- The fields of the muxes that follow a PLL: CUR and SWITCHING (R427, R428). -/
def muxF : List Fld := (List.range 8).map R.CLK_MUX.CUR.ix ++ (List.range 8).map R.CLK_MUX.SWITCHING.ix


/-- A slice of the ADC is off line (R98). -/
def offLine (a : AdcStep) : Bool := a.st == .measure || a.st == .ramp || a.st == .verify

/-- One code towards another. -/
def stepTo (cur code : Nat) : Nat := if cur < code then cur + 1 else if code < cur then cur - 1 else cur

/-- The TIA outputs of a carrier. -/
def tiaF (c : Carrier) : List Fld := (List.range 4).map (fun n => (R.TIA_CODE.CUR.ix n).on c)

/-- The gain that a channel's RMS asks for, in tenths of a dB (R188). -/
def gainAsked (s : State) (c : Carrier) (r : Nat) : Int :=
  let want := 4 * s.getC c R.DAWN_AGC.TARGET
  if r = want then 0 else if r = 0 then 1200 else if want = 0 then -1200 else db10 want r

/-- The tag that a received segment should have under a key (R309). -/
def rxTagOf (s : State) (c : Carrier) (k : KeySlot) (g : SegRx) : Nat :=
  gcmTag (aesKeys k.key) (segIv k.salt g.ctr (rxSrc s c)) (g.words.flatMap (·.2))
/-- The segment is judged under a key: KEYX has not come, it is whole, and no clear segment that is accepted (R309). -/
def judgedByKey (s : State) (c : Carrier) (g : SegRx) : Bool :=
  !s.onC c R.CIPH_STAT.KEYX_RX && !g.early && !(g.key == 0 && s.onC c R.CIPH_CFG.ACCEPT_CLEAR)
/-- KEY_ID of an unwrapped key record (R314). -/
def recId (r : List Nat) : Nat := ofBe ((r.drop 38).take 2)
/-- The target is a receive slot and the other receive slot holds this KEY_ID (R314). -/
def otherHolds (s : State) (c : Carrier) (target id : Nat) : Bool :=
  decide (2 ≤ target) && slotState s c (5 - target) == 1 && slotId s c (5 - target) == id

/-- The blocks that a change at lanes, Pod ports, client ports or modules may reach: traffic follows, and with store assist the
DUAL group (R335, R357, R371, R377, R388, R397). -/
abbrev linkB : List Blk := [.lanes, .pod, .client, .store, .flow, .framer .A, .framer .B]
/-- The other pieces that it may reach. -/
abbrev linkP : List Part := lvP ++ [.link, .store, .waiting, .stops, .frm .A, .frm .B]
/-- Bits of a window of a locked checker that differ from its pattern (R406). -/
def chkErrors (s : State) (n window : Nat) : Nat :=
  let s := genWindow s n
  let w := chkHears s n window
  let w := if s.on (laneF n R.LN_PAT.CHK_INV) then w ^^^ polMask (lanePam s n) else w
  popCount 1024 (w ^^^ (patRun (lanePam s n) (chkCode s n) 1024 0 (ln s n).chkReg 0).1)
/-- Header and payload of the next block of a port's stream, descrambled (R390, R392). -/
def nextBlock (s : State) (k w : Nat) : Nat × Nat :=
  let v := podHears s k w
  (v / 2 ^ 128 % 16, (descrambled ((pp s k).rxScr.get ((pp s k).rxAt % streamLanes s k)) (v % 2 ^ 128)).1)
/-- A block with a bad header or a control type that the kind of port does not have (R390, R391). -/
def blockBad (k : Nat) (b : Nat × Nat) : Bool := b.1 != 5 && !(b.1 == 10 && ctlTypeOk (isPeer k) (payByte b.2 0))

/-- The state with the words drawn that the data bits of the encoder's next block take from CIPHER. -/
def drawn (s : State) (c : Carrier) : State := drawTo drawMax s c (encDataBits s c)
/-- The data block of the next codeword of a native code: an anchor block that is due, then what CIPHER has formed (R230, R304). -/
def encData (s : State) (c : Carrier) : BitStr :=
  let h := (drawn s c).ciph.get c
  if h.anchorHeld && anchorDue s c then
    (bitsStr ((msbFirst 192 h.outAnchor).map b2n)).app (formedBits h (encDataBits s c - 192))
  else formedBits h (encDataBits s c)
/-- The codeword at the frame phase under test has fewer than 10 % of its checks unsatisfied (R246). -/
def bexaLocks (h : FecH) : Bool :=
  10 * (codeOf 3).unsatisfied (decide256 (postOf (codeOf 3).cols ((h.llr.drop (bexaStart h.huntPhase)).take 15360))) < 3072

/-- No waiting entry of the scheduler falls due between two states (R465). -/
abbrev noneFallsDue (s t : State) : Prop := ∀ e ∈ t.sched.entries, e.handed = true ∨ isDue t e = false ∨ isDue s e = true
/-- The entry stands in its slot and waits, it is of an action, due and alone at its time, no entry of its scale goes before it,
and control writes are not frozen (R459, R462, R466). -/
abbrev readyEntry (s : State) (slot action : Nat) (e : SchedEntry) : Prop :=
  entryAt s slot = some e ∧ e.action = action ∧ isDue s e = true ∧ batchOf s e = [e] ∧ overtakes s { e with order := 0 } = false ∧
  s.frozen = false

/-- The voter's result (R505). -/
abbrev voteF : List Fld := [R.VOTE_STAT.STATE, R.VOTE_STAT.EXCLUDED, R.VOTE_STAT.CAUSE]
/-- The scrubber of a memory checks a word now: it is on and clocked, and 2^SCRUB_LOG2 cycles of its clock have passed (R487). -/
def scrubDue (s : State) (dom : Bool) (i : Nat) : Bool :=
  let n := 2 ^ max 4 (s.get R.MEM_CTRL.SCRUB_LOG2)
  scrubbed s dom i &&
    decide ((if dom then muxNs s (domMux s i) n else some (ctlNs s n)).getD 0 ≤ s.age (.scrub (if dom then 10 + i else i)))

/-- An instruction runs now: the channels run and none waits or is halted, no step of the debugger is under way, and no exception
is due before it on any channel that carries control (R518, R520, R532, R633). -/
abbrev Ready (s : State) : Prop :=
  mayRun s = true ∧ s.host.step = false ∧ ∀ m < 3, m ≠ excludedChan s → dueTrap s (chan s m) = none
/-- `p` holds on every channel that carries control. -/
abbrev OnLive (s : State) (p : Chan → Prop) : Prop := ∀ m < 3, m ≠ excludedChan s → p (chan s m)
/-- The control complex is the same but for its channels, CYCLE, and the wake condition, which is spent. -/
def CtlSame (s t : State) : Prop :=
  t.ctl.evSeen = false ∧
  { t.ctl with chans := s.ctl.chans, cycles := s.ctl.cycles, evSeen := s.ctl.evSeen } = s.ctl
/-- Every channel that carries control did `f`, in `n` cycles, which TSLICE counted at task level and CYCLE counted (R512, R527);
an excluded channel stands still. -/
def RanIn (s t : State) (n : Nat) (f : Chan → Chan) : Prop :=
  (∀ m < 3, chan t m = if m = excludedChan s then chan s m else (f (chan s m)).spend (chan s m).task n) ∧
  t.ctl.cycles = (s.ctl.cycles + n) % 2 ^ 48
/-- The same, and nothing else of the device changed but counters of events. -/
def RanAs (s t : State) (n : Nat) (f : Chan → Chan) : Prop := RanIn s t n f ∧ CtlSame s t ∧ Keeps s t [] [.perf] [.ctl, .wake]
/-- Every channel that carries control took an exception for the instruction word `insn`, in two cycles, and nothing else changed
(R518, R519). -/
def Trapped (s t : State) (insn : Nat) (f : Chan → Trap) : Prop :=
  (∀ m < 3, chan t m =
    if m = excludedChan s then chan s m else ((chan s m).spend (chan s m).task 2).enter (f (chan s m)) insn) ∧
  t.ctl.cycles = (s.ctl.cycles + 2) % 2 ^ 48 ∧ CtlSame s t ∧ Keeps s t [] [] [.ctl, .wake]
/-- The address of the instruction plus four times a signed offset, modulo 2^32 (R526). -/
def targetOf (c : Chan) (off : Int) : Nat := (((c.pc : Int) + 4 * off) % 2 ^ 32).toNat
/-- The state in which an instruction presents its access: the wake condition is spent. -/
def presented (s : State) : State := { s with ctl := { s.ctl with evSeen := false } }
/-- The snapshots of wide results are the same. -/
def SnapsSame (s t : State) : Prop := ∀ k, t.ctl.snaps.get k = s.ctl.snaps.get k
/-- The task or the supervisor may load `n` bytes at `a` from the SRAM that holds them (R514). -/
def mayLoad (c : Chan) (a n : Nat) : Bool :=
  a % n == 0 && ((inProg a n && (!c.task || c.inTcode a n)) || (inData a n && (!c.task || c.inTdata a n)))
/-- It may store `n` bytes at `a` in the SRAM that holds them (R514, R517). -/
def mayStore (c : Chan) (a n : Nat) : Bool :=
  a % n == 0 && ((inProg a n && !c.task && (!c.inRunBank a || decide (c.taskArea ≤ a))) || (inData a n && (!c.task || c.inTdata a n)))
/-- No region that a task is allowed holds the address (R514). -/
def outside (c : Chan) (a n : Nat) : Bool :=
  c.task && a % n == 0 && !(inProg a n && c.inTcode a n) && !(inData a n && c.inTdata a n) && !inQueue a && !inRegs a
/-- The control complex is the same but for its channels, CYCLE, snapshots, and what WFE waits for. -/
def CtlRest (s t : State) : Prop :=
  { t.ctl with chans := s.ctl.chans, cycles := s.ctl.cycles, evSeen := s.ctl.evSeen, snaps := s.ctl.snaps, wfe := s.ctl.wfe,
               wakeLatch := s.ctl.wakeLatch } = s.ctl

/-- The blocks that switching off a domain may reach: those of switched domains, the clocks, and PWR (R587). -/
def offB : List Blk := allBlks.filter (fun b => decide (5 ≤ blkDom b)) ++ [.pwr, .clk]
/-- The other pieces that it may reach. -/
abbrev offP : List Part := linkP ++ [.shadow, .named, .pwr, .clk] ++
  [Carrier.A, .B].flatMap (fun c => [.tx c, .conv c, .rx c, .dawn c, .fec c, .frm c, .ciph c])

/-- The Ubant port answers an acknowledge code; DATA is free (R630; log entry 7). -/
abbrev Says (t : State) (ack : Nat) : Prop := t.host.ubOut / 2 ^ 32 = ack
/-- The channels execute and no RESYNC is under way, so that a halt takes effect (R633). -/
abbrev canHalt (s : State) : Prop := ctlRuns s = true ∧ halted s = false

/-- The commands that are instructions of a program, but for ERET. -/
def isInstruction : Instr → Bool
  | .add .. | .sub .. | .and .. | .ior .. | .xor .. | .shl .. | .shr .. | .asr .. | .cls .. | .clu .. | .andn ..
  | .mins .. | .maxs .. | .mul .. | .mhs .. | .mhu .. | .srd .. | .swr .. | .syscall .. | .fence .. | .wfe ..
  | .vchk .. | .callr .. | .addk .. | .andk .. | .iork .. | .xork .. | .clsk .. | .shlk .. | .shrk .. | .asrk ..
  | .seth .. | .pcr .. | .ldb .. | .ldbz .. | .ldh .. | .ldhz .. | .ldw .. | .fld .. | .stb .. | .sth .. | .stw ..
  | .brEq .. | .brNe .. | .brLts .. | .brLes .. | .brLtu .. | .brLeu .. | .brAny .. | .brNone .. | .go .. | .call ..
  | .atw .. | .commit .. | .launchDawn .. | .launchRpl .. | .mark .. => true
  | _ => false
/-- Every channel's SRAM has the canonical form (log entry 5). -/
abbrev ctlMemWf (s : State) : Prop := s.ctl.chans.length = 3 ∧ s.ctl.chans.all (fun c => Memory.wf c.mem) = true
/-- The channel has just taken an exception: EXC, and PC at the vector of the code in CAUSE (R518, R519). -/
abbrev AtVector (c : Chan) : Prop := c.exc = true ∧ c.pc = (c.sreg 6 + 16 * c.sreg 3) % 2 ^ 32
/-- The ID of an entry of the event queue occurs once (R496). -/
abbrev oncePerId (q : EvQ) : Prop := (q.entries.map Ev.id).Nodup
/-- The source is not locked, or the SEL value is reserved, or a switch is in progress (R427, R429). -/
abbrev selRefused (s : State) (n sel : Nat) : Prop :=
  s.on (R.CLK_MUX.SWITCHING.ix n) = true ∨ sel = 3 ∨ (sel = 1 ∧ n ≠ 0) ∨
  ((sel = 0 ∨ sel = 1) ∧ bitOf (s.get R.CLK_PLL_STAT.LOCK) (muxPll n) = false)
/-- DMA_CTRL with its direction, and the job that START latches (R618; log entry 109). -/
def dmaLatched (s : State) (j : Nat) (dir : Bool) : State :=
  let s := s.setB (R.DMA_CTRL.DIR.ix j) dir
  let jobs : Map DmaJob := Map.put s.host.jobs j (dmaJobOf s j)
  { s with host := { s.host with jobs := jobs } }

/-- The OTUCn frame whose FAS was tested, after the descrambler (R262, R263). -/
def wholeFrame (s : State) (c : Carrier) : List Nat :=
  scramble (otuN s c) (strBytes ((s.frm.get c).rxBits.take (frameLen s c)))
/-- The stream at the next position that the FAS aligner tests while it hunts (R267, R268). -/
def huntedFas (s : State) (c : Carrier) : BitStr := fasSeek (s.frm.get c).rxBits.len (s.frm.get c).rxBits
/-- The anchor block that a received data block begins with (R305). -/
def anchorOf (b : RxBlock) : Nat := ofBe (strBytes (b.bits.take 192))
/-- Bytes of words that belong to a port, each with whether its segment failed. -/
def bytesFor (o : Nat) (ws : List (Nat × List Nat)) (bad : Bool) : List (Nat × Bool) :=
  (ws.filter (fun w => w.1 == o)).flatMap (fun w => w.2.map (fun b => (b, bad)))
/-- Every running port has received its bytes of these words, and no other port anything. -/
def PortsGet (s t : State) (ws : List (Nat × List Nat)) (bad : Bool) : Prop :=
  ∀ o < 24, (t.port o).rxIn = (s.port o).rxIn ++ (if s.on (R.CL_PORT_STAT.RUNNING.ix o) = true then bytesFor o ws bad else [])
/-- A payload word as CIPHER sends it, word `i` of its segment: in clear, zero under an exhausted key, else enciphered (R300, R318, R319). -/
def sentWord (s : State) (c : Carrier) (i : Nat) (w : List Nat) : List Nat :=
  if s.onC c R.CIPH_CFG.TX_CLEAR = true then w
  else if s.onC c R.CIPH_STAT.TX_KEYX = true then w.map (fun _ => 0)
  else
    let k := (s.ciph.get c).slots.getD (s.ciph.get c).segSlot .empty
    gcmBlock (aesKeys k.key) (segIv k.salt (s.ciph.get c).segCtr (txSrc s c)) i w
/-- The tag of the segment in progress: 0 for one that is not enciphered (R301, R304, R318, R319). -/
def sentTag (s : State) (c : Carrier) : Nat :=
  if s.onC c R.CIPH_CFG.TX_CLEAR = true ∨ s.onC c R.CIPH_STAT.TX_KEYX = true then 0
  else
    let k := (s.ciph.get c).slots.getD (s.ciph.get c).segSlot .empty
    gcmTag (aesKeys k.key) (segIv k.salt (s.ciph.get c).segCtr (txSrc s c)) (s.ciph.get c).segText
/-- No segment follows the one that ends: CIPHER stops, or a Dawn burst has sent its last frame (R320, R322). -/
def lastSegment (s : State) (c : Carrier) : Bool :=
  (s.stopping (.cipher c) && ciphDrained s c) || (s.mode c == mDAWNTX && (s.frm.get c).txLeft == 0 && (s.frm.get c).txQ.isEmpty)
/-- The lane on which the next block of a port's stream comes in. -/
def nextLane (s : State) (k : Nat) : Nat := rxLaneOf s k ((pp s k).rxAt % streamLanes s k)
/-- The header of that block does not cost a store lane its alignment (R394). -/
def lockKept (s : State) (k w : Nat) : Bool :=
  isPeer k || laneAlign s (nextLane s k) != 4 || hdrValid (podHears s k w / 2 ^ 128 % 16) ||
    decide ((ln s (nextLane s k)).wbad < 31)

end Sys2Proof.Spec

open Sys2Proof Sys2Proof.Machine Sys2Proof.Spec

/-- With HOST_LOCK at 0, a 32-bit write by the host or the Ubant port (REGISTER_WRITE) to a register of FEC past the block
header, which is reached, answers a next state in which every RW field that is not STAGED holds its part of the word, where
FEC is stopped or the register has no HALTED field; every RW STAGED field keeps its active value and reads its part of the
word (the shadow copy); every W1C field has the bits written as 1 cleared; every other field reads as before. So does a
control write that the channels present alike with a voting majority, HOST_LOCK or not; a control write and a host write of
the same register in one cycle leave the word of the host, and clear the bits of both. Nothing but those fields and the
shadow copies changes. A write to a register that is not reached, and one of another size than 32 bits, changes no register
of the block and is recorded with a bus error (in HOST_ERR for the host). While FEC runs, a write that gives a HALTED field
another value leaves every HALTED field of the register as it is, sets CFG_DISCARD and raises EV_CFG_BUSY with the address.
Every write request to any address, by voted control, host, Ubant or two of them in a cycle, answers a next state with the
same commands waiting and the same AON time. -/
def Obligations.RegisterWriteByAccessCode : Prop :=
  ∀ (s : State),
    (∀ (c : Carrier) (a x : Nat), x < 2 ^ 32 → a / 0x10000 * 0x10000 = blkBase (.fec c) → a % 4 = 0 → s.dev ≠ 0 → reachable s (.fec c) a = true → s.on (resettingF (.fec c)) = false → s.on R.SYS_CTRL.HOST_LOCK = false → 16 ≤ a % 0x10000 → (∀ f ∈ fieldsAt (.fec c) a, f.upd = .halted → s.running (.fec c) = false) → 
      Does (.registerWrite (.single false 4 a x)) s fun t =>
        (∀ f ∈ fieldsAt (.fec c) a,
          (f.acc = .rw → f.upd ≠ .staged → t.get f = fieldOf f x) ∧
          (f.acc = .rw → f.upd = .staged → t.staged f = fieldOf f x ∧ t.get f = s.get f) ∧
          (f.acc = .w1c → t.get f = (s.get f ||| fieldOf f x) ^^^ fieldOf f x)) ∧
        Keeps s t ((fieldsAt (.fec c) a).filter (fun f => f.acc == .w1c || f.acc == .rw && f.upd != .staged)) [] [.shadow]) ∧
    (∀ (c : Carrier) (a x : Nat), x < 2 ^ 32 → a / 0x10000 * 0x10000 = blkBase (.fec c) → a % 4 = 0 → s.dev ≠ 0 → reachable s (.fec c) a = true → s.on (resettingF (.fec c)) = false → s.on R.SYS_CTRL.HOST_LOCK = false → 16 ≤ a % 0x10000 → s.running (.fec c) = true → ∃ f ∈ fieldsAt (.fec c) a, f.upd = .halted ∧ s.get f ≠ fieldOf f x → 
      Does (.registerWrite (.single false 4 a x)) s fun t =>
        (∀ f ∈ fieldsAt (.fec c) a, f.upd = .halted → t.get f = s.get f) ∧
        t.on (cfgDiscardF (.fec c)) = true ∧ Raised s t E.CFG_BUSY a ∧
        Keeps s t (evF ++ [cfgDiscardF (.fec c)] ++ (fieldsAt (.fec c) a).filter (fun f => f.upd != .halted)) [] (evP.append [.shadow])) ∧
    (∀ (c : Carrier) (a x : Nat), x < 2 ^ 32 → a / 0x10000 * 0x10000 = blkBase (.fec c) → a % 4 = 0 → s.dev ≠ 0 → reachable s (.fec c) a = false → 
      Does (.registerWrite (.single false 4 a x)) s fun t =>
        t.on R.HOST_ERR.VALID = true ∧ t.get R.HOST_ERR.OFFSET = a % 2 ^ 23 ∧
        Raised s t E.BUS_ERR (a % 2 ^ 20 + 2 ^ 20) ∧
        Keeps s t (evF ++ [R.HOST_ERR.VALID, R.HOST_ERR.OFFSET, R.BUS_ERR.COUNT]) [.perf] evP) ∧
    (∀ (c : Carrier) (a x : Nat), x < 2 ^ 32 → a / 0x10000 * 0x10000 = blkBase (.fec c) → a % 4 = 0 → s.dev ≠ 0 → reachable s (.fec c) a = true → s.on (resettingF (.fec c)) = false → 16 ≤ a % 0x10000 → (∀ f ∈ fieldsAt (.fec c) a, f.upd = .halted → s.running (.fec c) = false) → s.on R.SYS_CTRL.HOST_LOCK = false → 
      Does (.registerWrite (.single true 4 a x)) s fun t =>
        (∀ f ∈ fieldsAt (.fec c) a,
          (f.acc = .rw → f.upd ≠ .staged → t.get f = fieldOf f x) ∧
          (f.acc = .rw → f.upd = .staged → t.staged f = fieldOf f x ∧ t.get f = s.get f) ∧
          (f.acc = .w1c → t.get f = (s.get f ||| fieldOf f x) ^^^ fieldOf f x)) ∧
        Keeps s t ((fieldsAt (.fec c) a).filter (fun f => f.acc == .w1c || f.acc == .rw && f.upd != .staged)) [] [.shadow]) ∧
    (∀ (c : Carrier) (a x : Nat), x < 2 ^ 32 → a / 0x10000 * 0x10000 = blkBase (.fec c) → a % 4 = 0 → s.dev ≠ 0 → reachable s (.fec c) a = true → s.on (resettingF (.fec c)) = false → 16 ≤ a % 0x10000 → (∀ f ∈ fieldsAt (.fec c) a, f.upd = .halted → s.running (.fec c) = false) → votes s = true → 2 ≤ (liveChans s).length → 
      Does (.registerWrite (.voted (some (a, x)) (some (a, x)) (some (a, x)))) s fun t =>
        (∀ f ∈ fieldsAt (.fec c) a,
          (f.acc = .rw → f.upd ≠ .staged → t.get f = fieldOf f x) ∧
          (f.acc = .rw → f.upd = .staged → t.staged f = fieldOf f x ∧ t.get f = s.get f) ∧
          (f.acc = .w1c → t.get f = (s.get f ||| fieldOf f x) ^^^ fieldOf f x)) ∧
        Keeps s t ((fieldsAt (.fec c) a).filter (fun f => f.acc == .w1c || f.acc == .rw && f.upd != .staged)) [] [.shadow]) ∧
    (∀ (c : Carrier) (a x y : Nat), x < 2 ^ 32 → a / 0x10000 * 0x10000 = blkBase (.fec c) → a % 4 = 0 → s.dev ≠ 0 → reachable s (.fec c) a = true → s.on (resettingF (.fec c)) = false → 16 ≤ a % 0x10000 → (∀ f ∈ fieldsAt (.fec c) a, f.upd = .halted → s.running (.fec c) = false) → votes s = true → 2 ≤ (liveChans s).length → s.on R.SYS_CTRL.HOST_LOCK = false → 
      Does (.registerWrite (.both (some (a, y)) (some (a, y)) (some (a, y)) a x)) s fun t =>
        (∀ f ∈ fieldsAt (.fec c) a,
          (f.acc = .rw → f.upd ≠ .staged → t.get f = fieldOf f x) ∧
          (f.acc = .rw → f.upd = .staged → t.staged f = fieldOf f x ∧ t.get f = s.get f) ∧
          (f.acc = .w1c → t.get f = (s.get f ||| (fieldOf f y ||| fieldOf f x)) ^^^ (fieldOf f y ||| fieldOf f x))) ∧
        Keeps s t ((fieldsAt (.fec c) a).filter (fun f => f.acc == .w1c || f.acc == .rw && f.upd != .staged)) [] [.shadow]) ∧
    (∀ (ubant : Bool) (size a x : Nat), s.dev ≠ 0 → size ≠ 4 → 
      Does (.registerWrite (.single ubant size a x)) s fun t =>
        Raised s t E.BUS_ERR (a % 2 ^ 20 + 2 ^ 20 * (if ubant = true then 2 else 1)) ∧
        (ubant = false → t.on R.HOST_ERR.VALID = true ∧ t.get R.HOST_ERR.OFFSET = a % 2 ^ 23) ∧
        Keeps s t (evF ++ [R.HOST_ERR.VALID, R.HOST_ERR.OFFSET, R.BUS_ERR.COUNT]) [.perf] evP) ∧
    (∀ (w : WriteReq), 
      Does (.registerWrite w) s fun t => t.pending = s.pending ∧ t.time.aon = s.time.aon)

/-- A read by the Ubant port (READ_CLEAR) of a register of FEC that is reached, holds no wide result and is not the high
word of one answers a next state in which every RC field of the register has its restart value; every other register field
reads as before. A read (WIDE_READ_SNAPSHOT) of the low word of a result wider than 32 bits in CLK or TIME, by any requester
that is let through, leaves the whole value in the snapshot of the access path of the requester and changes no register. A
voted control read goes through in TMR and DUPLEX alone. -/
def Obligations.ReadsClearAndSnapshot : Prop :=
  ∀ (s : State) (a : Nat),
    s.dev ≠ 0 →
    a % 4 = 0 →
    (∀ (c : Carrier) (f : Fld), f ∈ fieldsAt (.fec c) a → f.acc = .rc → a / 0x10000 * 0x10000 = blkBase (.fec c) → 16 ≤ a % 0x10000 → reachable s (.fec c) a = true → s.on (resettingF (.fec c)) = false → wideAt (.fec c) a = false → wideAt (.fec c) (a - 4) = false → 
      Does (.readClear .ubant a) s fun t =>
        t.get f = restartValue s f % 2 ^ f.width ∧
        Keeps s t ((fieldsAt (.fec c) a).filter (fun f => f.acc == .rc)) [] []) ∧
    (∀ (who : Requester) (b : Blk), (b = .clk ∨ b = .time) → regBlk a = some b → wideAt b a = true → (winAt b (a % 0x10000)).isNone = true → reachable s b a = true → (votedBy who = true → votes s = true) → 
      Does (.wideReadSnapshot who a) s fun t => snapOf t (pathOf who) a = regValue s b a ∧ Keeps s t [] [] [.ctl])

/-- SOFT_RESET of a block that stops and is reached answers a next state in which every register field and window word of
the block but SOFT_RESET and RESETTING has its reset value, so RUN and RUNNING read 0, RESETTING reads 1 and the block has
no shadow copy. No register of a block that always runs changes, levels apart. SOFT_RESET_DONE of a block that no DOM_RST
holds clears SOFT_RESET and RESETTING, and where no start of the block waits nothing else but levels changes. COMMIT_REQ of
a block that is reached reads 1, and CP_SEL of a carrier sub-block takes a selection of 0 or 1; in every other block, and at
other selections, CP_SEL keeps its value. COMMIT_TICK of CONV, RXDSP or DAWN with a commit due, the DSP clock running and
the shadow copies listed once each, gives every field of the block that has a shadow copy that copy, empties the shadow and
clears COMMIT_REQ; in CONV and DAWN every other field is as before. With no commit due, or without that clock, it transfers
nothing. -/
def Obligations.SoftResetAndCommits : Prop :=
  ∀ (s : State) (b : Blk),
    (Open s b → alwaysRuns b = false → 
      Does (.softReset b) s fun t =>
        (∀ k, inBlk b k = true → k ≠ (softResetF b).key → k ≠ (resettingF b).key → t.regs.get k = R.resets.get k) ∧
        t.runBit b = false ∧ t.running b = false ∧ t.on (resettingF b) = true ∧ t.commitPending b = false ∧
        Keeps s t lvF (allBlks.filter (fun x => !alwaysRuns x)) (lvP ++ [.shadow, .named, .waiting, .stops, .link, .store] ++
          [Carrier.A, .B].flatMap (fun c => [.tx c, .conv c, .rx c, .dawn c, .fec c, .frm c, .ciph c]))) ∧
    (heldReset s b = false → 
      Does (.softResetDone b) s fun t =>
        t.on (resettingF b) = false ∧ t.on (softResetF b) = false ∧
        (s.waits b = false → Keeps s t (lvF ++ [resettingF b, softResetF b]) [] lvP)) ∧
    (∀ (sel : Nat), Open s b → sel < 4 → 
      Does (.commitReq b sel) s fun t =>
        t.on (commitReqF b) = true ∧
        t.get (cpSelF b) = (if (blkCarrier b).isSome = true ∧ sel < 2 then sel else s.get (cpSelF b)) ∧
        Keeps s t (lvF ++ [commitReqF b, cpSelF b]) [] lvP) ∧
    (∀ (c : Carrier), (b = .conv c ∨ b = .dawn c) → tickRuns s b = true → s.commitDue b = true → s.shadow.sorted = true → 
      Does (.commitTick b) s fun t =>
        (∀ k, inBlk b k = true → k ≠ (commitReqF b).key → t.regs.get k = (s.shadow.find k).getD (s.regs.get k)) ∧
        t.commitPending b = false ∧ t.on (commitReqF b) = false ∧ Keeps s t lvF [b] (lvP.append [.shadow, .named])) ∧
    (∀ (c : Carrier), tickRuns s (.rxdsp c) = true → s.commitDue (.rxdsp c) = true → s.shadow.sorted = true → 
      Does (.commitTick (.rxdsp c)) s fun t =>
        (∀ e ∈ s.shadow, inBlk (.rxdsp c) e.1 = true → e.1 ≠ (commitReqF (.rxdsp c)).key → t.regs.get e.1 = e.2) ∧
        t.commitPending (.rxdsp c) = false ∧ t.on (commitReqF (.rxdsp c)) = false ∧
        Keeps s t lvF [.rxdsp c] (lvP.append [.shadow, .named, .rx c])) ∧
    ((s.commitDue b = false ∨ tickRuns s b = false) → 
      Does (.commitTick b) s fun t => Keeps s t lvF [] lvP)

/-- Outside BOOT, DEFERRED_START of a block with RUN set that waits, neither runs nor stops, is not in SOFT_RESET, and whose
start checks pass (for CONV: with its calibration valid and none in progress), answers a next state in which RUNNING reads 1
and it waits no longer, no register of a block that always runs changing, levels apart; BLOCK_CLOCK_START does the same.
Where the traffic clock is not yet from its PLL, BLOCK_CLOCK_START changes nothing but what levels change (R65, R350, R548).
-/
def Obligations.WaitingBlocksStart : Prop :=
  ∀ (s : State) (b : Blk),
    s.waits b = true →
    s.runBit b = true →
    s.running b = false →
    s.stopping b = false →
    s.dev ≠ stBOOT →
    (startsNow s b = true → s.clockReady b = true → s.on (resettingF b) = false → 
      Does (.deferredStart b) s fun t => t.running b = true ∧ t.waits b = false ∧ t.runBit b = true ∧
        Keeps s t lvF (allBlks.filter (fun x => !alwaysRuns x)) (lvP ++ [.shadow, .named, .waiting, .stops, .link, .store] ++
          [Carrier.A, .B].flatMap (fun c => [.tx c, .conv c, .rx c, .dawn c, .fec c, .frm c, .ciph c]))) ∧
    (startsNow s b = true → s.clockReady b = true → s.on (resettingF b) = false → 
      Does (.blockClockStart b) s fun t => t.running b = true ∧ t.waits b = false ∧ t.runBit b = true ∧
        Keeps s t lvF (allBlks.filter (fun x => !alwaysRuns x)) (lvP ++ [.shadow, .named, .waiting, .stops, .link, .store] ++
          [Carrier.A, .B].flatMap (fun c => [.tx c, .conv c, .rx c, .dawn c, .fec c, .frm c, .ciph c]))) ∧
    (s.clockReady b = false → 
      Does (.blockClockStart b) s fun t => Keeps s t lvF [] lvP)

/-- SYS_RESET with key 0x5EED while SYS is reached and the device is not in THERMAL-OFF, PORST_LOW outside RESET and
THERMAL-OFF, and THERMAL_RESTART in THERMAL-OFF with 10,000 readings below 90 degrees in a row answer a next state in RESET
with RESET_CAUSE 2, 1 and 3; every register field but STATE, RESET_CAUSE and those that RESET keeps reads its reset value,
those that RESET keeps read as before; AON time and the commands that wait are kept. VDD_AON_RISE answers a next state in
RESET with cause 0, AON time 0, and clock-good not yet reported. RESET_EXIT in RESET with PORST_N high, clock-good, the
temperature condition met and 10 us after the entry leaves RESET for BOOT with the straps sampled; otherwise RESET goes on,
with the level of PORST_N noted; outside RESET nothing changes. -/
def Obligations.EntriesToReset : Prop :=
  ∀ (s : State),
    (∀ (key : Nat), Open s .sys → s.dev ≠ stTHERMALOFF → key % 2 ^ 16 = 0x5EED → 
      Does (.sysReset key) s fun t =>
        t.dev = 0 ∧ t.get R.SYS_STATE.RESET_CAUSE = 2 ∧ AfterReset s t ∧ t.time.aon = s.time.aon ∧ t.pending = s.pending) ∧
    (s.dev ≠ 0 → s.dev ≠ stTHERMALOFF → 
      Does .porstLow s fun t =>
        t.dev = 0 ∧ t.get R.SYS_STATE.RESET_CAUSE = 1 ∧ t.pwr.porstLow = true ∧ AfterReset s t ∧ t.time.aon = s.time.aon ∧ t.pending = s.pending) ∧
    (s.dev = stTHERMALOFF → 10000 ≤ s.pwr.cool → 
      Does .thermalRestart s fun t =>
        t.dev = 0 ∧ t.get R.SYS_STATE.RESET_CAUSE = 3 ∧ AfterReset s t ∧ t.time.aon = s.time.aon ∧ t.pending = s.pending) ∧
    (
      Does .vddAonRise s fun t =>
        t.dev = 0 ∧ t.get R.SYS_STATE.RESET_CAUSE = 0 ∧ t.time = .reset ∧ t.clk.good = false ∧ t.on R.CLK_XO_STAT.AMP_OK = false ∧
        t.pending = s.pending) ∧
    (∀ (bootsel pos pref xtd : Nat), s.dev = 0 → s.clk.good = true → coolEnough s = true → 10000 ≤ s.age .hold → 
      Does (.resetExit true bootsel pos pref xtd) s fun t =>
        t.dev = stBOOT ∧ t.pwr.porstLow = false ∧ t.get R.HOST_BOOT.BOOTSEL = bootsel % 2 ^ 2 ∧ t.get R.CLK_XO_STAT.XTD = xtd % 2 ^ 2 ∧
        t.pair.pos = pos % 2 ∧ t.pair.pref = pref % 2 ∧
        Keeps s t lvF [.clk, .hostif, .pwr, .lanes, .pod] (lvP.append [.host, .link, .pwr])) ∧
    (∀ (high : Bool) (bootsel pos pref xtd : Nat), s.dev = 0 → (high = false ∨ s.clk.good = false ∨ coolEnough s = false ∨ s.age .hold < 10000) → 
      Does (.resetExit high bootsel pos pref xtd) s fun t => t.dev = 0 ∧ t.pwr.porstLow = !high ∧ Keeps s t [] [] [.pwr]) ∧
    (∀ (high : Bool) (bootsel pos pref xtd : Nat), s.dev ≠ 0 → 
      Does (.resetExit high bootsel pos pref xtd) s fun t => t = s)

/-- SYS_CMODE_WRITE with SYS reached and every sub-block of the carrier stopped gives MODE, BEXA_BURST and REGEN_XDEV their
bits, and MODE_ERR reads 1 in both registers exactly where the modes clash. NIGHT_REQ in STANDBY enters NIGHT with
NIGHT_BUSY set and WAKE_DONE cleared, the entry begun and RUN clear in every block of a domain that can be switched; in any
other state but RESET, or beaten by a claim grant of its cycle, it raises EV_NIGHT_REFUSED and changes nothing else.
WAKE_REQ in NIGHT after the entry is over returns to STANDBY with the wake begun; during the entry the wake waits. -/
def Obligations.ModesAndNight : Prop :=
  ∀ (s : State),
    Open s .sys →
    (∀ (c : Carrier) (v : Nat), (subBlocks c).any s.running = false → 
      Does (.sysCmodeWrite c v) s fun t =>
        t.mode c = v % 8 ∧ t.get (R.SYS_CMODE.BEXA_BURST.ix c.num) = v / 16 % 2 ∧ t.get (R.SYS_CMODE.REGEN_XDEV.ix c.num) = v / 32 % 2 ∧
        t.modeErr = modesClash t ∧ t.on (R.SYS_CMODE.MODE_ERR.ix 1) = modesClash t ∧ t.mode c.other = s.mode c.other ∧
        Keeps s t (lvF ++ [R.SYS_CMODE.MODE.ix c.num, R.SYS_CMODE.BEXA_BURST.ix c.num, R.SYS_CMODE.REGEN_XDEV.ix c.num, R.SYS_CMODE.MODE_ERR.ix 0,
          R.SYS_CMODE.MODE_ERR.ix 1, R.CIPH_STAT.BYPASS.on .A, R.CIPH_STAT.BYPASS.on .B, R.CIPH_STAT.IN_SYNC.on .A,
          R.CIPH_STAT.IN_SYNC.on .B, R.CL_DUAL.HOLD_NS, R.CL_DUAL.CLAMPED, R.CL_MAP_STAT.SLOTS_TOTAL, R.CLIENT_STAT.MAP_ACTIVE]) [.framer .A, .framer .B, .fec .A, .fec .B, .conv .A, .conv .B] (lvP.append [.frm .A, .frm .B, .fec .A, .fec .B, .ciph .A, .ciph .B])) ∧
    (s.dev = stSTANDBY → 
      Does (.nightReq false) s fun t =>
        t.dev = stNIGHT ∧ t.on R.PWR_STAT.NIGHT_BUSY = true ∧ t.on R.PWR_NIGHT.WAKE_DONE = false ∧ t.pwr.night = 1 ∧
        (∀ b ∈ allBlks, 5 ≤ blkDom b → t.runBit b = false) ∧
        Keeps s t lvF (.pwr :: allBlks.filter (fun b => 5 ≤ blkDom b)) (lvP ++ [.shadow, .named, .waiting, .stops, .link, .store, .pwr] ++
          [Carrier.A, .B].flatMap (fun c => [.tx c, .conv c, .rx c, .dawn c, .fec c, .frm c, .ciph c]))) ∧
    (∀ (beaten : Bool), (s.dev ≠ stSTANDBY ∨ beaten = true) → 
      Does (.nightReq beaten) s fun t => Raised s t E.NIGHT_REFUSED 0 ∧ Keeps s t evF [] evP) ∧
    (s.dev = stNIGHT → s.pwr.night ≠ 1 → 
      Does .wakeReq s fun t =>
        t.dev = stSTANDBY ∧ t.on R.PWR_STAT.NIGHT_BUSY = true ∧ t.pwr.night = 2 ∧ t.pwr.wakePend = false ∧ t.pwr.wakeAt = s.time.aon ∧
        t.get (R.CLK_MUX.SEL.ix 0) = 0) ∧
    (s.dev = stNIGHT → s.pwr.night = 1 → 
      Does .wakeReq s fun t => t.pwr.wakePend = true ∧ Keeps s t [] [] [.pwr])

/-- TX_START of a stopped TX that is reached, outside BOOT and with a good optics record, runs it where its start checks
pass and its clock comes from its PLL (RUNNING 1, CFG_ERR 0, the next FCOUNT 0, no shadow copy left), and sets CFG_ERR with
the code and raises EV_TX_CFG_ERR where a check fails. TX_FRAME_START of a TX that runs, has no stop in progress and has the
clock of its PLL, in CONT, DUAL, REGEN or DIAG, gives TX_FCOUNT the count of the frame, and the next frame the count after
it. TX_RUN_CLEAR of a running TX clears RUN and begins the stop; TX_STOP_DONE with no frame of a burst left ends it: RUNNING
falls, the output is at mute and no burst is in progress. TX_MUTE_WRITE of 1 to a TX that is reached mutes at once and ends
a burst in progress; of 0 it clears MUTE and leaves the output at mute where it is. TX_LAUNCH_BEGIN with the clock takes the
launch that comes next: one that TX does not refuse begins a burst of its frame count, is counted, and the other launches
stay; one that is refused raises EV_TX_LAUNCH_REFUSED with the reason. Without a launch, or without the clock, nothing
changes. Each clause names what else may change. -/
def Obligations.TransmitCommands : Prop :=
  ∀ (s : State) (c : Carrier),
    (Open s (.tx c) → s.dev ≠ stBOOT → idRefuses s (.tx c) = false → s.runBit (.tx c) = false → s.running (.tx c) = false → startsNow s (.tx c) = true → s.clockReady (.tx c) = true → 
      Does (.txStart c) s fun t =>
        t.running (.tx c) = true ∧ t.runBit (.tx c) = true ∧ t.onC c R.TX_STAT.CFG_ERR = false ∧ (t.tx.get c).nextFcount = 0 ∧
        t.commitPending (.tx c) = false ∧
        Keeps s t (lvF ++ [R.CIPH_STAT.IN_SYNC.on c]) [.tx c, .fec c] (lvP.append [.tx c, .fec c, .ciph c, .shadow, .named, .waiting])) ∧
    (Open s (.tx c) → s.dev ≠ stBOOT → idRefuses s (.tx c) = false → s.runBit (.tx c) = false → s.running (.tx c) = false → s.modeErr = false → txCfgCode s c ≠ 0 → 
      Does (.txStart c) s fun t =>
        t.running (.tx c) = false ∧ t.onC c R.TX_STAT.CFG_ERR = true ∧ t.getC c R.TX_STAT.CFG_CODE = txCfgCode s c ∧
        Keeps s t (lvF ++ [runF (.tx c), R.TX_STAT.CFG_ERR.on c, R.TX_STAT.CFG_CODE.on c, R.FEC_STAT.ENC_ACTIVE.on c, R.FEC_STAT.DEC_ACTIVE.on c,
          R.FEC_STAT.ALIGNED.on c, R.CIPH_STAT.IN_SYNC.on c]) [.fec c] (lvP.append [.waiting, .fec c, .ciph c])) ∧
    (s.running (.tx c) = true → s.stopping (.tx c) = false → s.clockReady (.tx c) = true → (s.mode c = mCONT ∨ s.mode c = mDUAL ∨ s.mode c = mREGEN ∨ s.mode c = mDIAG) → 
      Does (.txFrameStart c) s fun t =>
        t.getC c R.TX_FCOUNT.FCOUNT = (s.tx.get c).nextFcount % 2 ^ 24 ∧
        (t.tx.get c).nextFcount = ((s.tx.get c).nextFcount + 1) % 2 ^ 24 ∧
        Keeps s t lvF [.tx c, .fec c, .framer .A, .framer .B, .cipher c] (lvP.append [.tx c, .fec c, .frm .A, .frm .B, .ciph c, .shadow, .named])) ∧
    (Open s (.tx c) → s.runBit (.tx c) = true → s.running (.tx c) = true → 
      Does (.txRunClear c) s fun t =>
        t.runBit (.tx c) = false ∧ t.running (.tx c) = true ∧ t.stopping (.tx c) = true ∧ t.waits (.tx c) = false ∧
        Keeps s t (lvF ++ [runF (.tx c), R.CIPH_STAT.IN_SYNC.on c]) [.fec c] (lvP.append [.fec c, .ciph c, .stops, .waiting])) ∧
    (s.running (.tx c) = true → s.stopping (.tx c) = true → s.getC c R.TX_BURST.FRAMES_LEFT = 0 → 
      Does (.txStopDone c) s fun t =>
        t.running (.tx c) = false ∧ t.stopping (.tx c) = false ∧ t.onC c R.TX_STAT.MUTED = true ∧ t.onC c R.TX_STAT.BURST = false ∧
        Keeps s t (lvF ++ [runningF (.tx c), R.CIPH_STAT.IN_SYNC.on c]) [.fec c] (lvP.append [.fec c, .ciph c, .stops, .waiting])) ∧
    (Open s (.tx c) → 
      Does (.txMuteWrite c true) s fun t =>
        t.onC c R.TX_CTRL.MUTE = true ∧ t.onC c R.TX_STAT.MUTED = true ∧ t.onC c R.TX_STAT.BURST = false ∧
        Keeps s t (lvF ++ [R.TX_CTRL.MUTE.on c]) [] (evP.append [.client, .store, .frm c])) ∧
    (Open s (.tx c) → 
      Does (.txMuteWrite c false) s fun t =>
        t.onC c R.TX_CTRL.MUTE = false ∧ (s.onC c R.TX_STAT.MUTED = true → t.onC c R.TX_STAT.MUTED = true) ∧
        Keeps s t (lvF ++ [R.TX_CTRL.MUTE.on c]) [] (evP.append [.client, .store, .frm c])) ∧
    (∀ (l : Launch), s.clockReady (.tx c) = true → nextLaunch s (s.tx.get c).launches = some l → txLaunchReason s c = 0 → 
      Does (.txLaunchBegin c) s fun t =>
        t.onC c R.TX_STAT.BURST = true ∧ t.getC c R.TX_BURST.FRAMES_LEFT = l.frames % 2 ^ R.TX_BURST.FRAMES_LEFT.width ∧
        t.getC c R.TX_BURST_CNT.LAUNCHES = satTo R.TX_BURST_CNT.LAUNCHES.width (s.getC c R.TX_BURST_CNT.LAUNCHES + 1) ∧
        (t.tx.get c).launches = (s.tx.get c).launches.erase l ∧ (t.tx.get c).nextFcount = 0 ∧
        Keeps s t (R.SCHED_EXEC.EXEC :: evF) [.tx c, .framer .A, .framer .B, .perf] (evP.append [.tx c, .fec c, .frm .A, .frm .B, .ciph c, .sched, .shadow, .named])) ∧
    (∀ (l : Launch), s.clockReady (.tx c) = true → nextLaunch s (s.tx.get c).launches = some l → txLaunchReason s c ≠ 0 → 
      Does (.txLaunchBegin c) s fun t =>
        t.ev = (s.raiseC c E.TX_LAUNCH_REFUSED (txLaunchReason s c)).ev ∧ (t.tx.get c).launches = (s.tx.get c).launches.erase l ∧
        Keeps s t (R.SCHED_EXEC.EXEC :: lvF) [.perf] (evP.append [.tx c, .sched])) ∧
    ((nextLaunch s (s.tx.get c).launches = none ∨ s.clockReady (.tx c) = false) → 
      Does (.txLaunchBegin c) s fun t => t = s)

/-- XO_AMP_CHANGE gives AMP_OK its value, and a fall ends clock-good. CLOCK_GOOD with AMP_OK high for the strap delay, 1 ms
times 4 to the power of XTD, reports clock-good. XO_FAIL with AMP_OK low for 10 us after a clock-good sets XO_FAIL. PLL_LOCK
of a PLL in a domain that is on and with a valid rate sets its lock bit. PLL_UNLOCK of a locked PLL clears its lock bit; for
SYSPLL, MUX0 runs from the crystal. SYSPLL_RELOCK_RETURN after a loss, with SYSPLL locked for 1 ms, returns MUX0 to its
source in SEL. PLL_RATE_CHANGE of a locked PLL with another valid rate clears its lock and moves its muxes to the crystal.
Each clause names what else may change. -/
def Obligations.CrystalAndPlls : Prop :=
  ∀ (s : State),
    (∀ (high : Bool), 
      Does (.xoAmpChange high) s fun t =>
        t.on R.CLK_XO_STAT.AMP_OK = high ∧ t.clk.good = (high && s.clk.good) ∧
        Keeps s t (lvF ++ [R.CLK_XO_STAT.AMP_OK]) [] (lvP.append [.clk])) ∧
    (∀ (xtd : Nat), s.on R.CLK_XO_STAT.AMP_OK = true → 1000000 * 4 ^ (if s.dev = 0 then xtd % 4 else s.get R.CLK_XO_STAT.XTD) ≤ s.age .crystal → 
      Does (.clockGood xtd) s fun t => t.clk.good = true ∧ t.clk.goodOnce = true ∧ Keeps s t lvF [] (lvP.append [.clk])) ∧
    (s.on R.CLK_XO_STAT.AMP_OK = false → s.clk.goodOnce = true → 10000 ≤ s.age .crystal → 
      Does .xoFail s fun t => t.on R.CLK_XO_STAT.XO_FAIL = true ∧ Keeps s t (lvF ++ [R.CLK_XO_STAT.XO_FAIL]) [] lvP) ∧
    (∀ (n : Nat), n < 8 → s.domOn (pllDom n) = true → pllRated s n = true → 
      Does (.pllLock n) s fun t =>
        bitOf (t.get R.CLK_PLL_STAT.LOCK) n = true ∧ Keeps s t (lvF ++ [R.CLK_PLL_STAT.LOCK, R.CLK_MUX.SWITCHING.ix 0]) [] (lvP.append [.clk])) ∧
    (∀ (n : Nat), n < 8 → bitOf (s.get R.CLK_PLL_STAT.LOCK) n = true → 
      Does (.pllUnlock n) s fun t =>
        bitOf (t.get R.CLK_PLL_STAT.LOCK) n = false ∧ (n = 0 → t.get (R.CLK_MUX.CUR.ix 0) = 2 ∧ t.clk.sysLost = true) ∧
        Keeps s t (lvF ++ [R.CLK_PLL_STAT.LOCK, R.CLK_MUX.CUR.ix 0, R.CLK_MUX.SWITCHING.ix 0]) [] (lvP.append [.clk])) ∧
    (s.clk.sysLost = true → bitOf (s.get R.CLK_PLL_STAT.LOCK) 0 = true → 1000000 ≤ s.age .sysPll → 
      Does .syspllRelockReturn s fun t =>
        t.get (R.CLK_MUX.CUR.ix 0) = s.get (R.CLK_MUX.SEL.ix 0) % 2 ^ R.CLK_MUX.CUR.width ∧ t.clk.sysLost = false ∧
        Keeps s t (lvF ++ [R.CLK_MUX.CUR.ix 0, R.CLK_MUX.SWITCHING.ix 0]) [] (lvP.append [.clk])) ∧
    (∀ (n : Nat), n < 8 → bitOf (s.get R.CLK_PLL_STAT.LOCK) n = true → pllRate s n ≠ 0 → s.clk.rates.get n ≠ pllRate s n → 
      Does (.pllRateChange n) s fun t =>
        bitOf (t.get R.CLK_PLL_STAT.LOCK) n = false ∧ (∀ m ∈ pllMuxes n, t.get (R.CLK_MUX.CUR.ix m) = 2) ∧
        t.clk.rates.get n = pllRate s n ∧ Keeps s t (lvF ++ muxF ++ [R.CLK_PLL_STAT.LOCK]) [] (lvP.append [.clk]))

/-- REFSEL_ACCEPT of another reference selects it and raises EV_REF_SWITCH; LOCKED goes on with the phase measured and
SWITCHES counted where the reference is qualified, else to DUSK with DUSK_ENTRIES and EV_DUSK where HIST_VALID is set, else
to FREERUN; DUSK measures the phase of a qualified one and counts another entry for one that is not; from FREERUN and
ACQUIRE a qualified one gives ACQUIRE, another FREERUN. REFSEL_ACCEPT of the selected reference changes nothing.
REF_MEASUREMENT 100 ms after the last one, crystal not failed, records in its register the offset that the count of a
monitored Reference A gives. REF_LOA of a monitored reference (for the PTP reference: while its offset is not valid),
crystal not failed, sets LOA and HARD_OUT and clears QUAL. REF_MONITOR_RESTART, CLK being reached, takes EN and FREQ_HZ,
sets HARD_OUT and clears SOFT_OUT and QUAL. DPLL_LOCK 1 s into ACQUIRE enters LOCKED and raises EV_DPLL_LOCK.
DPLL_HIST_VALID after HOLD_AVG in LOCKED sets HIST_VALID. DPLL_PHASE_ABSORB_DONE ends the measurement with its phase in
CLK_PHASE; from DUSK the DPLL is LOCKED again. Each clause names what else may change. -/
def Obligations.ReferencesAndDpll : Prop :=
  ∀ (s : State),
    (∀ (sel : Nat), sel < 4 → s.get R.CLK_DPLL_STAT.SEL ≠ sel → s.get R.CLK_DPLL_STAT.STATE = pLOCKED → refQual s sel = true → 
      Does (.refselAccept sel) s fun t =>
        t.get R.CLK_DPLL_STAT.SEL = sel ∧ t.clk = { s.clk with absorbing := true } ∧
        t.get R.CLK_CNT.SWITCHES = satTo R.CLK_CNT.SWITCHES.width (s.get R.CLK_CNT.SWITCHES + 1) ∧
        Raised s t E.REF_SWITCH (sel + 16 * s.get R.CLK_DPLL_STAT.SEL) ∧
        Keeps s t ([R.CLK_DPLL_STAT.SEL, R.CLK_CNT.SWITCHES] ++ evF) [] (evP.append [.clk])) ∧
    (∀ (sel : Nat), sel < 4 → s.get R.CLK_DPLL_STAT.SEL ≠ sel → s.get R.CLK_DPLL_STAT.STATE = pLOCKED → refQual s sel = false → s.on R.CLK_DPLL_STAT.HIST_VALID = true → 
      Does (.refselAccept sel) s fun t =>
        t.get R.CLK_DPLL_STAT.SEL = sel ∧ t.get R.CLK_DPLL_STAT.STATE = pDUSK ∧ bitOf (t.get R.CLK_PLL_STAT.LOCK) 8 = false ∧
        t.clk = { s.clk with absorbing := false } ∧
        t.get R.CLK_CNT.DUSK_ENTRIES = satTo R.CLK_CNT.DUSK_ENTRIES.width (s.get R.CLK_CNT.DUSK_ENTRIES + 1) ∧
        t.ev = ((s.raise E.REF_SWITCH (sel + 16 * s.get R.CLK_DPLL_STAT.SEL)).raise E.DUSK 1).ev ∧
        Keeps s t ([R.CLK_DPLL_STAT.SEL, R.CLK_DPLL_STAT.STATE, R.CLK_PLL_STAT.LOCK, R.CLK_DUSK_FREQ.FREQ, R.CLK_CNT.DUSK_ENTRIES] ++ evF) []
          (evP.append [.clk, .freeCtr])) ∧
    (∀ (sel : Nat), sel < 4 → s.get R.CLK_DPLL_STAT.SEL ≠ sel → s.get R.CLK_DPLL_STAT.STATE = pLOCKED → refQual s sel = false → s.on R.CLK_DPLL_STAT.HIST_VALID = false → 
      Does (.refselAccept sel) s fun t =>
        t.get R.CLK_DPLL_STAT.SEL = sel ∧ t.get R.CLK_DPLL_STAT.STATE = pFREERUN ∧ bitOf (t.get R.CLK_PLL_STAT.LOCK) 8 = false ∧
        Raised s t E.REF_SWITCH (sel + 16 * s.get R.CLK_DPLL_STAT.SEL) ∧
        Keeps s t ([R.CLK_DPLL_STAT.SEL, R.CLK_DPLL_STAT.STATE, R.CLK_PLL_STAT.LOCK] ++ evF) [] (evP.append [.clk])) ∧
    (∀ (sel : Nat), sel < 4 → s.get R.CLK_DPLL_STAT.SEL ≠ sel → s.get R.CLK_DPLL_STAT.STATE = pDUSK → refQual s sel = true → 
      Does (.refselAccept sel) s fun t =>
        t.get R.CLK_DPLL_STAT.SEL = sel ∧ t.clk = { s.clk with absorbing := true } ∧ Raised s t E.REF_SWITCH (sel + 16 * s.get R.CLK_DPLL_STAT.SEL) ∧
        Keeps s t (R.CLK_DPLL_STAT.SEL :: evF) [] (evP.append [.clk])) ∧
    (∀ (sel : Nat), sel < 4 → s.get R.CLK_DPLL_STAT.SEL ≠ sel → s.get R.CLK_DPLL_STAT.STATE = pDUSK → refQual s sel = false → 
      Does (.refselAccept sel) s fun t =>
        t.get R.CLK_DPLL_STAT.SEL = sel ∧ t.clk = { s.clk with absorbing := false } ∧
        t.get R.CLK_CNT.DUSK_ENTRIES = satTo R.CLK_CNT.DUSK_ENTRIES.width (s.get R.CLK_CNT.DUSK_ENTRIES + 1) ∧
        t.ev = (((s.raise E.REF_SWITCH (sel + 16 * s.get R.CLK_DPLL_STAT.SEL)).raise E.DUSK 0).raise E.DUSK 1).ev ∧
        Keeps s t ([R.CLK_DPLL_STAT.SEL, R.CLK_CNT.DUSK_ENTRIES] ++ evF) [] (evP.append [.clk])) ∧
    (∀ (sel : Nat), sel < 4 → s.get R.CLK_DPLL_STAT.SEL ≠ sel → (s.get R.CLK_DPLL_STAT.STATE = pFREERUN ∨ s.get R.CLK_DPLL_STAT.STATE = pACQUIRE) → 
      Does (.refselAccept sel) s fun t =>
        t.get R.CLK_DPLL_STAT.SEL = sel ∧ t.get R.CLK_DPLL_STAT.STATE = (if refQual s sel = true then pACQUIRE else pFREERUN) ∧
        Raised s t E.REF_SWITCH (sel + 16 * s.get R.CLK_DPLL_STAT.SEL) ∧
        Keeps s t ([R.CLK_DPLL_STAT.SEL, R.CLK_DPLL_STAT.STATE, R.CLK_DPLL_STAT.HIST_VALID, R.CLK_PLL_STAT.LOCK] ++ evF) [] (evP.append [.marks])) ∧
    (∀ (sel : Nat), sel < 4 → s.get R.CLK_DPLL_STAT.SEL = sel → 
      Does (.refselAccept sel) s fun t => t = s) ∧
    (∀ (m : Nat × Bool) (ms : List (Nat × Bool)), 100000000 ≤ s.age .refs → s.on (R.CLK_REF_CFG.EN.ix 0) = true → s.on R.CLK_XO_STAT.XO_FAIL = false → 
      Does (.refMeasurement (m :: ms)) s fun t =>
        t.get (R.CLK_MON.OFFSET.ix 0) = ofSigned 24 (clampSigned 24 (refOffset s 0 m.1)) % 2 ^ 24 ∧
        Keeps s t evF [.clk] (evP.append [.clk, .freeCtr, .marks])) ∧
    (∀ (r : Nat), r < 4 → if r = 3 then s.on (R.TD_CTRL.VALID.ix 0) = false else s.on (R.CLK_REF_CFG.EN.ix r) = true → s.on R.CLK_XO_STAT.XO_FAIL = false → 
      Does (.refLoa r) s fun t =>
        t.on (R.CLK_MON.LOA.ix r) = true ∧ t.on (R.CLK_MON.HARD_OUT.ix r) = true ∧ t.on (R.CLK_MON.QUAL.ix r) = false ∧
        Keeps s t evF [.clk] (evP.append [.clk, .freeCtr])) ∧
    (∀ (r : Nat) (en : Bool) (freq : Nat), r < 3 → Open s .clk → 
      Does (.refMonitorRestart r en freq) s fun t =>
        t.on (R.CLK_REF_CFG.EN.ix r) = en ∧ t.get (R.CLK_REF_CFG.FREQ_HZ.ix r) = freq % 2 ^ R.CLK_REF_CFG.FREQ_HZ.width ∧
        t.on (R.CLK_MON.HARD_OUT.ix r) = true ∧ t.on (R.CLK_MON.SOFT_OUT.ix r) = false ∧ t.on (R.CLK_MON.QUAL.ix r) = false ∧
        Keeps s t evF [.clk] (evP.append [.clk, .freeCtr])) ∧
    (s.get R.CLK_DPLL_STAT.STATE = pACQUIRE → 1000000000 ≤ s.age .acquire → 
      Does .dpllLock s fun t =>
        t.get R.CLK_DPLL_STAT.STATE = pLOCKED ∧ bitOf (t.get R.CLK_PLL_STAT.LOCK) 8 = true ∧ Raised s t E.DPLL_LOCK 0 ∧
        Keeps s t (evF ++ [R.CLK_DPLL_STAT.STATE, R.CLK_PLL_STAT.LOCK]) [] (evP.append [.marks])) ∧
    (s.get R.CLK_DPLL_STAT.STATE = pLOCKED → holdAvg s ≤ s.age .locked → 
      Does .dpllHistValid s fun t => t.on R.CLK_DPLL_STAT.HIST_VALID = true ∧ Keeps s t [R.CLK_DPLL_STAT.HIST_VALID] [] []) ∧
    (∀ (ps : Int), s.clk.absorbing = true → 
      Does (.dpllPhaseAbsorbDone ps) s fun t =>
        t.get R.CLK_PHASE.PHASE_PS = ofSigned 32 ps % 2 ^ 32 ∧ t.clk.absorbing = false ∧
        (s.get R.CLK_DPLL_STAT.STATE = pDUSK → t.get R.CLK_DPLL_STAT.STATE = pLOCKED) ∧ Keeps s t evF [.clk] (evP.append [.clk, .marks]))

/-- CLK_MUX_SEL_WRITE, CLK being reached, of a source that is ready, with no switch in progress (and, for MUX0, SYSPLL not
lost) takes SEL, and SWITCHING reads 1 exactly where SEL differs from CUR; with a switch in progress or a source that is not
ready SEL_REJ is set and SEL kept. MUX_CHANGEOVER of a mux that switches, is not stalled and has its source ready runs it
from SEL. MUX_STALL of a mux other than MUX0 that switches to a source that is ready sets MUX_STALL. MUX_FORCE under DOM_RST
runs the mux from SEL and clears its stall. FMEAS_START sets BUSY; FMEAS_DONE with the gate time over and the clock of the
gate running clears BUSY, gives COUNT the count (0 where the clock stands still, the gate length where SRC is the clock of
the gate) and raises EV_FMEAS_DONE with SRC. Each clause names what else may change. -/
def Obligations.MuxesAndFrequencyCounter : Prop :=
  ∀ (s : State),
    (∀ (n sel : Nat), n < 8 → sel < 4 → Open s .clk → s.on (R.CLK_MUX.SWITCHING.ix n) = false → sourceReady s n sel = true → (n = 0 → s.clk.sysLost = false) → 
      Does (.clkMuxSelWrite n sel) s fun t =>
        t.get (R.CLK_MUX.SEL.ix n) = sel ∧ t.on (R.CLK_MUX.SWITCHING.ix n) = (sel != s.get (R.CLK_MUX.CUR.ix n)) ∧
        Keeps s t (lvF ++ [R.CLK_MUX.SEL.ix n, R.CLK_MUX.SWITCHING.ix n]) [] lvP) ∧
    (∀ (n sel : Nat), n < 8 → sel < 4 → Open s .clk → (s.on (R.CLK_MUX.SWITCHING.ix n) = true ∨ sourceReady s n sel = false) → 
      Does (.clkMuxSelWrite n sel) s fun t =>
        t.on (R.CLK_MUX.SEL_REJ.ix n) = true ∧ Keeps s t (lvF ++ [R.CLK_MUX.SEL_REJ.ix n]) [] lvP) ∧
    (∀ (n : Nat), n < 8 → s.on (R.CLK_MUX.SWITCHING.ix n) = true → s.on (R.CLK_MUX.MUX_STALL.ix n) = false → sourceReady s n (s.get (R.CLK_MUX.SEL.ix n)) = true → (n = 0 → s.clk.sysLost = false) → 
      Does (.muxChangeover n) s fun t =>
        t.get (R.CLK_MUX.CUR.ix n) = s.get (R.CLK_MUX.SEL.ix n) % 4 ∧ t.on (R.CLK_MUX.SWITCHING.ix n) = false ∧
        Keeps s t (lvF ++ [R.CLK_MUX.CUR.ix n, R.CLK_MUX.SWITCHING.ix n]) [] lvP) ∧
    (∀ (n : Nat), 0 < n → n < 8 → s.on (R.CLK_MUX.SWITCHING.ix n) = true → sourceReady s n (s.get (R.CLK_MUX.SEL.ix n)) = true → 
      Does (.muxStall n) s fun t =>
        t.on (R.CLK_MUX.MUX_STALL.ix n) = true ∧ Keeps s t (lvF ++ [R.CLK_MUX.MUX_STALL.ix n]) [] lvP) ∧
    (∀ (n : Nat), 0 < n → n < 8 → Open s .clk → s.on (R.CLK_MUX.DOM_RST.ix n) = true → 
      Does (.muxForce n) s fun t =>
        t.get (R.CLK_MUX.CUR.ix n) = s.get (R.CLK_MUX.SEL.ix n) % 4 ∧ t.on (R.CLK_MUX.MUX_STALL.ix n) = false ∧
        t.on (R.CLK_MUX.SWITCHING.ix n) = false ∧
        Keeps s t (lvF ++ [R.CLK_MUX.CUR.ix n, R.CLK_MUX.SWITCHING.ix n, R.CLK_MUX.MUX_STALL.ix n]) [] lvP) ∧
    (Open s .clk → 
      Does .fmeasStart s fun t =>
        t.on R.FMEAS_CTRL.BUSY = true ∧ Keeps s t [R.FMEAS_CTRL.BUSY, R.FMEAS_CTRL.START] [] [.marks]) ∧
    (∀ (count : Nat), s.on R.FMEAS_CTRL.BUSY = true → gateStopped s = false → gateNs s ≤ s.age .gate → 
      Does (.fmeasDone count) s fun t =>
        t.on R.FMEAS_CTRL.BUSY = false ∧
        t.get R.FMEAS.COUNT = gateCount s (s.get R.FMEAS_CTRL.SRC) count % 2 ^ R.FMEAS.COUNT.width ∧
        Raised s t E.FMEAS_DONE (s.get R.FMEAS_CTRL.SRC) ∧
        Keeps s t (evF ++ [R.FMEAS_CTRL.BUSY, R.FMEAS_CTRL.START, R.FMEAS.COUNT]) [] (evP.append [.ctl]))

/-- CONV_START of a stopped CONV that is reached, outside BOOT, with a good optics record, start checks that pass and its
clock from its PLL runs its enabled parts where the calibration is valid and none is in progress; without a valid one it
begins foreground calibration (FG_BUSY), RUNNING staying 0. CONV_RUN_CLEAR clears RUN, RUNNING, BG_BUSY and both parts.
FG_START while stopped sets FG_BUSY; while CONV runs it is discarded. FG_CAL_DONE sets CAL_VALID, clears FG_BUSY, and lets
RUNNING rise where it belongs to a start. BG_START while CONV runs with background calibration on begins a pass, or is kept
in BG_PENDING during one. BG_PASS_END with no slice off line takes T_LAST from the start of the pass, clears BG_PENDING, and
begins the next pass exactly where one was pending or passes are continuous. BG_ROUND_END with a small residual moves
SHADOW_IN to MEASURE and ends VERIFY. BG_MEASURE_DONE with light and two runs that agree puts the slice on their mean; with
runs that do not agree the slice keeps its old trims, its ADC its fail bit, and VERIFY follows. Each clause names what else
may change. -/
def Obligations.ConverterRunAndCalibration : Prop :=
  ∀ (s : State) (c : Carrier),
    (Open s (.conv c) → s.dev ≠ stBOOT → idRefuses s (.conv c) = false → s.runBit (.conv c) = false → s.running (.conv c) = false → startsNow s (.conv c) = true → s.clockReady (.conv c) = true → 
      Does (.convStart c) s fun t =>
        t.running (.conv c) = true ∧ t.runBit (.conv c) = true ∧ t.onC c R.CONV_STAT.CFG_ERR = false ∧
        t.onC c R.CONV_STAT.ADC_ACTIVE = t.onC c R.CONV_CTRL.ADC_EN ∧ t.onC c R.CONV_STAT.DAC_ACTIVE = t.onC c R.CONV_CTRL.DAC_EN ∧
        Keeps s t (lvF ++ [R.CIPH_STAT.IN_SYNC.on c]) [.conv c, .fec c] (lvP.append [.conv c, .fec c, .ciph c, .shadow, .named, .waiting])) ∧
    (Open s (.conv c) → s.dev ≠ stBOOT → idRefuses s (.conv c) = false → s.runBit (.conv c) = false → s.running (.conv c) = false → s.modeErr = false → convCfgCode s c = 0 → s.clockReady (.conv c) = true → s.onC c R.CONV_STAT.CAL_VALID = false → 
      Does (.convStart c) s fun t =>
        t.running (.conv c) = false ∧ t.onC c R.CONV_STAT.FG_BUSY = true ∧ (t.conv.get c).fgForStart = true ∧
        Keeps s t (lvF ++ [R.CIPH_STAT.IN_SYNC.on c]) [.conv c, .fec c] (lvP.append [.conv c, .fec c, .ciph c, .shadow, .named, .waiting])) ∧
    (Open s (.conv c) → s.runBit (.conv c) = true → 
      Does (.convRunClear c) s fun t =>
        t.runBit (.conv c) = false ∧ t.running (.conv c) = false ∧ t.onC c R.CONV_STAT.BG_BUSY = false ∧
        t.onC c R.CONV_STAT.ADC_ACTIVE = false ∧ t.onC c R.CONV_STAT.DAC_ACTIVE = false ∧ Keeps s t (lvF ++ [R.CIPH_STAT.IN_SYNC.on c]) [.conv c, .fec c] (lvP.append [.conv c, .fec c, .ciph c, .shadow, .named, .waiting])) ∧
    (Open s (.conv c) → s.running (.conv c) = false → 
      Does (.fgStart c) s fun t => t.onC c R.CONV_STAT.FG_BUSY = true ∧ Keeps s t [R.CONV_STAT.FG_BUSY.on c] [] [.conv c]) ∧
    (Open s (.conv c) → s.running (.conv c) = true → 
      Does (.fgStart c) s fun t =>
        t.on (cfgDiscardF (.conv c)) = true ∧ Raised s t E.CFG_BUSY (R.CAL_CTRL.FG_START.on c).addr ∧
        Keeps s t (evF ++ [cfgDiscardF (.conv c)]) [] evP) ∧
    (∀ (runs : List (Trim × Trim)), s.onC c R.CONV_STAT.FG_BUSY = true → 
      Does (.fgCalDone c runs) s fun t =>
        t.onC c R.CONV_STAT.CAL_VALID = true ∧ t.onC c R.CONV_STAT.FG_BUSY = false ∧
        ((s.conv.get c).fgForStart = true → s.runBit (.conv c) = true → t.running (.conv c) = true) ∧ Keeps s t (lvF ++ [R.CIPH_STAT.IN_SYNC.on c]) [.conv c, .fec c] (lvP.append [.conv c, .fec c, .ciph c, .shadow, .named, .waiting])) ∧
    (Open s (.conv c) → s.running (.conv c) = true → bgOn s c = true → s.onC c R.CONV_STAT.BG_BUSY = false → 
      Does (.bgStart c) s fun t => t.onC c R.CONV_STAT.BG_BUSY = true ∧ Keeps s t [R.CONV_STAT.BG_BUSY.on c] [] [.conv c]) ∧
    (Open s (.conv c) → s.running (.conv c) = true → bgOn s c = true → s.onC c R.CONV_STAT.BG_BUSY = true → 
      Does (.bgStart c) s fun t => t.onC c R.CONV_STAT.BG_PENDING = true ∧ Keeps s t [R.CONV_STAT.BG_PENDING.on c] [] []) ∧
    (∀ (dac : List (Trim × Trim)), s.onC c R.CONV_STAT.BG_BUSY = true → (s.conv.get c).adc.any offLine = false → 
      Does (.bgPassEnd c dac) s fun t =>
        (t.conv.get c).tLast = (s.conv.get c).tStart ∧ t.onC c R.CONV_STAT.BG_PENDING = false ∧
        t.onC c R.CONV_STAT.BG_BUSY = (s.running (.conv c) && bgOn s c &&
          (s.onC c R.CONV_STAT.BG_PENDING || s.getC c R.CAL_CTRL.BG_MODE == 2)) ∧ Keeps s t evF [.conv c] (evP.append [.conv c])) ∧
    (∀ (n : Nat) (res : Trim) (a : AdcStep), (s.conv.get c).adc[n]? = some a → a.st = .shadowIn → res.small = true → 
      Does (.bgRoundEnd c n res) s fun t =>
        (t.conv.get c).adc[n]? = some { a with st := .measure, rounds := 0, old := (s.conv.get c).trim (65 * n + a.slot), onNew := false } ∧
        Keeps s t [] [] [.conv c]) ∧
    (∀ (n : Nat) (res : Trim) (a : AdcStep), (s.conv.get c).adc[n]? = some a → a.st = .verify → res.small = true → 
      Does (.bgRoundEnd c n res) s fun t =>
        (∃ b, (t.conv.get c).adc[n]? = some b ∧ b.onNew = false ∧ b.fails = 0 ∧ (a.stopped = false → b.st = .shadowIn ∧ b.slot = (a.slot + 1) % 64)) ∧
        Keeps s t [] [] [.conv c]) ∧
    (∀ (n : Nat) (r1 r2 : Trim) (a : AdcStep), (s.conv.get c).adc[n]? = some a → a.st = .measure → runsAgree (calTol s c) r1 r2 = true → s.onC c R.RXDSP_STAT.LOL = false → 
      Does (.bgMeasureDone c n r1 r2) s fun t =>
        (∃ b, (t.conv.get c).adc[n]? = some b ∧ b.onNew = true ∧ b.new = r1.mean r2 ∧ b.delta = (r1.mean r2).diff a.old) ∧
        (t.conv.get c).applied.get (65 * n + a.slot) = (r1.mean r2).pack ∧ Keeps s t [] [] [.conv c]) ∧
    (∀ (n : Nat) (r1 r2 : Trim) (a : AdcStep), n < 4 → (s.conv.get c).adc[n]? = some a → a.st = .measure → runsAgree (calTol s c) r1 r2 = false → s.onC c R.RXDSP_STAT.LOL = false → 
      Does (.bgMeasureDone c n r1 r2) s fun t =>
        (∃ b, (t.conv.get c).adc[n]? = some b ∧ b.onNew = false ∧ b.st = .verify ∧ b.allOk = false) ∧
        bitOf (t.getC c R.CAL_STAT.ADC_FAIL) n = true ∧ (t.conv.get c).applied = (s.conv.get c).applied ∧
        Keeps s t (evF ++ [R.CAL_STAT.ADC_FAIL.on c, R.CAL_STAT.DAC_FAIL.on c]) [] (evP.append [.conv c]))

/-- RAMP_INTERVAL moves a trim entry outside a step by the sign of what is left, component by component. TRIM_INTERPOLATE in
BANDED recomputes the wanted trims, in VOLATILE nothing changes. MODEL_CHANGE to the other model while CONV is stopped sets
MODEL; while CONV runs it is discarded. CAL_SNAP fills the window with the image and sets BUSY; CAL_SNAP_DONE raises CAL_GEN
by 1 up to its maximum, writes it and the CRC into the image, and clears BUSY. CAL_LOAD while CONV is stopped takes an image
that passes every check and sets BUSY, and rejects another with its code; CAL_LOAD_DONE installs the words of the sets (in
VOLATILE the first set alone) and CAL_GEN, sets CAL_VALID, and clears REJ_CODE, BUSY and the fail bits. ADC_LEVEL_UPDATE
gives ADC 0 its RMS and CLIP. BIAS_STEP moves every bias output one code towards its CODE while the DAC domain is on. Each
clause names what else may change. -/
def Obligations.ConverterTrimsImageAndLevels : Prop :=
  ∀ (s : State) (c : Carrier),
    (∀ (i : Nat), (s.conv.get c).target.sorted = true → (s.conv.get c).applied.sorted = true → ((s.conv.get c).target.find i).isSome = true → (s.conv.get c).inStep i = false → i < 264 → 
      Does (.rampInterval c) s fun t =>
        (t.conv.get c).applied.get i =
          (((s.conv.get c).trim i).add (((Trim.unpack ((s.conv.get c).target.get i)).diff ((s.conv.get c).trim i)).sign)).pack ∧
        Keeps s t [] [] [.conv c]) ∧
    (s.onC c R.CAL_CTRL.MODEL = true → 
      Does (.trimInterpolate c) s fun t => (t.conv.get c).target = wantedTrims s c ∧ Keeps s t [] [] [.conv c]) ∧
    (s.onC c R.CAL_CTRL.MODEL = false → 
      Does (.trimInterpolate c) s fun t => t = s) ∧
    (∀ (banded : Bool), Open s (.conv c) → s.running (.conv c) = false → 
      Does (.modelChange c banded) s fun t => t.onC c R.CAL_CTRL.MODEL = banded ∧ Keeps s t [R.CAL_CTRL.MODEL.on c] [] [.conv c]) ∧
    (∀ (banded : Bool), Open s (.conv c) → s.running (.conv c) = true → s.onC c R.CAL_CTRL.MODEL ≠ banded → 
      Does (.modelChange c banded) s fun t =>
        t.onC c R.CAL_CTRL.MODEL = s.onC c R.CAL_CTRL.MODEL ∧ t.on (cfgDiscardF (.conv c)) = true ∧
        Raised s t E.CFG_BUSY (R.CAL_CTRL.MODEL.on c).addr ∧ Keeps s t (evF ++ [cfgDiscardF (.conv c)]) [] evP) ∧
    (Open s (.conv c) → s.onC c R.CAL_IMG_CTRL.BUSY = false → 
      Does (.calSnap c) s fun t =>
        t.onC c R.CAL_IMG_CTRL.BUSY = true ∧ (∀ w < 803, t.get (imgWord c w) = imgContent s c w % 2 ^ 32) ∧
        Keeps s t (R.CAL_IMG_CTRL.BUSY.on c :: (List.range 803).map (imgWord c)) [] [.conv c]) ∧
    ((s.conv.get c).job = .snap → 
      Does (.calSnapDone c) s fun t =>
        t.onC c R.CAL_IMG_CTRL.BUSY = false ∧ t.getC c R.CAL_GEN.GEN = min (2 ^ 32 - 1) (s.getC c R.CAL_GEN.GEN + 1) ∧
        t.get (imgWord c 2) = t.getC c R.CAL_GEN.GEN ∧ t.get (imgWord c 803) = crc32 (imgBytes t c) % 2 ^ 32 ∧
        Keeps s t [R.CAL_IMG_CTRL.BUSY.on c, R.CAL_GEN.GEN.on c, imgWord c 2, imgWord c 803] [] [.conv c]) ∧
    (Open s (.conv c) → s.running (.conv c) = false → s.onC c R.CONV_STAT.ADC_ACTIVE = false → s.onC c R.CONV_STAT.DAC_ACTIVE = false → s.onC c R.CAL_IMG_CTRL.BUSY = false → calRejCode s c = 0 → 
      Does (.calLoad c) s fun t => t.onC c R.CAL_IMG_CTRL.BUSY = true ∧ (t.conv.get c).job = .load ∧
        Keeps s t [R.CAL_IMG_CTRL.BUSY.on c] [] [.conv c]) ∧
    (Open s (.conv c) → s.running (.conv c) = false → s.onC c R.CONV_STAT.ADC_ACTIVE = false → s.onC c R.CONV_STAT.DAC_ACTIVE = false → s.onC c R.CAL_IMG_CTRL.BUSY = false → calRejCode s c ≠ 0 → 
      Does (.calLoad c) s fun t => t.getC c R.CAL_IMG_CTRL.REJ_CODE = calRejCode s c ∧
        t.ev = (s.raiseC c E.CAL_IMPORT_REJ (calRejCode s c)).ev ∧ Keeps s t (evF ++ [R.CAL_IMG_CTRL.REJ_CODE.on c]) [] evP) ∧
    ((s.conv.get c).job = .load → 
      Does (.calLoadDone c) s fun t =>
        t.onC c R.CONV_STAT.CAL_VALID = true ∧ t.getC c R.CAL_GEN.GEN = s.get (imgWord c 2) % 2 ^ 32 ∧
        t.getC c R.CAL_IMG_CTRL.REJ_CODE = 0 ∧ t.onC c R.CAL_IMG_CTRL.BUSY = false ∧ t.getC c R.CAL_STAT.ADC_FAIL = 0 ∧
        t.getC c R.CAL_STAT.DAC_FAIL = 0 ∧ t.getC c R.CAL_STAT.SPARE_FAULT = 0 ∧
        (∀ i < 795, (t.conv.get c).sets.get i = setWord (s.onC c R.CAL_CTRL.MODEL) i (s.get (imgWord c (8 + i)))) ∧ Keeps s t [] [.conv c] [.conv c]) ∧
    (∀ (l : Nat × Nat) (ls : List (Nat × Nat)), 
      Does (.adcLevelUpdate c (l :: ls)) s fun t =>
        t.get ((R.ADC_LEVEL.RMS.ix 0).on c) = min (2 ^ 16 - 1) l.1 ∧ t.get ((R.ADC_LEVEL.CLIP.ix 0).on c) = min (2 ^ 16 - 1) (l.2 / 16) ∧
        Keeps s t [] [.conv c] []) ∧
    (s.domOn (dacDom c) = true → 
      Does (.biasStep c) s fun t =>
        (∀ n < 10, t.get ((R.BIAS.CUR.ix n).on c) = stepTo (s.get ((R.BIAS.CUR.ix n).on c)) (s.get ((R.BIAS.CODE.ix n).on c)) % 2 ^ R.BIAS.CUR.width) ∧
        Keeps s t ((List.range 10).map fun n => (R.BIAS.CUR.ix n).on c) [] [])

/-- Each of these answers a next state, the signal steps with the clock of the PLL: ACQ_FREQ_READY moves FREQ_COARSE to
CD_SEARCH, or with CD_MODE FIXED to CLOCK with the dispersion of CD_PSNM; ACQ_CD_READY moves CD_SEARCH to CLOCK with the
dispersion found, held within the window searched, and either in DAWN-RX within ±10,000 ps/nm; ACQ_TIMING_LOCK CLOCK to
BLIND; ACQ_BLIND_STABLE BLIND to FRAME, the aligners not in frame; ACQ_PILOT_STABLE after 16 frames PILOT to DD;
ACQ_DD_STABLE after 64 frames DD to TRACK with LOCKED, the time and the path, raising EV_RX_ACQ_DONE; ACQ_LOCK_LOST after
256 frames in a row out of frame leaves TRACK, to SEEDED or FREQ_COARSE, clearing LOCKED and raising EV_RX_LOCK_LOST;
RESUME_TIMEOUT after 1 ms leaves RESUME likewise; SEEDED_TIMEOUT after 2 ms moves SEEDED to FREQ_COARSE; ACQ_TIMEOUT in
states 2 to 8, RESUME or SEEDED, the timer at its end, records FAIL_STATE, counts the attempt and returns to FREQ_COARSE;
ACQ_RESTART returns to FREQ_COARSE, or to WAIT_LIGHT in loss of light. -/
def Obligations.AcquisitionSteps : Prop :=
  ∀ (s : State) (c : Carrier),
    (∀ (fo : Int), s.clockReady (.rxdsp c) = true → acqState s c = aFREQ → 
      Does (.acqFreqReady c fo) s fun t =>
        acqState t c = (if s.getC c R.RX_CD.CD_MODE = 2 then aCLOCK else aCD) ∧ (t.rx.get c).fo = max (-14000) (min 14000 fo) ∧
        (s.getC c R.RX_CD.CD_MODE = 2 → (t.rx.get c).cd = dawnCd s c (toSigned 20 (s.getC c R.RX_CD.CD_PSNM))) ∧ Keeps s t [R.RXDSP_STAT.ACQ_STATE.on c, R.RXDSP_STAT.LOCKED.on c] [] [.rx c]) ∧
    (∀ (cd : Int), s.clockReady (.rxdsp c) = true → acqState s c = aCD → 
      Does (.acqCdReady c cd) s fun t => acqState t c = aCLOCK ∧ (t.rx.get c).cd = dawnCd s c (max (s.rx.get c).cdLo (min (s.rx.get c).cdHi cd)) ∧ Keeps s t [R.RXDSP_STAT.ACQ_STATE.on c, R.RXDSP_STAT.LOCKED.on c] [] [.rx c]) ∧
    (s.clockReady (.rxdsp c) = true → acqState s c = aCLOCK → 
      Does (.acqTimingLock c) s fun t => acqState t c = aBLIND ∧ t.onC c R.RXDSP_STAT.LOCKED = false ∧ Keeps s t [R.RXDSP_STAT.ACQ_STATE.on c, R.RXDSP_STAT.LOCKED.on c] [] [.rx c]) ∧
    (s.clockReady (.rxdsp c) = true → acqState s c = aBLIND → (s.running (.framer c) = false ∨ lineInSync s c = false) → 
      Does (.acqBlindStable c) s fun t => acqState t c = aFRAME ∧ t.onC c R.RXDSP_STAT.LOCKED = false ∧ Keeps s t [R.RXDSP_STAT.ACQ_STATE.on c, R.RXDSP_STAT.LOCKED.on c] [] [.rx c]) ∧
    (s.clockReady (.rxdsp c) = true → acqState s c = aPILOT → 16 ≤ (s.rx.get c).stFrames → 
      Does (.acqPilotStable c) s fun t => acqState t c = aDD ∧ t.onC c R.RXDSP_STAT.LOCKED = false ∧ Keeps s t [R.RXDSP_STAT.ACQ_STATE.on c, R.RXDSP_STAT.LOCKED.on c] [] [.rx c]) ∧
    (s.clockReady (.rxdsp c) = true → acqState s c = aDD → 64 ≤ (s.rx.get c).stFrames → 
      Does (.acqDdStable c) s fun t =>
        acqState t c = aTRACK ∧ t.onC c R.RXDSP_STAT.LOCKED = true ∧
        t.getC c R.RX_ACQ_STAT.ACQ_TIME_US = min (2 ^ 16 - 1) (nsSince s (s.rx.get c).tExit / 1000) ∧
        t.getC c R.RX_ACQ_STAT.LAST_PATH = (s.rx.get c).path % 2 ^ R.RX_ACQ_STAT.LAST_PATH.width ∧
        t.ev = (s.raiseC c E.RX_ACQ_DONE (min (2 ^ 16 - 1) (nsSince s (s.rx.get c).tExit / 1000))).ev ∧
        Keeps s t evF [.rxdsp c] (evP.append [.rx c, .dawn c])) ∧
    (acqState s c = aTRACK → 256 ≤ (s.rx.get c).oof → (s.running (.framer c) = false ∨ lineInSync s c = false) → 
      Does (.acqLockLost c) s fun t =>
        acqState t c = (if seedUsable s c = true then aSEEDED else aFREQ) ∧ t.onC c R.RXDSP_STAT.LOCKED = false ∧
        t.ev = (s.raiseC c E.RX_LOCK_LOST (s.rx.get c).lastFcount).ev ∧ Keeps s t (evF ++ [R.RXDSP_STAT.ACQ_STATE.on c, R.RXDSP_STAT.LOCKED.on c]) [] (evP.append [.rx c])) ∧
    (acqState s c = aRESUME → 1000000 ≤ nsSince s (s.rx.get c).enteredAt → (s.running (.framer c) = false ∨ lineInSync s c = false) → 
      Does (.resumeTimeout c) s fun t =>
        acqState t c = (if seedUsable s c = true then aSEEDED else aFREQ) ∧ Keeps s t [R.RXDSP_STAT.ACQ_STATE.on c, R.RXDSP_STAT.LOCKED.on c] [] [.rx c]) ∧
    (acqState s c = aSEEDED → 2000000 ≤ nsSince s (s.rx.get c).enteredAt → dawnGoverned s c = false → 
      Does (.seededTimeout c) s fun t => acqState t c = aFREQ ∧ (t.rx.get c).path = 1 ∧ Keeps s t [R.RXDSP_STAT.ACQ_STATE.on c, R.RXDSP_STAT.LOCKED.on c] [] [.rx c]) ∧
    (((2 ≤ acqState s c ∧ acqState s c ≤ 8) ∨ acqState s c = aRESUME ∨ acqState s c = aSEEDED) → 1000000 * max 1 (s.getC c R.RX_ACQ_CTRL.ACQ_TIMEOUT) ≤ nsSince s (s.rx.get c).timerAt → 
      Does (.acqTimeout c) s fun t =>
        acqState t c = aFREQ ∧ t.getC c R.RX_ACQ_STAT.FAIL_STATE = acqState s c ∧
        t.getC c R.RX_ACQ_STAT.ATTEMPTS = satTo R.RX_ACQ_STAT.ATTEMPTS.width (s.getC c R.RX_ACQ_STAT.ATTEMPTS + 1) ∧
        t.ev = (s.raiseC c E.RX_ACQ_FAIL (acqState s c)).ev ∧
        Keeps s t (evF ++ [R.RXDSP_STAT.ACQ_STATE.on c, R.RXDSP_STAT.LOCKED.on c] ++ [R.RX_ACQ_STAT.FAIL_STATE.on c, R.RX_ACQ_STAT.ATTEMPTS.on c]) [] (evP.append [.rx c])) ∧
    (Open s (.rxdsp c) → acqState s c ≠ aSTOPPED → dawnGoverned s c = false → 
      Does (.acqRestart c) s fun t =>
        acqState t c = (if s.onC c R.RXDSP_STAT.LOL = true then aWAIT else aFREQ) ∧
        Keeps s t (evF ++ [R.RXDSP_STAT.ACQ_STATE.on c, R.RXDSP_STAT.LOCKED.on c] ++ [R.RXDSP_STAT.THROTTLED.on c]) [] (evP.append [.rx c]))

/-- RXDSP_START of a stopped RXDSP that is reached, outside BOOT, with a good optics record, start checks that pass and the
clock of its PLL runs it in WAIT_LIGHT; RXDSP_RUN_CLEAR stops it in STOPPED with LOL set. LOL_WINDOW of a running RXDSP
below the threshold often enough sets LOL (outside the TX loopback), at or above threshold and hysteresis often enough
clears it, for a carrier that DAWN does not govern. With the clock and with light, RX_SAT_WINDOW after 1,024 DSP cycles
counts every stage that saturated in them and changes beside that the five counts and events alone; RX_LINE_FRAME of a mode
with headers keeps MOD, ENTROPY, RATE and FILL of a good header that the samples carry, and its FCOUNT where both aligners
are in frame, shows its IDLE, and never counts slips down; with a bad one it counts HDR_BAD, shows IDLE and keeps MOD.
SEED_AUTO_CAPTURE in TRACK after 2^(SEED_PERIOD+10) frames with every condition of R148 and SEED_CAPTURE in TRACK make the
seed valid; SEED_CLEAR makes it invalid. SEED_WINDOW_WRITE loads a word of the seed while RXDSP is stopped, and is discarded
with EV_CFG_BUSY while it runs and the word differs. RX_METRIC_UPDATE with light, 1,024 frames after the last, gives RX_SNR
of the frames since, FO_EST, CLK_PPM and OUTER_E and changes no other register but those of the metrics. TAP_SNAP copies
every tap into the window. Each clause names what else may change. -/
def Obligations.ReceiverCommands : Prop :=
  ∀ (s : State) (c : Carrier),
    (Open s (.rxdsp c) → s.dev ≠ stBOOT → idRefuses s (.rxdsp c) = false → s.runBit (.rxdsp c) = false → s.running (.rxdsp c) = false → startsNow s (.rxdsp c) = true → s.clockReady (.rxdsp c) = true → 
      Does (.rxdspStart c) s fun t =>
        t.running (.rxdsp c) = true ∧ t.onC c R.RXDSP_STAT.CFG_ERR = false ∧ acqState t c = aWAIT ∧ Keeps s t (lvF ++ [R.CIPH_STAT.IN_SYNC.on c]) [.rxdsp c, .fec c, .framer .A, .framer .B] (lvP.append [.rx c, .fec c, .frm .A, .frm .B, .ciph c, .dawn c, .shadow, .named, .waiting])) ∧
    (Open s (.rxdsp c) → s.runBit (.rxdsp c) = true → 
      Does (.rxdspRunClear c) s fun t =>
        t.running (.rxdsp c) = false ∧ t.runBit (.rxdsp c) = false ∧ acqState t c = aSTOPPED ∧ t.onC c R.RXDSP_STAT.LOL = true ∧ Keeps s t (lvF ++ [R.CIPH_STAT.IN_SYNC.on c]) [.rxdsp c, .fec c, .framer .A, .framer .B] (lvP.append [.rx c, .fec c, .frm .A, .frm .B, .ciph c, .dawn c, .shadow, .named, .waiting])) ∧
    (∀ (rms : Nat), s.running (.rxdsp c) = true → dawnGoverned s c = false → txLoopback s c = false → rms < s.getC c R.RX_LOL_CTRL.LOL_THR → s.onC c R.RXDSP_STAT.LOL = false → s.getC c R.RX_LOL_CTRL.LOL_SET ≤ (s.rx.get c).below + 1 → 
      Does (.lolWindow c rms) s fun t => t.onC c R.RXDSP_STAT.LOL = true ∧ Keeps s t lvF [.rxdsp c, .framer .A, .framer .B, .fec c, .dawn c] (lvP.append [.rx c, .frm .A, .frm .B, .fec c, .dawn c, .ciph c])) ∧
    (∀ (rms : Nat), s.running (.rxdsp c) = true → dawnGoverned s c = false → s.getC c R.RX_LOL_CTRL.LOL_THR + s.getC c R.RX_LOL_CTRL.LOL_HYST ≤ rms → s.onC c R.RXDSP_STAT.LOL = true → s.getC c R.RX_LOL_CTRL.LOL_CLR ≤ (s.rx.get c).above + 1 → 
      Does (.lolWindow c rms) s fun t => t.onC c R.RXDSP_STAT.LOL = false ∧ Keeps s t lvF [.rxdsp c, .framer .A, .framer .B, .fec c, .dawn c] (lvP.append [.rx c, .frm .A, .frm .B, .fec c, .dawn c, .ciph c])) ∧
    (s.clockReady (.rxdsp c) = true → s.running (.rxdsp c) = true → s.onC c R.RXDSP_STAT.LOL = false → 1024 ≤ (s.rx.get c).str.cycles → 
      Does (.rxSatWindow c) s fun t =>
        (∀ p ∈ satFields.zipIdx, t.getC c p.1 =
          if bitOf (s.rx.get c).str.sat p.2 = true then satTo p.1.width (s.getC c p.1 + 1) else s.getC c p.1) ∧
        (t.rx.get c).str.sat = 0 ∧ (t.rx.get c).str.cycles = (s.rx.get c).str.cycles - 1024 ∧
        Keeps s t (evF ++ satFields.map (·.on c)) [] (evP.append [.rx c])) ∧
    (∀ (adc : List (List Int)), s.clockReady (.rxdsp c) = true → s.running (.rxdsp c) = true → s.onC c R.RXDSP_STAT.LOL = false → dawnGoverned s c = false → hasHeaders s c = true → hdrGood (rxHdr s c adc) = true → 
      Does (.rxLineFrame c adc) s fun t =>
        (t.rx.get c).hdrMod = bitsOf (rxHdr s c adc) 127 125 ∧ (t.rx.get c).hdrEnt = bitsOf (rxHdr s c adc) 124 118 ∧
        (t.rx.get c).hdrRate = bitsOf (rxHdr s c adc) 117 116 ∧ (t.rx.get c).hdrFill = bitsOf (rxHdr s c adc) 87 76 ∧
        (t.rx.get c).hdrOk = true ∧ t.onC c R.RXDSP_STAT.IDLE = bitOf (rxHdr s c adc) 75 ∧
        (t.rx.get c).lastFcount = (if rxInFrame s c = true then bitsOf (rxHdr s c adc) 111 88 else (s.rx.get c).lastFcount) ∧
        s.getC c R.RX_SLIP_CNT.SLIPS % 2 ^ R.RX_SLIP_CNT.SLIPS.width ≤ t.getC c R.RX_SLIP_CNT.SLIPS ∧
        Keeps s t evF [.rxdsp c] (evP.append [.rx c, .fec c])) ∧
    (∀ (adc : List (List Int)), s.clockReady (.rxdsp c) = true → s.running (.rxdsp c) = true → s.onC c R.RXDSP_STAT.LOL = false → dawnGoverned s c = false → hasHeaders s c = true → hdrGood (rxHdr s c adc) = false → 
      Does (.rxLineFrame c adc) s fun t =>
        t.getC c R.RX_HDR_CNT.HDR_BAD = satTo R.RX_HDR_CNT.HDR_BAD.width (s.getC c R.RX_HDR_CNT.HDR_BAD + 1) ∧
        t.onC c R.RXDSP_STAT.IDLE = true ∧ (t.rx.get c).hdrOk = false ∧
        (t.rx.get c).hdrMod = (s.rx.get c).hdrMod ∧ Keeps s t evF [.rxdsp c] (evP.append [.rx c, .fec c])) ∧
    (acqState s c = aTRACK → 2 ^ (s.getC c R.RX_SEED_CTRL.SEED_PERIOD + 10) ≤ (s.rx.get c).seedFrames → s.onC c R.RX_SEED_CTRL.AUTO_SEED = true → dawnGoverned s c = false → (s.rx.get c).uncorrSeen = false → captureOk s c = true → 
      Does (.seedAutoCapture c) s fun t =>
        t.onC c R.RXDSP_STAT.SEED_VALID = true ∧ (t.rx.get c).uncorrSeen = false ∧ Keeps s t [] [.rxdsp c] [.rx c]) ∧
    (Open s (.rxdsp c) → acqState s c = aTRACK → s.onC c R.RXDSP_STAT.LOL = false → dawnGoverned s c = false → 
      Does (.seedCapture c) s fun t =>
        t.onC c R.RXDSP_STAT.SEED_VALID = true ∧ (∀ w ∈ tapWords, t.get (seedF c w) = (s.rx.get c).taps.get w % 2 ^ 32) ∧
        t.get (seedF c 0x212) = (2 ^ 31 + rxSymRate s c) % 2 ^ 32 ∧ Keeps s t [] [.rxdsp c] [.rx c]) ∧
    (Open s (.rxdsp c) → 
      Does (.seedClear c) s fun t =>
        t.onC c R.RXDSP_STAT.SEED_VALID = false ∧ t.get (seedF c 0x212) = s.get (seedF c 0x212) % 2 ^ 31 ∧
        Keeps s t [R.RXDSP_STAT.SEED_VALID.on c, seedF c 0x212] [] []) ∧
    (∀ (w v : Nat), Open s (.rxdsp c) → s.running (.rxdsp c) = false → v < 2 ^ 32 → seedMask w ≠ 0 → 
      Does (.seedWindowWrite c w v) s fun t =>
        t.get (seedF c w) = v &&& seedMask w ∧ (w = 0x212 → t.onC c R.RXDSP_STAT.SEED_VALID = bitOf v 31) ∧
        Keeps s t [R.RXDSP_STAT.SEED_VALID.on c, seedF c w] [] []) ∧
    (∀ (w v : Nat), Open s (.rxdsp c) → s.running (.rxdsp c) = true → v < 2 ^ 32 → v &&& seedMask w ≠ s.get (seedF c w) → 
      Does (.seedWindowWrite c w v) s fun t =>
        t.on (cfgDiscardF (.rxdsp c)) = true ∧ Raised s t E.CFG_BUSY (seedF c w).addr ∧ Keeps s t (evF ++ [cfgDiscardF (.rxdsp c)]) [] evP) ∧
    (s.clockReady (.rxdsp c) = true → s.running (.rxdsp c) = true → s.onC c R.RXDSP_STAT.LOL = false → 1024 ≤ (s.rx.get c).metFrames → 
      Does (.rxMetricUpdate c) s fun t =>
        t.getC c R.RX_SNR.SNR_X = snrSum ((s.rx.get c).snrAcc.getD 0 (0, 0)) % 2 ^ R.RX_SNR.SNR_X.width ∧
        t.getC c R.RX_SNR.SNR_Y = snrSum ((s.rx.get c).snrAcc.getD 1 (0, 0)) % 2 ^ R.RX_SNR.SNR_Y.width ∧
        t.getC c R.RX_FO.FO_EST = ofSigned 16 (clampSigned 16 (s.rx.get c).fo) % 2 ^ 16 ∧
        t.getC c R.RX_FO.CLK_PPM = ofSigned 16 (clampSigned 16 (s.rx.get c).ppm) % 2 ^ 16 ∧
        t.getC c R.RX_EQ_STAT.OUTER_E = outerDb (s.rx.get c).taps % 2 ^ R.RX_EQ_STAT.OUTER_E.width ∧
        (t.rx.get c).metFrames = 0 ∧ (t.rx.get c).snrAcc = [] ∧
        Keeps s t ([R.RX_SNR.SNR_X, R.RX_SNR.SNR_Y, R.RX_FO.FO_EST, R.RX_FO.CLK_PPM, R.RX_PMD.DGD_EST, R.RX_PMD.PDL_EST,
          R.RX_EQ_STAT.OUTER_E, R.RX_EQ_STAT.SOP_RATE].map (·.on c)) [] [.rx c]) ∧
    (Open s (.rxdsp c) → 
      Does (.tapSnap c) s fun t =>
        (∀ w ∈ tapWords, t.get (snapF c w) = (s.rx.get c).taps.get w % 2 ^ 32) ∧ Keeps s t [] [.rxdsp c] [])

/-- DAWN_START of a stopped DAWN that is reached, outside BOOT, with a good optics record, checks that pass and the clock of
its PLL runs it in SEARCH; DAWN_RUN_CLEAR enters STOPPED and releases the entry. while DAWN runs, DAWN_LIGHT_SET with the
RMS at BURST_THR or above sets LIGHT and notes the time; DAWN_LIGHT_CLEAR with the RMS below it clears LIGHT and in SEARCH
returns the TIA codes to rest. DAWN_GAIN_UPDATE in SEARCH with LIGHT moves the four codes by at most 128 codes.
DAWN_DETECTION, of the detections of a cycle the one that R187 takes, is adopted as a candidate in SEARCH and DISCARD, in
QUALIFY replaces the candidate where its metric is METRIC_MARGIN higher (EV_DAWN_CAPTURE 1), in PRELOAD, BURST and COLD
flags INTRUDED, counts and raises EV_DAWN_INTRUSION. DAWN_SYNC_LATCH moves QUALIFY to LATCHED with frequency and dispersion
frozen; DAWN_SYNC_WIN_EXPIRY after SYNC_WIN symbols counts a false alarm and returns to SEARCH, in BEXA after three frames,
counting none. BEXA_ENERGY below the threshold restarts the dwell, and with the dwell complete enters QUALIFY and counts;
BEXA_QUALIFY within three frames of the energy selects the expected entry for PRELOAD, or runs COLD. What needs the clock of
the PLL has it. Each clause names what else may change. -/
def Obligations.DawnSearchAndLatch : Prop :=
  ∀ (s : State) (c : Carrier),
    (Open s (.dawn c) → s.dev ≠ stBOOT → idRefuses s (.dawn c) = false → s.runBit (.dawn c) = false → s.running (.dawn c) = false → startsNow s (.dawn c) = true → s.clockReady (.dawn c) = true → 
      Does (.dawnStart c) s fun t =>
        t.running (.dawn c) = true ∧ t.onC c R.DAWN_STAT.CFG_ERR = false ∧ dawnState t c = dSEARCH ∧ Keeps s t (lvF ++ tiaF c ++ [R.CIPH_STAT.IN_SYNC.on c]) [.rxdsp c, .dawn c, .fec c, .framer .A, .framer .B] (lvP.append [.rx c, .dawn c, .fec c, .frm .A, .frm .B, .ciph c, .shadow, .named, .waiting])) ∧
    (Open s (.dawn c) → s.runBit (.dawn c) = true → 
      Does (.dawnRunClear c) s fun t =>
        t.running (.dawn c) = false ∧ t.runBit (.dawn c) = false ∧ dawnState t c = dSTOPPED ∧ t.onC c R.DAWN_STAT.IN_USE = false ∧ Keeps s t (lvF ++ tiaF c ++ [R.CIPH_STAT.IN_SYNC.on c]) [.rxdsp c, .dawn c, .fec c, .framer .A, .framer .B] (lvP.append [.rx c, .dawn c, .fec c, .frm .A, .frm .B, .ciph c, .shadow, .named, .waiting])) ∧
    (∀ (rms : Nat), s.running (.dawn c) = true → s.onC c R.DAWN_STAT.LIGHT = false → s.getC c R.DAWN_AGC.BURST_THR ≤ rms → 
      Does (.dawnLightSet c rms) s fun t =>
        t.onC c R.DAWN_STAT.LIGHT = true ∧ (t.dawn.get c).lightAt = s.time.aon ∧ Keeps s t [R.DAWN_STAT.LIGHT.on c] [] [.dawn c]) ∧
    (∀ (rms : Nat), s.running (.dawn c) = true → rms < s.getC c R.DAWN_AGC.BURST_THR → 
      Does (.dawnLightClear c rms) s fun t =>
        t.onC c R.DAWN_STAT.LIGHT = false ∧
        (dawnState s c = dSEARCH → tiaCodes t c = (match expectedEntry s c with
          | some e => entryCodes s c e
          | none => List.replicate 4 (s.getC c R.DAWN_AGC.PRESET)).map (min 1023)) ∧
        Keeps s t (R.DAWN_STAT.LIGHT.on c :: (if dawnState s c = dSEARCH then tiaF c else [])) [] []) ∧
    (∀ (rms : List Nat), s.clockReady (.dawn c) = true → s.running (.dawn c) = true → dawnState s c = dSEARCH → s.onC c R.DAWN_STAT.LIGHT = true → rms.length = 4 → 
      Does (.dawnGainUpdate c rms) s fun t =>
        (∀ n < 4, t.get ((R.TIA_CODE.CUR.ix n).on c) =
          moveCode (s.get ((R.TIA_CODE.CUR.ix n).on c)) (gainCodes s c (gainAsked s c (rms.getD n 0)) 128)) ∧
        Keeps s t (tiaF c) [] []) ∧
    (∀ (ds : List (Nat × Nat × Int)) (k m : Nat) (str : Int), s.running (.dawn c) = true → bexaBurst s c = false → bestDetection s c ds = some (k, m, str) → s.clockReady (.dawn c) = true → (dawnState s c = dSEARCH ∨ dawnState s c = dDISCARD) → 
      Does (.dawnDetection c ds) s fun t =>
        dawnState t c = dQUALIFY ∧ t.getC c R.DAWN_STAT.DET_RATE = k ∧ (t.dawn.get c).candM = m ∧ (t.dawn.get c).candS = str ∧
        (t.dawn.get c).flags = 0 ∧
        (dawnState s c = dSEARCH → t.getC c R.DAWN_CNT0.DETECTS = satTo R.DAWN_CNT0.DETECTS.width (s.getC c R.DAWN_CNT0.DETECTS + 1)) ∧
        Keeps s t [R.DAWN_STAT.STATE.on c, R.DAWN_STAT.DET_RATE.on c, R.DAWN_CNT0.DETECTS.on c] [] [.dawn c, .rx c, .marks]) ∧
    (∀ (ds : List (Nat × Nat × Int)) (k m : Nat) (str : Int), s.running (.dawn c) = true → bexaBurst s c = false → bestDetection s c ds = some (k, m, str) → s.clockReady (.dawn c) = true → dawnState s c = dQUALIFY → (s.dawn.get c).candM + s.getC c R.DAWN_DET.METRIC_MARGIN ≤ m → 
      Does (.dawnDetection c ds) s fun t =>
        dawnState t c = dQUALIFY ∧ t.getC c R.DAWN_STAT.DET_RATE = k ∧ (t.dawn.get c).candM = m ∧ (t.dawn.get c).candS = str ∧
        bitOf (t.dawn.get c).flags fCAPTURED = true ∧ t.ev = (s.raiseC c E.DAWN_CAPTURE 1).ev ∧
        t.getC c R.DAWN_CNT1.CAPTURES = satTo R.DAWN_CNT1.CAPTURES.width (s.getC c R.DAWN_CNT1.CAPTURES + 1) ∧
        Keeps s t (evF ++ tiaF c ++ [R.DAWN_STAT.DET_RATE.on c, R.DAWN_CNT1.CAPTURES.on c]) [] (evP.append [.dawn c, .rx c, .marks])) ∧
    (∀ (ds : List (Nat × Nat × Int)) (k m : Nat) (str : Int), s.running (.dawn c) = true → bexaBurst s c = false → bestDetection s c ds = some (k, m, str) → s.clockReady (.dawn c) = true → dawnState s c ∈ [dPRELOAD, dBURST, dCOLD] → 
      Does (.dawnDetection c ds) s fun t =>
        dawnState t c = dawnState s c ∧ bitOf (t.dawn.get c).flags fINTRUDED = true ∧
        t.ev = (s.raiseC c E.DAWN_INTRUSION (ofSigned 32 (clampSigned 8 (str - (s.dawn.get c).candS)))).ev ∧
        t.getC c R.DAWN_CNT1.INTRUSIONS = satTo R.DAWN_CNT1.INTRUSIONS.width (s.getC c R.DAWN_CNT1.INTRUSIONS + 1) ∧
        Keeps s t (evF ++ [R.DAWN_CNT1.INTRUSIONS.on c]) [] (evP.append [.dawn c])) ∧
    (∀ (fo cd : Int) (rms : Nat), s.clockReady (.dawn c) = true → dawnState s c = dQUALIFY → bexaBurst s c = false → 
      Does (.dawnSyncLatch c fo cd rms) s fun t =>
        dawnState t c = dLATCHED ∧ (t.rx.get c).fo = max ((s.rx.get c).fo - 4800) (min ((s.rx.get c).fo + 4800) fo) ∧
        (t.rx.get c).cd = ((burstEstimates s c fo cd).rx.get c).cd ∧ (∀ v, ssiOf s c rms = some v → (t.dawn.get c).ssi = v) ∧
        Keeps s t (lvF ++ [R.DAWN_STAT.STATE.on c, R.CIPH_STAT.IN_SYNC.on c]) [.framer .A, .framer .B] (lvP.append [.dawn c, .rx c, .frm .A, .frm .B])) ∧
    (dawnState s c = dQUALIFY → bexaBurst s c = false → 1000 * max 4096 (s.getC c R.DAWN_CTRL.SYNC_WIN) ≤ s.age (.detect c) * burstRate s c → 
      Does (.dawnSyncWinExpiry c) s fun t =>
        dawnState t c = dSEARCH ∧ t.ev = (s.raiseC c E.DAWN_FALSE_ALARM (s.getC c R.DAWN_STAT.DET_RATE)).ev ∧
        t.getC c R.DAWN_CNT0.FALSE_ALARM = satTo R.DAWN_CNT0.FALSE_ALARM.width (s.getC c R.DAWN_CNT0.FALSE_ALARM + 1) ∧
        Keeps s t (evF ++ tiaF c ++ [R.DAWN_STAT.STATE, R.DAWN_STAT.IN_USE, R.DAWN_CNT0.FALSE_ALARM, R.RXDSP_STAT.ACQ_STATE,
          R.RXDSP_STAT.LOCKED].map (·.on c)) [] (evP.append [.dawn c, .rx c])) ∧
    (dawnState s c = dQUALIFY → bexaBurst s c = true → 1000 * 196608 ≤ s.age (.detect c) * 130000 → 
      Does (.dawnSyncWinExpiry c) s fun t =>
        dawnState t c = dSEARCH ∧ t.getC c R.DAWN_CNT0.FALSE_ALARM = s.getC c R.DAWN_CNT0.FALSE_ALARM ∧
        Keeps s t (tiaF c ++ [R.DAWN_STAT.STATE, R.DAWN_STAT.IN_USE, R.RXDSP_STAT.ACQ_STATE, R.RXDSP_STAT.LOCKED].map (·.on c)) [] [.dawn c, .rx c]) ∧
    (∀ (rms : Nat), s.clockReady (.dawn c) = true → s.running (.dawn c) = true → bexaBurst s c = true → dawnState s c = dSEARCH → rms < s.getC c R.DAWN_BEXA.BEXA_THR → 
      Does (.bexaEnergy c rms) s fun t =>
        (t.dawn.get c).dwell = 0 ∧ Keeps s t [] [] [.dawn c]) ∧
    (∀ (rms : Nat), s.clockReady (.dawn c) = true → s.running (.dawn c) = true → bexaBurst s c = true → dawnState s c = dSEARCH → s.getC c R.DAWN_BEXA.BEXA_THR ≤ rms → max 1 (s.getC c R.DAWN_BEXA.DWELL) ≤ (s.dawn.get c).dwell + 1 → 
      Does (.bexaEnergy c rms) s fun t =>
        dawnState t c = dQUALIFY ∧
          t.getC c R.DAWN_CNT0.DETECTS = satTo R.DAWN_CNT0.DETECTS.width (s.getC c R.DAWN_CNT0.DETECTS + 1) ∧
          Keeps s t [R.DAWN_STAT.STATE.on c, R.DAWN_STAT.DET_RATE.on c, R.DAWN_CNT0.DETECTS.on c] [] [.dawn c, .rx c, .marks]) ∧
    (∀ (rms : Nat), s.clockReady (.dawn c) = true → s.running (.dawn c) = true → bexaBurst s c = true → dawnState s c = dSEARCH → s.getC c R.DAWN_BEXA.BEXA_THR ≤ rms → (s.dawn.get c).dwell + 1 < max 1 (s.getC c R.DAWN_BEXA.DWELL) → 
      Does (.bexaEnergy c rms) s fun t =>
        (t.dawn.get c).dwell = (s.dawn.get c).dwell + 1 ∧ Keeps s t [] [] [.dawn c]) ∧
    (∀ (fo cd : Int) (rms : Nat), s.clockReady (.dawn c) = true → s.running (.dawn c) = true → bexaBurst s c = true → dawnState s c = dQUALIFY → s.age (.detect c) * 130000 ≤ 1000 * 196608 → 
      Does (.bexaQualify c fo cd rms) s fun t =>
        (t.rx.get c).fo = max ((s.rx.get c).fo - 4800) (min ((s.rx.get c).fo + 4800) fo) ∧
        dawnState t c = (if (expectedEntry s c).isSome = true then dPRELOAD else dCOLD) ∧
        (∀ e, expectedEntry s c = some e → t.getC c R.DAWN_STAT.CUR_ENTRY = e ∧ t.onC c R.DAWN_STAT.IN_USE = true) ∧
        Keeps s t (lvF ++ [R.CIPH_STAT.IN_SYNC.on c]) [.dawn c, .rxdsp c, .framer .A, .framer .B] (lvP.append [.dawn c, .rx c, .frm .A, .frm .B]))

/-- DAWN_DESCRIPTOR in LATCHED: a bad CRC enters DISCARD and counts DESC_BAD; a good one enters PRELOAD with the lowest
valid entry of its source where its rate is the detected one, and COLD otherwise. DAWN_PRELOAD_DONE loads taps and key slot
and enters BURST, RXDSP in PILOT; of a probe (N = 0) outside BEXA it leaves the taps and enters WRITEBACK. DAWN_BURST_END in
BURST and COLD enters WRITEBACK; a seeded burst that fails its tests prepares BAD + 1 alone. DAWN_WRITEBACK_DONE stores the
prepared words, shows the burst in DAWN_BURST, and returns to SEARCH with the entry released. DAWN_EXPECT_WRITE stores the
expectation, in force at once in SEARCH. SEED_FREEZE, SEED_THAW and SEED_INVALIDATE put FROZEN and VALID of an entry, and
INVALIDATE cancels the write-back of the entry in use. DAWN_SEED_WRITE loads the defined bits of a word of the selected
entry, and is discarded with EV_CFG_BUSY while the entry is in use and the word differs. What needs the clock of the PLL has
it. Each clause names what else may change. -/
def Obligations.DawnBurstsAndSeedTable : Prop :=
  ∀ (s : State) (c : Carrier),
    (∀ (coded : Nat), dawnState s c = dLATCHED → bexaBurst s c = false → descriptorOk (descriptorOf s coded) = false → s.clockReady (.dawn c) = true → 
      Does (.dawnDescriptor c coded) s fun t =>
        dawnState t c = dDISCARD ∧
        t.getC c R.DAWN_CNT2.DESC_BAD = satTo R.DAWN_CNT2.DESC_BAD.width (s.getC c R.DAWN_CNT2.DESC_BAD + 1) ∧
        Keeps s t (lvF ++ [R.DAWN_STAT.STATE.on c, R.DAWN_CNT2.DESC_BAD.on c]) [] lvP) ∧
    (∀ (coded : Nat), dawnState s c = dLATCHED → bexaBurst s c = false → descriptorOk (descriptorOf s coded) = true → s.clockReady (.dawn c) = true → 
      Does (.dawnDescriptor c coded) s fun t =>
        dawnState t c = (if (selected s c (bitsOf (descriptorOf s coded) 63 48)).isNone = true then dCOLD else dPRELOAD) ∧
        (t.dawn.get c).src = bitsOf (descriptorOf s coded) 63 48 ∧ (t.dawn.get c).n = bitsOf (descriptorOf s coded) 47 32 ∧
        (∀ e, selected s c (bitsOf (descriptorOf s coded) 63 48) = some e →
          t.getC c R.DAWN_STAT.CUR_ENTRY = e ∧ t.onC c R.DAWN_STAT.IN_USE = true) ∧
        Keeps s t (evF ++ lvF ++ [R.CIPH_STAT.IN_SYNC.on c]) [.rxdsp c, .dawn c, .fec c, .framer .A, .framer .B] (lvP.append [.rx c, .freeCtr, .dawn c, .fec c, .frm .A, .frm .B, .ciph c, .named, .waiting])) ∧
    (dawnState s c = dPRELOAD → ((s.dawn.get c).n ≠ 0 ∨ bexaBurst s c = true) → s.clockReady (.dawn c) = true → 
      Does (.dawnPreloadDone c) s fun t =>
        dawnState t c = dBURST ∧ acqState t c = aPILOT ∧
        (t.dawn.get c).keySlot = entryBits s c (s.getC c R.DAWN_STAT.CUR_ENTRY) 0x904 16 16 ∧
        (∀ w ∈ tapWords, (t.rx.get c).taps.get w = entryTap s c (s.getC c R.DAWN_STAT.CUR_ENTRY) w) ∧
        Keeps s t (lvF ++ [R.DAWN_STAT.STATE.on c, R.RXDSP_STAT.ACQ_STATE.on c, R.RXDSP_STAT.LOCKED.on c]) [] (lvP.append [.dawn c, .rx c])) ∧
    (dawnState s c = dPRELOAD → (s.dawn.get c).n = 0 → bexaBurst s c = false → s.clockReady (.dawn c) = true → 
      Does (.dawnPreloadDone c) s fun t => dawnState t c = dWRITEBACK ∧ (t.rx.get c).taps = (s.rx.get c).taps ∧ Keeps s t (evF ++ lvF ++ [R.CIPH_STAT.IN_SYNC.on c]) [.rxdsp c, .dawn c, .fec c, .framer .A, .framer .B] (lvP.append [.rx c, .dawn c, .fec c, .frm .A, .frm .B, .ciph c, .named, .waiting])) ∧
    ((dawnState s c = dBURST ∨ dawnState s c = dCOLD) → bexaBurst s c = false → 
      Does (.dawnBurstEnd c) s fun t =>
        dawnState t c = dWRITEBACK ∧
        (dawnState s c = dBURST → (wbEntryOk s c (s.getC c R.DAWN_STAT.CUR_ENTRY) = false ∨ frameTests s c = false) →
          (t.dawn.get c).wbEntry = some (s.getC c R.DAWN_STAT.CUR_ENTRY) ∧
          (t.dawn.get c).wb = wbBad s c (s.getC c R.DAWN_STAT.CUR_ENTRY)) ∧
        Keeps s t (evF ++ lvF ++ [R.CIPH_STAT.IN_SYNC.on c]) [.rxdsp c, .dawn c, .fec c, .framer .A, .framer .B] (lvP.append [.rx c, .dawn c, .fec c, .frm .A, .frm .B, .ciph c, .named, .waiting])) ∧
    (dawnState s c = dWRITEBACK → 
      Does (.dawnWritebackDone c) s fun t =>
        dawnState t c = dSEARCH ∧ t.onC c R.DAWN_STAT.IN_USE = false ∧ t.getC c R.DAWN_BURST.SRC_ID = (s.dawn.get c).src % 2 ^ 16 ∧
        Keeps s t (tiaF c ++ ((s.dawn.get c).wb.map (fun p => seedWord c ((s.dawn.get c).wbEntry.getD 0) p.1)) ++ [R.DAWN_STAT.STATE, R.DAWN_STAT.IN_USE, R.DAWN_CNT3.WRITEBACKS,
          R.DAWN_BURST.SRC_ID, R.DAWN_BURST.ENTRY, R.DAWN_BURST.FLAGS, R.DAWN_BURST_N.N, R.DAWN_BURST_N.RATE_IDX, R.DAWN_SSI.SSI,
          R.DAWN_ACQ.ACQ_NS, R.DAWN_ACQ.ACQ_MAX, R.RXDSP_STAT.ACQ_STATE, R.RXDSP_STAT.LOCKED].map (·.on c)) [] [.dawn c, .rx c]) ∧
    (∀ (v : Nat), Open s (.dawn c) → 
      Does (.dawnExpectWrite c v) s fun t =>
        t.getC c R.DAWN_EXPECT.SRC_ID = v % 65536 ∧ t.onC c R.DAWN_EXPECT.VALID = bitOf v 31 ∧
        (t.dawn.get c).expect = (if dawnState s c = dSEARCH then (if bitOf v 31 = true then some (v % 65536) else none)
          else (s.dawn.get c).expect) ∧
        Keeps s t ([R.DAWN_EXPECT.SRC_ID.on c, R.DAWN_EXPECT.VALID.on c] ++ (if dawnState s c = dSEARCH then tiaF c else [])) [] [.dawn c]) ∧
    (∀ (e : Nat), Open s (.dawn c) → e < 64 → 
      Does (.seedFreeze c e) s fun t => entryFrozen t c e = true ∧ entryValid t c e = entryValid s c e ∧ Keeps s t [seedWord c e 0x848] [] []) ∧
    (∀ (e : Nat), Open s (.dawn c) → e < 64 → 
      Does (.seedThaw c e) s fun t => entryFrozen t c e = false ∧ entryValid t c e = entryValid s c e ∧ Keeps s t [seedWord c e 0x848] [] []) ∧
    (∀ (e : Nat), Open s (.dawn c) → e < 64 → 
      Does (.seedInvalidate c e) s fun t =>
        entryValid t c e = false ∧ entryFrozen t c e = entryFrozen s c e ∧ (entryInUse s c e = true → (t.dawn.get c).cancelled = true) ∧
        Keeps s t (seedWord c e 0x848 :: (if entryInUse s c e = true then [] else tiaF c)) [] (if entryInUse s c e = true then [.dawn c] else [])) ∧
    (∀ (off v : Nat), Open s (.dawn c) → v < 2 ^ 32 → off < 0x1000 → entryInUse s c (s.getC c R.DAWN_SEED_SEL.ENTRY) = false → entryMask off ≠ 0 → 
      Does (.dawnSeedWrite c off v) s fun t =>
        t.get (seedWord c (s.getC c R.DAWN_SEED_SEL.ENTRY) off) = v &&& entryMask off ∧
        Keeps s t (seedWord c (s.getC c R.DAWN_SEED_SEL.ENTRY) off :: tiaF c) [] []) ∧
    (∀ (off v : Nat), Open s (.dawn c) → v < 2 ^ 32 → off < 0x1000 → entryInUse s c (s.getC c R.DAWN_SEED_SEL.ENTRY) = true → v &&& entryMask off ≠ s.get (seedWord c (s.getC c R.DAWN_SEED_SEL.ENTRY) off) → 
      Does (.dawnSeedWrite c off v) s fun t =>
        t.on (cfgDiscardF (.dawn c)) = true ∧ Raised s t E.CFG_BUSY (blkBase (.dawn c) + 0x8000 + off) ∧
        Keeps s t (evF ++ [cfgDiscardF (.dawn c)]) [] evP)

/-- FEC_START of a stopped FEC that is reached, outside BOOT, with a good optics record, checks that pass and the clocks of
its PLLs runs it; FEC_RUN_CLEAR stops both parts. FEC_ENC_CODEWORD of a running encoder of a native mode, TX_RATE not the
reserved one, with room for 30,720 coded bits, draws words from CIPHER; where the data bits of a block are formed and an
anchor block that is due is there, the codeword of anchor block and data waits for TX; with less room it pads what waits to
the pilot block. In BEXA and ZR400 the next data block gives a codeword of the mode. FEC_ENC_OVERRUN with more data than
four blocks waiting counts ENC_DROP, raises EV_FEC_ENC_OVERRUN and drops one block; with no more it changes nothing.
FEC_CODEWORD_ARRIVE of a codeword counted as coming adds it, and in a pool that is not throttled the credit ends no higher
than the cap and the old credit plus 10; in BEXA without alignment it tests a frame phase and locks or goes on to the next.
FEC_ITERATION_END of a busy codeword counts its iteration. FEC_DEADLINE stops a codeword, as a shortfall where it has six
iterations, is below ITER_MAX and not exempt. FEC_CODEWORD_RELEASE delivers the oldest codeword with its verdict and counts
it; a block of ZR400 counts the bits that its decoder corrects. FEC_ANCHOR_ALIGN at an anchor frame, with light, aligns, or
realigns where the count disagrees. FEC_INTERVAL_END after the frames of an interval shows MON_VALID, BER_E7, ITER_MEAN and
POOL_EXH and starts a new one. Each clause names what else may change. -/
def Obligations.FecEncodesAndDecodes : Prop :=
  ∀ (s : State) (c : Carrier),
    (Open s (.fec c) → s.dev ≠ stBOOT → idRefuses s (.fec c) = false → s.runBit (.fec c) = false → s.running (.fec c) = false → startsNow s (.fec c) = true → s.clockReady (.fec c) = true → 
      Does (.fecStart c) s fun t =>
        t.running (.fec c) = true ∧ t.onC c R.FEC_STAT.CFG_ERR = false ∧
        Keeps s t (lvF ++ [R.CIPH_STAT.IN_SYNC.on c]) [.fec c, .framer .A, .framer .B] (lvP.append [.fec c, .frm .A, .frm .B, .ciph c, .shadow, .named, .waiting])) ∧
    (Open s (.fec c) → s.runBit (.fec c) = true → 
      Does (.fecRunClear c) s fun t =>
        t.running (.fec c) = false ∧ t.runBit (.fec c) = false ∧ t.onC c R.FEC_STAT.ENC_ACTIVE = false ∧
        t.onC c R.FEC_STAT.DEC_ACTIVE = false ∧ (s.onC c R.FEC_STAT.DEC_ACTIVE = true → (t.fec.get c).cws = []) ∧
        Keeps s t (lvF ++ [R.CIPH_STAT.IN_SYNC.on c]) [.fec c, .framer .A, .framer .B] (lvP.append [.fec c, .frm .A, .frm .B, .ciph c, .shadow, .named, .waiting, .stops])) ∧
    (s.onC c R.FEC_STAT.ENC_ACTIVE = true → s.clockReady (.tx c) = true → fecNative s c = true → encCode s c ≠ 3 → 30720 ≤ encRoom s c → (anchorDue s c = false ∨ (s.ciph.get c).anchorHeld = true) → encDataBits s c ≤ formedLeft ((drawn s c).ciph.get c) → 
      Does (.fecEncCodeword c) s fun t =>
        (t.fec.get c).encOut = (codeOf (encCode s c)).encode (encData s c).val ∧
        (t.fec.get c).encWait = (s.fec.get c).encWait.app (BitStr.of 30720 (t.fec.get c).encOut) ∧ (t.fec.get c).encHeld = false ∧
        (t.ciph.get c).anchorHeld = false ∧
        formedLeft (t.ciph.get c) + encDataBits s c =
          formedLeft ((drawn s c).ciph.get c) + (if (s.ciph.get c).anchorHeld = true ∧ anchorDue s c = true then 192 else 0) ∧
        Keeps s t evF [.cipher c] (evP.append [.fec c, .frm c, .ciph c, .ciph .A])) ∧
    (s.onC c R.FEC_STAT.ENC_ACTIVE = true → s.clockReady (.tx c) = true → fecNative s c = true → encCode s c ≠ 3 → encRoom s c < 30720 → (s.fec.get c).encHeld = false → 
      Does (.fecEncCodeword c) s fun t =>
        (t.fec.get c).encHeld = true ∧ (t.fec.get c).encWait = (s.fec.get c).encWait.padTo (txBlockBits s c) ∧
        (t.fec.get c).encOut = (s.fec.get c).encOut ∧ Keeps s t evF [.cipher c] (evP.append [.fec c, .frm c, .ciph c, .ciph .A])) ∧
    (s.onC c R.FEC_STAT.ENC_ACTIVE = true → s.clockReady (.tx c) = true → s.mode c = mBEXA → encDataBits s c ≤ formedLeft ((drawn s c).ciph.get c) → 
      Does (.fecEncCodeword c) s fun t =>
        (t.fec.get c).encOut = (codeOf 3).encode (formedBits ((drawn s c).ciph.get c) (encDataBits s c)).val ∧
        (t.fec.get c).encWait = (s.fec.get c).encWait.app (BitStr.of 15360 (t.fec.get c).encOut) ∧
        Keeps s t evF [.cipher c] (evP.append [.fec c, .frm c, .ciph c, .ciph .A])) ∧
    (s.onC c R.FEC_STAT.ENC_ACTIVE = true → s.clockReady (.tx c) = true → s.mode c = mZR400 → 
      Does (.fecEncCodeword c) s fun t =>
        (t.fec.get c).encOut = (Config.zrEncode (s.fec.get c).zrEnc (zrBlock s c).2).1 ∧
        (t.fec.get c).encWait = (s.fec.get c).encWait.app (BitStr.of Config.zrCodedBits (t.fec.get c).encOut) ∧
        Keeps s t [] [] [.fec c, .client]) ∧
    (s.onC c R.FEC_STAT.ENC_ACTIVE = true → s.clockReady (.tx c) = true → s.mode c ≠ mZR400 → 4 * encDataBits s c < encWaiting s c → encDataBits s c ≤ formedLeft ((drawn s c).ciph.get c) → 
      Does (.fecEncOverrun c) s fun t =>
        t.getC c R.FEC_DROP.ENC_DROP = satTo R.FEC_DROP.ENC_DROP.width (s.getC c R.FEC_DROP.ENC_DROP + 1) ∧
        t.ev = ((drawn s c).raiseC c E.FEC_ENC_OVERRUN (s.getC c R.TX_FCOUNT.FCOUNT)).ev ∧
        formedLeft (t.ciph.get c) + encDataBits s c = formedLeft ((drawn s c).ciph.get c) ∧
        Keeps s t (evF ++ [R.FEC_DROP.ENC_DROP.on c]) [.cipher c] (evP.append [.frm c, .ciph c, .ciph .A])) ∧
    (encWaiting s c ≤ 4 * encDataBits s c → 
      Does (.fecEncOverrun c) s fun t => t = s) ∧
    (∀ (now : Nat) (x : Nat × Nat × Nat) (rest : List (Nat × Nat × Nat)), s.onC c R.FEC_STAT.DEC_ACTIVE = true → s.clockReady (.rxdsp c) = true → s.mode c ≠ mZR400 → s.mode c ≠ mBEXA → (s.fec.get c).coming = x :: rest → x.1 < 3 → 
      Does (.fecCodewordArrive c now) s fun t =>
        (t.fec.get c).cws.length = (s.fec.get c).cws.length + 1 ∧ (t.fec.get c).coming = rest ∧
        (t.fec.get c).llr = (s.fec.get c).llr.drop 30720 ∧ (∃ w ∈ (t.fec.get c).cws.getLast?, w.code = x.1 ∧ w.norm = x.2.1 ∧ w.anchor = x.2.2) ∧
        ((s.fec.get c).pool = .normal →
          t.getC c R.FEC_POOL_STAT.CREDIT ≤ min (poolCap s c) (s.getC c R.FEC_POOL_STAT.CREDIT + 10)) ∧
        Keeps s t (evF ++ [R.FEC_POOL_STAT.CREDIT, R.FEC_POOL_STAT.CREDIT_MIN, R.FEC_SHORT.SHORT, R.FEC_CAP.CAPPED].map (·.on c)) [] (evP.append [.fec c])) ∧
    (∀ (now : Nat) (x : Nat × Nat × Nat) (rest : List (Nat × Nat × Nat)), s.onC c R.FEC_STAT.DEC_ACTIVE = true → s.clockReady (.rxdsp c) = true → s.mode c = mBEXA → s.onC c R.FEC_STAT.ALIGNED = true → (s.fec.get c).coming = x :: rest → 
      Does (.fecCodewordArrive c now) s fun t =>
        (t.fec.get c).cws.length = (s.fec.get c).cws.length + 1 ∧ (t.fec.get c).coming = rest ∧
        (t.fec.get c).llr = (s.fec.get c).llr.drop 15360 ∧
        Keeps s t (evF ++ [R.FEC_POOL_STAT.CREDIT, R.FEC_POOL_STAT.CREDIT_MIN, R.FEC_SHORT.SHORT, R.FEC_CAP.CAPPED].map (·.on c)) [] (evP.append [.fec c])) ∧
    (∀ (now : Nat), s.onC c R.FEC_STAT.DEC_ACTIVE = true → s.clockReady (.rxdsp c) = true → s.mode c = mBEXA → s.onC c R.FEC_STAT.ALIGNED = false → bexaStart (s.fec.get c).huntPhase + 15360 ≤ (s.fec.get c).llr.length → 
      Does (.fecCodewordArrive c now) s fun t =>
        t.onC c R.FEC_STAT.ALIGNED = bexaLocks (s.fec.get c) ∧
        (t.fec.get c).llr = (if bexaLocks (s.fec.get c) = true then (s.fec.get c).llr.drop (bexaStart (s.fec.get c).huntPhase) else (s.fec.get c).llr) ∧
        (t.fec.get c).huntPhase = (if bexaLocks (s.fec.get c) = true then (s.fec.get c).huntPhase else ((s.fec.get c).huntPhase + 1) % 15) ∧
        Keeps s t [R.FEC_STAT.ALIGNED.on c] [] [.fec c]) ∧
    (∀ (i now : Nat), ((s.fec.get c).cws[i]?.map (·.busy)) = some true → s.clockReady (.rxdsp c) = true → 
      Does (.fecIterationEnd c i now) s fun t =>
        (∃ w ∈ (s.fec.get c).cws[i]?, ∃ w' ∈ (t.fec.get c).cws[i]?, w'.iters = w.iters + 1 ∧ w'.code = w.code ∧ w'.hard = w.hard) ∧
        (t.fec.get c).cws.length = (s.fec.get c).cws.length ∧
        Keeps s t (evF ++ [R.FEC_POOL_STAT.CREDIT, R.FEC_POOL_STAT.CREDIT_MIN, R.FEC_SHORT.SHORT, R.FEC_CAP.CAPPED].map (·.on c))
          [.perf] (evP.append [.fec c])) ∧
    (∀ (i : Nat), ((s.fec.get c).cws[i]?.map (·.stopped)) = some false → 
      Does (.fecDeadline c i) s fun t =>
        (∃ w' ∈ (t.fec.get c).cws[i]?, w'.stopped = true) ∧
        (∀ w ∈ (s.fec.get c).cws[i]?, w.code ≠ 3 → 6 ≤ w.iters → w.iters < iterMax s c → w.exempt = false →
          ∃ w' ∈ (t.fec.get c).cws[i]?, w'.short = true) ∧
        Keeps s t (evF ++ [R.FEC_POOL_STAT.CREDIT, R.FEC_POOL_STAT.CREDIT_MIN, R.FEC_SHORT.SHORT, R.FEC_CAP.CAPPED].map (·.on c)) [.perf] (evP.append [.fec c])) ∧
    (∀ (w : Codeword) (rest : List Codeword), s.onC c R.FEC_STAT.DEC_ACTIVE = true → s.clockReady (.rxdsp c) = true → w.code ≠ 4 → (s.fec.get c).cws = w :: rest → 
      Does (.fecCodewordRelease c) s fun t =>
        (t.fec.get c).outUncorr = (finalDecision w).2 ∧ (t.fec.get c).outData = (finalDecision w).1 % 2 ^ (codeOf w.code).dataBits ∧
        (w.code ≠ 3 → (t.fec.get c).cws.length = rest.length) ∧
        t.getC c R.FEC_CW.CW = (s.getC c R.FEC_CW.CW + 1) % 2 ^ R.FEC_CW.CW.width ∧
        Keeps s t evF [.fec c, .dawn c, .perf, .cipher c, .framer .A, .framer .B] (evP.append [.fec c, .dawn c, .frm .A, .frm .B, .rx c, .ctl, .ciph c, .client, .freeCtr])) ∧
    (∀ (w : Codeword) (rest : List Codeword), s.onC c R.FEC_STAT.DEC_ACTIVE = true → s.clockReady (.rxdsp c) = true → w.code = 4 → (s.fec.get c).cws = w :: rest → 
      Does (.fecCodewordRelease c) s fun t =>
        t.getC c R.FEC_CORR.CORR = (s.getC c R.FEC_CORR.CORR + (Config.zrDecode (s.fec.get c).zrDec (w.post.headD [])).2.1) % 2 ^ R.FEC_CORR.CORR.width ∧
        t.getC c R.FEC_CW.CW = (s.getC c R.FEC_CW.CW + 1) % 2 ^ R.FEC_CW.CW.width ∧
        (t.fec.get c).outUncorr = (Config.zrDecode (s.fec.get c).zrDec (w.post.headD [])).2.2.1 ∧ (t.fec.get c).cws = rest ∧
        Keeps s t evF [.fec c, .perf, .framer .A, .framer .B] (evP.append [.fec c, .frm .A, .frm .B, .rx c, .client])) ∧
    (s.onC c R.FEC_STAT.DEC_ACTIVE = true → s.clockReady (.rxdsp c) = true → fecNative s c = true → s.onC c R.RXDSP_STAT.LOL = false → (s.fec.get c).rxFcount % 64 = 0 → s.onC c R.FEC_STAT.ALIGNED = false → 
      Does (.fecAnchorAlign c) s fun t =>
        t.onC c R.FEC_STAT.ALIGNED = true ∧ Keeps s t [R.FEC_STAT.ALIGNED.on c] [] []) ∧
    (s.onC c R.FEC_STAT.DEC_ACTIVE = true → s.clockReady (.rxdsp c) = true → fecNative s c = true → s.onC c R.RXDSP_STAT.LOL = false → (s.fec.get c).rxFcount % 64 = 0 → s.onC c R.FEC_STAT.ALIGNED = true → onCount s c = false → 
      Does (.fecAnchorAlign c) s fun t =>
        t.onC c R.CIPH_STAT.IN_SYNC = false ∧ t.getC c R.FEC_CAP.REALIGN = satTo R.FEC_CAP.REALIGN.width (s.getC c R.FEC_CAP.REALIGN + 1) ∧
        t.ev = (s.raiseC c E.FEC_REALIGN 0).ev ∧ Keeps s t (evF ++ [R.CIPH_STAT.IN_SYNC.on c, R.FEC_CAP.REALIGN.on c]) [] (evP.append [.ciph c])) ∧
    (s.onC c R.FEC_STAT.DEC_ACTIVE = true → intervalFrames s c ≤ (s.fec.get c).ivFrames → 
      Does (.fecIntervalEnd c) s fun t =>
        t.onC c R.FEC_STAT.MON_VALID = decide ((s.fec.get c).ivCw ≠ 0) ∧ (t.fec.get c).ivCw = 0 ∧ (t.fec.get c).ivBits = 0 ∧
        t.onC c R.FEC_STAT.POOL_EXH = (s.fec.get c).ivShort ∧
        ((s.fec.get c).ivCw ≠ 0 → (s.fec.get c).ivBits ≠ 0 → t.getC c R.FEC_BER.BER_E7 =
          min 1048575 (divRound ((s.fec.get c).ivCorr * 10000000) (s.fec.get c).ivBits)) ∧
        ((s.fec.get c).ivCw ≠ 0 → t.getC c R.FEC_BER.ITER_MEAN = satTo 9 (divRound (16 * (s.fec.get c).ivIter) (s.fec.get c).ivCw)) ∧
        Keeps s t evF [.fec c] (evP.append [.fec c, .freeCtr]))

/-- FRAMER_START of a stopped FRAMER that is reached, outside BOOT, with a good optics record, checks that pass and its
clock runs it with every aligner in HUNT; FRAMER_RUN_CLEAR hunts, clears every defect and asserts SSF. With the clock of its
PLL: FRAMER_TX_FRAME of a running FRAMER (in DAWN-TX within a burst with frames left) makes the next frame of its overhead
and slices, takes the BEI and a delay measurement that waits, and advances MFAS; of a stopping one it is the stop.
LINE_ALIGN_CHECK outside ZR400, at a place where the aligner tests: a hit (no more than the tolerated bits differ from the
nearer sync word) moves HUNT to PRESYNC and the fourth in a row PRESYNC to SYNC; a miss moves PRESYNC to HUNT, and the fifth
in a row SYNC to HUNT, counted in LF_OOF; the place is recorded, and hunting goes on at the next; in ZR400 both aligners
follow the alignment of the agreement. FAS_ALIGN_CHECK outside ZR400 with bits that are not tested yet: in HUNT the first
exact FAS among them moves to PRESYNC where no first data bit is expected; the fourth in a row whose MFAS follows moves
PRESYNC to SYNC with the multiframe aligner, a wrong one PRESYNC to HUNT, and the fifth in a row with more than 3 differing
bits SYNC to HUNT, counted in FAS_OOF; back in HUNT the next bit is tested. Each clause names what else may change. -/
def Obligations.FramerAligners : Prop :=
  ∀ (s : State) (c : Carrier),
    (Open s (.framer c) → s.dev ≠ stBOOT → idRefuses s (.framer c) = false → s.runBit (.framer c) = false → s.running (.framer c) = false → startsNow s (.framer c) = true → s.clockReady (.framer c) = true → 
      Does (.framerStart c) s fun t =>
        t.running (.framer c) = true ∧ t.onC c R.FRM_STAT.CFG_ERR = false ∧ (∀ o < 2, lfState t c o = aHUNT) ∧
        t.getC c R.FRM_STAT.FAS_STATE = aHUNT ∧ t.getC c R.FRM_STAT.MF_STATE = aHUNT ∧
        Keeps s t (lvF ++ [R.CIPH_STAT.IN_SYNC.on c, R.CL_DUAL.HOLD_NS, R.CL_DUAL.CLAMPED]) [.framer .A, .framer .B, .fec c, .store] (lvP.append [.frm .A, .frm .B, .fec c, .ciph c, .store, .shadow, .named, .waiting, .stops])) ∧
    (Open s (.framer c) → s.runBit (.framer c) = true → s.running (.framer c) = true → 
      Does (.framerRunClear c) s fun t =>
        t.runBit (.framer c) = false ∧ (∀ o < 2, lfState t c o = aHUNT) ∧ (∀ d < 16, hasDefect t c d = false) ∧
        t.onC c R.FRM_STAT.SSF = true ∧ Keeps s t (lvF ++ [R.CIPH_STAT.IN_SYNC.on c, R.CL_DUAL.HOLD_NS, R.CL_DUAL.CLAMPED]) [.framer .A, .framer .B, .fec c, .store] (lvP.append [.frm .A, .frm .B, .fec c, .ciph c, .store, .shadow, .named, .waiting, .stops])) ∧
    (s.running (.framer c) = true → s.stopping (.framer c) = false → s.mode c ≠ mZR400 → (s.mode c ≠ mDAWNTX ∨ (s.onC c R.TX_STAT.BURST = true ∧ 0 < (s.frm.get c).txLeft)) → s.clockReady (.framer c) = true → 
      Does (.framerTxFrame c) s fun t =>
        (t.frm.get c).txOh = nextOverhead s c ∧ (t.frm.get c).txMfas = ((s.frm.get c).txMfas + 1) % 256 ∧
        (t.frm.get c).txQ.getLast?.map (·.words) =
          some (otuWords (otuN s c) (nextOverhead s c) (s.mode c == mREGEN) (frmPayload s c).2.1) ∧
        (t.frm.get c).beiOut = [] ∧ (t.frm.get c).dmPending = false ∧
        ((s.frm.get c).dmPending = true → (t.frm.get c).dmSentAt = some s.time.aon) ∧
        Keeps s t lvF [] (lvP.append [.frm c, .client, .store])) ∧
    (s.running (.framer c) = true → s.stopping (.framer c) = true → s.clockReady (.framer c) = true → 
      Does (.framerTxFrame c) s fun t =>
        t.running (.framer c) = false ∧ t.stopping (.framer c) = false ∧
        Keeps s t lvF [.framer .A, .framer .B] (lvP.append [.frm .A, .frm .B, .waiting, .stops])) ∧
    (∀ (o bits pos : Nat), frmOn s c = true → s.clockReady (.framer c) = true → s.mode c ≠ mZR400 → o < 2 → lfState s c o = aHUNT → lineTests s c o pos = true → 
      Does (.lineAlignCheck c o bits pos) s fun t =>
        lfState t c o = (if min (lineDiff s c 0 bits) (lineDiff s c 1 bits) ≤ lineTolerance s c then aPRESYNC else aHUNT) ∧ lfPos (t.frm.get c) o = (if lfState t c o = aHUNT then pos + 1 else pos) ∧ Keeps s t lvF [.framer .A, .framer .B, .rxdsp c] (lvP.append [.frm .A, .frm .B, .rx c])) ∧
    (∀ (o bits pos : Nat), frmOn s c = true → s.clockReady (.framer c) = true → s.mode c ≠ mZR400 → o < 2 → lfState s c o = aPRESYNC → lineTests s c o pos = true → 
      Does (.lineAlignCheck c o bits pos) s fun t =>
        lfState t c o = (if min (lineDiff s c 0 bits) (lineDiff s c 1 bits) ≤ lineTolerance s c then (if 3 ≤ (lfOf (s.frm.get c) o).count then aSYNC else aPRESYNC) else aHUNT) ∧
        (min (lineDiff s c 0 bits) (lineDiff s c 1 bits) ≤ lineTolerance s c → (lfOf (t.frm.get c) o).count = (if 3 ≤ (lfOf (s.frm.get c) o).count then 4 else (lfOf (s.frm.get c) o).count + 1)) ∧
        lfPos (t.frm.get c) o = (if lfState t c o = aHUNT then pos + 1 else pos) ∧ Keeps s t lvF [.framer .A, .framer .B, .rxdsp c] (lvP.append [.frm .A, .frm .B, .rx c])) ∧
    (∀ (o bits pos : Nat), frmOn s c = true → s.clockReady (.framer c) = true → s.mode c ≠ mZR400 → o < 2 → lfState s c o = aSYNC → lineTests s c o pos = true → 
      Does (.lineAlignCheck c o bits pos) s fun t =>
        lfState t c o = (if min (lineDiff s c 0 bits) (lineDiff s c 1 bits) ≤ lineTolerance s c ∨ (lfOf (s.frm.get c) o).miss < 4 then aSYNC else aHUNT) ∧
        (¬ min (lineDiff s c 0 bits) (lineDiff s c 1 bits) ≤ lineTolerance s c → 4 ≤ (lfOf (s.frm.get c) o).miss →
          t.getC c R.FRM_CNT0.LF_OOF = satTo R.FRM_CNT0.LF_OOF.width (s.getC c R.FRM_CNT0.LF_OOF + 1)) ∧ lfPos (t.frm.get c) o = (if lfState t c o = aHUNT then pos + 1 else pos) ∧ Keeps s t lvF [.framer .A, .framer .B, .rxdsp c] (lvP.append [.frm .A, .frm .B, .rx c])) ∧
    (∀ (o bits pos : Nat), frmOn s c = true → s.clockReady (.framer c) = true → s.mode c = mZR400 → 
      Does (.lineAlignCheck c o bits pos) s fun t =>
        (∀ x < 2, lfState t c x = Config.zrAlign (lfState s c 0) bits % 3) ∧ Keeps s t lvF [.framer .A, .framer .B, .rxdsp c] (lvP.append [.frm .A, .frm .B, .rx c])) ∧
    (∀ (skew : Int), frmOn s c = true → s.clockReady (.framer c) = true → s.mode c ≠ mZR400 → (s.frm.get c).tested = false → s.getC c R.FRM_STAT.FAS_STATE = aHUNT → (s.frm.get c).fasDirect = false → 
      Does (.fasAlignCheck c skew) s fun t =>
        t.getC c R.FRM_STAT.FAS_STATE = (if 56 ≤ (huntedFas s c).len then aPRESYNC else aHUNT) ∧ (t.frm.get c).rxBits = huntedFas s c ∧
        (t.frm.get c).rxHead = (s.frm.get c).rxHead + ((s.frm.get c).rxBits.len - (huntedFas s c).len) ∧ Keeps s t (lvF ++ [R.CL_DUAL.HOLD_NS, R.CL_DUAL.CLAMPED]) [.framer .A, .framer .B] (lvP.append [.frm .A, .frm .B])) ∧
    (∀ (skew : Int), frmOn s c = true → s.clockReady (.framer c) = true → s.mode c ≠ mZR400 → (s.frm.get c).tested = false → 56 ≤ (s.frm.get c).rxBits.len → s.getC c R.FRM_STAT.FAS_STATE = aPRESYNC → 
      Does (.fasAlignCheck c skew) s fun t =>
        t.getC c R.FRM_STAT.FAS_STATE = (if fasDiff (s.frm.get c).rxBits = 0 ∧ fasMfasOf (s.frm.get c).rxBits = ((s.frm.get c).fasMfas + 1) % 256 then
          (if 3 ≤ (s.frm.get c).fas.count then aSYNC else aPRESYNC) else aHUNT) ∧
        (t.getC c R.FRM_STAT.FAS_STATE = aSYNC → t.getC c R.FRM_STAT.MF_STATE = aSYNC ∧
          (t.frm.get c).mfExpect = (fasMfasOf (s.frm.get c).rxBits + 1) % 256) ∧
        (t.frm.get c).rxBits = (if t.getC c R.FRM_STAT.FAS_STATE = aHUNT then (s.frm.get c).rxBits.drop 1 else (s.frm.get c).rxBits) ∧ Keeps s t (lvF ++ [R.CL_DUAL.HOLD_NS, R.CL_DUAL.CLAMPED]) [.framer .A, .framer .B] (lvP.append [.frm .A, .frm .B])) ∧
    (∀ (skew : Int), frmOn s c = true → s.clockReady (.framer c) = true → s.mode c ≠ mZR400 → (s.frm.get c).tested = false → 56 ≤ (s.frm.get c).rxBits.len → s.getC c R.FRM_STAT.FAS_STATE = aSYNC → 
      Does (.fasAlignCheck c skew) s fun t =>
        t.getC c R.FRM_STAT.FAS_STATE = (if fasDiff (s.frm.get c).rxBits ≤ 3 ∨ (s.frm.get c).fas.miss < 4 then aSYNC else aHUNT) ∧
        (t.getC c R.FRM_STAT.FAS_STATE = aHUNT → t.getC c R.FRM_STAT.MF_STATE = aHUNT ∧
          t.getC c R.FRM_CNT0.FAS_OOF = satTo R.FRM_CNT0.FAS_OOF.width (s.getC c R.FRM_CNT0.FAS_OOF + 1)) ∧
        (t.frm.get c).rxBits = (if t.getC c R.FRM_STAT.FAS_STATE = aHUNT then (s.frm.get c).rxBits.drop 1 else (s.frm.get c).rxBits) ∧ Keeps s t (lvF ++ [R.CL_DUAL.HOLD_NS, R.CL_DUAL.CLAMPED]) [.framer .A, .framer .B] (lvP.append [.frm .A, .frm .B]))

/-- FRAMER_RX_FRAME with the clock, the check of its FAS made and all its bits come, takes the frame out of the bits
received; in FAS SYNC it holds it, counts the blocks and the PM BIP violations and takes BEI and DMp of its overhead. After
3 ms DEFECT_TIMER declares dLOF-L, dLOF or dLOM of an aligner out of SYNC where the mode evaluates it and clears it of one
in SYNC; FECX_WINDOW after its frames declares dFECX at the fourth bad window in a row and clears it at the fourth good one,
no defect forced and with light. PM_SECOND ends the second of a powered carrier; PM_SECOND_FINAL with ten later seconds
ended makes the oldest second final: to the ledger, UAS, and ES at the near end. DEFECT_FORCE declares the forced defects of
a FRAMER that works. DM_START and, after 1 s, DM_TIMEOUT start and end a delay measurement, DM_NS reading 0xFFFFFFFF.
DUAL_SEGMENT_OUTPUT of a segment whose time has come follows SEL_MODE; with 0 the selected carrier stays where its copy came
in time and is good, the other is selected and counted where only its copy is, and a segment with no good copy is counted;
both copies are gone, and a copy still missing is noted. DUAL_REALIGN sets D again or leaves it unset; DUAL_WTR_EXPIRY after
WTR ends the wait; DUAL_ANCHOR_COMPARE declares dDMM at the third difference in RATE in a row; DSKEW_CLEAR_TIMER after 1 s
clears dDSKEW unless it is forced; PSR_HOLDOFF_EXPIRY after the hold-off asserts the request. Each clause names what else
may change. -/
def Obligations.FramerDefectsAndDual : Prop :=
  ∀ (s : State),
    (∀ (c : Carrier), frmOn s c = true → s.clockReady (.framer c) = true → (s.frm.get c).tested = true → frameLen s c ≤ (s.frm.get c).rxBits.len → fasInSync s c = true → 
      Does (.framerRxFrame c) s fun t =>
        (t.frm.get c).rxFrame.bytes = wholeFrame s c ∧ (t.frm.get c).rxBits = (s.frm.get c).rxBits.drop (frameLen s c) ∧
        (t.frm.get c).dmpRx = (rxOverhead s c (wholeFrame s c)).dmp ∧
        (t.frm.get c).beiOut = (rxOverhead s c (wholeFrame s c)).viol.take (otuN s c) ∧
        (t.frm.get c).blocks = (s.frm.get c).blocks + otuN s c ∧
        t.getC c R.FRM_PM_BIP.PM_BIP = satTo R.FRM_PM_BIP.PM_BIP.width (s.getC c R.FRM_PM_BIP.PM_BIP +
          (((rxOverhead s c (wholeFrame s c)).pmViol.take (otuN s c)).foldl (· + ·) 0)) ∧ Keeps s t lvF [.framer .A, .framer .B, .pod] (lvP.append [.frm .A, .frm .B, .link, .ciph c])) ∧
    (∀ (c : Carrier), frmOn s c = true → s.clockReady (.framer c) = true → (s.frm.get c).tested = true → frameLen s c ≤ (s.frm.get c).rxBits.len → fasInSync s c = false → 
      Does (.framerRxFrame c) s fun t =>
        (t.frm.get c).tested = false ∧ (t.frm.get c).rxBits = (s.frm.get c).rxBits.drop (frameLen s c) ∧
        (t.frm.get c).rxHead = (s.frm.get c).rxHead + frameLen s c ∧ Keeps s t lvF [] (lvP.append [.frm c, .ciph c])) ∧
    (∀ (c : Carrier) (d : Nat), syncTimed s c d ≠ 0 → 3000000 ≤ s.age (.sync c d) → 1 ≤ d → d ≤ 3 → s.getC c R.FRM_FORCE.FORCE = 0 → s.onC c R.RXDSP_STAT.LOL = false → syncHolds s c d = false → defectEvaluated (s.mode c) d = true → 
      Does (.defectTimer c d) s fun t =>
        hasDefect t c d = true ∧
        Keeps s t lvF [.framer .A, .framer .B] (lvP.append [.frm .A, .frm .B])) ∧
    (∀ (c : Carrier) (d : Nat), syncTimed s c d ≠ 0 → 3000000 ≤ s.age (.sync c d) → 1 ≤ d → d ≤ 3 → s.getC c R.FRM_FORCE.FORCE = 0 → s.onC c R.RXDSP_STAT.LOL = false → syncHolds s c d = true → 
      Does (.defectTimer c d) s fun t =>
        hasDefect t c d = false ∧
        Keeps s t lvF [.framer .A, .framer .B] (lvP.append [.frm .A, .frm .B])) ∧
    (∀ (c : Carrier), frmOn s c = true → suppressed s c 4 = false → fecxFrames s c ≤ (s.fec.get c).winFrames → s.getC c R.FRM_FORCE.FORCE = 0 → s.onC c R.RXDSP_STAT.LOL = false → 
      Does (.fecxWindow c) s fun t =>
        (t.fec.get c).winUncorr = false ∧ (t.fec.get c).winFrames = 0 ∧
        ((s.fec.get c).winUncorr = true → 3 ≤ (s.frm.get c).fecxBad → hasDefect t c 4 = true) ∧
        ((s.fec.get c).winUncorr = false → 3 ≤ (s.frm.get c).fecxGood → hasDefect t c 4 = false) ∧
        Keeps s t lvF [.framer .A, .framer .B] (lvP.append [.frm .A, .frm .B, .fec c])) ∧
    (∀ (c : Carrier), s.domOn (dFRM c) = true → 
      Does .pmSecond s fun t =>
        (t.frm.get c).secs.length = (s.frm.get c).secs.length + 1 ∧
        (t.frm.get c).secs.getLast?.map (·.label) = some (secondLabel s).1 ∧
        (t.frm.get c).neErr = 0 ∧ (t.frm.get c).feErr = 0 ∧ (t.frm.get c).blocks = 0 ∧ Keeps s t lvF [.framer .A, .framer .B] (lvP.append [.frm .A, .frm .B])) ∧
    (∀ (c : Carrier) (r : SecRec) (rest : List SecRec), (s.frm.get c).secs = r :: rest → 10 ≤ rest.length → 
      Does .pmSecondFinal s fun t =>
        (t.frm.get c).secs = rest ∧ (c.num, r) ∈ t.ldg.inbox ∧ t.onC c R.FRM_STAT.UAS_NE = r.neUnav ∧ t.onC c R.FRM_STAT.UAS_FE = r.feUnav ∧
        (r.neUnav = false → r.neEs = true → t.getC c R.FRM_PM_NE.ES = satTo R.FRM_PM_NE.ES.width (s.getC c R.FRM_PM_NE.ES + 1)) ∧
        Keeps s t evF [.framer .A, .framer .B] (evP.append [.frm .A, .frm .B, .client, .ldg])) ∧
    (∀ (c : Carrier) (v : Nat), Open s (.framer c) → 
      Does (.defectForce c v) s fun t =>
        t.getC c R.FRM_FORCE.FORCE = v % 65536 ∧ t.onC c R.FRM_FORCE.BIP_INJ = bitOf v 17 ∧
        (frmOn s c = true → ∀ d < 16, bitOf v d = true → hasDefect t c d = true) ∧ Keeps s t lvF [.framer .A, .framer .B] (lvP.append [.frm .A, .frm .B])) ∧
    (∀ (c : Carrier), Open s (.framer c) → frmOn s c = true → (s.frm.get c).dmRunning = false → 
      Does (.dmStart c) s fun t =>
        (t.frm.get c).dmPending = true ∧ (t.frm.get c).dmRunning = true ∧ (t.frm.get c).dmSentAt = none ∧ Keeps s t [] [] [.frm c, .marks]) ∧
    (∀ (c : Carrier), (s.frm.get c).dmRunning = true → 1000000000 ≤ s.age (.delay c) → 
      Does (.dmTimeout c) s fun t =>
        (t.frm.get c).dmRunning = false ∧ t.getC c R.FRM_DM_RES.DM_NS = 0xFFFFFFFF ∧ Keeps s t [R.FRM_DM_RES.DM_NS.on c] [] [.frm c]) ∧
    (∀ (x : DualCopy) (d : Nat), s.clockReady (.framer .A) = true → outputDue s = some (x, d) → s.getC .A R.FRM_DUAL.SEL_MODE = 1 → 
      Does .dualSegmentOutput s fun t =>
        selectedCarrier t = .A ∧
        (∀ c ∈ [Carrier.A, .B], copyOf t c x = none ∧
          (copyOf s c x = none → (t.ciph.get c).missed = (s.ciph.get c).missed ++ [(x.ctr, x.key)])) ∧
        Keeps s t lvF [.framer .A, .framer .B, .store] (lvP.append [.frm .A, .frm .B, .store, .ciph .A, .ciph .B])) ∧
    (∀ (x : DualCopy) (d : Nat), s.clockReady (.framer .A) = true → outputDue s = some (x, d) → s.getC .A R.FRM_DUAL.SEL_MODE = 2 → 
      Does .dualSegmentOutput s fun t =>
        selectedCarrier t = .B ∧
        (∀ c ∈ [Carrier.A, .B], copyOf t c x = none ∧
          (copyOf s c x = none → (t.ciph.get c).missed = (s.ciph.get c).missed ++ [(x.ctr, x.key)])) ∧
        Keeps s t lvF [.framer .A, .framer .B, .store] (lvP.append [.frm .A, .frm .B, .store, .ciph .A, .ciph .B])) ∧
    (∀ (x : DualCopy) (d : Nat), s.clockReady (.framer .A) = true → outputDue s = some (x, d) → s.getC .A R.FRM_DUAL.SEL_MODE = 0 → copyGood s (selectedCarrier s) (copyInTime s (selectedCarrier s) x d) = true → 
      Does .dualSegmentOutput s fun t =>
        selectedCarrier t = selectedCarrier s ∧
        (∀ c ∈ [Carrier.A, .B], copyOf t c x = none ∧
          (copyOf s c x = none → (t.ciph.get c).missed = (s.ciph.get c).missed ++ [(x.ctr, x.key)])) ∧
        Keeps s t lvF [.framer .A, .framer .B, .store] (lvP.append [.frm .A, .frm .B, .store, .ciph .A, .ciph .B])) ∧
    (∀ (x : DualCopy) (d : Nat), s.clockReady (.framer .A) = true → outputDue s = some (x, d) → s.getC .A R.FRM_DUAL.SEL_MODE = 0 → copyGood s (selectedCarrier s) (copyInTime s (selectedCarrier s) x d) = false → copyGood s (selectedCarrier s).other (copyInTime s (selectedCarrier s).other x d) = true → 
      Does .dualSegmentOutput s fun t =>
        selectedCarrier t = (selectedCarrier s).other ∧
          t.getC .A R.FRM_CNT1.SEG_SWITCH = satTo R.FRM_CNT1.SEG_SWITCH.width (s.getC .A R.FRM_CNT1.SEG_SWITCH + 1) ∧
        (∀ c ∈ [Carrier.A, .B], copyOf t c x = none ∧
          (copyOf s c x = none → (t.ciph.get c).missed = (s.ciph.get c).missed ++ [(x.ctr, x.key)])) ∧
        Keeps s t lvF [.framer .A, .framer .B, .store] (lvP.append [.frm .A, .frm .B, .store, .ciph .A, .ciph .B])) ∧
    (∀ (x : DualCopy) (d : Nat), s.clockReady (.framer .A) = true → outputDue s = some (x, d) → s.getC .A R.FRM_DUAL.SEL_MODE = 0 → copyGood s .A (copyInTime s .A x d) = false → copyGood s .B (copyInTime s .B x d) = false → 
      Does .dualSegmentOutput s fun t =>
        selectedCarrier t = selectedCarrier s ∧
          t.getC .A R.FRM_CNT1.SEG_BOTH_BAD = satTo R.FRM_CNT1.SEG_BOTH_BAD.width (s.getC .A R.FRM_CNT1.SEG_BOTH_BAD + 1) ∧
        (∀ c ∈ [Carrier.A, .B], copyOf t c x = none ∧
          (copyOf s c x = none → (t.ciph.get c).missed = (s.ciph.get c).missed ++ [(x.ctr, x.key)])) ∧
        Keeps s t lvF [.framer .A, .framer .B, .store] (lvP.append [.frm .A, .frm .B, .store, .ciph .A, .ciph .B])) ∧
    (∀ (skew : Int), Open s (.framer .A) → 
      Does (.dualRealign skew) s fun t =>
        (t.frm.get .A).delay = (if inDual s = true ∧ allInSync s .A = true ∧ allInSync s .B = true then
          some (holdOf s skew.natAbs + 2000) else none) ∧
        t.onC .A R.FRM_DUAL_STAT.ALIGNED = (inDual s && allInSync s .A && allInSync s .B) ∧
        Keeps s t (lvF ++ [R.CL_DUAL.HOLD_NS, R.CL_DUAL.CLAMPED]) [.framer .A, .framer .B] (lvP.append [.frm .A, .frm .B])) ∧
    (∀ (c : Carrier), (s.frm.get c).wtr = 2 → 1000000000 * s.getC .A R.FRM_DUAL.WTR ≤ s.age (.wtr c) → 
      Does (.dualWtrExpiry c) s fun t =>
        (t.frm.get c).wtr ≠ 2 ∧ ((t.frm.get c).wtr = 0 → excluded t c = false) ∧ Keeps s t lvF [.framer .A, .framer .B] (lvP.append [.frm .A, .frm .B])) ∧
    (inDual s = true → frmOn s .A = true → (s.rx.get .A).hdrRate ≠ (s.rx.get .B).hdrRate → 2 ≤ (s.frm.get .A).dmmBad → 
      Does .dualAnchorCompare s fun t =>
        (∀ c ∈ [Carrier.A, .B], hasDefect t c 14 = true) ∧ (t.frm.get .A).dmmBad = 3 ∧ Keeps s t lvF [.framer .A, .framer .B] (lvP.append [.frm .A, .frm .B])) ∧
    (∀ (c : Carrier), defectForced s c 15 = false → 1000000000 ≤ s.age (.late c) → 
      Does (.dskewClearTimer c) s fun t => hasDefect t c 15 = false ∧ Keeps s t lvF [.framer .A, .framer .B] (lvP.append [.frm .A, .frm .B])) ∧
    (∀ (c : Carrier), psrCondition s c = true → 100000000 * min 100 (s.getC c R.FRM_ACT.PSR_HOLDOFF) ≤ s.age (.psr c) → 
      Does (.psrHoldoffExpiry c) s fun t =>
        t.onC c R.FRM_STAT.PSR = true ∧ Keeps s t (R.FRM_STAT.PSR.on c :: lvF) [] lvP)

/-- CIPHER_START of a stopped CIPHER that is reached, outside BOOT, with a good optics record, checks that pass and its
clock runs it, IN_SYNC clear and BYPASS as the mode says; CIPHER_RUN_CLEAR clears RUN and IN_SYNC and stops it at once where
nothing of a segment is left. With the clock of its PLL: CIPH_SEGMENT_END of an open segment that is over forms its tag
block (the AES-GCM tag under the slot key, its salt, its counter and the source; zeros in clear and with TX_KEYX) and opens
the next segment unless it is the last. CIPH_ANCHOR_INSERT where an anchor block is due forms one with a good CRC and the
counter, offset, position and key of the word that follows it (in REGEN the key received); with nothing formed it first
takes the next payload word of the frame into the segment as sent. CIPH_ANCHOR_RECEIVE of the block at the head, outside the
bypassed modes, counts a bad one in ANCHOR_BAD and one that goes backward in ANCHOR_BACK, with its KEYX, and takes any
other: segment units, KEYX, key and, where it leads a segment, its counter and IN_SYNC. CIPH_SEGMENT_VERDICT of a whole
segment counts one under KEYX or that ended early in SEG_OTHER, one without its key in KEY_MISMATCH, one with UNCORR in
UNCORR_SEG and one whose tag differs in TAG_FAIL; a clear segment that is accepted passes, and one whose tag agrees passes
and moves RXCTR; outside DUAL the ports get the rest of its words, failed but where it passes; of a segment without its end
the words go as failed. RNG_TEST_RESULT shows the fault. Each clause names what else may change. -/
def Obligations.CipherSegments : Prop :=
  ∀ (s : State) (c : Carrier),
    (Open s (.cipher c) → s.dev ≠ stBOOT → idRefuses s (.cipher c) = false → s.runBit (.cipher c) = false → s.running (.cipher c) = false → startsNow s (.cipher c) = true → s.clockReady (.cipher c) = true → 
      Does (.cipherStart c) s fun t =>
        t.running (.cipher c) = true ∧ t.onC c R.CIPH_STAT.CFG_ERR = false ∧ t.onC c R.CIPH_STAT.BYPASS = ciphBypassed s c ∧
        t.onC c R.CIPH_STAT.IN_SYNC = false ∧ Keeps s t lvF [.cipher c, .fec c] (lvP.append [.ciph c, .fec c, .shadow, .named, .waiting])) ∧
    (Open s (.cipher c) → s.runBit (.cipher c) = true → 
      Does (.cipherRunClear c) s fun t =>
        t.runBit (.cipher c) = false ∧ t.onC c R.CIPH_STAT.IN_SYNC = false ∧
        t.running (.cipher c) = (s.running (.cipher c) && !(ciphDrained s c && (s.ciph.get c).segLen == 0)) ∧
        Keeps s t lvF [.cipher c, .fec c] (lvP.append [.ciph c, .fec c, .shadow, .named, .waiting, .stops])) ∧
    (s.running (.cipher c) = true → s.clockReady (.cipher c) = true → ciphEncrypts s c = true → (s.ciph.get c).segOpen = true → segmentOver s c = true → 
      Does (.ciphSegmentEnd c) s fun t =>
        ((s.ciph.get c).segLen ≠ 0 → (t.ciph.get c).formed.length = (s.ciph.get c).formed.length + 1 ∧
          (t.ciph.get c).formed.getLast?.map (fun p => (p.tag, p.off, p.ctr, p.key, p.bytes)) =
            some (true, (s.ciph.get c).segLen, (s.ciph.get c).segCtr, segKeyId s c, beBytes 16 (sentTag s c))) ∧
        (t.ciph.get c).segLen = 0 ∧ (t.ciph.get c).segOpen = !lastSegment s c ∧
        t.running (.cipher c) = !(s.stopping (.cipher c) && ciphDrained s c) ∧
        Keeps s t lvF [.cipher c] (lvP.append [.ciph c, .waiting, .stops])) ∧
    (∀ (p : Piece) (l : List Piece), s.running (.cipher c) = true → s.clockReady (.cipher c) = true → anchorDue s c = true → (s.ciph.get c).anchorHeld = false → (s.mode c ≠ mREGEN ∨ acrossBoard s c = false) → (s.ciph.get c).formed.drop ((s.ciph.get c).fed / 128) = p :: l → 
      Does (.ciphAnchorInsert c) s fun t =>
        anchorValid (t.ciph.get c).outAnchor = true ∧ bitsOf (t.ciph.get c).outAnchor 191 144 = p.ctr % 2 ^ 48 ∧
        bitsOf (t.ciph.get c).outAnchor 143 124 = (anchorPoint (otuN s c) p ((s.ciph.get c).fed % 128)).1 % 2 ^ 20 ∧
        bitsOf (t.ciph.get c).outAnchor 123 102 = (anchorPoint (otuN s c) p ((s.ciph.get c).fed % 128)).2 % 2 ^ 22 ∧
        bitsOf (t.ciph.get c).outAnchor 95 80 = (if s.mode c = mREGEN then bitsOf (s.ciph.get c.other).rxAnchor 95 80 else p.key % 2 ^ 16) ∧
        (t.ciph.get c).anchorHeld = true ∧ Keeps s t [] [] [.ciph c]) ∧
    (∀ (w : List Nat) (ws : List (List Nat)) (f : OtuTx) (q : List OtuTx), s.running (.cipher c) = true → s.clockReady (.cipher c) = true → anchorDue s c = true → (s.ciph.get c).anchorHeld = false → ciphEncrypts s c = true → (s.ciph.get c).formed = [] → (s.ciph.get c).fed = 0 → (s.ciph.get c).segOpen = true → segFull s c = false → (s.frm.get c).txQ = f :: q → f.words = w :: ws → payloadWord (otuN s c) (txWord s c) = true → 
      Does (.ciphAnchorInsert c) s fun t =>
        (t.ciph.get c).segText = (s.ciph.get c).segText ++ sentWord s c ((s.ciph.get c).segLen / 16) w ∧
        (t.ciph.get c).segLen = (s.ciph.get c).segLen + 16 ∧
        (t.ciph.get c).formed = [⟨false, 128 * txWord s c, (s.ciph.get c).segLen, (s.ciph.get c).segCtr, segKeyId s c,
          scrambleFrom (otuN s c) (16 * txWord s c) (s.frm.get c).txScr (sentWord s c ((s.ciph.get c).segLen / 16) w)⟩] ∧
        bitsOf (t.ciph.get c).outAnchor 143 124 = (s.ciph.get c).segLen % 2 ^ 20 ∧ Keeps s t [] [] [.ciph c, .frm c]) ∧
    (∀ (b : RxBlock) (bs : List RxBlock), s.running (.cipher c) = true → s.clockReady (.cipher c) = true → ciphBypassed s c = false → (s.ciph.get c).rem.blocks = b :: bs → b.anchor ≠ 0 → anchorValid (anchorOf b) = true → anchorBackward s c (anchorOf b) = false → 
      Does (.ciphAnchorReceive c) s fun t =>
        (t.ciph.get c).rxAnchor = anchorOf b ∧ t.getC c R.CIPH_RX_STAT.RX_SEG_UNITS = bitsOf (anchorOf b) 101 96 ∧
        t.onC c R.CIPH_STAT.KEYX_RX = bitOf (anchorOf b) 62 ∧
        (bitOf (anchorOf b) 63 = true → t.onC c R.CIPH_RX_STAT.PEND_RX = true ∧ t.getC c R.CIPH_RX_STAT.RX_KEY_ID = bitsOf (anchorOf b) 95 80) ∧
        (bitOf (anchorOf b) 63 = false → t.onC c R.CIPH_RX_STAT.PEND_RX = false ∧
          t.getC c R.CIPH_RX_STAT.RX_KEY_ID = bitsOf (anchorOf b) 79 64) ∧
        (b.bits.len = 192 → bs = [] → (s.ciph.get c).rem.part.len < 128 →
          t.onC c R.CIPH_STAT.IN_SYNC = true ∧ (t.ciph.get c).rem.seg.ctr = bitsOf (anchorOf b) 191 144) ∧
        Keeps s t evF [.cipher c] (evP.append [.ciph c, .frm c, .client, .freeCtr])) ∧
    (∀ (b : RxBlock) (bs : List RxBlock), s.running (.cipher c) = true → s.clockReady (.cipher c) = true → ciphBypassed s c = false → (s.ciph.get c).rem.blocks = b :: bs → b.anchor ≠ 0 → anchorValid (anchorOf b) = false → 
      Does (.ciphAnchorReceive c) s fun t =>
        t.getC c R.CIPH_CNT2.ANCHOR_BAD = satTo R.CIPH_CNT2.ANCHOR_BAD.width (s.getC c R.CIPH_CNT2.ANCHOR_BAD + 1) ∧
        (t.ciph.get c).rxAnchor = (s.ciph.get c).rxAnchor ∧ Keeps s t evF [.cipher c] (evP.append [.ciph c, .frm c, .client, .freeCtr])) ∧
    (∀ (b : RxBlock) (bs : List RxBlock), s.running (.cipher c) = true → s.clockReady (.cipher c) = true → ciphBypassed s c = false → (s.ciph.get c).rem.blocks = b :: bs → b.anchor ≠ 0 → anchorValid (anchorOf b) = true → anchorBackward s c (anchorOf b) = true → 
      Does (.ciphAnchorReceive c) s fun t =>
        t.getC c R.CIPH_CNT3.ANCHOR_BACK = satTo R.CIPH_CNT3.ANCHOR_BACK.width (s.getC c R.CIPH_CNT3.ANCHOR_BACK + 1) ∧
        (t.ciph.get c).rxAnchor = (s.ciph.get c).rxAnchor ∧ (bitOf (anchorOf b) 62 = true → t.onC c R.CIPH_STAT.KEYX_RX = true) ∧
        Keeps s t evF [.cipher c] (evP.append [.ciph c, .frm c, .client, .freeCtr])) ∧
    (∀ (g : SegRx) (gs : List SegRx), s.clockReady (.cipher c) = true → (s.ciph.get c).rem.segs = g :: gs → g.whole = true → (s.onC c R.CIPH_STAT.KEYX_RX = true ∨ g.early = true) → 
      Does (.ciphSegmentVerdict c) s fun t =>
        (t.ciph.get c).rem.segs = gs ∧ t.getC c R.CIPH_CNT3.SEG_OTHER = satTo R.CIPH_CNT3.SEG_OTHER.width (s.getC c R.CIPH_CNT3.SEG_OTHER + 1) ∧
        (inDual s = false → PortsGet s t ((segPlain s c g).drop g.sent) true) ∧ Keeps s t lvF [.cipher c, .framer .A, .framer .B] (lvP.append [.ciph c, .frm .A, .frm .B])) ∧
    (∀ (g : SegRx) (gs : List SegRx), s.clockReady (.cipher c) = true → (s.ciph.get c).rem.segs = g :: gs → g.whole = true → s.onC c R.CIPH_STAT.KEYX_RX = false → g.early = false → g.key = 0 → s.onC c R.CIPH_CFG.ACCEPT_CLEAR = true → 
      Does (.ciphSegmentVerdict c) s fun t =>
        (t.ciph.get c).rem.segs = gs ∧ (inDual s = false → PortsGet s t ((segPlain s c g).drop g.sent) g.uncorr) ∧
        (g.uncorr = true → t.getC c R.CIPH_CNT1.UNCORR_SEG = satTo R.CIPH_CNT1.UNCORR_SEG.width (s.getC c R.CIPH_CNT1.UNCORR_SEG + 1)) ∧ Keeps s t lvF [.cipher c, .framer .A, .framer .B] (lvP.append [.ciph c, .frm .A, .frm .B])) ∧
    (∀ (g : SegRx) (gs : List SegRx), s.clockReady (.cipher c) = true → (s.ciph.get c).rem.segs = g :: gs → g.whole = true → judgedByKey s c g = true → rxKey s c g.key = none → 
      Does (.ciphSegmentVerdict c) s fun t =>
        (t.ciph.get c).rem.segs = gs ∧
        t.getC c R.CIPH_CNT1.KEY_MISMATCH = satTo R.CIPH_CNT1.KEY_MISMATCH.width (s.getC c R.CIPH_CNT1.KEY_MISMATCH + 1) ∧
        (inDual s = false → PortsGet s t ((segPlain s c g).drop g.sent) true) ∧ Keeps s t lvF [.cipher c, .framer .A, .framer .B] (lvP.append [.ciph c, .frm .A, .frm .B])) ∧
    (∀ (g : SegRx) (gs : List SegRx) (k : KeySlot), s.clockReady (.cipher c) = true → (s.ciph.get c).rem.segs = g :: gs → g.whole = true → judgedByKey s c g = true → rxKey s c g.key = some k → 
      Does (.ciphSegmentVerdict c) s fun t =>
        (t.ciph.get c).rem.segs = gs ∧
        (g.uncorr = true → t.getC c R.CIPH_CNT1.UNCORR_SEG = satTo R.CIPH_CNT1.UNCORR_SEG.width (s.getC c R.CIPH_CNT1.UNCORR_SEG + 1)) ∧
        (g.uncorr = false → rxTagOf s c k g = g.tag → t.getC c R.CIPH_RXCTR.RXCTR = g.ctr % 2 ^ 48) ∧
        (g.uncorr = false → rxTagOf s c k g ≠ g.tag →
          t.getC c R.CIPH_CNT0.TAG_FAIL = satTo R.CIPH_CNT0.TAG_FAIL.width (s.getC c R.CIPH_CNT0.TAG_FAIL + 1)) ∧
        (inDual s = false → PortsGet s t ((segPlain s c g).drop g.sent) (g.uncorr || rxTagOf s c k g != g.tag)) ∧ Keeps s t lvF [.cipher c, .framer .A, .framer .B] (lvP.append [.ciph c, .frm .A, .frm .B])) ∧
    (∀ (g : SegRx) (gs : List SegRx), s.clockReady (.cipher c) = true → (s.ciph.get c).rem.segs = g :: gs → g.whole = false → 
      Does (.ciphSegmentVerdict c) s fun t =>
        (t.ciph.get c).rem.segs = gs ∧ (inDual s = false → PortsGet s t ((segPlain s c g).drop g.sent) true) ∧
        Keeps s t lvF [] (lvP.append [.ciph c])) ∧
    (∀ (fail : Bool), 
      Does (.rngTestResult c fail) s fun t =>
        t.onC c R.CIPH_STAT.RNG_FAULT = fail ∧ Keeps s t (evF ++ [R.CIPH_STAT.RNG_FAULT.on c]) [] evP)

/-- With CIPHER reached and no command under way, where the mode takes key commands: KEK_CLEAR with a voting majority takes
the 32 bytes of the window as the KEK; KEK_BLOB takes the blob that unwraps under the device wrap key, and rejects one that
does not with code 3; KEK_EXPORT with a KEK goes ahead; KEY_LOAD takes a record that unwraps under the KEK, whose KEY_ID is
not 0, whose slot is not in use and whose KEY_ID the other receive slot does not hold. Each sets BUSY and clears REJ_CODE.
KEY_LOAD is rejected with code 1 where the mode takes no key commands, 2 without a KEK, 3 where the record does not unwrap,
4 for KEY_ID 0, 5 for a slot in use and 6 for a KEY_ID of the other receive slot, with REJ_CODE and EV_CIPH_LOAD_REJ.
CIPH_LOAD_DONE ends BUSY and puts the KEK, the wrapped KEK of an export into the window, or the key with STATE 1 and its
KEY_ID, in place. Each clause names what else may change. -/
def Obligations.CipherKeys : Prop :=
  ∀ (s : State) (c : Carrier),
    (Open s (.cipher c) → votes s = true → s.onC c R.CIPH_LOAD.BUSY = false → keyCommandsOff s c = false → 
      Does (.kekClear c) s fun t =>
        (t.ciph.get c).job = .kek true (ciphWindow s c 0x140 32) ∧ t.onC c R.CIPH_LOAD.BUSY = true ∧ t.getC c R.CIPH_LOAD.REJ_CODE = 0 ∧ Keeps s t [R.CIPH_LOAD.REJ_CODE.on c, R.CIPH_LOAD.BUSY.on c] [] [.ciph c]) ∧
    (Open s (.cipher c) → s.onC c R.CIPH_LOAD.BUSY = false → keyCommandsOff s c = false → 
      Does (.kekBlob c) s fun t =>
        (kwUnwrap (wrapKey s) (ciphWindow s c 0x160 40) = none → t.getC c R.CIPH_LOAD.REJ_CODE = 3 ∧ t.ev = (s.raiseC c E.CIPH_LOAD_REJ 3).ev ∧ Keeps s t (evF ++ [R.CIPH_LOAD.REJ_CODE.on c]) [] evP) ∧
        (∀ k ∈ kwUnwrap (wrapKey s) (ciphWindow s c 0x160 40), (t.ciph.get c).job = .kek false k ∧ t.onC c R.CIPH_LOAD.BUSY = true ∧ t.getC c R.CIPH_LOAD.REJ_CODE = 0 ∧ Keeps s t [R.CIPH_LOAD.REJ_CODE.on c, R.CIPH_LOAD.BUSY.on c] [] [.ciph c])) ∧
    (Open s (.cipher c) → s.onC c R.CIPH_LOAD.BUSY = false → keyCommandsOff s c = false → (s.ciph.get c).kek.isSome = true → 
      Does (.kekExport c) s fun t => (t.ciph.get c).job = .exportKek ∧ t.onC c R.CIPH_LOAD.BUSY = true ∧ t.getC c R.CIPH_LOAD.REJ_CODE = 0 ∧ Keeps s t [R.CIPH_LOAD.REJ_CODE.on c, R.CIPH_LOAD.BUSY.on c] [] [.ciph c]) ∧
    (∀ (target : Nat) (kek : List Nat), Open s (.cipher c) → s.onC c R.CIPH_LOAD.BUSY = false → keyCommandsOff s c = false → (s.ciph.get c).kek = some kek → 
      Does (.keyLoad c target) s fun t =>
        t.getC c R.CIPH_LOAD.TARGET = target % 4 ∧
        (kwUnwrap kek (ciphWindow s c 0x100 48) = none → t.getC c R.CIPH_LOAD.REJ_CODE = 3 ∧ t.ev = (s.raiseC c E.CIPH_LOAD_REJ 3).ev ∧ Keeps s t (evF ++ [R.CIPH_LOAD.TARGET.on c, R.CIPH_LOAD.REJ_CODE.on c]) [] evP) ∧
        (∀ r ∈ kwUnwrap kek (ciphWindow s c 0x100 48),
          (recId r = 0 → t.getC c R.CIPH_LOAD.REJ_CODE = 4 ∧ t.ev = (s.raiseC c E.CIPH_LOAD_REJ 4).ev ∧ Keeps s t (evF ++ [R.CIPH_LOAD.TARGET.on c, R.CIPH_LOAD.REJ_CODE.on c]) [] evP) ∧ (recId r ≠ 0 → slotInUse s c (target % 4) = true → t.getC c R.CIPH_LOAD.REJ_CODE = 5 ∧ t.ev = (s.raiseC c E.CIPH_LOAD_REJ 5).ev ∧ Keeps s t (evF ++ [R.CIPH_LOAD.TARGET.on c, R.CIPH_LOAD.REJ_CODE.on c]) [] evP) ∧
          (recId r ≠ 0 → slotInUse s c (target % 4) = false → otherHolds s c (target % 4) (recId r) = true → t.getC c R.CIPH_LOAD.REJ_CODE = 6 ∧ t.ev = (s.raiseC c E.CIPH_LOAD_REJ 6).ev ∧ Keeps s t (evF ++ [R.CIPH_LOAD.TARGET.on c, R.CIPH_LOAD.REJ_CODE.on c]) [] evP) ∧
          (recId r ≠ 0 → slotInUse s c (target % 4) = false → otherHolds s c (target % 4) (recId r) = false →
            (t.ciph.get c).job = .key (target % 4) ⟨r.take 32, ofBe ((r.drop 32).take 6)⟩ (recId r) ∧ t.onC c R.CIPH_LOAD.BUSY = true ∧ t.getC c R.CIPH_LOAD.REJ_CODE = 0 ∧ Keeps s t [R.CIPH_LOAD.TARGET.on c, R.CIPH_LOAD.REJ_CODE.on c, R.CIPH_LOAD.BUSY.on c] [] [.ciph c]))) ∧
    (∀ (target : Nat), Open s (.cipher c) → s.onC c R.CIPH_LOAD.BUSY = false → (keyCommandsOff s c = true ∨ (s.ciph.get c).kek = none) → 
      Does (.keyLoad c target) s fun t =>
        t.getC c R.CIPH_LOAD.REJ_CODE = (if keyCommandsOff s c = true then 1 else 2) ∧
        t.ev = (s.raiseC c E.CIPH_LOAD_REJ (if keyCommandsOff s c = true then 1 else 2)).ev ∧
        Keeps s t (evF ++ [R.CIPH_LOAD.REJ_CODE.on c, R.CIPH_LOAD.TARGET.on c]) [] evP) ∧
    (∀ (cl : Bool) (k : List Nat), (s.ciph.get c).job = .kek cl k → 
      Does (.ciphLoadDone c) s fun t =>
        t.onC c R.CIPH_LOAD.BUSY = false ∧ (t.ciph.get c).job = .none ∧ (t.ciph.get c).kek = some k ∧ t.onC c R.CIPH_STAT.KEK_VALID = true ∧
        Keeps s t [R.CIPH_LOAD.BUSY.on c, R.CIPH_STAT.KEK_VALID.on c] [] [.ciph c]) ∧
    (∀ (k : List Nat), (s.ciph.get c).job = .exportKek → (s.ciph.get c).kek = some k → k.length = 32 → 
      Does (.ciphLoadDone c) s fun t =>
        t.onC c R.CIPH_LOAD.BUSY = false ∧ (t.ciph.get c).job = .none ∧ (t.ciph.get c).kek = some k ∧
        ciphWindow t c 0x160 40 = kwWrap (wrapKey s) k ∧ Keeps s t [] [.cipher c] [.ciph c]) ∧
    (∀ (i id : Nat) (k : KeySlot), (s.ciph.get c).job = .key i k id → i < 4 → 
      Does (.ciphLoadDone c) s fun t =>
        t.onC c R.CIPH_LOAD.BUSY = false ∧ (t.ciph.get c).job = .none ∧ slotState t c i = 1 ∧ slotId t c i = id % 2 ^ 16 ∧
        (t.ciph.get c).slots = (s.ciph.get c).slots.set i k ∧ Keeps s t [] [.cipher c] [.ciph c])

/-- With CLIENT reached, CL_PORT_ENABLE of a port that does not run sets EN; with every check of R334 passed the port runs,
else CFG_CODE says which failed; CL_PORT_DISABLE stops a running port. CL_LINK_CHANGE of a running port shows PCS_ALIGNED
while its lanes are READY, fixes the polarity of a lane that is locked, and shows LF_RX, RF_RX and LINK_UP. With the client
clock: CL_INGRESS_FRAME on a running port with its link up and no loopback toward the host counts the RS codewords; a frame
with a bad FCS counts FCS_ERR and not RX_FRAMES; a good one of legal length that is no control frame and fits the buffer
counts in RX_FRAMES and RX_BYTES and, without PTP, joins the frames to be sent. CL_EGRESS_FRAME of a running port without
replacement sends the frame of the IMP unit whose bytes have all come, counted in TX_FRAMES and TX_BYTES, as it is without
PTP and loopback; a unit with failed bytes counts SEG_DROP and no frame, and is cut at the first failed byte; in ZR400 it
sends the next frame decoded. IMP_HEADER of a running port with a receive carrier takes the next four bytes of its stream: a
good HEC gains sync at the third in a row and, in sync, opens the unit of that length; a bad one counts IMP_HEC and loses
sync at the third. CL_TS_POP of an access that may read goes to the next timestamp. Each clause names what else may change.
-/
def Obligations.ClientPorts : Prop :=
  ∀ (s : State) (p : Nat),
    p < 24 →
    (Open s .client → s.on (R.CL_PORT_CFG.EN.ix p) = false → portRunning s p = false → 
      Does (.clPortEnable p) s fun t =>
        t.on (R.CL_PORT_CFG.EN.ix p) = true ∧
        (portCode s p = 0 → portRunning t p = true ∧ t.on (R.CL_PORT_STAT.CFG_ERR.ix p) = false) ∧
        (portCode s p ≠ 0 → portRunning t p = false ∧ t.on (R.CL_PORT_STAT.CFG_ERR.ix p) = true ∧
          t.get (R.CL_PORT_STAT.CFG_CODE.ix p) = portCode s p) ∧ Keeps s t lvF linkB linkP) ∧
    (Open s .client → s.on (R.CL_PORT_CFG.EN.ix p) = true → portRunning s p = true → 
      Does (.clPortDisable p) s fun t =>
        t.on (R.CL_PORT_CFG.EN.ix p) = false ∧ portRunning t p = false ∧ t.on (R.CL_PORT_STAT.LINK_UP.ix p) = false ∧
        t.on (R.CL_PORT_STAT.REPL_ACT.ix p) = false ∧ Keeps s t lvF linkB linkP) ∧
    (∀ (aligned : Bool) (locks : Nat) (lf rf : Bool), portRunning s p = true → 
      Does (.clLinkChange p aligned locks lf rf) s fun t =>
        t.on (R.CL_PORT_STAT.PCS_ALIGNED.ix p) = (aligned && (portLanes s p).all (fun n => (ln s n).st == 4)) ∧
        (∀ n ∈ portLanes s p, aligned = true ∨ bitOf locks (n - p) = true → (ln t n).polFixed = true) ∧
        t.on (R.CL_PORT_STAT.LF_RX.ix p) = lf ∧ t.on (R.CL_PORT_STAT.RF_RX.ix p) = rf ∧
        t.on (R.CL_PORT_STAT.LINK_UP.ix p) = (t.on (R.CL_PORT_STAT.PCS_ALIGNED.ix p) && !lf) ∧
        Keeps s t (evF ++ [R.CL_PORT_STAT.PCS_ALIGNED, R.CL_PORT_STAT.LF_RX, R.CL_PORT_STAT.RF_RX, R.CL_PORT_STAT.LINK_UP].map (·.ix p)) []
          (evP.append [.client, .link])) ∧
    (∀ (f : List Nat) (sub corr uncorr : Nat), portRunning s p = true → s.clockReady .client = true → s.on (R.CL_PORT_STAT.LINK_UP.ix p) = true → portLoops s p 1 = false → 
      Does (.clIngressFrame p f sub corr uncorr) s fun t =>
        t.get (R.CL_RSFEC.RS_CORR.ix p) = satTo R.CL_RSFEC.RS_CORR.width (s.get (R.CL_RSFEC.RS_CORR.ix p) + corr) ∧
        (fcsGood f = false → t.get (R.CL_RX_ERR.FCS_ERR.ix p) = satTo R.CL_RX_ERR.FCS_ERR.width (s.get (R.CL_RX_ERR.FCS_ERR.ix p) + 1) ∧
          t.get (R.RX_FRAMES.RX_FRAMES.ix p) = s.get (R.RX_FRAMES.RX_FRAMES.ix p)) ∧
        (fcsGood f = true → 64 ≤ f.length → f.length ≤ s.get (R.CL_PORT_CFG.MTU.ix p) → beAt f 12 2 ≠ 0x8808 →
          (s.port p).feed.bytes + f.length ≤ ingressBuffer →
          t.get (R.RX_FRAMES.RX_FRAMES.ix p) = (s.get (R.RX_FRAMES.RX_FRAMES.ix p) + 1) % 2 ^ R.RX_FRAMES.RX_FRAMES.width ∧
          t.get (R.RX_BYTES.RX_BYTES.ix p) = (s.get (R.RX_BYTES.RX_BYTES.ix p) + f.length) % 2 ^ R.RX_BYTES.RX_BYTES.width ∧
          (s.on (R.CL_PORT_CFG.PTP_EN.ix p) = false → (t.port p).feed.queue = (s.port p).feed.queue ++ [withFcs (dropFcs f)])) ∧
        Keeps s t evF linkB linkP) ∧
    (∀ (sub : Nat) (u : RxUnit), portRunning s p = true → s.clockReady .client = true → s.on (R.CL_PORT_STAT.REPL_ACT.ix p) = false → (s.port p).zrIn = [] → (s.port p).unit = some u → u.len + impPad u.len ≤ (s.port p).rxIn.length → u.bad = false → u.err = false → ((s.port p).rxIn.take u.len).any (·.2) = false → 
      Does (.clEgressFrame p sub) s fun t =>
        t.get (R.TX_FRAMES.TX_FRAMES.ix p) = (s.get (R.TX_FRAMES.TX_FRAMES.ix p) + 1) % 2 ^ R.TX_FRAMES.TX_FRAMES.width ∧
        t.get (R.TX_BYTES.TX_BYTES.ix p) = (s.get (R.TX_BYTES.TX_BYTES.ix p) + u.len) % 2 ^ R.TX_BYTES.TX_BYTES.width ∧
        (t.port p).rxIn = (s.port p).rxIn.drop (u.len + impPad u.len) ∧ (t.port p).unit = none ∧ (t.port p).cut = false ∧
        (s.on (R.CL_PORT_CFG.PTP_EN.ix p) = false → portLoops s p 2 = false →
          (t.port p).outFrame = ((s.port p).rxIn.take u.len).map (·.1)) ∧ Keeps s t evF linkB linkP) ∧
    (∀ (sub : Nat) (u : RxUnit), portRunning s p = true → s.clockReady .client = true → (s.port p).zrIn = [] → (s.port p).unit = some u → u.len + impPad u.len ≤ (s.port p).rxIn.length → (u.bad = true ∨ ((s.port p).rxIn.take u.len).any (·.2) = true) → 
      Does (.clEgressFrame p sub) s fun t =>
        t.get (R.CL_EG_LOSS.SEG_DROP.ix p) = satTo R.CL_EG_LOSS.SEG_DROP.width (s.get (R.CL_EG_LOSS.SEG_DROP.ix p) + 1) ∧
        t.get (R.TX_FRAMES.TX_FRAMES.ix p) = s.get (R.TX_FRAMES.TX_FRAMES.ix p) ∧ (t.port p).unit = none ∧
        (u.bad = false → s.on (R.CL_PORT_STAT.REPL_ACT.ix p) = false → (t.port p).cut = true ∧
          (t.port p).outFrame = (((s.port p).rxIn.take u.len).takeWhile (fun b => !b.2)).map (·.1)) ∧ Keeps s t evF linkB linkP) ∧
    (∀ (sub : Nat) (f : List Nat) (fs : List (List Nat)), portRunning s p = true → s.clockReady .client = true → s.on (R.CL_PORT_STAT.REPL_ACT.ix p) = false → (s.port p).zrIn = f :: fs → 
      Does (.clEgressFrame p sub) s fun t =>
        (t.port p).zrIn = fs ∧ (t.port p).cut = false ∧
        t.get (R.TX_FRAMES.TX_FRAMES.ix p) = (s.get (R.TX_FRAMES.TX_FRAMES.ix p) + 1) % 2 ^ R.TX_FRAMES.TX_FRAMES.width ∧
        Keeps s t evF linkB linkP) ∧
    (∀ (hdr : Nat), portRunning s p = true → (rxCarrier s p).isSome = true → (s.port p).unit = none → 4 ≤ ((s.port p).rxIn.drop (s.port p).skip).length → ofBe ((((s.port p).rxIn.drop (s.port p).skip).take 4).map (·.1)) = hdr → 
      Does (.impHeader p) s fun t =>
        (t.port p).rxIn = ((s.port p).rxIn.drop (s.port p).skip).drop 4 ∧
        (impGood hdr = true → (t.port p).good = min 3 ((s.port p).good + 1) ∧ (t.port p).bad = 0 ∧
          (t.port p).sync = ((s.port p).sync || decide (3 ≤ (s.port p).good + 1)) ∧
          ((t.port p).sync = true → hdr / 65536 % 65536 ≠ 0 → (t.port p).unit.map (·.len) = some (hdr / 65536 % 65536))) ∧
        (impGood hdr = false → (t.port p).good = 0 ∧ (t.port p).sync = ((s.port p).sync && decide ((s.port p).bad + 1 < 3)) ∧
          t.get (R.CL_MISC.IMP_HEC.ix p) = satTo R.CL_MISC.IMP_HEC.width (s.get (R.CL_MISC.IMP_HEC.ix p) + 1)) ∧
        Keeps s t (lvF ++ [R.CL_MISC.IMP_HEC.ix p, R.CL_PORT_STAT.CSF_IN.ix p]) [] lvP) ∧
    (∀ (by' : Requester), s.dev ≠ 0 → reachable s .client R.CL_TS_NS.NS.addr = true → s.on (resettingF .client) = false → (votedBy by' = true → votes s = true) → 
      Does (.clTsPop by') s fun t =>
        t.client.ts = s.client.ts.drop 1 ∧ t.on R.CL_TS_INFO.VALID = !(s.client.ts.drop 1).isEmpty ∧
        t.get R.CL_TS_NS.NS = ((s.client.ts.drop 1).head?.getD (0, 0, 0, 0)).2.2.2 % 2 ^ 32 ∧
        Keeps s t [R.CL_TS_INFO.VALID, R.CL_TS_INFO.PORT, R.CL_TS_INFO.DOMAIN, R.CL_TS_INFO.SEQ_ID, R.CL_TS_NS.NS] [] [.client])

/-- LANE_ENABLE of a lane without power in a domain that is on starts its power-up; LANE_DISABLE takes its power away.
LANE_POWERED ends power-up in IDLE, or goes on to LOCKING where a port or a pattern needs the lane. LANE_CDR_LOCK moves
LOCKING to ADAPT with CDR_LOCK, LANE_ADAPT_DONE moves ADAPT to READY, or PATTERN while a pattern is enabled, with
ADAPT_DONE; LANE_CDR_LOSS returns a lane from LOCKING on to LOCKING. LANE_POL_TIMER after 10 ms turns the polarity of a
client lane in READY with AUTO_POL whose port is not aligned. Of a lane with power and registers that are reached,
LANE_RX_INV_WRITE stores RX_INV and POL_INV, LANE_INJ_ONE injects one error more, LN_PAT_WRITE stores CHK_EN, and GEN_EN
where its access code lets it. LANE_PAT_LOCK of an enabled checker counts the errors and the 1,024 bits of a window while
locked, losing lock above 256 errors, and locks where the window is of its pattern. Each clause names what else may change.
-/
def Obligations.SerialLanes : Prop :=
  ∀ (s : State) (n : Nat),
    n < 48 →
    (Open s (laneBlk n) → laneEnabled s n = false → s.domOn (laneDom n) = true → (ln s n).st = 0 → 
      Does (.laneEnable n) s fun t =>
        laneEnabled t n = true ∧ (ln t n).st = 1 ∧ (ln t n).powering = true ∧ Keeps s t lvF linkB linkP) ∧
    (Open s (laneBlk n) → laneEnabled s n = true → 
      Does (.laneDisable n) s fun t => laneEnabled t n = false ∧ (ln t n).st = 0 ∧ Keeps s t lvF linkB linkP) ∧
    ((ln s n).powering = true → 
      Does (.lanePowered n) s fun t =>
        (ln t n).powering = false ∧ ((ln s n).st = 1 → (ln t n).st = (if lanePort s n = true ∨ lanePat s n = true then 2 else 1)) ∧ Keeps s t lvF linkB linkP) ∧
    ((ln s n).st = 2 → 
      Does (.laneCdrLock n) s fun t =>
        (ln t n).st = 3 ∧ t.get (laneF n R.LN_STAT.STATE) = 3 ∧ t.on (laneF n R.LN_STAT.CDR_LOCK) = true ∧
        Keeps s t (lvF ++ [laneF n R.LN_STAT.STATE, laneF n R.LN_STAT.CDR_LOCK]) [] (lvP.append [.link])) ∧
    ((ln s n).st = 3 → 
      Does (.laneAdaptDone n) s fun t =>
        (ln t n).st = (if lanePat s n = true then 5 else 4) ∧ t.get (laneF n R.LN_STAT.STATE) = (ln t n).st ∧
        t.on (laneF n R.LN_STAT.ADAPT_DONE) = true ∧
        Keeps s t (lvF ++ [laneF n R.LN_STAT.STATE, laneF n R.LN_STAT.ADAPT_DONE]) [] (lvP.append [.link])) ∧
    (2 ≤ (ln s n).st → 
      Does (.laneCdrLoss n) s fun t =>
        (ln t n).st = 2 ∧ t.on (laneF n R.LN_STAT.CDR_LOCK) = false ∧ t.on (laneF n R.LN_STAT.ADAPT_DONE) = false ∧ Keeps s t lvF linkB linkP) ∧
    (isPodLane n = false → (ln s n).st = 4 → s.on (laneF n R.LN_CTRL.AUTO_POL) = true → (ln s n).polFixed = false → 10000000 ≤ s.age (.lane n) → 
      Does (.lanePolTimer n) s fun t =>
        t.on (laneF n R.LN_STAT.POL_INV) = !s.on (laneF n R.LN_STAT.POL_INV) ∧
        Keeps s t (lvF ++ [laneF n R.LN_STAT.POL_INV]) [] lvP) ∧
    (∀ (inv : Bool), s.dev ≠ 0 → reachable s (laneBlk n) (laneF n R.LN_CTRL.RX_INV).addr = true → s.on (resettingF (laneBlk n)) = false → (ln s n).st ≠ 0 → 
      Does (.laneRxInvWrite n inv) s fun t =>
        t.on (laneF n R.LN_CTRL.RX_INV) = inv ∧ t.on (laneF n R.LN_STAT.POL_INV) = inv ∧ Keeps s t lvF linkB linkP) ∧
    (∀ (window : Nat), 4 ≤ (ln s n).st → s.on (laneF n R.LN_PAT.CHK_EN) = true → s.on (laneF n R.LN_PAT.CHK_LOCK) = true → 
      Does (.lanePatLock n window) s fun t =>
        t.on (laneF n R.LN_PAT.CHK_LOCK) = decide (chkErrors s n window ≤ 256) ∧
          t.get (laneF n R.LN_PERR.PERR) = (s.get (laneF n R.LN_PERR.PERR) + chkErrors s n window) % 2 ^ R.LN_PERR.PERR.width ∧
          t.get (laneF n R.LN_PBITS.PBITS) = (s.get (laneF n R.LN_PBITS.PBITS) + 1024) % 2 ^ R.LN_PBITS.PBITS.width ∧
        Keeps s t (evF ++ [R.LN_PAT.CHK_LOCK, R.LN_PAT.CHK_INV, R.LN_PERR.PERR, R.LN_PBITS.PBITS].map (laneF n)) [] (evP.append [.link])) ∧
    (∀ (window : Nat), 4 ≤ (ln s n).st → s.on (laneF n R.LN_PAT.CHK_EN) = true → s.on (laneF n R.LN_PAT.CHK_LOCK) = false → 
      Does (.lanePatLock n window) s fun t =>
        t.on (laneF n R.LN_PAT.CHK_LOCK) = (patFound (lanePam s n) (chkCode s n) (chkHears (genWindow s n) n window)).isSome ∧
        Keeps s t (evF ++ [R.LN_PAT.CHK_LOCK, R.LN_PAT.CHK_INV, R.LN_PERR.PERR, R.LN_PBITS.PBITS].map (laneF n)) [] (evP.append [.link])) ∧
    (s.dev ≠ 0 → reachable s (laneBlk n) (laneF n R.LN_CTRL.RX_INV).addr = true → s.on (resettingF (laneBlk n)) = false → (ln s n).st ≠ 0 → 
      Does (.laneInjOne n) s fun t => (ln t n).inj = (ln s n).inj + 1 ∧ (ln t n).st = (ln s n).st ∧ Keeps s t [] [] [.link]) ∧
    (∀ (gen chk : Bool), s.dev ≠ 0 → reachable s (laneBlk n) (laneF n R.LN_CTRL.RX_INV).addr = true → s.on (resettingF (laneBlk n)) = false → (ln s n).st ≠ 0 → 
      Does (.lnPatWrite n gen chk) s fun t =>
        t.on (laneF n R.LN_PAT.CHK_EN) = chk ∧ t.on (laneF n R.LN_PAT.GEN_EN) =
          (if fieldStopped s (laneBlk n) (laneF n R.LN_PAT.GEN_EN).addr R.LN_PAT.GEN_EN = true then gen else s.on (laneF n R.LN_PAT.GEN_EN)) ∧ Keeps s t lvF linkB linkP)

/-- On a store lane that is READY, with a window at a place that is tested, a comma found in HUNT enters PRESYNC with its
lane and place, a fourth one of the same lane SYNC, a missed one and one of another lane HUNT; the fourth missed comma loses
SYNC. On a READY peer lane outside near-end loopback the 64th good header in a row enters HDR_LOCK and 32 bad ones in a
window lose HDR_LOCK or SYNC; a good AM enters AM_WAIT, one for the same number there SYNC, another returns to HDR_LOCK; the
fourth miss loses SYNC. POD_DESKEW of a port in DESKEW with a skew to 64 brings a store port UP and a peer port to ID_WAIT
with its LINK_ID; with a larger one the port stays. With the Pod reached POD_PORT_ENABLE sets EN and the port leaves DOWN
where its lanes are enabled; POD_PORT_DOWN by EN clears it, the port DOWN, and for a lane takes the port to ALIGN or DOWN.
Of the blocks received, POD_MSG takes the oldest message: a good LINK_ID shows the remote and brings ID_WAIT UP, one with a
bad CRC counts MSG_BAD. POD_LINK_ID_TIMER after 1 ms sends LINK_ID. POD_BOND_FORM bonds, POD_BOND_TIMEOUT after 10 ms
without a bond raises EV_POD_BOND. POD_TIME_SEND after its period sends its time and the echo, and POD_TIME_RECEIVE of the
oldest TIME block keeps the echo and shows VALID. Each clause names what else may change. -/
def Obligations.PodLanesAndPorts : Prop :=
  ∀ (s : State),
    (∀ (n window at' : Nat) (h : Nat × Bool), isPodLane n = true → n < 48 → (ln s n).st = 4 → isPeer (podPortOf n) = false → commaPlace s n at' = true → laneAlign s n = 0 → commaHit (laneHears s n window) = some h → 
      Does (.podCommaAlign n window at') s fun t =>
        laneAlign t n = 1 ∧ (ln t n).num = h.1 ∧ (ln t n).count = 1 ∧ (ln t n).pos = at' ∧ Keeps s t lvF linkB linkP) ∧
    (∀ (n window at' : Nat), isPodLane n = true → n < 48 → (ln s n).st = 4 → isPeer (podPortOf n) = false → commaPlace s n at' = true → (laneAlign s n = 0 ∨ laneAlign s n = 1) → commaHit (laneHears s n window) = none → 
      Does (.podCommaAlign n window at') s fun t => laneAlign t n = 0 ∧ Keeps s t lvF linkB linkP) ∧
    (∀ (n window at' : Nat) (h : Nat × Bool), isPodLane n = true → n < 48 → (ln s n).st = 4 → isPeer (podPortOf n) = false → commaPlace s n at' = true → laneAlign s n = 1 → commaHit (laneHears s n window) = some h → 
      Does (.podCommaAlign n window at') s fun t =>
        laneAlign t n = (if h.1 ≠ (ln s n).num then 0 else if 3 ≤ (ln s n).count then 4 else 1) ∧
        (laneAlign t n ≠ 0 → (ln t n).pos = at') ∧ Keeps s t lvF linkB linkP) ∧
    (∀ (n window at' : Nat), isPodLane n = true → n < 48 → (ln s n).st = 4 → isPeer (podPortOf n) = false → commaPlace s n at' = true → laneAlign s n = 4 → 
      Does (.podCommaAlign n window at') s fun t =>
        laneAlign t n = (if (commaHit (laneHears s n window)).any (fun h => h.1 == (ln s n).num) = false ∧ 3 ≤ (ln s n).miss then 0 else 4) ∧
        (laneAlign t n ≠ 0 → (ln t n).pos = at') ∧ Keeps s t lvF linkB linkP) ∧
    (∀ (n hdr : Nat), isPodLane n = true → n < 48 → (ln s n).st = 4 → isPeer (podPortOf n) = true → laneLoop s n ≠ 1 → laneAlign s n = 0 → 
      Does (.podHeaderHunt n hdr) s fun t =>
        laneAlign t n = (if hdrValid hdr = true ∧ 63 ≤ (ln s n).hdrs then 2 else 0) ∧
        Keeps s t lvF linkB linkP) ∧
    (∀ (n hdr : Nat), isPodLane n = true → n < 48 → (ln s n).st = 4 → isPeer (podPortOf n) = true → laneLoop s n ≠ 1 → (laneAlign s n = 2 ∨ laneAlign s n = 4) → 
      Does (.podHeaderHunt n hdr) s fun t =>
        laneAlign t n = (if 32 ≤ (ln s n).wbad + b2n (!hdrValid hdr) then 0 else laneAlign s n) ∧
        Keeps s t lvF linkB linkP) ∧
    (∀ (n hdr : Nat), isPodLane n = true → n < 48 → (ln s n).st = 4 → isPeer (podPortOf n) = true → laneLoop s n ≠ 1 → laneAlign s n = 3 → 
      Does (.podHeaderHunt n hdr) s fun t =>
        laneAlign t n = 3 ∧
        Keeps s t lvF linkB linkP) ∧
    (∀ (n p bip at' : Nat), isPodLane n = true → n < 48 → (ln s n).st = 4 → isPeer (podPortOf n) = true → laneAlign s n ∈ [2, 3, 4] → amPlace s n at' = true → laneLoop s n ≠ 1 → laneAlign s n = 2 → 
      Does (.podAmAlign n p bip at') s fun t =>
        laneAlign t n = (if amGood p = true then 3 else 2) ∧
        (laneAlign t n ≠ 0 → (ln t n).pos = at') ∧
        Keeps s t lvF linkB linkP) ∧
    (∀ (n p bip at' : Nat), isPodLane n = true → n < 48 → (ln s n).st = 4 → isPeer (podPortOf n) = true → laneAlign s n ∈ [2, 3, 4] → amPlace s n at' = true → laneLoop s n ≠ 1 → laneAlign s n = 2 → amGood p = true → 
      Does (.podAmAlign n p bip at') s fun t =>
        (ln t n).num = payByte p 1 ∧
        (laneAlign t n ≠ 0 → (ln t n).pos = at') ∧
        Keeps s t lvF linkB linkP) ∧
    (∀ (n p bip at' : Nat), isPodLane n = true → n < 48 → (ln s n).st = 4 → isPeer (podPortOf n) = true → laneAlign s n ∈ [2, 3, 4] → amPlace s n at' = true → laneLoop s n ≠ 1 → laneAlign s n = 3 → 
      Does (.podAmAlign n p bip at') s fun t =>
        laneAlign t n = (if amGood p = true ∧ payByte p 1 = (ln s n).num then 4 else 2) ∧
        (laneAlign t n ≠ 0 → (ln t n).pos = at') ∧
        Keeps s t lvF linkB linkP) ∧
    (∀ (n p bip at' : Nat), isPodLane n = true → n < 48 → (ln s n).st = 4 → isPeer (podPortOf n) = true → laneAlign s n ∈ [2, 3, 4] → amPlace s n at' = true → laneLoop s n ≠ 1 → laneAlign s n = 4 → 
      Does (.podAmAlign n p bip at') s fun t =>
        laneAlign t n =
          (if (amGood p = false ∨ payByte p 1 ≠ (ln s n).num) ∧ 3 ≤ (ln s n).miss then 0 else 4) ∧
        (laneAlign t n ≠ 0 → (ln t n).pos = at') ∧
        Keeps s t lvF linkB linkP) ∧
    (∀ (k skew : Nat), k < 6 → podState s k = 2 → 
      Does (.podDeskew k skew) s fun t =>
        t.get (R.POD_PORT.SKEW.ix k) = satTo 8 skew ∧ podState t k = (if 64 < skew then 2 else if isPeer k = true then 3 else 4) ∧
        (skew ≤ 64 → isPeer k = true → (pp t k).sent = linkId s k) ∧ Keeps s t lvF linkB linkP) ∧
    (∀ (k : Nat), k < 6 → Open s .pod → s.on (R.POD_PORT.EN.ix k) = false → podState s k = 0 → 
      Does (.podPortEnable k) s fun t =>
        t.on (R.POD_PORT.EN.ix k) = true ∧ podState t k = (if (podLanes k).all (laneEnabled s) = true then 1 else 0) ∧ Keeps s t lvF linkB linkP) ∧
    (∀ (k : Nat), k < 6 → Open s .pod → s.on (R.POD_PORT.EN.ix k) = true → 
      Does (.podPortDown k none) s fun t =>
        t.on (R.POD_PORT.EN.ix k) = false ∧ podState t k = 0 ∧ Keeps s t lvF linkB linkP) ∧
    (∀ (k n : Nat), isPodLane n = true → n < 48 → 
      Does (.podPortDown k (some n)) s fun t =>
        laneAlign t n = 0 ∧ (laneAlign s n = 4 → podState s (podPortOf n) ≠ 0 →
          podState t (podPortOf n) = (if podMayAlign s (podPortOf n) = true then 1 else 0)) ∧ Keeps s t lvF linkB linkP) ∧
    (∀ (k p : Nat), (k = 4 ∨ k = 5) → 3 ≤ podState s k → (pp s k).inbox.find? (fun p => payByte p 0 == 0xB4) = some p → payByte p 1 = 1 → crcOf 16 0x1021 0xFFFF (msbFirst 112 (p / 65536)) = p % 65536 → 
      Does (.podMsg k) s fun t =>
        t.get (R.POD_RTAG.RTAG.ix (k - 4)) = p / 2 ^ 80 % 2 ^ 32 ∧ t.on (rinfoF k).1 = true ∧ t.get (rinfoF k).2.1 = p / 2 ^ 72 % 4 ∧
        podState t k = (if podState s k = 3 then 4 else podState s k) ∧ Keeps s t lvF linkB linkP) ∧
    (∀ (k p : Nat), (k = 4 ∨ k = 5) → 3 ≤ podState s k → (pp s k).inbox.find? (fun p => payByte p 0 == 0xB4) = some p → crcOf 16 0x1021 0xFFFF (msbFirst 112 (p / 65536)) ≠ p % 65536 → 
      Does (.podMsg k) s fun t =>
        t.get (R.POD_CNT1.MSG_BAD.ix k) = satTo R.POD_CNT1.MSG_BAD.width (s.get (R.POD_CNT1.MSG_BAD.ix k) + 1) ∧
        (pp t k).inbox = (pp s k).inbox.erase p ∧ Keeps s t lvF linkB linkP) ∧
    (∀ (k : Nat), (k = 4 ∨ k = 5) → podUp s k = true → 1000000 ≤ s.age (.linkId k) → 
      Does (.podLinkIdTimer k) s fun t => (pp t k).sent = linkId s k ∧ Keeps s t [] [] [.link, .marks]) ∧
    (∀ (skew : Nat), s.on R.POD_STAT.BONDED = false → bondOk s skew = true → 
      Does (.podBondForm skew) s fun t =>
        t.on R.POD_STAT.BONDED = true ∧ Raised s t E.POD_BOND 1 ∧ Keeps s t (R.POD_STAT.BONDED :: evF) [] (evP.append [.link])) ∧
    (s.on R.POD_CFG.BOND = true → podUp s 4 = true → podUp s 5 = true → s.on R.POD_STAT.BONDED = false → 10000000 ≤ s.age .bond → 
      Does .podBondTimeout s fun t => t.on R.POD_STAT.BONDED = false ∧ Raised s t E.POD_BOND 2 ∧ Keeps s t evF [] evP) ∧
    (∀ (k sub : Nat), (k = 4 ∨ k = 5) → podUp s k = true → s.get R.POD_CFG.TIME_PERIOD ≠ 0 → 1000 * s.get R.POD_CFG.TIME_PERIOD ≤ s.age (.podTime k) → 
      Does (.podTimeSend k sub) s fun t =>
        (pp t k).sent = 0x99 * 2 ^ 120 + time40 s sub * 2 ^ 80 + (pp s k).echoTx * 2 ^ 40 + (pp s k).echoRx ∧ Keeps s t [] [] [.link, .marks]) ∧
    (∀ (k sub p : Nat), (k = 4 ∨ k = 5) → podUp s k = true → (pp s k).inbox.find? (fun p => payByte p 0 == 0x99) = some p → 
      Does (.podTimeReceive k sub) s fun t =>
        (pp t k).echoTx = p / 2 ^ 80 % 2 ^ 40 ∧ (pp t k).echoRx = time40 s sub ∧ t.on (R.POD_DELAY.VALID.ix (k - 4)) = true ∧
        (pp t k).inbox = (pp s k).inbox.erase p ∧
        Keeps s t [R.POD_DELAY.VALID.ix (k - 4), R.POD_DELAY.DELAY_PS.ix (k - 4), R.POD_OFF.OFF_NS.ix (k - 4)] [] [.link, .freeCtr])

/-- With the clock of the Pod, POD_BLOCK of a port past DESKEW whose stream is its own takes the next block, descrambled: a
data block adds its 16 bytes to the transfer being received; a START block opens one with its kind, TAG, LENGTH and address;
an END block closes it; MSG and TIME blocks of a peer port and ACK blocks of a store port wait to be taken; a block with a
bad header or type counts HDR_ERR and fails the transfer; a marker changes only the count of blocks. In ALIGN and DESKEW
nothing is received, and bad blocks of lanes in SYNC count HDR_ERR; the 32nd bad header of a store lane in a window loses
its SYNC and the port. POD_TRANSFER_RECEIVE takes the closed transfer: one that fails its checks counts CRC_ERR and is
answered NAK on a store port, one that passes is answered ACK and, of the stream kind on a peer port, handed on. POD_ACK of
an UP store port takes the oldest ACK block: ACK takes the transfer out of the queue; a NAK, and POD_RETRY_TIMEOUT of a
transfer not sent within the last 10 µs, count RETRIES and the failure, and take the port out of UP at RETRY_MAX failures in
a row. Each clause names what else may change. -/
def Obligations.PodBlocksAndTransfers : Prop :=
  ∀ (s : State) (k : Nat),
    k < 6 →
    (∀ (w : Nat) (x : PodRx), 3 ≤ podState s k → s.clockReady .pod = true → streamPort s k = k → lockKept s k w = true → (pp s k).rxAt < 16384 * streamLanes s k → (nextBlock s k w).1 = 5 → (pp s k).rx = some x → x.tagPos = none → 
      Does (.podBlock k w) s fun t =>
        (pp t k).rx = some { x with data := x.data ++ beBytes 16 (nextBlock s k w).2 } ∧ (pp t k).rxAt = (pp s k).rxAt + 1 ∧ Keeps s t lvF [] (lvP.append [.link])) ∧
    (∀ (w : Nat), 3 ≤ podState s k → s.clockReady .pod = true → streamPort s k = k → lockKept s k w = true → (pp s k).rxAt < 16384 * streamLanes s k → (nextBlock s k w).1 = 10 → payByte (nextBlock s k w).2 0 = 0x78 → 
      Does (.podBlock k w) s fun t =>
        (pp t k).rx = some ⟨payByte (nextBlock s k w).2 1, (nextBlock s k w).2 / 2 ^ 96 % 65536, (nextBlock s k w).2 / 2 ^ 64 % 2 ^ 32,
          (nextBlock s k w).2 % 2 ^ 64, [], [], none, false⟩ ∧ (pp t k).rxAt = (pp s k).rxAt + 1 ∧ Keeps s t lvF [] (lvP.append [.link])) ∧
    (∀ (w : Nat) (x : PodRx), 3 ≤ podState s k → s.clockReady .pod = true → streamPort s k = k → lockKept s k w = true → (pp s k).rxAt < 16384 * streamLanes s k → (nextBlock s k w).1 = 10 → payByte (nextBlock s k w).2 0 = 0x87 → (pp s k).rx = some x → 
      Does (.podBlock k w) s fun t =>
        (pp t k).rx = none ∧ (pp t k).fin = some (x, (nextBlock s k w).2 / 2 ^ 96 % 65536, (nextBlock s k w).2 / 2 ^ 64 % 2 ^ 32) ∧
        (pp t k).rxAt = (pp s k).rxAt + 1 ∧ Keeps s t lvF [] (lvP.append [.link])) ∧
    (∀ (w : Nat), 3 ≤ podState s k → s.clockReady .pod = true → streamPort s k = k → lockKept s k w = true → (pp s k).rxAt < 16384 * streamLanes s k → (nextBlock s k w).1 = 10 → payByte (nextBlock s k w).2 0 ∈ (if isPeer k = true then [0xB4, 0x99] else [0xE1]) → 
      Does (.podBlock k w) s fun t => (pp t k).inbox = (pp s k).inbox ++ [(nextBlock s k w).2] ∧ (pp t k).rxAt = (pp s k).rxAt + 1 ∧ Keeps s t lvF [] (lvP.append [.link])) ∧
    (∀ (w : Nat), 3 ≤ podState s k → s.clockReady .pod = true → streamPort s k = k → lockKept s k w = true → (pp s k).rxAt < 16384 * streamLanes s k → blockBad k (nextBlock s k w) = true → 
      Does (.podBlock k w) s fun t =>
        t.get (R.POD_CNT1.HDR_ERR.ix k) = satTo R.POD_CNT1.HDR_ERR.width (s.get (R.POD_CNT1.HDR_ERR.ix k) + 1) ∧
        (pp t k).rx = (pp s k).rx.map (fun x => { x with bad := true }) ∧ (pp t k).rxAt = (pp s k).rxAt + 1 ∧ Keeps s t (lvF ++ [R.POD_CNT1.HDR_ERR.ix k]) [] (lvP.append [.link])) ∧
    (∀ (w : Nat), 3 ≤ podState s k → s.clockReady .pod = true → streamPort s k = k → lockKept s k w = true → 16384 * streamLanes s k ≤ (pp s k).rxAt → blockBad k (podHears s k w / 2 ^ 128 % 16, podHears s k w % 2 ^ 128) = false → 
      Does (.podBlock k w) s fun t =>
        (pp t k).rx = (pp s k).rx ∧ (pp t k).rxAt = (if (pp s k).rxAt + 1 = 16385 * streamLanes s k then 0 else (pp s k).rxAt + 1) ∧ Keeps s t lvF [] (lvP.append [.link])) ∧
    (∀ (w : Nat), podState s k ∈ [1, 2] → s.clockReady .pod = true → streamPort s k = k → lockKept s k w = true → (pp s k).rx = none → s.get (R.POD_CNT1.HDR_ERR.ix k) < 2 ^ R.POD_CNT1.HDR_ERR.width → 
      Does (.podBlock k w) s fun t =>
        (pp t k).rx = (pp s k).rx ∧ (pp t k).rxAt = (pp s k).rxAt + 1 ∧
        t.get (R.POD_CNT1.HDR_ERR.ix k) = (if laneAlign s (nextLane s k) = 4 ∧ isMarker (isPeer k) (podHears s k w) = false ∧
          blockBad k (nextBlock s k w) = true then satTo R.POD_CNT1.HDR_ERR.width (s.get (R.POD_CNT1.HDR_ERR.ix k) + 1)
          else s.get (R.POD_CNT1.HDR_ERR.ix k)) ∧ Keeps s t (lvF ++ [R.POD_CNT1.HDR_ERR.ix k]) [] (lvP.append [.link])) ∧
    (∀ (w : Nat), 3 ≤ podState s k → s.clockReady .pod = true → streamPort s k = k → isPeer k = false → isPodLane (nextLane s k) = true → podPortOf (nextLane s k) = k → laneAlign s (nextLane s k) = 4 → hdrValid (podHears s k w / 2 ^ 128 % 16) = false → 31 ≤ (ln s (nextLane s k)).wbad → 
      Does (.podBlock k w) s fun t => laneAlign t (nextLane s k) = 0 ∧ podState t k < 3 ∧ Keeps s t lvF linkB linkP) ∧
    (∀ (rep : Option ReadReport) (x : PodRx) (tag crc : Nat), (pp s k).fin = some (x, tag, crc) → transferGood x tag crc = false → WellFormed (.podTransferReceive k rep) = true → 
      Does (.podTransferReceive k rep) s fun t =>
        (pp t k).fin = none ∧ t.get (R.POD_CNT0.CRC_ERR.ix k) = satTo R.POD_CNT0.CRC_ERR.width (s.get (R.POD_CNT0.CRC_ERR.ix k) + 1) ∧
        (isPeer k = false → x.kind ≠ 3 → (pp t k).sent = ackBlock true x.tag) ∧ Keeps s t lvF (linkB.append [.pair, .perf, .hostif]) (linkP.append [.host, .ctl])) ∧
    (∀ (rep : Option ReadReport) (x : PodRx) (tag crc : Nat), (pp s k).fin = some (x, tag, crc) → transferGood x tag crc = true → WellFormed (.podTransferReceive k rep) = true → 
      Does (.podTransferReceive k rep) s fun t =>
        (pp t k).fin = none ∧ t.get (R.POD_CNT0.CRC_ERR.ix k) = s.get (R.POD_CNT0.CRC_ERR.ix k) ∧
        (isPeer k = false → (pp t k).sent = ackBlock false x.tag) ∧
        (isPeer k = true → x.kind = 0x10 → acrossBoard s .A = true → t.frm.A.stream.bytes = x.data) ∧ Keeps s t lvF (linkB.append [.pair, .perf, .hostif]) (linkP.append [.host, .ctl])) ∧
    (∀ (p : Nat), isPeer k = false → podUp s k = true → (pp s k).inbox.find? (fun p => payByte p 0 == 0xE1) = some p → payByte p 1 = 0 → 
      Does (.podAck k) s fun t =>
        (md t k).queue = (md s k).queue.filter (fun e => e.1 ≠ p / 2 ^ 96 % 65536) ∧ (pp t k).fails.get (p / 2 ^ 96 % 65536) = 0 ∧
        (pp t k).inbox = (pp s k).inbox.erase p ∧ Keeps s t lvF linkB linkP) ∧
    (∀ (p : Nat), isPeer k = false → podUp s k = true → (pp s k).inbox.find? (fun p => payByte p 0 == 0xE1) = some p → payByte p 1 ≠ 0 → (pp s k).fails.get (p / 2 ^ 96 % 65536) + 1 < atLeast1 (s.get R.POD_CFG.RETRY_MAX) → 
      Does (.podAck k) s fun t =>
        t.get (R.POD_CNT0.RETRIES.ix k) = satTo R.POD_CNT0.RETRIES.width (s.get (R.POD_CNT0.RETRIES.ix k) + 1) ∧
        (pp t k).fails.get (p / 2 ^ 96 % 65536) = (pp s k).fails.get (p / 2 ^ 96 % 65536) + 1 ∧
        (pp t k).inbox = (pp s k).inbox.erase p ∧ Keeps s t lvF linkB linkP) ∧
    (∀ (p : Nat), isPeer k = false → podUp s k = true → (pp s k).inbox.find? (fun p => payByte p 0 == 0xE1) = some p → payByte p 1 ≠ 0 → atLeast1 (s.get R.POD_CFG.RETRY_MAX) ≤ (pp s k).fails.get (p / 2 ^ 96 % 65536) + 1 → 
      Does (.podAck k) s fun t => podState t k < 3 ∧ Keeps s t lvF linkB linkP) ∧
    (∀ (tag : Nat), isPeer k = false → podUp s k = true → (∀ e ∈ inFlight s k, e.1 = tag → 10000 ≤ nsSince s e.2.2) → (pp s k).fails.get tag + 1 < atLeast1 (s.get R.POD_CFG.RETRY_MAX) → 
      Does (.podRetryTimeout k tag) s fun t =>
        t.get (R.POD_CNT0.RETRIES.ix k) = satTo R.POD_CNT0.RETRIES.width (s.get (R.POD_CNT0.RETRIES.ix k) + 1) ∧
        (pp t k).fails.get tag = (pp s k).fails.get tag + 1 ∧
        (md t k).queue = (md s k).queue.map (fun e => if e.1 = tag then (e.1, e.2.1, s.time.aon) else e) ∧ Keeps s t lvF linkB linkP) ∧
    (∀ (tag : Nat), isPeer k = false → podUp s k = true → (∀ e ∈ inFlight s k, e.1 = tag → 10000 ≤ nsSince s e.2.2) → atLeast1 (s.get R.POD_CFG.RETRY_MAX) ≤ (pp s k).fails.get tag + 1 → 
      Does (.podRetryTimeout k tag) s fun t => podState t k < 3 ∧ Keeps s t lvF linkB linkP)

/-- STORE_ID_READ_DONE of a read under way: a good record enters RECOVERING with its extents; a bad one does so with
OVERRIDDEN and 3,725 extents where ID_OVERRIDE says so, else enters ID_BAD. STORE_RECOVERY_DONE in RECOVERING enters READY,
free being only data extents that no ring holds. With STORE reached: STORE_REREAD in ID_BAD reads again; STORE_ID_OVERRIDE
sets the bit, and in ID_BAD reads again; RING_ARM arms a ring whose checks pass and shows the code of the one that fails;
RING_DISARM at a unit boundary leaves ARMED, within a unit waits for it; RING_CLEAR zeroes HEAD and TAIL and frees the ring,
and is refused with CFG_DISCARD while ARMED; STORE_RUN_CLEAR clears RUN, every ring has stopped or stops at its boundary and
no job is active. RING_PTR_SAVE after PTR_PERIOD writes a newer pointer copy. STORE_OVERLOAD_EXIT clears OVERLOAD below 25 %
of the buffer; STORE_DROP_LEVEL_STEP after 1 ms raises DROP_LEVEL, STORE_DROP_LEVEL_RESET after 10 ms without overload sets
it to the lowest PRIO; RING_RATE_WINDOW after 100 ms compares the rate and counts OVERRATE; STORE_ECC_LEAK after LEAK_PERIOD
takes one from the bucket. RING_EXTENT_ENTER of an ARMED ring with a full extent moves to the next one. Each clause names
what else may change. -/
def Obligations.StoreModulesAndRings : Prop :=
  ∀ (s : State),
    (∀ (m : Nat) (rec : List Nat), m < 4 → m < s.store.mods.length → (md s m).reading = true → 
      Does (.storeIdReadDone m rec) s fun t =>
        (md t m).reading = false ∧
        modState t m = (if recordGood rec = true ∨ bitOf (s.get R.STORE_MOD_CTRL.ID_OVERRIDE) m = true then 2 else 1) ∧
        (recordGood rec = true → t.get (R.STORE_MOD_STAT.EXTENTS.ix m) = ofLe ((rec.drop 50).take 2) % 2 ^ R.STORE_MOD_STAT.EXTENTS.width ∧
          t.on (R.STORE_MOD_STAT.OVERRIDDEN.ix m) = false) ∧
        (recordGood rec = false → bitOf (s.get R.STORE_MOD_CTRL.ID_OVERRIDE) m = true →
          t.get (R.STORE_MOD_STAT.EXTENTS.ix m) = 3725 ∧ t.on (R.STORE_MOD_STAT.OVERRIDDEN.ix m) = true) ∧ Keeps s t evF [.store] (evP.append [.store, .waiting, .stops])) ∧
    (∀ (m : Nat) (rings : List RingImage) (fills : List (Nat × Nat)), m < 4 → m < s.store.mods.length → modState s m = 2 → 
      Does (.storeRecoveryDone m rings fills) s fun t =>
        modState t m = 3 ∧ bitOf (t.get R.STORE_STAT.MOD_READY) m = true ∧
        (∀ e ∈ (md t m).free, e ∉ rings.flatMap (·.exts) ∧ 1 ≤ e ∧ e < s.get (R.STORE_MOD_STAT.EXTENTS.ix m)) ∧ Keeps s t evF [.store] (evP.append [.store, .waiting, .stops])) ∧
    (∀ (m : Nat), m < 4 → m < s.store.mods.length → Open s .store → modState s m = 1 → 
      Does (.storeReread m) s fun t => (md t m).reading = true ∧ Keeps s t [] [] [.store]) ∧
    (∀ (m : Nat), m < 4 → m < s.store.mods.length → Open s .store → 
      Does (.storeIdOverride m) s fun t =>
        bitOf (t.get R.STORE_MOD_CTRL.ID_OVERRIDE) m = true ∧
        (bitOf (s.get R.STORE_MOD_CTRL.ID_OVERRIDE) m = false → modState s m = 1 → (md t m).reading = true) ∧
        Keeps s t [R.STORE_MOD_CTRL.ID_OVERRIDE] [] [.store]) ∧
    (∀ (r : Nat), r < 256 → Open s .store → ringArmed s r = false → ringMod s r < s.store.mods.length → ringMod s r < 4 → 
      Does (.ringArm r) s fun t =>
        t.get (R.RING_STAT.REJ_CODE.ix r) = armCode s r ∧
        (armCode s r = 0 → ringArmed t r = true ∧ (rg t r).cur = .none ∧ (rg t r).exts ≠ []) ∧
        (armCode s r ≠ 0 → ringState t r = ringState s r ∧ t.ev = (s.raise E.STORE_ARM_REJ (r + 256 * armCode s r)).ev) ∧ Keeps s t evF [.store] (evP.append [.store, .waiting, .stops, .marks])) ∧
    (∀ (r : Nat), r < 256 → Open s .store → ringArmed s r = true → (rg s r).cur = .none → 
      Does (.ringDisarm r) s fun t =>
        ringState t r = 1 ∧
        Keeps s t evF [.store] (evP.append [.store, .waiting, .stops])) ∧
    (∀ (r : Nat), r < 256 → Open s .store → ringArmed s r = true → (rg s r).cur ≠ .none → 
      Does (.ringDisarm r) s fun t =>
        ringArmed t r = true ∧ (rg t r).stopping = true ∧
        Keeps s t evF [.store] (evP.append [.store, .waiting, .stops])) ∧
    (∀ (r : Nat), r < 256 → Open s .store → ringArmed s r = false → 
      Does (.ringClear r) s fun t =>
        ringState t r = 0 ∧ t.get (R.RING_HEAD.HEAD.ix r) = 0 ∧ t.get (R.RING_TAIL.TAIL.ix r) = 0 ∧ (rg t r).exts = [] ∧ (rg t r).units = [] ∧
        Keeps s t [] [.store] [.store]) ∧
    (∀ (r : Nat), r < 256 → Open s .store → ringArmed s r = true → 
      Does (.ringClear r) s fun t =>
        t.on (cfgDiscardF .store) = true ∧ Raised s t E.CFG_BUSY (R.RING_CMD.CLEAR.ix r).addr ∧ Keeps s t (evF ++ [cfgDiscardF .store]) [] evP) ∧
    (∀ (r : Nat), r < 256 → ringArmed s r = true → 1000000 * atLeast1 (s.get R.STORE_PTR_CTRL.PTR_PERIOD) ≤ s.age (.pointers r) → 
      Does (.ringPtrSave r) s fun t =>
        max (rg t r).copyA.gen (rg t r).copyB.gen = max (rg s r).copyA.gen (rg s r).copyB.gen + 1 ∧ (rg t r).units = (rg s r).units ∧
        Keeps s t [] [] [.store, .marks]) ∧
    (∀ (m : Nat), m < 4 → 
      Does (.storeOverloadExit m) s fun t =>
        t.on (R.STORE_MOD_BUDGET.OVERLOAD.ix m) = (s.on (R.STORE_MOD_BUDGET.OVERLOAD.ix m) && decide (bufSize ≤ 4 * bufFill s m)) ∧
        Keeps s t [R.STORE_MOD_BUDGET.OVERLOAD.ix m] [] [.marks]) ∧
    (∀ (m : Nat), m < 4 → s.on (R.STORE_MOD_BUDGET.OVERLOAD.ix m) = true → 1000000 ≤ s.age (.level m) → 
      Does (.storeDropLevelStep m) s fun t =>
        t.get (R.STORE_MOD_BUDGET.DROP_LEVEL.ix m) =
          satTo R.STORE_MOD_BUDGET.DROP_LEVEL.width (s.get (R.STORE_MOD_BUDGET.DROP_LEVEL.ix m) + 1) ∧
        Keeps s t [R.STORE_MOD_BUDGET.DROP_LEVEL.ix m] [] [.marks]) ∧
    (∀ (m : Nat), m < 4 → s.on (R.STORE_MOD_BUDGET.OVERLOAD.ix m) = false → 10000000 ≤ s.age (.calm m) → 
      Does (.storeDropLevelReset m) s fun t =>
        (m < s.store.mods.length → (md t m).levelFresh = true) ∧
        t.get (R.STORE_MOD_BUDGET.DROP_LEVEL.ix m) = lowestPrio s m % 2 ^ R.STORE_MOD_BUDGET.DROP_LEVEL.width ∧
        Keeps s t [R.STORE_MOD_BUDGET.DROP_LEVEL.ix m] [] [.store]) ∧
    (∀ (r : Nat), r < 256 → 100000000 ≤ s.age (.rate r) → 
      Does (.ringRateWindow r) s fun t =>
        (rg t r).winBytes = 0 ∧ (rg t r).winUnits = 0 ∧
        t.get (R.RING_MISC.OVERRATE.ix r) =
          (if ringArmed s r = true ∧ ceil101 (s.get (R.RING_RATE.DECL_RATE.ix r)) * 1000000 < (rg s r).winBytes * 80
           then satTo R.RING_MISC.OVERRATE.width (s.get (R.RING_MISC.OVERRATE.ix r) + 1) else s.get (R.RING_MISC.OVERRATE.ix r)) ∧
        Keeps s t (evF ++ [R.RING_MISC.OVERRATE.ix r]) [] (evP.append [.store, .marks])) ∧
    (∀ (m : Nat), m < 4 → 1000000 * atLeast1 (s.get R.STORE_ECC_CTRL.LEAK_PERIOD) ≤ s.age (.storeLeak m) → 
      Does (.storeEccLeak m) s fun t =>
        t.get (R.STORE_MOD_ECC.BUCKET.ix m) = (s.get (R.STORE_MOD_ECC.BUCKET.ix m) - 1) % 2 ^ R.STORE_MOD_ECC.BUCKET.width ∧
        Keeps s t [R.STORE_MOD_ECC.BUCKET.ix m] [] [.marks]) ∧
    (∀ (r : Nat), r < 256 → ringArmed s r = true → (rg s r).exts ≠ [] → ringMod s r < 4 → extentBytes ≤ (rg s r).off → 
      Does (.ringExtentEnter r) s fun t =>
        (rg t r).pos = (rg s r).pos + 1 ∧ (rg t r).off = (rg s r).off - extentBytes + 64 ∧ (rg t r).exts.length = (rg s r).exts.length ∧
        (swapChoice s (ringMod s r) (((rg s r).exts[((rg s r).pos + 1) % (rg s r).exts.length]?).getD 0) = none →
          (rg t r).exts = (rg s r).exts) ∧ Keeps s t evF [.store] (evP.append [.store, .waiting, .stops])) ∧
    (Open s .store → s.runBit .store = true → 
      Does .storeRunClear s fun t =>
        t.runBit .store = false ∧ (∀ r < 256, ringArmed t r = true → (rg t r).stopping = true) ∧ (∀ c < 16, rplActive t c = false) ∧
        (t.running .store = true → t.stopping .store = true) ∧ Keeps s t lvF [.store] (lvP.append [.store, .waiting, .stops]))

/-- With STORE reached, RPL_PREPARE of a channel without a job whose checks pass enters PREPARING, SENT cleared, to read
from START; a failed check shows its reason and raises EV_RPL_REJ. RPL_PREPARE_DONE enters READY once the buffer is full or
holds the last unit. RPL_LAUNCH, once its time has come, runs a READY channel from that time in the frame that it names;
RPL_LAUNCH_NOW runs one with t_L and its frame now, leaves a RUNNING one and is refused with reason 6 otherwise. With the
clock of the Pod and STORE, RPL_UNIT_START of a RUNNING channel at the time of the next unit makes it the unit being sent,
and RPL_PACKET_SEND of a packet that is due sends it rewritten, counted at a port, or puts it into the queue toward the
carrier. RPL_STOP ends a job with reason 5. Each clause names what else may change. -/
def Obligations.Replay : Prop :=
  ∀ (s : State) (c : Nat),
    c < 16 →
    (Open s .store → rplActive s c = false → rplCode s c = 0 → 
      Does (.rplPrepare c) s fun t =>
        rplState t c = 1 ∧ t.get (R.RPL_SENT.SENT.ix c) = 0 ∧ (jb t c).readTo = s.get (R.RPL_START.START.ix c) ∧
        Keeps s t evF [.store] (evP.append [.store])) ∧
    (Open s .store → rplActive s c = false → rplCode s c ≠ 0 → 
      Does (.rplPrepare c) s fun t =>
        rplState t c = rplState s c ∧ t.get (R.RPL_STAT.REASON.ix c) = rplCode s c ∧
          t.ev = (s.raise E.RPL_REJ (c + 256 * rplCode s c)).ev ∧
        Keeps s t evF [.store] (evP.append [.store])) ∧
    (rplState s c = 1 → ((rplFill s c (s.get (R.RPL_START.START.ix c))).2 = true ∨ some (rplFill s c (s.get (R.RPL_START.START.ix c))).1 = rplLast s c) → 
      Does (.rplPrepareDone c) s fun t =>
        rplState t c = 2 ∧ (jb t c).readTo = (rplFill s c (s.get (R.RPL_START.START.ix c))).1 ∧ Keeps s t [R.RPL_STAT.STATE.ix c] [] [.store]) ∧
    (∀ (at' : Nat) (f32 : Option Nat), (jb s c).launch = some (at', f32) → at' ≤ tbtNs s → rplState s c = 2 → 
      Does (.rplLaunch c) s fun t =>
        rplState t c = 3 ∧ (jb t c).tL = at' ∧ (jb t c).launch = none ∧
        (jb t c).frame = launchFrame s (s.get (R.RPL_DEST.VTB.ix c)) at' f32 ∧ Keeps s t (R.RPL_STAT.STATE.ix c :: evF) [.sched, .perf] (evP.append [.store, .sched])) ∧
    (Open s .store → rplState s c = 2 → 
      Does (.rplLaunchNow c) s fun t =>
        rplState t c = 3 ∧ (jb t c).tL = tbtNs s ∧
          (jb t c).frame = vtbFrameAt s (s.get (R.RPL_DEST.VTB.ix c)) (tbtNs s) ∧
        Keeps s t ([R.RPL_STAT.STATE.ix c, R.RPL_STAT.REASON.ix c] ++ evF) [] (evP.append [.store])) ∧
    (Open s .store → rplState s c = 3 → 
      Does (.rplLaunchNow c) s fun t =>
        rplState t c = 3 ∧ (jb t c).tL = (jb s c).tL ∧
        Keeps s t ([R.RPL_STAT.STATE.ix c, R.RPL_STAT.REASON.ix c] ++ evF) [] (evP.append [.store])) ∧
    (Open s .store → rplState s c ≠ 2 → rplState s c ≠ 3 → 
      Does (.rplLaunchNow c) s fun t =>
        rplState t c = rplState s c ∧ t.get (R.RPL_STAT.REASON.ix c) = 6 ∧
          t.ev = (s.raise E.RPL_REJ (c + 256 * 6)).ev ∧
        Keeps s t ([R.RPL_STAT.STATE.ix c, R.RPL_STAT.REASON.ix c] ++ evF) [] (evP.append [.store])) ∧
    (∀ (u : RUnit), s.clockReady .store = true → rplState s c = 3 → (s.get (R.RPL_COUNT.COUNT.ix c) = 0 ∨ (jb s c).started < s.get (R.RPL_COUNT.COUNT.ix c)) → rplUnit s c (jb s c).started = some u → rplUnitTime s c (jb s c).started u ≤ (tbtNs s : Int) → 
      Does (.rplUnitStart c) s fun t =>
        (jb t c).started = (jb s c).started + 1 ∧ (jb t c).cur = some u ∧ ((jb s c).started = 0 → (jb t c).cap0 = u.capture) ∧
        Keeps s t evF [.store] (evP.append [.store])) ∧
    (∀ (sub : Nat) (u : RUnit) (idx : Nat) (pkt : Packet) (rest : List (Nat × Packet)), s.clockReady .store = true → rplState s c = 3 → (jb s c).cur = some u → rplLeft (jb s c) = (idx, pkt) :: rest → rplDue s c ((jb s c).started - 1) u pkt = true → 
      Does (.rplPacketSend c sub) s fun t =>
        (jb t c).out = rplRewrite s c ((jb s c).started - 1) idx u pkt.frame ∧
        (rplToPort s c = true → rplPort s c < 24 → t.get (R.TX_FRAMES.TX_FRAMES.ix (rplPort s c)) =
          (s.get (R.TX_FRAMES.TX_FRAMES.ix (rplPort s c)) + 1) % 2 ^ R.TX_FRAMES.TX_FRAMES.width) ∧
        (rplToPort s c = false → (jb t c).feed.queue = (jb s c).feed.queue ++ [(jb t c).out]) ∧
        Keeps s t evF (if rplToPort s c = true then [.store, .client] else [.store]) (evP.append [.store, .client])) ∧
    (Open s .store → rplActive s c = true → 
      Does (.rplStop c) s fun t =>
        rplState t c = 5 ∧ t.get (R.RPL_STAT.REASON.ix c) = 5 ∧ (jb t c).cur = none ∧ t.ev = (s.raise E.RPL_STOP (c + 256 * 5)).ev ∧
        Keeps s t evF [.store] (evP.append [.store]))

/-- With TIME reached: TD_SET loads the 64-bit count from TD_SET and cancels the slew, TD_STEP adds a signed number of ns to
it and cancels the slew; each raises EV_TIME_STEP (no waiting entry falling due with it); TD_SLEW replaces the slew; a
TD_STEP in the AON cycle of a TD_SET of its domain, and a TD_SLEW in that of a TD_SET or TD_STEP, change nothing;
TD_VALID_WRITE gives VALID its value, a 1 restarting the lease. TD_LEASE_EXPIRY at the end of the lease clears VALID.
TIME_EXT_WRAP, where the next advance passes 2^48 ns, makes it, with EXT + 1 and its event. TIME_DIFF_MEASURE after 1 ms
records DIFF, and the third measurement in a row that asks for it changes DISAGREE. SW_REQ switches without a step of TBT,
or is refused; SW_FORCE switches at once with R = 0. TIME_RESIDUAL_DONE, where one move ends the residual, ends SLEWING.
CAP_NOW latches the scales, and so does an edge of PPS_IN of the polarity, 100 ms after the last capture; another edge
changes nothing. PPS_OUT_PULSE where SRC has passed a second, and VTB_FRAME_START where another frame has begun, pulse while
they are enabled. VTB_ENABLE starts a stopped timebase with an accepted raster and rate, and sets CFG_ERR with another. Each
clause names what else may change. -/
def Obligations.TimeDomains : Prop :=
  ∀ (s : State),
    (∀ (d : Nat), d < 2 → Open s .time → noneFallsDue s (tdSet s d) → 
      Does (.tdSet d) s fun t =>
        domFull t d = (s.get (R.TD_SET_LO.SET.ix d) + 2 ^ 32 * s.get (R.TD_SET_HI.SET.ix d)) * timeUnit % wrap64 ∧ domSlew t d = 0 ∧
        Raised s t E.TIME_STEP d ∧ Keeps s t (R.TD_EXT.EXT.ix d :: evF) [] (evP.append [.time])) ∧
    (∀ (d v : Nat), d < 2 → Open s .time → actedNow s (2 * d) = false → noneFallsDue s (tdStep s d v) → 
      Does (.tdStep d v) s fun t =>
        (domFull t d : Int) = ((domFull s d : Int) + toSigned 32 v * timeUnit) % (wrap64 : Int) ∧ domSlew t d = 0 ∧
        Raised s t E.TIME_STEP d ∧ Keeps s t (R.TD_EXT.EXT.ix d :: evF) [] (evP.append [.time])) ∧
    (∀ (d v : Nat), d < 2 → Open s .time → actedNow s (2 * d) = false → actedNow s (2 * d + 1) = false → 
      Does (.tdSlew d v) s fun t => domSlew t d = toSigned 32 v * timeUnit ∧ domFull t d = domFull s d ∧ Keeps s t [] [] [.time]) ∧
    (∀ (d v : Nat), d < 2 → Open s .time → actedNow s (2 * d) = true → 
      Does (.tdStep d v) s fun t => t = s) ∧
    (∀ (d v : Nat), d < 2 → Open s .time → (actedNow s (2 * d) = true ∨ actedNow s (2 * d + 1) = true) → 
      Does (.tdSlew d v) s fun t => t = s) ∧
    (∀ (d : Nat) (on : Bool), d < 2 → Open s .time → 
      Does (.tdValidWrite d on) s fun t =>
        domValid t d = on ∧ (domValid s d = on → t.regs = s.regs ∧ t.ev = s.ev) ∧ (on = true → domValid s d = false → Raised s t E.TIME_VALID (d + 256)) ∧
        (on = true → s.time.aon < 2 ^ 48 → t.age (.lease d) = 0) ∧
        (domValid s d = !on → t.on (if d = 0 then R.TIME_STAT.VALID_P else R.TIME_STAT.VALID_S) = on ∧
          (s.raise E.TIME_VALID (d + 256 * b2n on)).ev.pendingId E.TIME_VALID = t.ev.pendingId E.TIME_VALID) ∧
        Keeps s t ([R.TD_CTRL.VALID.ix d, R.TIME_STAT.VALID_P, R.TIME_STAT.VALID_S, R.TIME_STAT.DISAGREE] ++ evF) [.clk]
          (evP.append [.time, .clk, .freeCtr, .marks])) ∧
    (∀ (d : Nat), d < 2 → domValid s d = true → 1000000000 * atLeast1 (s.get (R.TD_CTRL.LEASE_S.ix d)) ≤ s.age (.lease d) → 
      Does (.tdLeaseExpiry d) s fun t =>
        domValid t d = false ∧ t.on (if d = 0 then R.TIME_STAT.VALID_P else R.TIME_STAT.VALID_S) = false ∧
        Keeps s t ([R.TD_CTRL.VALID.ix d, R.TIME_STAT.VALID_P, R.TIME_STAT.VALID_S, R.TIME_STAT.DISAGREE] ++ evF) [.clk]
          (evP.append [.time, .clk, .freeCtr])) ∧
    (∀ (d : Nat), d < 2 → domCount (domTick s d) d < domCount s d → 
      Does (.timeExtWrap d) s fun t =>
        t.get (R.TD_EXT.EXT.ix d) = (s.get (R.TD_EXT.EXT.ix d) + 1) % 2 ^ R.TD_EXT.EXT.width ∧
        (domCount t d : Int) + wrap48 =
          domCount s d + 20 * timeUnit + 320 * domFadj s d + (domSlew s d - domSlew t d) ∧
        Raised s t E.TIME_EXT d ∧ Keeps s t (R.TD_EXT.EXT.ix d :: evF) [] (evP.append [.time])) ∧
    (∀ (err : Int), 1000000 ≤ s.age .diff → 
      Does (.timeDiffMeasure err) s fun t =>
        t.get R.TIME_DIFF.DIFF_NS = ofSigned 32 (measuredDiff s err) ∧
        (domValid s 0 = true → domValid s 1 = true → diffAgrees s (measuredDiff s err) = false →
          t.on R.TIME_STAT.DISAGREE = (s.on R.TIME_STAT.DISAGREE || decide (2 ≤ s.time.bad))) ∧
        (domValid s 0 = true → domValid s 1 = true → diffAgrees s (measuredDiff s err) = true →
          t.on R.TIME_STAT.DISAGREE = (s.on R.TIME_STAT.DISAGREE && decide (s.time.good < 2))) ∧
        Keeps s t ([R.TIME_DIFF.DIFF_NS, R.TIME_STAT.DISAGREE] ++ evF) [] (evP.append [.time, .marks])) ∧
    (∀ (target : Nat), target < 2 → Open s .time → domValid s target = true → diffAgrees s (toSigned 32 (s.get R.TIME_DIFF.DIFF_NS)) = true → s.time.resid = 0 → 
      Does (.swReq target) s fun t =>
        t.get R.TIME_STAT.ACT_DOM = target ∧ tbtFull t = tbtFull s ∧ Raised s t E.TIME_SWITCH (target + 256) ∧ Keeps s t ([R.TIME_STAT.ACT_DOM, R.TIME_RESID.RESID_NS, R.TIME_STAT.SLEWING, R.TIME_CTRL.SW_TARGET] ++ evF) [] (evP.append [.time])) ∧
    (∀ (target : Nat), target < 2 → Open s .time → (domValid s target = false ∨ diffAgrees s (toSigned 32 (s.get R.TIME_DIFF.DIFF_NS)) = false ∨ s.time.resid ≠ 0) → 
      Does (.swReq target) s fun t =>
        t.get R.TIME_STAT.ACT_DOM = s.get R.TIME_STAT.ACT_DOM ∧ Raised s t E.TIME_SWITCH (target + 256 + 512) ∧
        Keeps s t (R.TIME_CTRL.SW_TARGET :: evF) [] evP) ∧
    (∀ (target : Nat), target < 2 → Open s .time → noneFallsDue s (swForce (s.set R.TIME_CTRL.SW_TARGET target)) → 
      Does (.swForce target) s fun t =>
        t.get R.TIME_STAT.ACT_DOM = target ∧ t.time.resid = 0 ∧ t.on R.TIME_STAT.SLEWING = false ∧ tbtFull t = domFull s target % wrap64 ∧
        Raised s t E.TIME_SWITCH target ∧ Keeps s t ([R.TIME_STAT.ACT_DOM, R.TIME_RESID.RESID_NS, R.TIME_STAT.SLEWING, R.TIME_CTRL.SW_TARGET] ++ evF) [] (evP.append [.time])) ∧
    (s.time.resid ≠ 0 → s.time.resid.natAbs ≤ 131072000 * atLeast1 (s.get R.TIME_CTRL.SW_SLEW) → 
      Does .timeResidualDone s fun t =>
        t.time.resid = 0 ∧ t.get R.TIME_RESID.RESID_NS = 0 ∧ t.on R.TIME_STAT.SLEWING = false ∧
        Keeps s t [R.TIME_RESID.RESID_NS, R.TIME_STAT.SLEWING] [] [.time]) ∧
    (Open s .time → 
      Does .capNow s fun t =>
        t.get R.CAP_P.CAP_P = domNow s 0 % 2 ^ 48 ∧ t.get R.CAP_S.CAP_S = domNow s 1 % 2 ^ 48 ∧ t.get R.CAP_A.CAP_A = s.time.aon % 2 ^ 48 ∧
        t.on R.CAP_CTRL.CAP_VALID = true ∧ Raised s t E.TIME_CAPTURE 0 ∧
        Keeps s t ([R.CAP_P.CAP_P, R.CAP_S.CAP_S, R.CAP_A.CAP_A, R.CAP_CTRL.CAP_VALID] ++ evF) [] (evP.append [.time])) ∧
    (∀ (rising : Bool), s.on R.CAP_CTRL.PPS_IN_EN = true → s.on R.CAP_CTRL.PPS_POL = !rising → capTooSoon s = false → 
      Does (.ppsInEdge rising) s fun t =>
        t.get R.CAP_P.CAP_P = domNow s 0 % 2 ^ 48 ∧ t.get R.CAP_S.CAP_S = domNow s 1 % 2 ^ 48 ∧ t.get R.CAP_A.CAP_A = s.time.aon % 2 ^ 48 ∧
        t.on R.CAP_CTRL.CAP_VALID = true ∧ Raised s t E.TIME_CAPTURE 1 ∧
        Keeps s t ([R.CAP_P.CAP_P, R.CAP_S.CAP_S, R.CAP_A.CAP_A, R.CAP_CTRL.CAP_VALID] ++ evF) [] (evP.append [.time])) ∧
    (∀ (rising : Bool), (s.on R.CAP_CTRL.PPS_IN_EN = false ∨ s.on R.CAP_CTRL.PPS_POL = rising ∨ capTooSoon s = true) → 
      Does (.ppsInEdge rising) s fun t => t = s) ∧
    (ppsSecond s ≠ s.time.ppsSec → 
      Does .ppsOutPulse s fun t => t.time.ppsOut = s.time.ppsOut + (if s.on R.PPS_OUT_CFG.EN = true then 1 else 0) ∧ Keeps s t [] [] [.time]) ∧
    (∀ (k : Nat), k < 4 → Open s .time → s.on (R.VTB_CFG.EN.ix k) = false → vtbAccepts (s.get (R.VTB_CFG.RASTER.ix k)) (s.get (R.VTB_CFG.RATE.ix k)) = true → 
      Does (.vtbEnable k) s fun t =>
        vtbRunning t k = true ∧ t.on (R.VTB_CFG.EN.ix k) = true ∧ t.on (R.VTB_CFG.CFG_ERR.ix k) = false ∧
        Keeps s t [R.VTB_CFG.EN.ix k, R.VTB_CFG.CFG_ERR.ix k, R.TIME_STAT.VTB_RUN] [] [.time]) ∧
    (∀ (k : Nat), k < 4 → Open s .time → s.on (R.VTB_CFG.EN.ix k) = false → vtbAccepts (s.get (R.VTB_CFG.RASTER.ix k)) (s.get (R.VTB_CFG.RATE.ix k)) = false → 
      Does (.vtbEnable k) s fun t =>
        vtbRunning t k = vtbRunning s k ∧ t.on (R.VTB_CFG.EN.ix k) = false ∧ t.on (R.VTB_CFG.CFG_ERR.ix k) = true ∧
        Keeps s t [R.VTB_CFG.EN.ix k, R.VTB_CFG.CFG_ERR.ix k, R.TIME_STAT.VTB_RUN] [] [.time]) ∧
    (∀ (k : Nat), k < 4 → vtbRunning s k = true → s.time.vfFrame.get k ≠ ofSigned 64 (vtbFrame s k) → 
      Does (.vtbFrameStart k) s fun t =>
        t.time.frames.get k = s.time.frames.get k + (if s.on (R.VTB_CFG.VF_EN.ix k) = true then 1 else 0) ∧
        Keeps s t [] [] [.time])

/-- An ATW, COMMIT or MARK entry that is due and alone at its time, nothing of its scale before it, leaves the queue, is
counted in EXEC and takes effect: ATW writes the masked word to the register as the scheduler, COMMIT names a carrier block
with CP_SEL = 0b01 for its next boundary, MARK raises EV_SCHED_MARK with its TAG and wakes a WFE. LAUNCH_DAWN, while its
moment less TX_LATENCY has not passed, and LAUNCH_RPL, 2,000 ns before they are due, are handed to TX or STORE and stay in
the queue. While control writes are frozen, a launch or MARK entry is discarded and counted in FROZEN_DROP instead. With
SCHED reached, SCHED_CANCEL removes the waiting entries with its TAG, and of a task only its own, and reports how many. -/
def Obligations.SchedulerExecutes : Prop :=
  ∀ (s : State),
    (∀ (slot : Nat) (e : SchedEntry), readyEntry s slot aATW e → 
      Does (.schedAtwExecute slot) s fun t =>
        let u := countExec (dropEntry s e)
        let r := regWrite u .scheduler e.arg0 (atwWord u e.arg0 e.arg1 e.arg2)
        let v := histFree (perfEvent r.1 2 1) 0
        t = { (if r.2 then v else (v.bump R.SCHED_CNT2.ATW_ERR).raise E.SCHED_ATW_ERR (e.arg0 % 2 ^ 20)) with pending := s.pending }) ∧
    (∀ (slot : Nat) (e : SchedEntry), readyEntry s slot aCOMMIT e → 
      Does (.schedCommitExecute slot) s fun t =>
        (∀ b ∈ maskBlks e.arg0, (blkCarrier b).isSome = true → s.get (cpSelF b) = 1 → b ∈ t.named) ∧
        (∀ b ∈ t.named, b ∈ s.named ∨ (b ∈ maskBlks e.arg0 ∧ s.get (cpSelF b) = 1)) ∧ t.sched = (dropEntry s e).sched ∧ t.get R.SCHED_EXEC.EXEC = (s.get R.SCHED_EXEC.EXEC + 1) % 2 ^ 48 ∧
        Keeps s t ([R.SCHED_EXEC.EXEC, R.CL_MAP_STAT.REJ_CODE] ++ lvF) (.perf :: .framer .A :: .framer .B :: maskBlks e.arg0) (lvP.append [.sched, .named, .shadow, .frm .A, .frm .B])) ∧
    (∀ (slot : Nat) (e : SchedEntry), readyEntry s slot aMARK e → 
      Does (.schedMarkExecute slot) s fun t =>
        t.sched = (dropEntry s e).sched ∧ t.get R.SCHED_EXEC.EXEC = (s.get R.SCHED_EXEC.EXEC + 1) % 2 ^ 48 ∧ Raised s t E.SCHED_MARK (e.tag % 65536) ∧
        (s.vote ≠ vRESYNC → bitOf t.ctl.wakeLatch 1 = true ∧ t.ctl.evSeen = true) ∧ (s.vote = vRESYNC → t.ctl.markDue = some e.tag) ∧
        Keeps s t (R.SCHED_EXEC.EXEC :: evF) [.perf] (evP.append [.sched, .ctl])) ∧
    (∀ (slot : Nat) (e : SchedEntry), entryAt s slot = some e → isLaunch e.action = true → e.handed = false → e.time ≤ scaleNs s e.scale + 2000 → s.frozen = false → (e.action = aDAWN → (s.getC (carrierOf e.arg0) R.TX_LATENCY.LATENCY_PS : Int) < 1000 * ((e.time : Int) - scaleNs s e.scale)) → 
      Does (.schedLaunchHandoff slot) s fun t =>
        (entryAt t slot).map (·.handed) = some true ∧ t.sched.entries.length = s.sched.entries.length ∧
        (e.action = aDAWN → (t.txh (carrierOf e.arg0)).launches = (s.txh (carrierOf e.arg0)).launches ++ [⟨e.idx, e.scale, e.time, e.arg1⟩]) ∧
        (e.action = aRPL → (jb t e.arg0).launch =
          some (max e.time (tbtNs s), if e.time < tbtNs s then none else some e.frame32)) ∧
        Keeps s t [] [] [.sched, if e.action = aDAWN then .tx (carrierOf e.arg0) else .store]) ∧
    (∀ (slot : Nat) (e : SchedEntry), entryAt s slot = some e → isLaunch e.action = true → e.handed = false → e.time ≤ scaleNs s e.scale + 2000 → s.frozen = true → 
      Does (.schedLaunchHandoff slot) s fun t =>
        t.sched.entries = (dropEntry s e).sched.entries ∧ t.get R.SCHED_CNT2.FROZEN_DROP = satTo 16 (s.get R.SCHED_CNT2.FROZEN_DROP + 1) ∧
        t.sched.dropped = true ∧ (s.sched.dropped = false → Raised s t E.SCHED_FROZEN_DROP 0) ∧
        Keeps s t (R.SCHED_CNT2.FROZEN_DROP :: evF) [] (evP.append [.sched])) ∧
    (∀ (slot : Nat) (e : SchedEntry), entryAt s slot = some e → e.action = aMARK → isDue s e = true → batchOf s e = [e] → overtakes s { e with order := 0 } = false → s.frozen = true → 
      Does (.schedMarkExecute slot) s fun t =>
        t.sched.entries = (dropEntry s e).sched.entries ∧ t.get R.SCHED_CNT2.FROZEN_DROP = satTo 16 (s.get R.SCHED_CNT2.FROZEN_DROP + 1) ∧
        t.sched.dropped = true ∧ (s.sched.dropped = false → Raised s t E.SCHED_FROZEN_DROP 0) ∧
        Keeps s t (R.SCHED_CNT2.FROZEN_DROP :: evF) [] (evP.append [.sched])) ∧
    (∀ (tag : Nat) (task : Option Nat), Open s .sched → 
      Does (.schedCancel tag task) s fun t =>
        (∀ e ∈ s.sched.entries, e ∈ t.sched.entries ↔ (e.handed = true ∨ e.tag ≠ tag ∨ (task ≠ none ∧ task ≠ some e.owner))) ∧
        (∀ e ∈ t.sched.entries, e ∈ s.sched.entries) ∧
        t.get R.SCHED_CANCEL_RES.REMOVED = (s.sched.entries.length - t.sched.entries.length) % 2 ^ R.SCHED_CANCEL_RES.REMOVED.width ∧
        Keeps s t [R.SCHED_CANCEL_RES.REMOVED] [] [.sched])

/-- Of channels that run, VOTE_SIGNATURE, once in 1,024 control cycles: in TMR equal signatures change nothing but the note
of the moment, one that differs is excluded with cause 4 and DUPLEX entered; two that differ in DUPLEX freeze the voter.
RESYNC_START in an idle slot, and RESYNC_FORCED after RESYNC_WAIT, counted, enter RESYNC from DUPLEX. RESYNC_DONE of equal
channels, after its 137,216 cycles, copies one to the target and returns to TMR. CTL_RESTART with its key in FROZEN, EVENT
reached, resets the channels and starts the boot engine; CTL_RESTART_DONE of an image that passes starts the channels in
TMR, of another leaves them with LAST_ERR set. SCRUB_CHECK, once in 2^SCRUB_LOG2 cycles of a memory that is on, counts a
corrected word and an uncorrectable one of a domain memory, and in TMR excludes the channel of an uncorrectable control
word. MEM_BUCKET_LEAK after LEAK_PERIOD lowers every bucket by 1. Each clause names what else may change. -/
def Obligations.VotingAndRestart : Prop :=
  ∀ (s : State),
    (s.ctl.started = true → s.vote = vTMR → excludedChan s = 3 → chanState (chan s 0) = chanState (chan s 1) → chanState (chan s 1) = chanState (chan s 2) → 
      Does .voteSignature s fun t => t = { s with ctl := { s.ctl with sigAt := s.ctl.cycles / 1024 } }) ∧
    (s.ctl.cycles / 1024 = s.ctl.sigAt → 
      Does .voteSignature s fun t => t = s) ∧
    (∀ (odd : Nat), s.ctl.started = true → s.vote = vTMR → excludedChan s = 3 → odd < 3 → (∀ m < 3, m ≠ odd → chanState (chan s m) = chanState (chan s ((odd + 1) % 3))) → chanState (chan s odd) ≠ chanState (chan s ((odd + 1) % 3)) → s.ctl.cycles / 1024 ≠ s.ctl.sigAt → 
      Does .voteSignature s fun t =>
        t.vote = vDUPLEX ∧ excludedChan t = odd ∧ t.get R.VOTE_STAT.CAUSE = 4 ∧ t.get (divF odd) = satTo 8 (s.get (divF odd) + 1) ∧ Keeps s t (lvF ++ voteF ++ [R.VOTE_CNT.DIV_M, R.VOTE_CNT.DIV_N, R.VOTE_CNT.DIV_E]) [] (lvP.append [.sched, .ctl])) ∧
    (s.ctl.started = true → s.vote = vDUPLEX → excludedChan s = 2 → chanState (chan s 0) ≠ chanState (chan s 1) → s.ctl.cycles / 1024 ≠ s.ctl.sigAt → 
      Does .voteSignature s fun t => t.vote = vFROZEN ∧ t.get R.VOTE_STAT.CAUSE = 4 ∧ t.ctl.wfe = none ∧ Keeps s t (lvF ++ voteF ++ [R.VOTE_CNT.DIV_M, R.VOTE_CNT.DIV_N, R.VOTE_CNT.DIV_E]) [] (lvP.append [.sched, .ctl])) ∧
    (s.vote = vDUPLEX → idleSlot s = true → 
      Does .resyncStart s fun t => t.vote = vRESYNC ∧ t.ctl.forced = false ∧ Keeps s t (R.VOTE_STAT.STATE :: lvF) [] (lvP.append [.ctl])) ∧
    (s.vote = vDUPLEX → 1000000 * atLeast1 (s.get R.VOTE_CTRL.RESYNC_WAIT) ≤ s.age .duplex → 
      Does .resyncForced s fun t =>
        t.vote = vRESYNC ∧ t.ctl.forced = true ∧ t.get R.VOTE_CNT2.RESYNC_FORCED = satTo 16 (s.get R.VOTE_CNT2.RESYNC_FORCED + 1) ∧
        Keeps s t (lvF ++ [R.VOTE_STAT.STATE, R.VOTE_CNT2.RESYNC_FORCED]) [] (lvP.append [.ctl])) ∧
    (∀ (ue : Option (Nat × Nat)) (a b x : Nat), s.vote = vRESYNC → excludedChan s = x → x < 3 → liveChans s = [a, b] → chan s a = chan s b → s.ctl.chans.length = 3 → (ue = none ∨ ue.map Prod.fst = some x) → ctlNs s 137216 ≤ s.age .resync → 
      Does (.resyncDone ue) s fun t =>
        t.vote = vTMR ∧ excludedChan t = 3 ∧ chan t x = chan t a ∧ t.get R.VOTE_CNT2.RESYNCS = satTo 16 (s.get R.VOTE_CNT2.RESYNCS + 1) ∧
        t.ctl.forced = false ∧ t.ctl.markDue = none ∧ t.ctl.haltDue = false ∧
        Keeps s t (lvF ++ voteF ++ [R.VOTE_CNT2.RESYNCS, R.UB_STAT.HALTED, R.PROG_STAT.RUN_BANK, R.PROG_STAT.IDLE_OK, R.PROG_VER.VERSION]) [.event] (lvP.append [.ctl, .host])) ∧
    (Open s .event → s.vote = vFROZEN → s.host.restart = false → 
      Does (.ctlRestart 0x5EED) s fun t =>
        t.host.restart = true ∧ t.ctl.started = false ∧ t.ctl.wakeLatch = 0 ∧ t.ctl.wfe = none ∧ t.ctl.chans = [.reset, .reset, .reset] ∧
        t.get R.PROG_STAT.RUN_BANK = 0 ∧ t.on R.PROG_STAT.IDLE_OK = false ∧ t.on R.CTL_RESTART.RESTART = true ∧
        t.host.boot = (if bootSel s = 0 then .headers else if bootSel s = 1 then .host else .peer) ∧ t.vote = vFROZEN ∧
        Keeps s t lvF ([.event, .hostif, .pwr] ++ linkB) (linkP.append [.ctl, .host, .pwr])) ∧
    (s.host.restart = true → s.host.boot = .verify → imageResult (s.set R.VOTE_STAT.EXCLUDED 3) 0 0 1 = 0 → 
      Does .ctlRestartDone s fun t =>
        t.vote = vTMR ∧ excludedChan t = 3 ∧ t.ctl.started = true ∧ t.on R.CTL_RESTART.RESTART = false ∧ t.host.restart = false ∧
          t.host.boot = .idle ∧ ∀ m < 3, chan t m = (chan s m).start 0 1 ∧
        Keeps s t lvF [.event, .hostif, .sched] (lvP.append [.ctl, .host, .sched])) ∧
    (s.host.restart = true → s.host.boot = .verify → imageResult (s.set R.VOTE_STAT.EXCLUDED 3) 0 0 1 ≠ 0 → 
      Does .ctlRestartDone s fun t =>
        t.vote = s.vote ∧ t.ctl.chans = s.ctl.chans ∧ t.ctl.started = s.ctl.started ∧ t.get R.HOST_BOOT.LAST_ERR ≠ 0 ∧ (t.host.boot ≠ .verify) ∧
          (s.host.bootSrc = 1 → t.host.restart = false ∧ t.on R.CTL_RESTART.RESTART = false) ∧
        Keeps s t lvF [.event, .hostif, .sched] (lvP.append [.ctl, .host, .sched])) ∧
    (∀ (dom : Bool) (i : Nat) (v : Scrub), s.dev ≠ 0 → i < (if dom = true then 22 else 9) → scrubDue s dom i = true → 
      Does (.scrubCheck dom i v) s fun t =>
        (v = .clean → Keeps s t [] [] [.marks]) ∧
        (v = .corrected → t.get (memCeF dom i) = satTo 32 (s.get (memCeF dom i) + 1) ∧ Keeps s t (evF ++ [memCeF dom i, memBucketF dom i]) [] (evP.append [.marks])) ∧
        (v = .bad → dom = true → t.get (memUeF dom i) = satTo 16 (s.get (memUeF dom i) + 1) ∧ Raised s t E.MEM_UE (i + 32) ∧
          Keeps s t (memUeF dom i :: evF) [] (evP.append [.marks])) ∧
        (v = .bad → dom = false → s.vote = vTMR → t.vote = vDUPLEX ∧ excludedChan t = i / 3 ∧ t.get R.VOTE_STAT.CAUSE = 5 ∧
          t.get (memUeF dom i) = satTo 16 (s.get (memUeF dom i) + 1)) ∧
        Keeps s t (lvF ++ voteF ++ [R.VOTE_CNT.DIV_M, R.VOTE_CNT.DIV_N, R.VOTE_CNT.DIV_E, memCeF dom i, memBucketF dom i, memUeF dom i]) []
          (lvP.append [.sched, .ctl])) ∧
    (∀ (dom : Bool) (i : Nat) (v : Scrub), s.dev ≠ 0 → i < (if dom = true then 22 else 9) → scrubDue s dom i = true → v = .clean → 
      Does (.scrubCheck dom i v) s fun t =>
        Keeps s t [] [] [.marks]) ∧
    (∀ (dom : Bool) (i : Nat) (v : Scrub), s.dev ≠ 0 → i < (if dom = true then 22 else 9) → scrubDue s dom i = true → v = .corrected → 
      Does (.scrubCheck dom i v) s fun t =>
        t.get (memCeF dom i) = satTo 32 (s.get (memCeF dom i) + 1) ∧ Keeps s t (evF ++ [memCeF dom i, memBucketF dom i]) [] (evP.append [.marks])) ∧
    (∀ (dom : Bool) (i : Nat) (v : Scrub), s.dev ≠ 0 → i < (if dom = true then 22 else 9) → scrubDue s dom i = true → v = .bad → dom = true → 
      Does (.scrubCheck dom i v) s fun t =>
        t.get (memUeF dom i) = satTo 16 (s.get (memUeF dom i) + 1) ∧ Raised s t E.MEM_UE (i + 32) ∧
          Keeps s t (memUeF dom i :: evF) [] (evP.append [.marks])) ∧
    (∀ (dom : Bool) (i : Nat) (v : Scrub), s.dev ≠ 0 → i < (if dom = true then 22 else 9) → scrubDue s dom i = true → v = .bad → dom = false → s.vote = vTMR → 
      Does (.scrubCheck dom i v) s fun t =>
        t.vote = vDUPLEX ∧ excludedChan t = i / 3 ∧ t.get R.VOTE_STAT.CAUSE = 5 ∧
          t.get (memUeF dom i) = satTo 16 (s.get (memUeF dom i) + 1) ∧
        Keeps s t (lvF ++ voteF ++ [R.VOTE_CNT.DIV_M, R.VOTE_CNT.DIV_N, R.VOTE_CNT.DIV_E, memCeF dom i, memBucketF dom i, memUeF dom i]) []
          (lvP.append [.sched, .ctl])) ∧
    (1000000 * atLeast1 (s.get R.MEM_CTRL.LEAK_PERIOD) ≤ s.age .memLeak → 
      Does .memBucketLeak s fun t =>
        (∀ i < 9, t.get (memBucketF false i) = (s.get (memBucketF false i) - 1) % 2 ^ 16) ∧
        (∀ i < 22, t.get (memBucketF true i) = (s.get (memBucketF true i) - 1) % 2 ^ 16) ∧
        Keeps s t ((List.range 9).map (memBucketF false) ++ (List.range 22).map (memBucketF true)) [] [.marks])

/-- With PWR reached, CGATE_REQUEST of a switched domain that is on with no block running sets GATE and starts a drain; with
a running block it is refused with TIMEOUT. CGATE_ACK, and CGATE_FORCE with PWR reached, set GATED of a draining domain;
CGATE_TIMEOUT after the time of R492 ends the drain with TIMEOUT; CGATE_CLEAR of a set gate clears both. Outside RESET,
ACCESS_WITHDRAW counts the error of its requester, shows it, and raises its event; a control access traps every channel.
EV_HEAD_READ by the owner takes a snapshot of COUNT; EV_POP by the owner removes the head, and occurrences after the
snapshot are queued again; EV_POP by another changes nothing. With PERF reached, PERF_CLR zeroes the counters of its mask,
HIST_SNAP copies the bins of a histogram into its window and HIST_CLEAR zeroes them. Each clause names what else may change.
-/
def Obligations.GatesEventsAndCounters : Prop :=
  ∀ (s : State),
    (∀ (d : Nat), 5 ≤ d → d ≤ 21 → Open s .pwr → s.domOn d = true → bitOf (s.get R.PWR_CGATE.GATE) d = false → s.domRuns d = false → 
      Does (.cgateRequest d) s fun t =>
        bitOf (t.get R.PWR_CGATE.GATE) d = true ∧ d ∈ t.pwr.gates ∧ Keeps s t [R.PWR_CGATE.GATE] [] [.pwr, .marks]) ∧
    (∀ (d : Nat), 5 ≤ d → d ≤ 21 → Open s .pwr → s.domOn d = true → bitOf (s.get R.PWR_CGATE.GATE) d = false → s.domRuns d = true → 
      Does (.cgateRequest d) s fun t =>
        bitOf (t.get R.PWR_CGATE.GATE) d = false ∧ bitOf (t.get R.PWR_CGATE_TO.TIMEOUT) d = true ∧
          Raised s t E.GATE_TIMEOUT (d + 256) ∧ Keeps s t ([R.PWR_CGATE.GATE, R.PWR_CGATE_TO.TIMEOUT] ++ evF) [] evP) ∧
    (∀ (d : Nat), d < 22 → d ∈ s.pwr.gates → 
      Does (.cgateAck d) s fun t =>
        bitOf (t.get R.PWR_CGATE_STAT.GATED) d = true ∧ d ∉ t.pwr.gates ∧ Keeps s t [R.PWR_CGATE_STAT.GATED] [] [.pwr]) ∧
    (∀ (d : Nat), d < 22 → d ∈ s.pwr.gates → ackWait s d ≤ s.age (.cgate d) → 
      Does (.cgateTimeout d) s fun t =>
        bitOf (t.get R.PWR_CGATE.GATE) d = false ∧ bitOf (t.get R.PWR_CGATE_TO.TIMEOUT) d = true ∧ d ∉ t.pwr.gates ∧
        Raised s t E.GATE_TIMEOUT d ∧ Keeps s t ([R.PWR_CGATE.GATE, R.PWR_CGATE_TO.TIMEOUT] ++ evF) [] (evP.append [.pwr])) ∧
    (∀ (d : Nat), d < 22 → Open s .pwr → d ∈ s.pwr.gates → 
      Does (.cgateForce d) s fun t =>
        bitOf (t.get R.PWR_CGATE_STAT.GATED) d = true ∧ d ∉ t.pwr.gates ∧ Keeps s t [R.PWR_CGATE_STAT.GATED] [] [.pwr]) ∧
    (∀ (d : Nat), d < 22 → Open s .pwr → bitOf (s.get R.PWR_CGATE.GATE) d = true → 
      Does (.cgateClear d) s fun t =>
        bitOf (t.get R.PWR_CGATE.GATE) d = false ∧ bitOf (t.get R.PWR_CGATE_STAT.GATED) d = false ∧ d ∉ t.pwr.gates ∧
        Keeps s t [R.PWR_CGATE.GATE, R.PWR_CGATE_STAT.GATED] [] [.pwr]) ∧
    (∀ (insn addr : Nat), s.dev ≠ 0 → 
      Does (.accessWithdraw .host insn addr) s fun t =>
        t.get R.BUS_ERR.COUNT = satTo 32 (s.get R.BUS_ERR.COUNT + 1) ∧ t.on R.HOST_ERR.VALID = true ∧ t.get R.HOST_ERR.OFFSET = addr % 2 ^ 23 ∧
        Raised s t E.BUS_ERR (addr % 2 ^ 20 + 2 ^ 20) ∧
        Keeps s t ([R.BUS_ERR.COUNT, R.HOST_ERR.VALID, R.HOST_ERR.OFFSET] ++ evF) [.perf] evP) ∧
    (∀ (insn addr : Nat), s.dev ≠ 0 → 
      Does (.accessWithdraw .scheduler insn addr) s fun t =>
        t.get R.SCHED_CNT2.ATW_ERR = satTo 16 (s.get R.SCHED_CNT2.ATW_ERR + 1) ∧ Raised s t E.SCHED_ATW_ERR (addr % 2 ^ 20) ∧
        Keeps s t (R.SCHED_CNT2.ATW_ERR :: evF) [] evP) ∧
    (∀ (insn addr : Nat), s.dev ≠ 0 → 
      Does (.accessWithdraw .ubant insn addr) s fun t =>
        t.get R.BUS_ERR.COUNT = satTo 32 (s.get R.BUS_ERR.COUNT + 1) ∧ t.host.ubOut = 4 * 2 ^ 32 ∧
        Raised s t E.BUS_ERR (addr % 2 ^ 20 + 2 ^ 21) ∧ Keeps s t (R.BUS_ERR.COUNT :: evF) [.perf] (evP.append [.host])) ∧
    (∀ (insn addr : Nat), s.ctl.started = true → s.vote = vTMR → excludedChan s = 3 → chan s 0 = chan s 1 → chan s 1 = chan s 2 → reached s = true → (lead s).exc = false → 
      Does (.accessWithdraw .control insn addr) s fun t =>
        t.get R.BUS_ERR.COUNT = satTo 32 (s.get R.BUS_ERR.COUNT + 1) ∧
        (∀ m < 3, (chan s m).exc = false → chan t m = (chan s m).take (.trap ((chan s m).trap xBUS (some addr))) insn) ∧
        Keeps s t [] [.event, .perf, .hostif] (evP.append [.ctl, .host])) ∧
    (∀ (by' : Requester) (h : Ev) (rest : List Ev), s.dev ≠ 0 → s.domOn (blkDom .event) = true → s.domGated (blkDom .event) = false → (by' = .host ∨ (by' = .control ∧ votes s = true)) → pathOf by' = evOwner s → s.ev.entries = h :: rest → 
      Does (.evHeadRead by') s fun t =>
        t.ev.snap = some h.count ∧ t.ev.entries = h :: rest ∧ t.ev.recorded = none ∧ Keeps s t [] [] [.ev]) ∧
    (∀ (by' : Requester) (h : Ev) (rest : List Ev), Open s .event → pathOf by' = evOwner s → s.ev.entries = h :: rest → 
      Does (.evPop by') s fun t =>
        (s.ev.snap = none → t.ev = ⟨rest, none, none⟩) ∧
        (∀ n ∈ s.ev.snap, t.ev.entries = (if h.count - n = 0 then rest else
          rest ++ [⟨h.id, h.count - n, (s.ev.recorded.getD (h.data, h.time)).1, (s.ev.recorded.getD (h.data, h.time)).2⟩])) ∧
        Keeps s t [R.EV_STAT.HWM] [] (evP.append [.ctl])) ∧
    (∀ (by' : Requester), pathOf by' ≠ evOwner s → 
      Does (.evPop by') s fun t => t = s) ∧
    (∀ (mask : Nat), Open s .perf → 
      Does (.perfClr mask) s fun t =>
        (∀ n < 32, t.get (R.PERF_CNT.COUNT.ix n) = if bitOf mask n = true then 0 else s.get (R.PERF_CNT.COUNT.ix n)) ∧
        Keeps s t ((List.range 32).map R.PERF_CNT.COUNT.ix) [] []) ∧
    (∀ (h : Nat), h < 8 → Open s .perf → 
      Does (.histSnap h) s fun t =>
        (∀ i < 32, t.get (wordAt (0x40080800 + 0x80 * h + 4 * i)) = s.ctl.hist.get (32 * h + i) % 2 ^ 32) ∧
        Keeps s t ((List.range 32).map (fun i => wordAt (0x40080800 + 0x80 * h + 4 * i))) [] []) ∧
    (∀ (h : Nat), h < 8 → Open s .perf → 
      Does (.histClear h) s fun t =>
        (∀ j < 256, t.ctl.hist.get j = if j / 32 = h then 0 else s.ctl.hist.get j) ∧ Keeps s t [] [] [.ctl])

/-- Where an instruction runs, each of the thirteen ALU operations and the three multiplications writes to gd what R524 and
R525 give for ga and gb, with values wrapping modulo 2^32, moves PC to the next word, takes 1 cycle (3 for a multiplication)
and leaves every other register, special register and byte of SRAM, every device register and every other piece of state as
it was. -/
def Obligations.AluInstructions : Prop :=
  ∀ (s : State) (gd ga gb : BitVec 4),
    Ready s →
    (
      Does (.add gd ga gb) s fun t => RanAs s t 1 (fun c => (c.wr gd (c.rd ga + c.rd gb)).next)) ∧
    (
      Does (.sub gd ga gb) s fun t => RanAs s t 1 (fun c => (c.wr gd (c.rd ga - c.rd gb)).next)) ∧
    (
      Does (.and gd ga gb) s fun t => RanAs s t 1 (fun c => (c.wr gd (c.rd ga &&& c.rd gb)).next)) ∧
    (
      Does (.ior gd ga gb) s fun t => RanAs s t 1 (fun c => (c.wr gd (c.rd ga ||| c.rd gb)).next)) ∧
    (
      Does (.xor gd ga gb) s fun t => RanAs s t 1 (fun c => (c.wr gd (c.rd ga ^^^ c.rd gb)).next)) ∧
    (
      Does (.shl gd ga gb) s fun t => RanAs s t 1 (fun c => (c.wr gd (c.rd ga <<< ((c.rd gb).toNat % 32))).next)) ∧
    (
      Does (.shr gd ga gb) s fun t => RanAs s t 1 (fun c => (c.wr gd (c.rd ga >>> ((c.rd gb).toNat % 32))).next)) ∧
    (
      Does (.asr gd ga gb) s fun t => RanAs s t 1 (fun c => (c.wr gd ((c.rd ga).sshiftRight ((c.rd gb).toNat % 32))).next)) ∧
    (
      Does (.cls gd ga gb) s fun t => RanAs s t 1 (fun c => (c.wr gd (if (c.rd ga).toInt < (c.rd gb).toInt then 1 else 0)).next)) ∧
    (
      Does (.clu gd ga gb) s fun t => RanAs s t 1 (fun c => (c.wr gd (if (c.rd ga).toNat < (c.rd gb).toNat then 1 else 0)).next)) ∧
    (
      Does (.andn gd ga gb) s fun t => RanAs s t 1 (fun c => (c.wr gd (c.rd ga &&& ~~~(c.rd gb))).next)) ∧
    (
      Does (.mins gd ga gb) s fun t => RanAs s t 1 (fun c => (c.wr gd (if (c.rd ga).toInt < (c.rd gb).toInt then c.rd ga else c.rd gb)).next)) ∧
    (
      Does (.maxs gd ga gb) s fun t => RanAs s t 1 (fun c => (c.wr gd (if (c.rd ga).toInt < (c.rd gb).toInt then c.rd gb else c.rd ga)).next)) ∧
    (
      Does (.mul gd ga gb) s fun t => RanAs s t 3 (fun c => (c.wr gd (c.rd ga * c.rd gb)).next)) ∧
    (
      Does (.mhs gd ga gb) s fun t => RanAs s t 3 (fun c => (c.wr gd (BitVec.ofInt 32 ((c.rd ga).toInt * (c.rd gb).toInt / 2 ^ 32))).next)) ∧
    (
      Does (.mhu gd ga gb) s fun t => RanAs s t 3 (fun c => (c.wr gd (BitVec.ofNat 32 ((c.rd ga).toNat * (c.rd gb).toNat / 2 ^ 32))).next))

/-- Where an instruction runs, ADDK, ANDK, IORK, XORK, CLSK, SHLK, SHRK, ASRK, SETH, PCR and FLD write to gd what R524 gives
for ga, the immediate and PC, move PC to the next word, take 1 cycle and change nothing else. A shift or FLD with a bit set
that must be 0, and SETH or PCR with ga other than g0, takes ILLEGAL on every live channel outside an exception, with no
other effect. -/
def Obligations.ImmediateInstructions : Prop :=
  ∀ (s : State) (gd ga : BitVec 4) (imm : BitVec 18),
    Ready s →
    (
      Does (.addk gd ga imm) s fun t => RanAs s t 1 (fun c => (c.wr gd (c.rd ga + imm.signExtend 32)).next)) ∧
    (
      Does (.andk gd ga imm) s fun t => RanAs s t 1 (fun c => (c.wr gd (c.rd ga &&& imm.setWidth 32)).next)) ∧
    (
      Does (.iork gd ga imm) s fun t => RanAs s t 1 (fun c => (c.wr gd (c.rd ga ||| imm.setWidth 32)).next)) ∧
    (
      Does (.xork gd ga imm) s fun t => RanAs s t 1 (fun c => (c.wr gd (c.rd ga ^^^ imm.setWidth 32)).next)) ∧
    (
      Does (.clsk gd ga imm) s fun t => RanAs s t 1 (fun c => (c.wr gd (if (c.rd ga).toInt < imm.toInt then 1 else 0)).next)) ∧
    (imm.toNat < 32 → 
      Does (.shlk gd ga imm) s fun t => RanAs s t 1 (fun c => (c.wr gd (c.rd ga <<< imm.toNat)).next)) ∧
    (imm.toNat < 32 → 
      Does (.shrk gd ga imm) s fun t => RanAs s t 1 (fun c => (c.wr gd (c.rd ga >>> imm.toNat)).next)) ∧
    (imm.toNat < 32 → 
      Does (.asrk gd ga imm) s fun t => RanAs s t 1 (fun c => (c.wr gd ((c.rd ga).sshiftRight imm.toNat)).next)) ∧
    (ga = 0 → 
      Does (.seth gd ga imm) s fun t => RanAs s t 1 (fun c => (c.wr gd (BitVec.ofNat 32 (imm.toNat * 2 ^ 14))).next)) ∧
    (ga = 0 → 
      Does (.pcr gd ga imm) s fun t => RanAs s t 1 (fun c => (c.wr gd (BitVec.ofInt 32 ((c.pc : Int) + imm.toInt * 4))).next)) ∧
    (imm.toNat < 1024 → 
      Does (.fld gd ga imm) s fun t => RanAs s t 1 (fun c => (c.wr gd (BitVec.ofNat 32 ((c.rd ga).toNat / 2 ^ (imm.toNat % 32) % 2 ^ (if imm.toNat / 32 = 0 then 32 else imm.toNat / 32)))).next)) ∧
    (32 ≤ imm.toNat → OnLive s (fun c => c.exc = false) → 
      Does (.shlk gd ga imm) s fun t => Trapped s t (encI 0x15 gd ga imm) (fun c => ⟨xILLEGAL, none, c.pc, true⟩)) ∧
    (32 ≤ imm.toNat → OnLive s (fun c => c.exc = false) → 
      Does (.shrk gd ga imm) s fun t => Trapped s t (encI 0x16 gd ga imm) (fun c => ⟨xILLEGAL, none, c.pc, true⟩)) ∧
    (32 ≤ imm.toNat → OnLive s (fun c => c.exc = false) → 
      Does (.asrk gd ga imm) s fun t => Trapped s t (encI 0x17 gd ga imm) (fun c => ⟨xILLEGAL, none, c.pc, true⟩)) ∧
    (ga ≠ 0 → OnLive s (fun c => c.exc = false) → 
      Does (.seth gd ga imm) s fun t => Trapped s t (encI 0x18 gd ga imm) (fun c => ⟨xILLEGAL, none, c.pc, true⟩)) ∧
    (ga ≠ 0 → OnLive s (fun c => c.exc = false) → 
      Does (.pcr gd ga imm) s fun t => Trapped s t (encI 0x19 gd ga imm) (fun c => ⟨xILLEGAL, none, c.pc, true⟩)) ∧
    (1024 ≤ imm.toNat → OnLive s (fun c => c.exc = false) → 
      Does (.fld gd ga imm) s fun t => Trapped s t (encI 0x1F gd ga imm) (fun c => ⟨xILLEGAL, none, c.pc, true⟩))

/-- Where an instruction runs and its condition holds, each of the eight branches moves PC to the address of the branch plus
four times its offset in 2 cycles; where it does not hold, PC moves to the next word in 1 cycle. GO moves PC likewise; CALL
also writes PC + 4 to g15; CALLR writes PC + 4 to gd and moves PC to the value that ga had. Nothing else changes. A target
of a taken branch, GO, CALL or CALLR that is not a multiple of 4 takes ALIGN, and one that may not be fetched ACCESS, with
EADDR the target: the model reads the exceptions of R524 at the jump (log entry 74). -/
def Obligations.BranchesAndJumps : Prop :=
  ∀ (s : State),
    Ready s →
    (∀ (ga gb : BitVec 4) (off : BitVec 18), OnLive s (fun c => c.rd ga = c.rd gb) → OnLive s (fun c => c.fetchCode (targetOf c off.toInt) = none) → 
      Does (.brEq ga gb off) s fun t => RanAs s t 2 (fun c => c.goto (targetOf c off.toInt))) ∧
    (∀ (ga gb : BitVec 4) (off : BitVec 18), OnLive s (fun c => ¬(c.rd ga = c.rd gb)) → 
      Does (.brEq ga gb off) s fun t => RanAs s t 1 Chan.next) ∧
    (∀ (ga gb : BitVec 4) (off : BitVec 18), OnLive s (fun c => c.rd ga ≠ c.rd gb) → OnLive s (fun c => c.fetchCode (targetOf c off.toInt) = none) → 
      Does (.brNe ga gb off) s fun t => RanAs s t 2 (fun c => c.goto (targetOf c off.toInt))) ∧
    (∀ (ga gb : BitVec 4) (off : BitVec 18), OnLive s (fun c => ¬(c.rd ga ≠ c.rd gb)) → 
      Does (.brNe ga gb off) s fun t => RanAs s t 1 Chan.next) ∧
    (∀ (ga gb : BitVec 4) (off : BitVec 18), OnLive s (fun c => (c.rd ga).toInt < (c.rd gb).toInt) → OnLive s (fun c => c.fetchCode (targetOf c off.toInt) = none) → 
      Does (.brLts ga gb off) s fun t => RanAs s t 2 (fun c => c.goto (targetOf c off.toInt))) ∧
    (∀ (ga gb : BitVec 4) (off : BitVec 18), OnLive s (fun c => ¬((c.rd ga).toInt < (c.rd gb).toInt)) → 
      Does (.brLts ga gb off) s fun t => RanAs s t 1 Chan.next) ∧
    (∀ (ga gb : BitVec 4) (off : BitVec 18), OnLive s (fun c => (c.rd ga).toInt ≤ (c.rd gb).toInt) → OnLive s (fun c => c.fetchCode (targetOf c off.toInt) = none) → 
      Does (.brLes ga gb off) s fun t => RanAs s t 2 (fun c => c.goto (targetOf c off.toInt))) ∧
    (∀ (ga gb : BitVec 4) (off : BitVec 18), OnLive s (fun c => ¬((c.rd ga).toInt ≤ (c.rd gb).toInt)) → 
      Does (.brLes ga gb off) s fun t => RanAs s t 1 Chan.next) ∧
    (∀ (ga gb : BitVec 4) (off : BitVec 18), OnLive s (fun c => (c.rd ga).toNat < (c.rd gb).toNat) → OnLive s (fun c => c.fetchCode (targetOf c off.toInt) = none) → 
      Does (.brLtu ga gb off) s fun t => RanAs s t 2 (fun c => c.goto (targetOf c off.toInt))) ∧
    (∀ (ga gb : BitVec 4) (off : BitVec 18), OnLive s (fun c => ¬((c.rd ga).toNat < (c.rd gb).toNat)) → 
      Does (.brLtu ga gb off) s fun t => RanAs s t 1 Chan.next) ∧
    (∀ (ga gb : BitVec 4) (off : BitVec 18), OnLive s (fun c => (c.rd ga).toNat ≤ (c.rd gb).toNat) → OnLive s (fun c => c.fetchCode (targetOf c off.toInt) = none) → 
      Does (.brLeu ga gb off) s fun t => RanAs s t 2 (fun c => c.goto (targetOf c off.toInt))) ∧
    (∀ (ga gb : BitVec 4) (off : BitVec 18), OnLive s (fun c => ¬((c.rd ga).toNat ≤ (c.rd gb).toNat)) → 
      Does (.brLeu ga gb off) s fun t => RanAs s t 1 Chan.next) ∧
    (∀ (ga gb : BitVec 4) (off : BitVec 18), OnLive s (fun c => c.rd ga &&& c.rd gb ≠ 0) → OnLive s (fun c => c.fetchCode (targetOf c off.toInt) = none) → 
      Does (.brAny ga gb off) s fun t => RanAs s t 2 (fun c => c.goto (targetOf c off.toInt))) ∧
    (∀ (ga gb : BitVec 4) (off : BitVec 18), OnLive s (fun c => ¬(c.rd ga &&& c.rd gb ≠ 0)) → 
      Does (.brAny ga gb off) s fun t => RanAs s t 1 Chan.next) ∧
    (∀ (ga gb : BitVec 4) (off : BitVec 18), OnLive s (fun c => c.rd ga &&& c.rd gb = 0) → OnLive s (fun c => c.fetchCode (targetOf c off.toInt) = none) → 
      Does (.brNone ga gb off) s fun t => RanAs s t 2 (fun c => c.goto (targetOf c off.toInt))) ∧
    (∀ (ga gb : BitVec 4) (off : BitVec 18), OnLive s (fun c => ¬(c.rd ga &&& c.rd gb = 0)) → 
      Does (.brNone ga gb off) s fun t => RanAs s t 1 Chan.next) ∧
    (∀ (ga gb : BitVec 4) (off : BitVec 18) (code : Nat), OnLive s (fun c => c.rd ga = c.rd gb) → OnLive s (fun c => c.fetchCode (targetOf c off.toInt) = some code) → OnLive s (fun c => c.exc = false) → 
      Does (.brEq ga gb off) s fun t => Trapped s t (encI 0x28 ga gb off) (fun c => ⟨code, some (targetOf c off.toInt), c.pc, true⟩)) ∧
    (∀ (ga gb : BitVec 4) (off : BitVec 18) (code : Nat), OnLive s (fun c => c.rd ga ≠ c.rd gb) → OnLive s (fun c => c.fetchCode (targetOf c off.toInt) = some code) → OnLive s (fun c => c.exc = false) → 
      Does (.brNe ga gb off) s fun t => Trapped s t (encI 0x29 ga gb off) (fun c => ⟨code, some (targetOf c off.toInt), c.pc, true⟩)) ∧
    (∀ (ga gb : BitVec 4) (off : BitVec 18) (code : Nat), OnLive s (fun c => (c.rd ga).toInt < (c.rd gb).toInt) → OnLive s (fun c => c.fetchCode (targetOf c off.toInt) = some code) → OnLive s (fun c => c.exc = false) → 
      Does (.brLts ga gb off) s fun t => Trapped s t (encI 0x2a ga gb off) (fun c => ⟨code, some (targetOf c off.toInt), c.pc, true⟩)) ∧
    (∀ (ga gb : BitVec 4) (off : BitVec 18) (code : Nat), OnLive s (fun c => (c.rd ga).toInt ≤ (c.rd gb).toInt) → OnLive s (fun c => c.fetchCode (targetOf c off.toInt) = some code) → OnLive s (fun c => c.exc = false) → 
      Does (.brLes ga gb off) s fun t => Trapped s t (encI 0x2b ga gb off) (fun c => ⟨code, some (targetOf c off.toInt), c.pc, true⟩)) ∧
    (∀ (ga gb : BitVec 4) (off : BitVec 18) (code : Nat), OnLive s (fun c => (c.rd ga).toNat < (c.rd gb).toNat) → OnLive s (fun c => c.fetchCode (targetOf c off.toInt) = some code) → OnLive s (fun c => c.exc = false) → 
      Does (.brLtu ga gb off) s fun t => Trapped s t (encI 0x2c ga gb off) (fun c => ⟨code, some (targetOf c off.toInt), c.pc, true⟩)) ∧
    (∀ (ga gb : BitVec 4) (off : BitVec 18) (code : Nat), OnLive s (fun c => (c.rd ga).toNat ≤ (c.rd gb).toNat) → OnLive s (fun c => c.fetchCode (targetOf c off.toInt) = some code) → OnLive s (fun c => c.exc = false) → 
      Does (.brLeu ga gb off) s fun t => Trapped s t (encI 0x2d ga gb off) (fun c => ⟨code, some (targetOf c off.toInt), c.pc, true⟩)) ∧
    (∀ (ga gb : BitVec 4) (off : BitVec 18) (code : Nat), OnLive s (fun c => c.rd ga &&& c.rd gb ≠ 0) → OnLive s (fun c => c.fetchCode (targetOf c off.toInt) = some code) → OnLive s (fun c => c.exc = false) → 
      Does (.brAny ga gb off) s fun t => Trapped s t (encI 0x2e ga gb off) (fun c => ⟨code, some (targetOf c off.toInt), c.pc, true⟩)) ∧
    (∀ (ga gb : BitVec 4) (off : BitVec 18) (code : Nat), OnLive s (fun c => c.rd ga &&& c.rd gb = 0) → OnLive s (fun c => c.fetchCode (targetOf c off.toInt) = some code) → OnLive s (fun c => c.exc = false) → 
      Does (.brNone ga gb off) s fun t => Trapped s t (encI 0x2f ga gb off) (fun c => ⟨code, some (targetOf c off.toInt), c.pc, true⟩)) ∧
    (∀ (off : BitVec 26), OnLive s (fun c => c.fetchCode (targetOf c off.toInt) = none) → 
      Does (.go off) s fun t => RanAs s t 2 (fun c => c.goto (targetOf c off.toInt))) ∧
    (∀ (off : BitVec 26), OnLive s (fun c => c.fetchCode (targetOf c off.toInt) = none) → 
      Does (.call off) s fun t => RanAs s t 2 (fun c => (c.wr 15 (BitVec.ofNat 32 (c.pc + 4))).goto (targetOf c off.toInt))) ∧
    (∀ (gd ga : BitVec 4), OnLive s (fun c => c.fetchCode (c.rd ga).toNat = none) → 
      Does (.callr gd ga 0) s fun t => RanAs s t 2 (fun c => (c.wr gd (BitVec.ofNat 32 (c.pc + 4))).goto (c.rd ga).toNat)) ∧
    (∀ (off : BitVec 26) (code : Nat), OnLive s (fun c => c.fetchCode (targetOf c off.toInt) = some code) → OnLive s (fun c => c.exc = false) → 
      Does (.go off) s fun t => Trapped s t (encJ 0x30 off) (fun c => ⟨code, some (targetOf c off.toInt), c.pc, true⟩)) ∧
    (∀ (off : BitVec 26) (code : Nat), OnLive s (fun c => c.fetchCode (targetOf c off.toInt) = some code) → OnLive s (fun c => c.exc = false) → 
      Does (.call off) s fun t => Trapped s t (encJ 0x31 off) (fun c => ⟨code, some (targetOf c off.toInt), c.pc, true⟩)) ∧
    (∀ (gd ga : BitVec 4) (code : Nat), OnLive s (fun c => c.fetchCode (c.rd ga).toNat = some code) → OnLive s (fun c => c.exc = false) → 
      Does (.callr gd ga 0) s fun t => Trapped s t (encA 9 gd ga 0 0) (fun c => ⟨code, some (c.rd ga).toNat, c.pc, true⟩))

/-- Where an instruction runs: SRD writes a special register to gd, CYCLE_LO with a snapshot; at task level only STATUS and
CYCLE, else PRIV. SWR at supervisor level writes it; at task level PRIV. SYSCALL takes SYSCALL with EPC past it, and within
an exception is a double fault: the channels start again and EV_CTL_FAULT is raised. ERET restores STATUS and PC; at task
level PRIV. FENCE takes 4 cycles. WFE returns at once with a latched reason in WAKE, or waits, with the limit in ga; at task
level WFE_TASK. VCHK writes VOTE_STAT to gd. In each, and in CALLR, a set bit that must be 0 takes ILLEGAL. -/
def Obligations.SystemInstructions : Prop :=
  ∀ (s : State),
    Ready s →
    (∀ (gd : BitVec 4) (n : Nat), n < 32 → (OnLive s (fun c => c.task = false ∨ n = 0 ∨ n = 14 ∨ n = 15)) → 
      Does (.srd gd n 0) s fun t =>
        RanIn s t 1 (fun c => (c.wr gd (BitVec.ofNat 32 (if n = 14 then s.ctl.cycles % 2 ^ 32
          else if n = 15 then highWord (snapOf s srdPath 0) s.ctl.cycles else c.sreg n))).next) ∧
        (n = 14 → snapOf t srdPath 0 = s.ctl.cycles) ∧ (n ≠ 14 → SnapsSame s t) ∧ CtlRest s t ∧ Keeps s t [] [.perf] [.ctl, .wake]) ∧
    (∀ (gd : BitVec 4) (n : Nat), n < 32 → n ≠ 0 → n ≠ 14 → n ≠ 15 → OnLive s (fun c => c.task = true) → OnLive s (fun c => c.exc = false) → 
      Does (.srd gd n 0) s fun t => Trapped s t (encA 2 gd 0 0 n) (fun c => ⟨xPRIV, none, c.pc, true⟩)) ∧
    (∀ (ga : BitVec 4) (n : Nat), n < 32 → OnLive s (fun c => c.task = false) → 
      Does (.swr ga n 0) s fun t => RanAs s t 1 (fun c => (c.sregWrite n (c.rd ga).toNat).next)) ∧
    (∀ (ga : BitVec 4) (n : Nat), n < 32 → OnLive s (fun c => c.task = true) → OnLive s (fun c => c.exc = false) → 
      Does (.swr ga n 0) s fun t => Trapped s t (encA 3 0 ga 0 n) (fun c => ⟨xPRIV, none, c.pc, true⟩)) ∧
    (∀ (n : Nat), n < 2 ^ 14 → OnLive s (fun c => c.exc = false) → 
      Does (.syscall n 0) s fun t => Trapped s t (encA 4 0 0 0 n) (fun c => ⟨xSYSCALL, none, (c.pc + 4) % 2 ^ 32, true⟩)) ∧
    (∀ (n : Nat), n < 2 ^ 14 → OnLive s (fun c => c.exc = true) → 
      Does (.syscall n 0) s fun t =>
        (∀ m < 3, chan t m = if m = excludedChan s then chan s m else (chan s m).start (lead s).bank (3 + 256 * xSYSCALL)) ∧
        t.ctl.cycles = 0 ∧ t.get R.PROG_STAT.RUN_BANK = (lead s).bank ∧ Raised s t E.CTL_FAULT xSYSCALL ∧
        Keeps s t (R.PROG_STAT.RUN_BANK :: evF) [] (evP.append [.ctl])) ∧
    (OnLive s (fun c => c.task = false) → 
      Does (.eret 0) s fun t => RanAs s t 2 Chan.eret) ∧
    (OnLive s (fun c => c.task = true) → OnLive s (fun c => c.exc = false) → 
      Does (.eret 0) s fun t => Trapped s t (5 * 2 ^ 26) (fun c => ⟨xPRIV, none, c.pc, true⟩)) ∧
    (
      Does (.fence 0) s fun t => RanAs s t 4 Chan.next) ∧
    (∀ (ga : BitVec 4), OnLive s (fun c => c.task = false) → s.ctl.wakeLatch ≠ 0 → 
      Does (.wfe ga 0) s fun t =>
        RanIn s t 1 (fun c => (c.setS 16 s.ctl.wakeLatch).next) ∧ t.ctl.wakeLatch = 0 ∧ t.ctl.wfe = none ∧ CtlRest s t ∧ Keeps s t [] [.perf] [.ctl, .wake]) ∧
    (∀ (ga : BitVec 4), OnLive s (fun c => c.task = false) → s.ctl.wakeLatch = 0 → 
      Does (.wfe ga 0) s fun t =>
        RanIn s t 1 Chan.next ∧ t.ctl.wakeLatch = 0 ∧
        t.ctl.wfe = some (if ((lead s).rd ga).toNat = 0 then 0 else t.ctl.cycles + ((lead s).rd ga).toNat) ∧ CtlRest s t ∧ Keeps s t [] [.perf] [.ctl, .wake]) ∧
    (∀ (ga : BitVec 4), OnLive s (fun c => c.task = true) → OnLive s (fun c => c.exc = false) → 
      Does (.wfe ga 0) s fun t => Trapped s t (encA 7 0 ga 0 0) (fun c => ⟨xWFE, none, (c.pc + 4) % 2 ^ 32, true⟩)) ∧
    (∀ (gd : BitVec 4), 
      Does (.vchk gd 0) s fun t => RanAs s t 1 (fun c => (c.wr gd (BitVec.ofNat 32 (voteStat s))).next)) ∧
    (∀ (gd : BitVec 4) (n : Nat) (rest : BitVec 26), rest ≠ 0 → OnLive s (fun c => c.exc = false) → 
      Does (.srd gd n rest) s fun t => Trapped s t (encA 2 gd 0 0 n + rest.toNat) (fun c => ⟨xILLEGAL, none, c.pc, true⟩)) ∧
    (∀ (ga : BitVec 4) (n : Nat) (rest : BitVec 26), rest ≠ 0 → OnLive s (fun c => c.exc = false) → 
      Does (.swr ga n rest) s fun t => Trapped s t (encA 3 0 ga 0 n + rest.toNat) (fun c => ⟨xILLEGAL, none, c.pc, true⟩)) ∧
    (∀ (n : Nat) (rest : BitVec 26), rest ≠ 0 → OnLive s (fun c => c.exc = false) → 
      Does (.syscall n rest) s fun t => Trapped s t (encA 4 0 0 0 n + rest.toNat) (fun c => ⟨xILLEGAL, none, c.pc, true⟩)) ∧
    (∀ (rest : BitVec 26), rest ≠ 0 → OnLive s (fun c => c.exc = false) → 
      Does (.eret rest) s fun t => Trapped s t (5 * 2 ^ 26 + rest.toNat) (fun c => ⟨xILLEGAL, none, c.pc, true⟩)) ∧
    (∀ (rest : BitVec 26), rest ≠ 0 → OnLive s (fun c => c.exc = false) → 
      Does (.fence rest) s fun t => Trapped s t (6 * 2 ^ 26 + rest.toNat) (fun c => ⟨xILLEGAL, none, c.pc, true⟩)) ∧
    (∀ (ga : BitVec 4) (rest : BitVec 26), rest ≠ 0 → OnLive s (fun c => c.exc = false) → 
      Does (.wfe ga rest) s fun t => Trapped s t (encA 7 0 ga 0 0 + rest.toNat) (fun c => ⟨xILLEGAL, none, c.pc, true⟩)) ∧
    (∀ (gd : BitVec 4) (rest : BitVec 26), rest ≠ 0 → OnLive s (fun c => c.exc = false) → 
      Does (.vchk gd rest) s fun t => Trapped s t (encA 8 gd 0 0 0 + rest.toNat) (fun c => ⟨xILLEGAL, none, c.pc, true⟩)) ∧
    (∀ (gd ga : BitVec 4) (rest : BitVec 26), rest ≠ 0 → OnLive s (fun c => c.exc = false) → 
      Does (.callr gd ga rest) s fun t => Trapped s t (encA 9 gd ga 0 0 + rest.toNat) (fun c => ⟨xILLEGAL, none, c.pc, true⟩))

/-- While the channels wait in WFE: WFE_WAKE with a wake condition latched writes the reasons to WAKE on every live channel,
clears the latch and ends the wait within 4 cycles; WFE_TIMEOUT, the limit passed and nothing latched, writes TIMEOUT to
WAKE and ends it. TSLICE_EXPIRY of a task whose TSLICE has run down, no EVENT due and outside an exception, takes TIMER on
every live channel with EPC the instruction not yet executed; EINSN is a free value (log entry 7). Without a wait, or while
nothing is latched, WFE_WAKE changes nothing. -/
def Obligations.WaitsAndTimeSlice : Prop :=
  ∀ (s : State),
    (∀ (w : Nat), ctlRuns s = true → s.ctl.wfe ≠ none → s.ctl.wakeLatch ≠ 0 → 
      Does (.wfeWake w) s fun t =>
        (∀ m < 3, chan t m = if m = excludedChan s then chan s m else (chan s m).setS 16 s.ctl.wakeLatch) ∧
        t.ctl.wfe = none ∧ t.ctl.wakeLatch = 0 ∧ t.ctl.cycles = (s.ctl.cycles + min w 4) % 2 ^ 48 ∧ CtlRest s t ∧ Keeps s t [] [] [.ctl, .wake]) ∧
    (∀ (w : Nat), (s.ctl.wfe = none ∨ s.ctl.wakeLatch = 0) → 
      Does (.wfeWake w) s fun t => t = s) ∧
    (∀ (d : Nat), ctlRuns s = true → s.ctl.wfe = some d → d ≠ 0 → d ≤ s.ctl.cycles → s.ctl.wakeLatch = 0 → 
      Does .wfeTimeout s fun t =>
        (∀ m < 3, chan t m = if m = excludedChan s then chan s m else (chan s m).setS 16 4) ∧ t.ctl.wfe = none ∧
        t.ctl.cycles = s.ctl.cycles ∧ CtlRest s t ∧ Keeps s t [] [] [.ctl]) ∧
    (mayRun s = true → (OnLive s (fun c => c.task = true ∧ c.exc = false ∧ c.timer = true ∧ (bitOf (c.sreg 13) 0 = false ∨ s.ctl.evSeen = false))) → 
      Does .tsliceExpiry s fun t =>
        (∀ m < 3, chan t m = if m = excludedChan s then chan s m
          else ((chan s m).spend true 2).enter ⟨xTIMER, none, (chan s m).pc, false⟩ (s.free % 2 ^ 32)) ∧
        t.ctl.cycles = (s.ctl.cycles + 2) % 2 ^ 48 ∧ t.ctl.evSeen = false ∧ CtlRest s t ∧ Keeps s t [] [] [.ctl, .wake, .freeCtr])

/-- Where an instruction runs and every live channel may load the bytes from its SRAM, the load writes them to gd, sign- or
zero-extended, in 2 cycles; corrected words alone count in the memory registers (no live channel meets an uncorrectable
one). A misaligned address takes ALIGN, and for a task an address outside its regions ACCESS, with EADDR the address. At
supervisor level an aligned word in the register space is read as a voted access: the value goes to gd in as many cycles as
the access takes, or BUS is taken and the error counted. Beyond the read itself nothing changes. -/
def Obligations.Loads : Prop :=
  ∀ (s : State),
    Ready s →
    (∀ (gd ga : BitVec 4) (imm : BitVec 18) (lat : Nat) (corr bad : List Nat), OnLive s (fun c => mayLoad c (c.ea ga imm) 1 = true) → (∀ m ∈ bad, m ∉ liveChans s) → 
      Does (.ldb gd ga imm lat corr bad) s fun t =>
        RanIn s t 2 (fun c => (c.wr gd ((BitVec.ofNat 8 (memLe c.mem (c.ea ga imm) 1)).signExtend 32)).next) ∧ (corr = [] → CtlSame s t ∧ Keeps s t [] [.perf] [.ctl, .wake]) ∧
        Keeps s t ((List.range 9).flatMap (fun i => [memCeF false i, memBucketF false i]) ++ evF) [.perf] (evP.append [.ctl])) ∧
    (∀ (gd ga : BitVec 4) (imm : BitVec 18) (lat : Nat) (corr bad : List Nat), OnLive s (fun c => mayLoad c (c.ea ga imm) 1 = true) → (∀ m ∈ bad, m ∉ liveChans s) → 
      Does (.ldbz gd ga imm lat corr bad) s fun t =>
        RanIn s t 2 (fun c => (c.wr gd (BitVec.ofNat 32 (memLe c.mem (c.ea ga imm) 1))).next) ∧ (corr = [] → CtlSame s t ∧ Keeps s t [] [.perf] [.ctl, .wake]) ∧
        Keeps s t ((List.range 9).flatMap (fun i => [memCeF false i, memBucketF false i]) ++ evF) [.perf] (evP.append [.ctl])) ∧
    (∀ (gd ga : BitVec 4) (imm : BitVec 18) (lat : Nat) (corr bad : List Nat), OnLive s (fun c => mayLoad c (c.ea ga imm) 2 = true) → (∀ m ∈ bad, m ∉ liveChans s) → 
      Does (.ldh gd ga imm lat corr bad) s fun t =>
        RanIn s t 2 (fun c => (c.wr gd ((BitVec.ofNat 16 (memLe c.mem (c.ea ga imm) 2)).signExtend 32)).next) ∧ (corr = [] → CtlSame s t ∧ Keeps s t [] [.perf] [.ctl, .wake]) ∧
        Keeps s t ((List.range 9).flatMap (fun i => [memCeF false i, memBucketF false i]) ++ evF) [.perf] (evP.append [.ctl])) ∧
    (∀ (gd ga : BitVec 4) (imm : BitVec 18) (lat : Nat) (corr bad : List Nat), OnLive s (fun c => mayLoad c (c.ea ga imm) 2 = true) → (∀ m ∈ bad, m ∉ liveChans s) → 
      Does (.ldhz gd ga imm lat corr bad) s fun t =>
        RanIn s t 2 (fun c => (c.wr gd (BitVec.ofNat 32 (memLe c.mem (c.ea ga imm) 2))).next) ∧ (corr = [] → CtlSame s t ∧ Keeps s t [] [.perf] [.ctl, .wake]) ∧
        Keeps s t ((List.range 9).flatMap (fun i => [memCeF false i, memBucketF false i]) ++ evF) [.perf] (evP.append [.ctl])) ∧
    (∀ (gd ga : BitVec 4) (imm : BitVec 18) (lat : Nat) (corr bad : List Nat), OnLive s (fun c => mayLoad c (c.ea ga imm) 4 = true) → (∀ m ∈ bad, m ∉ liveChans s) → 
      Does (.ldw gd ga imm lat corr bad) s fun t =>
        RanIn s t 2 (fun c => (c.wr gd (BitVec.ofNat 32 (memLe c.mem (c.ea ga imm) 4))).next) ∧ (corr = [] → CtlSame s t ∧ Keeps s t [] [.perf] [.ctl, .wake]) ∧
        Keeps s t ((List.range 9).flatMap (fun i => [memCeF false i, memBucketF false i]) ++ evF) [.perf] (evP.append [.ctl])) ∧
    (∀ (gd ga : BitVec 4) (imm : BitVec 18) (lat : Nat) (corr bad : List Nat), OnLive s (fun c => outside c (c.ea ga imm) 1 = true) → OnLive s (fun c => c.exc = false) → 
      Does (.ldb gd ga imm lat corr bad) s fun t => Trapped s t (encI 0x1a gd ga imm) (fun c => ⟨xACCESS, some (c.ea ga imm), c.pc, true⟩)) ∧
    (∀ (gd ga : BitVec 4) (imm : BitVec 18) (lat : Nat) (corr bad : List Nat), OnLive s (fun c => outside c (c.ea ga imm) 1 = true) → OnLive s (fun c => c.exc = false) → 
      Does (.ldbz gd ga imm lat corr bad) s fun t => Trapped s t (encI 0x1b gd ga imm) (fun c => ⟨xACCESS, some (c.ea ga imm), c.pc, true⟩)) ∧
    (∀ (gd ga : BitVec 4) (imm : BitVec 18) (lat : Nat) (corr bad : List Nat), OnLive s (fun c => (c.ea ga imm) % 2 ≠ 0) → OnLive s (fun c => c.exc = false) → 
      Does (.ldh gd ga imm lat corr bad) s fun t => Trapped s t (encI 0x1c gd ga imm) (fun c => ⟨xALIGN, some (c.ea ga imm), c.pc, true⟩)) ∧
    (∀ (gd ga : BitVec 4) (imm : BitVec 18) (lat : Nat) (corr bad : List Nat), OnLive s (fun c => outside c (c.ea ga imm) 2 = true) → OnLive s (fun c => c.exc = false) → 
      Does (.ldh gd ga imm lat corr bad) s fun t => Trapped s t (encI 0x1c gd ga imm) (fun c => ⟨xACCESS, some (c.ea ga imm), c.pc, true⟩)) ∧
    (∀ (gd ga : BitVec 4) (imm : BitVec 18) (lat : Nat) (corr bad : List Nat), OnLive s (fun c => (c.ea ga imm) % 2 ≠ 0) → OnLive s (fun c => c.exc = false) → 
      Does (.ldhz gd ga imm lat corr bad) s fun t => Trapped s t (encI 0x1d gd ga imm) (fun c => ⟨xALIGN, some (c.ea ga imm), c.pc, true⟩)) ∧
    (∀ (gd ga : BitVec 4) (imm : BitVec 18) (lat : Nat) (corr bad : List Nat), OnLive s (fun c => outside c (c.ea ga imm) 2 = true) → OnLive s (fun c => c.exc = false) → 
      Does (.ldhz gd ga imm lat corr bad) s fun t => Trapped s t (encI 0x1d gd ga imm) (fun c => ⟨xACCESS, some (c.ea ga imm), c.pc, true⟩)) ∧
    (∀ (gd ga : BitVec 4) (imm : BitVec 18) (lat : Nat) (corr bad : List Nat), OnLive s (fun c => (c.ea ga imm) % 4 ≠ 0) → OnLive s (fun c => c.exc = false) → 
      Does (.ldw gd ga imm lat corr bad) s fun t => Trapped s t (encI 0x1e gd ga imm) (fun c => ⟨xALIGN, some (c.ea ga imm), c.pc, true⟩)) ∧
    (∀ (gd ga : BitVec 4) (imm : BitVec 18) (lat : Nat) (corr bad : List Nat), OnLive s (fun c => outside c (c.ea ga imm) 4 = true) → OnLive s (fun c => c.exc = false) → 
      Does (.ldw gd ga imm lat corr bad) s fun t => Trapped s t (encI 0x1e gd ga imm) (fun c => ⟨xACCESS, some (c.ea ga imm), c.pc, true⟩)) ∧
    (∀ (gd ga : BitVec 4) (imm : BitVec 18) (lat : Nat) (corr bad : List Nat) (a v : Nat), OnLive s (fun c => c.task = false ∧ c.ea ga imm = a) → a % 4 = 0 → inRegs a = true → (busRead (presented s) 0 a).2 = some v → 
      Does (.ldw gd ga imm lat corr bad) s fun t =>
        RanIn (busRead (presented s) 0 a).1 t lat (fun c => (c.wr gd (BitVec.ofNat 32 v)).next) ∧
        Keeps (busRead (presented s) 0 a).1 t [] [.perf] [.ctl]) ∧
    (∀ (gd ga : BitVec 4) (imm : BitVec 18) (lat : Nat) (corr bad : List Nat) (a : Nat), OnLive s (fun c => c.task = false ∧ c.ea ga imm = a) → a % 4 = 0 → inRegs a = true → (busRead (presented s) 0 a).2 = none → OnLive s (fun c => c.exc = false) → 
      Does (.ldw gd ga imm lat corr bad) s fun t =>
        (∀ m < 3, chan t m = if m = excludedChan s then chan s m
          else ((chan s m).spend (chan s m).task 2).enter ⟨xBUS, some a, (chan s m).pc, true⟩ (encI 0x1e gd ga imm)) ∧
        Keeps (busErr (presented s) 0 a) t [] [.perf] [.ctl])

/-- Where an instruction runs and every live channel may store the bytes to its SRAM, the low bytes of gd go to them in 1
cycle, and nothing else changes; a store to the bank that is not running, no check being in progress, also clears IDLE_OK. A
misaligned address takes ALIGN. A store by a task to program SRAM or outside its regions, by the supervisor into its running
image, or by a task to a register that its TPERM does not allow, takes ACCESS. At supervisor level an aligned word to the
register space is written as a voted access, in as many cycles as it takes. -/
def Obligations.Stores : Prop :=
  ∀ (s : State),
    Ready s →
    (∀ (gd ga : BitVec 4) (imm : BitVec 18) (lat : Nat), OnLive s (fun c => mayStore c (c.ea ga imm) 1 = true) → (OnLive s (fun c => inData (c.ea ga imm) 1 = true ∨ c.inRunBank (c.ea ga imm) = true)) → 
      Does (.stb gd ga imm lat) s fun t => RanAs s t 1 (fun c => (c.store (c.ea ga imm) 1 (c.rd gd).toNat).next)) ∧
    (∀ (gd ga : BitVec 4) (imm : BitVec 18) (lat : Nat), s.on R.PROG_STAT.BUSY = false → OnLive s (fun c => mayStore c (c.ea ga imm) 1 = true) → OnLive s (fun c => inProg (c.ea ga imm) 1 = true ∧ c.inRunBank (c.ea ga imm) = false) → 
      Does (.stb gd ga imm lat) s fun t =>
        RanIn s t 1 (fun c => (c.store (c.ea ga imm) 1 (c.rd gd).toNat).next) ∧ t.on R.PROG_STAT.IDLE_OK = false ∧ Keeps s t [R.PROG_STAT.IDLE_OK] [.perf] [.ctl, .wake]) ∧
    (∀ (gd ga : BitVec 4) (imm : BitVec 18) (lat : Nat), (OnLive s (fun c => (c.ea ga imm) % 1 = 0 ∧ ((inProg (c.ea ga imm) 1 = true ∧ (c.task = true ∨ (c.inRunBank (c.ea ga imm) = true ∧ c.ea ga imm < c.taskArea))) ∨ outside c (c.ea ga imm) 1 = true))) → OnLive s (fun c => c.exc = false) → 
      Does (.stb gd ga imm lat) s fun t => Trapped s t (encI 0x20 gd ga imm) (fun c => ⟨xACCESS, some (c.ea ga imm), c.pc, true⟩)) ∧
    (∀ (gd ga : BitVec 4) (imm : BitVec 18) (lat : Nat), OnLive s (fun c => mayStore c (c.ea ga imm) 2 = true) → (OnLive s (fun c => inData (c.ea ga imm) 2 = true ∨ c.inRunBank (c.ea ga imm) = true)) → 
      Does (.sth gd ga imm lat) s fun t => RanAs s t 1 (fun c => (c.store (c.ea ga imm) 2 (c.rd gd).toNat).next)) ∧
    (∀ (gd ga : BitVec 4) (imm : BitVec 18) (lat : Nat), s.on R.PROG_STAT.BUSY = false → OnLive s (fun c => mayStore c (c.ea ga imm) 2 = true) → OnLive s (fun c => inProg (c.ea ga imm) 2 = true ∧ c.inRunBank (c.ea ga imm) = false) → 
      Does (.sth gd ga imm lat) s fun t =>
        RanIn s t 1 (fun c => (c.store (c.ea ga imm) 2 (c.rd gd).toNat).next) ∧ t.on R.PROG_STAT.IDLE_OK = false ∧ Keeps s t [R.PROG_STAT.IDLE_OK] [.perf] [.ctl, .wake]) ∧
    (∀ (gd ga : BitVec 4) (imm : BitVec 18) (lat : Nat), OnLive s (fun c => (c.ea ga imm) % 2 ≠ 0) → OnLive s (fun c => c.exc = false) → 
      Does (.sth gd ga imm lat) s fun t => Trapped s t (encI 0x21 gd ga imm) (fun c => ⟨xALIGN, some (c.ea ga imm), c.pc, true⟩)) ∧
    (∀ (gd ga : BitVec 4) (imm : BitVec 18) (lat : Nat), (OnLive s (fun c => (c.ea ga imm) % 2 = 0 ∧ ((inProg (c.ea ga imm) 2 = true ∧ (c.task = true ∨ (c.inRunBank (c.ea ga imm) = true ∧ c.ea ga imm < c.taskArea))) ∨ outside c (c.ea ga imm) 2 = true))) → OnLive s (fun c => c.exc = false) → 
      Does (.sth gd ga imm lat) s fun t => Trapped s t (encI 0x21 gd ga imm) (fun c => ⟨xACCESS, some (c.ea ga imm), c.pc, true⟩)) ∧
    (∀ (gd ga : BitVec 4) (imm : BitVec 18) (lat : Nat), OnLive s (fun c => mayStore c (c.ea ga imm) 4 = true) → (OnLive s (fun c => inData (c.ea ga imm) 4 = true ∨ c.inRunBank (c.ea ga imm) = true)) → 
      Does (.stw gd ga imm lat) s fun t => RanAs s t 1 (fun c => (c.store (c.ea ga imm) 4 (c.rd gd).toNat).next)) ∧
    (∀ (gd ga : BitVec 4) (imm : BitVec 18) (lat : Nat), s.on R.PROG_STAT.BUSY = false → OnLive s (fun c => mayStore c (c.ea ga imm) 4 = true) → OnLive s (fun c => inProg (c.ea ga imm) 4 = true ∧ c.inRunBank (c.ea ga imm) = false) → 
      Does (.stw gd ga imm lat) s fun t =>
        RanIn s t 1 (fun c => (c.store (c.ea ga imm) 4 (c.rd gd).toNat).next) ∧ t.on R.PROG_STAT.IDLE_OK = false ∧ Keeps s t [R.PROG_STAT.IDLE_OK] [.perf] [.ctl, .wake]) ∧
    (∀ (gd ga : BitVec 4) (imm : BitVec 18) (lat : Nat), OnLive s (fun c => (c.ea ga imm) % 4 ≠ 0) → OnLive s (fun c => c.exc = false) → 
      Does (.stw gd ga imm lat) s fun t => Trapped s t (encI 0x22 gd ga imm) (fun c => ⟨xALIGN, some (c.ea ga imm), c.pc, true⟩)) ∧
    (∀ (gd ga : BitVec 4) (imm : BitVec 18) (lat : Nat), (OnLive s (fun c => (c.ea ga imm) % 4 = 0 ∧ ((inProg (c.ea ga imm) 4 = true ∧ (c.task = true ∨ (c.inRunBank (c.ea ga imm) = true ∧ c.ea ga imm < c.taskArea))) ∨ outside c (c.ea ga imm) 4 = true))) → OnLive s (fun c => c.exc = false) → 
      Does (.stw gd ga imm lat) s fun t => Trapped s t (encI 0x22 gd ga imm) (fun c => ⟨xACCESS, some (c.ea ga imm), c.pc, true⟩)) ∧
    (∀ (gd ga : BitVec 4) (imm : BitVec 18) (lat : Nat) (a v : Nat), OnLive s (fun c => c.task = false ∧ c.ea ga imm = a ∧ (c.rd gd).toNat = v) → a % 4 = 0 → inRegs a = true → (votedWrite (presented s) a v).2 = true → ctlRuns (votedWrite (presented s) a v).1 = true → (votedWrite (presented s) a v).1.host.step = false → 
      Does (.stw gd ga imm lat) s fun t =>
        RanIn (votedWrite (presented s) a v).1 t lat Chan.next ∧ Keeps (votedWrite (presented s) a v).1 t [] [.perf] [.ctl]) ∧
    (∀ (gd ga : BitVec 4) (imm : BitVec 18) (lat : Nat), OnLive s (fun c => c.task = true ∧ (c.ea ga imm) % 4 = 0 ∧ inRegs (c.ea ga imm) = true ∧ taskStore (c.sreg 11) (c.ea ga imm) = false) → OnLive s (fun c => c.exc = false) → 
      Does (.stw gd ga imm lat) s fun t =>
        (∀ m < 3, chan t m = if m = excludedChan s then chan s m
          else ((chan s m).spend (chan s m).task 2).enter ⟨xACCESS, some ((chan s m).ea ga imm), (chan s m).pc, true⟩ (encI 0x22 gd ga imm)) ∧
        Keeps s t [] [] [.ctl, .wake])

/-- Where an instruction runs, with legal flags, and all live channels read the same descriptor from data SRAM: an insertion
without a failure code of R460 that is not late appends its entry to the queue and gd takes the entry index; one with a
failure code leaves the queue as it was and gd takes that code with bit 31 set. Nothing else changes but SCHED_HWM, the
counts of full and late entries, their event and the counters. A field that must be 0 and is not takes ILLEGAL. -/
def Obligations.SchedulingInstructions : Prop :=
  ∀ (s : State),
    Ready s →
    (∀ (gd ga : BitVec 4) (scale vtb : BitVec 2) (late : Bool) (lat : Nat) (i : Insert), (scale = 0 ∨ vtb = 0) → (OnLive s (fun c => (c.rd ga).toNat % 4 = 0 ∧ inData (c.rd ga).toNat 24 = true ∧ (c.task = false ∨ c.inTdata (c.rd ga).toNat 24 = true) ∧ c.insertion aATW ⟨scale, vtb, late, 0, 0⟩ (c.rd ga).toNat = i)) → i.code s = 0 → isLate s (i.entry s) = false → 
      Does (.atw gd ga scale vtb late 0 0 lat) s fun t =>
        RanIn s t lat (fun c => (c.wr gd (BitVec.ofNat 32 (i.entry s).idx)).next) ∧ t.sched.entries = s.sched.entries ++ [i.entry s] ∧
        Keeps s t [R.SCHED_HWM.HWM] [.perf] [.ctl, .wake, .sched]) ∧
    (∀ (gd ga : BitVec 4) (scale vtb : BitVec 2) (late : Bool) (lat : Nat) (i : Insert), (scale = 0 ∨ vtb = 0) → (OnLive s (fun c => (c.rd ga).toNat % 4 = 0 ∧ inData (c.rd ga).toNat 24 = true ∧ (c.task = false ∨ c.inTdata (c.rd ga).toNat 24 = true) ∧ c.insertion aATW ⟨scale, vtb, late, 0, 0⟩ (c.rd ga).toNat = i)) → i.code s ≠ 0 → 
      Does (.atw gd ga scale vtb late 0 0 lat) s fun t =>
        RanIn s t lat (fun c => (c.wr gd (BitVec.ofNat 32 (2 ^ 31 + i.code s))).next) ∧ t.sched = s.sched ∧
        Keeps s t ([R.SCHED_CNT1.FULL_REJ, R.SCHED_CNT0.LATE_DROP] ++ evF) [.perf] (evP.append [.ctl])) ∧
    (∀ (gd ga : BitVec 4) (scale vtb : BitVec 2) (late : Bool) (lat : Nat) (i : Insert), (scale = 0 ∨ vtb = 0) → (OnLive s (fun c => (c.rd ga).toNat % 4 = 0 ∧ inData (c.rd ga).toNat 24 = true ∧ (c.task = false ∨ c.inTdata (c.rd ga).toNat 24 = true) ∧ c.insertion aCOMMIT ⟨scale, vtb, late, 0, 0⟩ (c.rd ga).toNat = i)) → i.code s = 0 → isLate s (i.entry s) = false → 
      Does (.commit gd ga scale vtb late 0 0 lat) s fun t =>
        RanIn s t lat (fun c => (c.wr gd (BitVec.ofNat 32 (i.entry s).idx)).next) ∧ t.sched.entries = s.sched.entries ++ [i.entry s] ∧
        Keeps s t [R.SCHED_HWM.HWM] [.perf] [.ctl, .wake, .sched]) ∧
    (∀ (gd ga : BitVec 4) (scale vtb : BitVec 2) (late : Bool) (lat : Nat) (i : Insert), (scale = 0 ∨ vtb = 0) → (OnLive s (fun c => (c.rd ga).toNat % 4 = 0 ∧ inData (c.rd ga).toNat 24 = true ∧ (c.task = false ∨ c.inTdata (c.rd ga).toNat 24 = true) ∧ c.insertion aCOMMIT ⟨scale, vtb, late, 0, 0⟩ (c.rd ga).toNat = i)) → i.code s ≠ 0 → 
      Does (.commit gd ga scale vtb late 0 0 lat) s fun t =>
        RanIn s t lat (fun c => (c.wr gd (BitVec.ofNat 32 (2 ^ 31 + i.code s))).next) ∧ t.sched = s.sched ∧
        Keeps s t ([R.SCHED_CNT1.FULL_REJ, R.SCHED_CNT0.LATE_DROP] ++ evF) [.perf] (evP.append [.ctl])) ∧
    (∀ (gd ga : BitVec 4) (scale vtb : BitVec 2) (late : Bool) (lat : Nat) (i : Insert), (scale = 0 ∨ vtb = 0) → (OnLive s (fun c => (c.rd ga).toNat % 4 = 0 ∧ inData (c.rd ga).toNat 24 = true ∧ (c.task = false ∨ c.inTdata (c.rd ga).toNat 24 = true) ∧ c.insertion aDAWN ⟨scale, vtb, late, 0, 0⟩ (c.rd ga).toNat = i)) → i.code s = 0 → isLate s (i.entry s) = false → 
      Does (.launchDawn gd ga scale vtb late 0 lat) s fun t =>
        RanIn s t lat (fun c => (c.wr gd (BitVec.ofNat 32 (i.entry s).idx)).next) ∧ t.sched.entries = s.sched.entries ++ [i.entry s] ∧
        Keeps s t [R.SCHED_HWM.HWM] [.perf] [.ctl, .wake, .sched]) ∧
    (∀ (gd ga : BitVec 4) (scale vtb : BitVec 2) (late : Bool) (lat : Nat) (i : Insert), (scale = 0 ∨ vtb = 0) → (OnLive s (fun c => (c.rd ga).toNat % 4 = 0 ∧ inData (c.rd ga).toNat 24 = true ∧ (c.task = false ∨ c.inTdata (c.rd ga).toNat 24 = true) ∧ c.insertion aDAWN ⟨scale, vtb, late, 0, 0⟩ (c.rd ga).toNat = i)) → i.code s ≠ 0 → 
      Does (.launchDawn gd ga scale vtb late 0 lat) s fun t =>
        RanIn s t lat (fun c => (c.wr gd (BitVec.ofNat 32 (2 ^ 31 + i.code s))).next) ∧ t.sched = s.sched ∧
        Keeps s t ([R.SCHED_CNT1.FULL_REJ, R.SCHED_CNT0.LATE_DROP] ++ evF) [.perf] (evP.append [.ctl])) ∧
    (∀ (gd ga : BitVec 4) (scale vtb : BitVec 2) (late : Bool) (lat : Nat) (i : Insert), (scale = 0 ∨ vtb = 0) → (OnLive s (fun c => (c.rd ga).toNat % 4 = 0 ∧ inData (c.rd ga).toNat 24 = true ∧ (c.task = false ∨ c.inTdata (c.rd ga).toNat 24 = true) ∧ c.insertion aRPL ⟨scale, vtb, late, 1, 0⟩ (c.rd ga).toNat = i)) → i.code s = 0 → isLate s (i.entry s) = false → 
      Does (.launchRpl gd ga scale vtb late 0 lat) s fun t =>
        RanIn s t lat (fun c => (c.wr gd (BitVec.ofNat 32 (i.entry s).idx)).next) ∧ t.sched.entries = s.sched.entries ++ [i.entry s] ∧
        Keeps s t [R.SCHED_HWM.HWM] [.perf] [.ctl, .wake, .sched]) ∧
    (∀ (gd ga : BitVec 4) (scale vtb : BitVec 2) (late : Bool) (lat : Nat) (i : Insert), (scale = 0 ∨ vtb = 0) → (OnLive s (fun c => (c.rd ga).toNat % 4 = 0 ∧ inData (c.rd ga).toNat 24 = true ∧ (c.task = false ∨ c.inTdata (c.rd ga).toNat 24 = true) ∧ c.insertion aRPL ⟨scale, vtb, late, 1, 0⟩ (c.rd ga).toNat = i)) → i.code s ≠ 0 → 
      Does (.launchRpl gd ga scale vtb late 0 lat) s fun t =>
        RanIn s t lat (fun c => (c.wr gd (BitVec.ofNat 32 (2 ^ 31 + i.code s))).next) ∧ t.sched = s.sched ∧
        Keeps s t ([R.SCHED_CNT1.FULL_REJ, R.SCHED_CNT0.LATE_DROP] ++ evF) [.perf] (evP.append [.ctl])) ∧
    (∀ (gd ga : BitVec 4) (scale vtb : BitVec 2) (late : Bool) (lat : Nat) (i : Insert), (scale = 0 ∨ vtb = 0) → (OnLive s (fun c => (c.rd ga).toNat % 4 = 0 ∧ inData (c.rd ga).toNat 24 = true ∧ (c.task = false ∨ c.inTdata (c.rd ga).toNat 24 = true) ∧ c.insertion aMARK ⟨scale, vtb, late, 2, 0⟩ (c.rd ga).toNat = i)) → i.code s = 0 → isLate s (i.entry s) = false → 
      Does (.mark gd ga scale vtb late false 0 lat) s fun t =>
        RanIn s t lat (fun c => (c.wr gd (BitVec.ofNat 32 (i.entry s).idx)).next) ∧ t.sched.entries = s.sched.entries ++ [i.entry s] ∧
        Keeps s t [R.SCHED_HWM.HWM] [.perf] [.ctl, .wake, .sched]) ∧
    (∀ (gd ga : BitVec 4) (scale vtb : BitVec 2) (late : Bool) (lat : Nat) (i : Insert), (scale = 0 ∨ vtb = 0) → (OnLive s (fun c => (c.rd ga).toNat % 4 = 0 ∧ inData (c.rd ga).toNat 24 = true ∧ (c.task = false ∨ c.inTdata (c.rd ga).toNat 24 = true) ∧ c.insertion aMARK ⟨scale, vtb, late, 2, 0⟩ (c.rd ga).toNat = i)) → i.code s ≠ 0 → 
      Does (.mark gd ga scale vtb late false 0 lat) s fun t =>
        RanIn s t lat (fun c => (c.wr gd (BitVec.ofNat 32 (2 ^ 31 + i.code s))).next) ∧ t.sched = s.sched ∧
        Keeps s t ([R.SCHED_CNT1.FULL_REJ, R.SCHED_CNT0.LATE_DROP] ++ evF) [.perf] (evP.append [.ctl])) ∧
    (∀ (gd ga : BitVec 4) (scale vtb : BitVec 2) (late : Bool) (kind : BitVec 2) (rest : BitVec 11) (lat : Nat), (rest ≠ 0 ∨ (scale ≠ 0 ∧ vtb ≠ 0) ∨ kind ≠ 0) → OnLive s (fun c => c.exc = false) → 
      Does (.atw gd ga scale vtb late kind rest lat) s fun t => Trapped s t (encI 0x38 gd ga (Flags.mk scale vtb late kind rest).bits) (fun c => ⟨xILLEGAL, none, c.pc, true⟩)) ∧
    (∀ (gd ga : BitVec 4) (scale vtb : BitVec 2) (late : Bool) (kind : BitVec 2) (rest : BitVec 11) (lat : Nat), (rest ≠ 0 ∨ (scale ≠ 0 ∧ vtb ≠ 0) ∨ kind ≠ 0) → OnLive s (fun c => c.exc = false) → 
      Does (.commit gd ga scale vtb late kind rest lat) s fun t => Trapped s t (encI 0x39 gd ga (Flags.mk scale vtb late kind rest).bits) (fun c => ⟨xILLEGAL, none, c.pc, true⟩)) ∧
    (∀ (gd ga : BitVec 4) (scale vtb : BitVec 2) (late : Bool) (rest : BitVec 11) (lat : Nat), (rest ≠ 0 ∨ (scale ≠ 0 ∧ vtb ≠ 0)) → OnLive s (fun c => c.exc = false) → 
      Does (.launchDawn gd ga scale vtb late rest lat) s fun t => Trapped s t (encI 0x3A gd ga (Flags.mk scale vtb late 0 rest).bits) (fun c => ⟨xILLEGAL, none, c.pc, true⟩)) ∧
    (∀ (gd ga : BitVec 4) (scale vtb : BitVec 2) (late : Bool) (rest : BitVec 11) (lat : Nat), (rest ≠ 0 ∨ (scale ≠ 0 ∧ vtb ≠ 0)) → OnLive s (fun c => c.exc = false) → 
      Does (.launchRpl gd ga scale vtb late rest lat) s fun t => Trapped s t (encI 0x3A gd ga (Flags.mk scale vtb late 1 rest).bits) (fun c => ⟨xILLEGAL, none, c.pc, true⟩)) ∧
    (∀ (gd ga : BitVec 4) (scale vtb : BitVec 2) (late : Bool) (rest : BitVec 11) (lat : Nat), (rest ≠ 0 ∨ (scale ≠ 0 ∧ vtb ≠ 0)) → OnLive s (fun c => c.exc = false) → 
      Does (.mark gd ga scale vtb late false rest lat) s fun t => Trapped s t (encI 0x3A gd ga (Flags.mk scale vtb late 2 rest).bits) (fun c => ⟨xILLEGAL, none, c.pc, true⟩))

/-- HB_SEND outside RESET and THERMAL-OFF, at the end of a period, sends the next sequence number with the health word on
the pin path, and on the Pod path where it is in use. HB_RECEIVE of a beat with a good CRC-8 on the pins, outside RESET,
takes the peer health word and restarts the miss timer; with a bad CRC it changes nothing; on the Pod path in use it does
likewise. HB_MISS of a running timer after the miss time counts the missed beat; the path is lost at the third in a row. (In
NIGHT a change of paths may also wake the device; those clauses leave that case out.) With PAIR reached, KICK with a voting
majority clears WDOG; WDOG_EXPIRY sets it KICK_MS after the last KICK while the control channels run. PIN_READBACK_MISMATCH
gives HB_SELF or CLAIM_SENSE its value. SYNC_SEND, and SYNC_PERIOD_SEND after its period, send the transmit window while the
port is UP, with the next TX_GEN. Each clause names what else may change. -/
def Obligations.HeartbeatsAndSync : Prop :=
  ∀ (s : State),
    (s.dev ≠ 0 → s.dev ≠ stTHERMALOFF → s.pair.period ≤ s.age .beat → 
      Does .hbSend s fun t =>
        t.pair.seq = (s.pair.seq + 1) % 256 ∧ t.pair.beatPin / 256 = 0x7E * 2 ^ 40 + (s.pair.seq * 2 ^ 32 + healthWord s) ∧
        t.pair.beatPin % 256 = crcOf 8 0x07 0 (msbFirst 40 (s.pair.seq * 2 ^ 32 + healthWord s)) % 256 ∧
        (podPathOk s = false → t.pair.beatPod = s.pair.beatPod ∧ t.link = s.link) ∧
        (podPathOk s = true → (pp t (peerPort s)).sent = t.pair.beatPod) ∧ Keeps s t [] [] [.pair, .link, .marks]) ∧
    (∀ (seq h crc : Nat), s.dev ≠ 0 → crc = crcOf 8 0x07 0 (msbFirst 40 (seq % 256 * 2 ^ 32 + h % 2 ^ 32)) → (s.dev ≠ stNIGHT ∨ s.on R.SYS_CTRL.NIGHT_WAKE_HB = false) → 
      Does (.hbReceive false seq h crc) s fun t =>
        t.get R.PAIR_PEER.PEER = h % 2 ^ 32 ∧ t.pair.pinRun = true ∧ t.pair.pinMiss = 0 ∧
        (bitOf h 31 = false → claimState s = cINELIGIBLE → t.on R.PAIR_STAT.PIN_UP = true) ∧ Keeps s t (lvF ++ [R.PAIR_PEER.PEER, R.PAIR_STAT.STRAP_EQ]) [] lvP) ∧
    (∀ (seq h crc : Nat), crc ≠ crcOf 8 0x07 0 (msbFirst 40 (seq % 256 * 2 ^ 32 + h % 2 ^ 32)) → 
      Does (.hbReceive false seq h crc) s fun t => t = s) ∧
    (∀ (seq h crc : Nat), s.dev ≠ 0 → podPathOk s = true → (s.dev ≠ stNIGHT ∨ s.on R.SYS_CTRL.NIGHT_WAKE_HB = false) → 
      Does (.hbReceive true seq h crc) s fun t =>
        t.get R.PAIR_PEER.PEER = h % 2 ^ 32 ∧ t.pair.podRun = true ∧ t.pair.podMiss = 0 ∧ Keeps s t (lvF ++ [R.PAIR_PEER.PEER, R.PAIR_STAT.STRAP_EQ]) [] lvP) ∧
    (missRuns s false = true → missTime s ≤ s.age .pinBeat → (s.dev ≠ stNIGHT ∨ s.on R.SYS_CTRL.NIGHT_WAKE_HB = false) → 
      Does (.hbMiss false) s fun t =>
        t.pair.pinMiss = s.pair.pinMiss + 1 ∧ t.get R.PAIR_CNT0.MISSED_PIN = satTo 16 (s.get R.PAIR_CNT0.MISSED_PIN + 1) ∧
        (s.pair.pinMiss < 2 → t.on R.PAIR_STAT.PIN_UP = s.on R.PAIR_STAT.PIN_UP) ∧ (2 ≤ s.pair.pinMiss → t.on R.PAIR_STAT.PIN_UP = false) ∧
        Keeps s t (lvF ++ [R.PAIR_CNT0.MISSED_PIN]) [] lvP) ∧
    (missRuns s true = true → missTime s ≤ s.age .podBeat → (s.dev ≠ stNIGHT ∨ s.on R.SYS_CTRL.NIGHT_WAKE_HB = false) → 
      Does (.hbMiss true) s fun t =>
        t.pair.podMiss = s.pair.podMiss + 1 ∧ t.get R.PAIR_CNT0.MISSED_POD = satTo 16 (s.get R.PAIR_CNT0.MISSED_POD + 1) ∧
        (s.pair.podMiss < 2 → t.on R.PAIR_STAT.POD_UP = s.on R.PAIR_STAT.POD_UP) ∧ (2 ≤ s.pair.podMiss → t.on R.PAIR_STAT.POD_UP = false) ∧
        Keeps s t (lvF ++ [R.PAIR_CNT0.MISSED_POD]) [] lvP) ∧
    (Open s .pair → votes s = true → 
      Does .kick s fun t => t.pair.wdog = false ∧ Keeps s t lvF [] lvP) ∧
    (s.get R.PAIR_TIMERS.KICK_MS ≠ 0 → s.ctl.started = true → s.frozen = false → 1000000 * s.get R.PAIR_TIMERS.KICK_MS ≤ s.age .kick → 
      Does .wdogExpiry s fun t => t.pair.wdog = true ∧ Keeps s t lvF [] lvP) ∧
    (∀ (claim bad : Bool), 
      Does (.pinReadbackMismatch claim bad) s fun t =>
        t.pair.claimSense = (if claim = true then bad else s.pair.claimSense) ∧ t.pair.hbSelf = (if claim = true then s.pair.hbSelf else bad) ∧ Keeps s t lvF [] lvP) ∧
    (Open s .pair → podUp s (peerPort s) = true → 
      Does .syncSend s fun t =>
        (∀ k, syncTxBase * 64 ≤ k → k < syncRxBase * 64 → t.pair.syncOut.get k = s.regs.get k) ∧
        t.get R.PAIR_SYNC.TX_GEN = (s.get R.PAIR_SYNC.TX_GEN + 1) % 2 ^ R.PAIR_SYNC.TX_GEN.width ∧ Keeps s t [R.PAIR_SYNC.TX_GEN] [] [.pair, .link]) ∧
    (s.get R.PAIR_CFG.SYNC_PERIOD ≠ 0 → 1000000 * s.get R.PAIR_CFG.SYNC_PERIOD ≤ s.age .syncTx → podUp s (peerPort s) = true → 
      Does .syncPeriodSend s fun t =>
        (∀ k, syncTxBase * 64 ≤ k → k < syncRxBase * 64 → t.pair.syncOut.get k = s.regs.get k) ∧
        t.get R.PAIR_SYNC.TX_GEN = (s.get R.PAIR_SYNC.TX_GEN + 1) % 2 ^ R.PAIR_SYNC.TX_GEN.width ∧ Keeps s t [R.PAIR_SYNC.TX_GEN] [] [.pair, .link, .marks])

/-- CLAIM_IN_ASSERTED ends the transmit enable; a unit in CLAIMING or GRANTED enters COLLIDED and counts a collision.
CLAIM_IN_RELEASED of an asserted claim, nothing barring the unit, lets one in BACKOFF claim; of one not asserted it changes
nothing. CLAIM_GRANT of a unit claiming for 1 µs without the peer claim, not barred and no PSR enabled, grants the claim,
counts a takeover and enables transmission in RUN. CLAIM_BACKOFF_EXPIRY of BACKOFF at its end claims where the claim rule
holds and the peer does not claim. COLLISION_BACKOFF after 10 µs of a unit acting as position 1 releases;
COLLISION_UNRESOLVED after 100 µs reports once. With PAIR reached, PAIR_RELEASE with its key, CLAIM_INHIBIT, and REVERT_GO
in mode 2 with the peer asking, release a granted claim. REVERT_WTR_END at the end of the count asks for the claim. Each
clause names what else may change. -/
def Obligations.ClaimInterlock : Prop :=
  ∀ (s : State),
    (
      Does .claimInAsserted s fun t =>
        t.on R.PAIR_STAT.PEER_CLAIM = true ∧ t.pair.txEnable = false ∧
        (claimState s = cCLAIMING ∨ claimState s = cGRANTED →
          claimState t = cCOLLIDED ∧ t.get R.PAIR_CNT1.COLLISIONS = satTo R.PAIR_CNT1.COLLISIONS.width (s.get R.PAIR_CNT1.COLLISIONS + 1)) ∧
        (s.dev = stRUN → s.pair.txEnable = true → t.dev = stSTANDBY) ∧ Keeps s t (lvF ++ [R.PAIR_STAT.PEER_CLAIM, R.PAIR_CNT1.COLLISIONS]) [] lvP) ∧
    (s.on R.PAIR_STAT.PEER_CLAIM = true → claimBlocked s = false → (s.dev ≠ stNIGHT ∨ s.on R.SYS_CTRL.NIGHT_WAKE_HB = false) → 
      Does .claimInReleased s fun t =>
        t.on R.PAIR_STAT.PEER_CLAIM = false ∧ t.on R.PAIR_STAT.PIN_UP = false ∧
        (claimState s = cBACKOFF → claimState t = cCLAIMING ∧ t.on R.PAIR_STAT.OWN_CLAIM = true ∧ t.pair.viaRelease = true) ∧ Keeps s t (lvF ++ [R.PAIR_STAT.PEER_CLAIM]) [] lvP) ∧
    (s.on R.PAIR_STAT.PEER_CLAIM = false → s.dev ≠ stNIGHT → 
      Does .claimInReleased s fun t => t = s) ∧
    (claimState s = cCLAIMING → 1000 ≤ s.age .claim → s.on R.PAIR_STAT.PEER_CLAIM = false → s.pair.txEnable = false → claimBlocked s = false → s.get R.PAIR_CFG.PSR_EN = 0 → 
      Does .claimGrant s fun t =>
        claimState t = cGRANTED ∧ t.pair.txEnable = true ∧ t.dev = stRUN ∧ t.pair.req = false ∧
        t.get R.PAIR_CNT1.TAKEOVERS = satTo R.PAIR_CNT1.TAKEOVERS.width (s.get R.PAIR_CNT1.TAKEOVERS + 1) ∧ Keeps s t (lvF ++ [R.PAIR_CNT1.TAKEOVERS]) [] lvP) ∧
    (claimState s = cBACKOFF → s.pair.backoff ≤ s.age .backoff → 
      Does .claimBackoffExpiry s fun t =>
        t.pair.expired = true ∧ (s.on R.PAIR_STAT.PEER_CLAIM = false → claimRule s = true → claimState t = cCLAIMING ∧ t.on R.PAIR_STAT.OWN_CLAIM = true) ∧
        (s.on R.PAIR_STAT.PEER_CLAIM = true ∨ claimRule s = false → claimState t = cBACKOFF) ∧ Keeps s t ([R.PAIR_STAT.CLAIM_STATE, R.PAIR_STAT.OWN_CLAIM] ++ evF) [] (evP.append [.pair, .marks])) ∧
    (claimState s = cCOLLIDED → actsPos s = 1 → 10000 ≤ s.age .collided → 
      Does .collisionBackoff s fun t =>
        t.pair.txEnable = false ∧ t.pair.expired = true ∧ (s.on R.PAIR_STAT.PEER_CLAIM = true → claimState t = cBACKOFF ∧ t.on R.PAIR_STAT.OWN_CLAIM = false) ∧ Keeps s t lvF [] lvP) ∧
    (claimState s = cCOLLIDED → s.pair.unresolved = false → 100000 ≤ s.age .collided → 
      Does .collisionUnresolved s fun t =>
        t.pair.unresolved = true ∧ Raised s t E.PAIR_COLLIDE 256 ∧ Keeps s t evF [] (evP.append [.pair])) ∧
    (Open s .pair → claimState s = cGRANTED → 
      Does (.pairRelease 0x5EED) s fun t =>
        claimState t ≠ cGRANTED ∧ t.pair.txEnable = false ∧ (s.pair.txEnable = true → t.dev ≠ stRUN) ∧ Keeps s t lvF [] lvP) ∧
    (Open s .pair → 
      Does (.claimInhibit true) s fun t =>
        t.on R.PAIR_CMD.CLAIM_INHIBIT = true ∧ claimState t = cINELIGIBLE ∧ (claimState s ≠ cINELIGIBLE → t.pair.txEnable = false) ∧
        Keeps s t (lvF ++ [R.PAIR_CMD.CLAIM_INHIBIT]) [] lvP) ∧
    (Open s .pair → 
      Does (.claimInhibit false) s fun t => t.on R.PAIR_CMD.CLAIM_INHIBIT = false ∧ Keeps s t (lvF ++ [R.PAIR_CMD.CLAIM_INHIBIT]) [] lvP) ∧
    (s.pair.wtr ≠ none → wtrLeft s = 0 → 
      Does .revertWtrEnd s fun t =>
        t.pair.wtr = none ∧ t.pair.req = true ∧ Raised s t E.PAIR_REVERT 1 ∧ Keeps s t evF [] (evP.append [.pair])) ∧
    (Open s .pair → revertMode s = 2 → claimState s = cGRANTED → s.pair.pref = 0 → bitOf (s.get R.PAIR_PEER.PEER) 22 = true → peerFault s = false → 
      Does .revertGo s fun t => claimState t = cBACKOFF ∧ t.pair.txEnable = false ∧ Keeps s t lvF [] lvP)

/-- Outside RESET, LDG_START takes the newer chain-head copy with a good CRC, empties the buffer and writes one resume
record, and NVM_FAULT tells whether both copies were lost. LDG_SECOND_RECORD takes the oldest final-second record waiting,
whose label becomes the last one of its object; with none waiting nothing changes. LDG_TICK, outside RESET after 1 s, counts
a tick at both carriers and every port, and from the twelfth on a carrier or booked port is MISSING. With the ledger
reached, BOOK_OPEN and BOOK_CLOSE show their status; a good one opens a booking with the next number, or removes the
booking; a refused one raises EV_LDG_CMD_REJ and changes no booking. LDG_POP removes the head record and notes its number;
of an empty buffer it changes nothing. Each clause names what else may change. -/
def Obligations.LedgerCommands : Prop :=
  ∀ (s : State),
    (∀ (okA okB : Bool), s.dev ≠ 0 → 
      Does (.ldgStart okA okB) s fun t =>
        t.ldg.buf.length = 1 ∧ t.get R.LDG_STAT.DEPTH = 1 ∧ t.ldg.inbox = [] ∧ t.ldg.objs = [] ∧
        t.on R.LDG_STAT.NVM_FAULT = (!(s.ldg.headA.valid && okA) && !(s.ldg.headB.valid && okB)) ∧
        (s.ldg.headA.valid && okA = true → s.ldg.headB.valid && okB = false → (chain t).recnum = (s.ldg.headA.recnum + 1) % 2 ^ 48) ∧
        (s.ldg.headA.valid && okA = false → s.ldg.headB.valid && okB = true → (chain t).recnum = (s.ldg.headB.recnum + 1) % 2 ^ 48) ∧
        Keeps s t ([R.LDG_STAT.DEPTH, R.LDG_STAT.FULL, R.LDG_STAT.OPEN, R.LDG_STAT.NVM_FAULT] ++
          (List.range 8).map (fun i => wordAt (ldgKeyBase + 4 * i)) ++ evF) [] (evP.append [.ldg, .marks])) ∧
    (∀ (obj : Nat) (r : SecRec) (rest : List (Nat × SecRec)), s.ldg.inbox = (obj, r) :: rest → 
      Does .ldgSecondRecord s fun t =>
        t.ldg.inbox = rest ∧ (ldgObj t obj).lastLabel = some r.label ∧ (ldgObj t obj).ticks = 0 ∧ (ldgObj t obj).missing = false ∧ Keeps s t ([R.LDG_STAT.DEPTH, R.LDG_STAT.FULL, R.LDG_STAT.OPEN] ++ evF) [] (evP.append [.ldg])) ∧
    (s.ldg.inbox = [] → 
      Does .ldgSecondRecord s fun t => t = s) ∧
    (∀ (obj : Nat), s.dev ≠ 0 → 1000000000 ≤ s.age .ledger → obj < 40 → (obj < 2 ∨ 16 ≤ obj) → 
      Does .ldgTick s fun t =>
        (ldgObj t obj).ticks = min 12 ((ldgObj s obj).ticks + 1) ∧
        (11 ≤ (ldgObj s obj).ticks → obj < 2 ∨ (bookingOf s obj).isSome = true → (ldgObj t obj).missing = true) ∧ Keeps s t ([R.LDG_STAT.DEPTH, R.LDG_STAT.FULL, R.LDG_STAT.OPEN] ++ evF) [] (evP.append [.ldg, .marks])) ∧
    (∀ (obj : Nat), Open s .ledger → 
      Does (.bookOpen obj) s fun t =>
        t.get R.LDG_RES.STATUS = bookStatus s 1 (obj % 256) 0 ∧
        (bookStatus s 1 (obj % 256) 0 = 0 → t.get R.LDG_RES.BOOKING = (chain s).nextNo % 2 ^ R.LDG_RES.BOOKING.width ∧
          t.ldg.bookings.map (·.no) = s.ldg.bookings.map (·.no) ++ [(chain s).nextNo] ∧ (chain t).bookings = t.ldg.bookings ∧
          (bookingOf t (obj % 256)).isSome = true) ∧
        (bookStatus s 1 (obj % 256) 0 ≠ 0 → t.ldg = s.ldg ∧ Raised s t E.LDG_CMD_REJ (bookStatus s 1 (obj % 256) 0)) ∧
        Keeps s t ([R.LDG_RES.STATUS, R.LDG_RES.BOOKING, R.LDG_STAT.DEPTH, R.LDG_STAT.FULL, R.LDG_STAT.OPEN] ++ evF) [] (evP.append [.ldg])) ∧
    (∀ (no : Nat), Open s .ledger → 
      Does (.bookClose no) s fun t =>
        t.get R.LDG_RES.STATUS = bookStatus s 2 0 (no % 65536) ∧
        (bookStatus s 2 0 (no % 65536) = 0 → t.ldg.bookings = s.ldg.bookings.filter (fun b => b.no ≠ no % 65536) ∧ (chain t).bookings = t.ldg.bookings) ∧
        (bookStatus s 2 0 (no % 65536) ≠ 0 → t.ldg = s.ldg ∧ Raised s t E.LDG_CMD_REJ (bookStatus s 2 0 (no % 65536))) ∧
        Keeps s t ([R.LDG_RES.STATUS, R.LDG_STAT.DEPTH, R.LDG_STAT.FULL, R.LDG_STAT.OPEN] ++ evF) [] (evP.append [.ldg])) ∧
    (∀ (r : List Nat) (rest : List (List Nat)), Open s .ledger → s.ldg.buf = r :: rest → 
      Does .ldgPop s fun t =>
        (chain t).removed = ofLe ((r.drop 2).take 6) ∧ (∀ x ∈ rest, x ∈ t.ldg.buf) ∧ rest.length ≤ t.ldg.buf.length ∧
        (s.on R.LDG_STAT.FULL = false → (∀ p ∈ s.ldg.objs, p.2.cur.any (·.due) = false) → t.ldg.buf = rest) ∧ Keeps s t ([R.LDG_STAT.DEPTH, R.LDG_STAT.FULL, R.LDG_STAT.OPEN] ++ evF) [] (evP.append [.ldg])) ∧
    (s.ldg.buf = [] → 
      Does .ldgPop s fun t => t = s)

/-- With MADC reached, MADC_START of a stopped converter outside BOOT runs it on the channel in MADC_CH where RATE and ORDER
pass, else sets CFG_ERR and raises EV_MADC_CFG_ERR. MADC_RESULT of a running one, at the time of its next result, delivers
the raw result corrected with the channel offset and gain, sets NEW, and OVR where the last one was unread; a calibration
sums the raw result. With MADC reached, MADC_CH_WRITE changes the channel, abandons a calibration and clears SETTLED;
CAL_ZERO and CAL_FS begin a calibration of a running converter that has none; MADC_RUN_CLEAR stops the converter and
abandons a calibration with CAL_ERR. MADC_CAL_DONE after eight results stores the offset, or the gain within its limits, and
raises EV_MADC_CAL. Each clause names what else may change. -/
def Obligations.MonitorConverter : Prop :=
  ∀ (s : State),
    (Open s .madc → s.dev ≠ stBOOT → s.runBit .madc = false → s.running .madc = false → 
      Does .madcStart s fun t =>
        t.runBit .madc = true ∧ (madcCfgOk s = true → t.running .madc = true ∧ t.on R.MADC_STAT.CFG_ERR = false ∧
          t.on R.MADC_STAT.SETTLED = false ∧ t.get R.MADC_STAT.CH_ACT = s.get R.MADC_CH.CH % 16) ∧
        (madcCfgOk s = false → t.running .madc = false ∧ t.on R.MADC_STAT.CFG_ERR = true ∧ Raised s t E.MADC_CFG_ERR 0) ∧
        Keeps s t ([runF .madc, runningF .madc, R.MADC_STAT.CFG_ERR, R.MADC_STAT.SETTLED, R.MADC_STAT.CH_ACT] ++ evF) [] (evP.append [.waiting, .marks])) ∧
    (∀ (raw : Int), s.running .madc = true → madcPeriod s ≤ s.age .madc → 
      Does (.madcResult raw) s fun t =>
        t.get R.MADC_DATA.DATA = ofSigned 24 (clampSigned 24 (divRoundI
          ((clampSigned 24 raw - toSigned 24 (s.get (R.MADC_OFS.OFS.ix (s.get R.MADC_STAT.CH_ACT)))) *
            (s.get (R.MADC_GAIN.GAIN.ix (s.get R.MADC_STAT.CH_ACT)) : Int)) (2 ^ 22))) ∧
        t.on R.MADC_DATA.NEW = true ∧ t.on R.MADC_STAT.SETTLED = true ∧ t.get R.MADC_DATA.CH = s.get R.MADC_STAT.CH_ACT % 16 ∧
        t.on R.MADC_DATA.OVR = (s.on R.MADC_DATA.OVR || s.on R.MADC_DATA.NEW) ∧
        (s.pwr.cal ≠ none → s.pwr.calN < 8 → t.pwr.calN = s.pwr.calN + 1 ∧ t.pwr.calSum = s.pwr.calSum + clampSigned 24 raw) ∧
        Keeps s t [R.MADC_DATA.DATA, R.MADC_DATA.NEW, R.MADC_DATA.CH, R.MADC_DATA.OVR, R.MADC_STAT.SETTLED] [] [.pwr, .marks]) ∧
    (∀ (ch : Nat), Open s .madc → 
      Does (.madcChWrite ch) s fun t =>
        t.get R.MADC_CH.CH = ch % 16 ∧ t.on R.MADC_STAT.SETTLED = false ∧ t.pwr.cal = none ∧
        (s.pwr.cal ≠ none → t.on R.MADC_STAT.CAL_ERR = true ∧ t.on R.MADC_STAT.CAL_BUSY = false) ∧
        (s.running .madc = true → t.get R.MADC_STAT.CH_ACT = ch % 16) ∧
        Keeps s t ([R.MADC_CH.CH, R.MADC_STAT.SETTLED, R.MADC_STAT.CH_ACT] ++ [R.MADC_STAT.CAL_BUSY, R.MADC_STAT.CAL_ERR]) [] [.pwr, .marks]) ∧
    (Open s .madc → s.running .madc = true → s.pwr.cal = none → 
      Does .calZero s fun t =>
        t.pwr.cal = some false ∧ t.pwr.calSum = 0 ∧ t.pwr.calN = 0 ∧ t.on R.MADC_STAT.CAL_BUSY = true ∧ Keeps s t [R.MADC_STAT.CAL_BUSY] [] [.pwr, .marks]) ∧
    (Open s .madc → s.running .madc = true → s.pwr.cal = none → 
      Does .calFs s fun t =>
        t.pwr.cal = some true ∧ t.pwr.calSum = 0 ∧ t.pwr.calN = 0 ∧ t.on R.MADC_STAT.CAL_BUSY = true ∧ Keeps s t [R.MADC_STAT.CAL_BUSY] [] [.pwr, .marks]) ∧
    (8 ≤ s.pwr.calN → s.pwr.cal ≠ none → s.get R.MADC_STAT.CH_ACT < 16 → s.pwr.cal = some false → 
      Does .madcCalDone s fun t =>
        let ch := s.get R.MADC_STAT.CH_ACT
        let mean := divRoundI s.pwr.calSum 8
        t.get (R.MADC_OFS.OFS.ix ch) = ofSigned 24 mean ∧ t.on R.MADC_STAT.CAL_ERR = false ∧ Raised s t E.MADC_CAL (1 + 16 * ch) ∧
        t.pwr.cal = none ∧
        t.on R.MADC_STAT.CAL_BUSY = false ∧
        Keeps s t ([R.MADC_OFS.OFS.ix ch, R.MADC_GAIN.GAIN.ix ch] ++ [R.MADC_STAT.CAL_BUSY, R.MADC_STAT.CAL_ERR] ++ evF) [] (evP.append [.pwr])) ∧
    (8 ≤ s.pwr.calN → s.pwr.cal ≠ none → s.get R.MADC_STAT.CH_ACT < 16 → s.pwr.cal = some true → 0 < ((divRoundI s.pwr.calSum 8) - toSigned 24 (s.get (R.MADC_OFS.OFS.ix (s.get R.MADC_STAT.CH_ACT)))) → 0x200000 ≤ (divRound (s.get R.MADC_FS.FS_CODE * 2 ^ 22) ((divRoundI s.pwr.calSum 8) - toSigned 24 (s.get (R.MADC_OFS.OFS.ix (s.get R.MADC_STAT.CH_ACT)))).toNat) → (divRound (s.get R.MADC_FS.FS_CODE * 2 ^ 22) ((divRoundI s.pwr.calSum 8) - toSigned 24 (s.get (R.MADC_OFS.OFS.ix (s.get R.MADC_STAT.CH_ACT)))).toNat) ≤ 0x800000 → 
      Does .madcCalDone s fun t =>
        let ch := s.get R.MADC_STAT.CH_ACT
        let mean := divRoundI s.pwr.calSum 8
        let d := mean - toSigned 24 (s.get (R.MADC_OFS.OFS.ix ch))
        let g := divRound (s.get R.MADC_FS.FS_CODE * 2 ^ 22) d.toNat
        t.get (R.MADC_GAIN.GAIN.ix ch) = g ∧ t.on R.MADC_STAT.CAL_ERR = false ∧ Raised s t E.MADC_CAL (1 + 16 * ch) ∧
        t.pwr.cal = none ∧
        t.on R.MADC_STAT.CAL_BUSY = false ∧
        Keeps s t ([R.MADC_OFS.OFS.ix ch, R.MADC_GAIN.GAIN.ix ch] ++ [R.MADC_STAT.CAL_BUSY, R.MADC_STAT.CAL_ERR] ++ evF) [] (evP.append [.pwr])) ∧
    (8 ≤ s.pwr.calN → s.pwr.cal ≠ none → s.get R.MADC_STAT.CH_ACT < 16 → s.pwr.cal = some true → (((divRoundI s.pwr.calSum 8) - toSigned 24 (s.get (R.MADC_OFS.OFS.ix (s.get R.MADC_STAT.CH_ACT)))) ≤ 0 ∨ (divRound (s.get R.MADC_FS.FS_CODE * 2 ^ 22) ((divRoundI s.pwr.calSum 8) - toSigned 24 (s.get (R.MADC_OFS.OFS.ix (s.get R.MADC_STAT.CH_ACT)))).toNat) < 0x200000 ∨ 0x800000 < (divRound (s.get R.MADC_FS.FS_CODE * 2 ^ 22) ((divRoundI s.pwr.calSum 8) - toSigned 24 (s.get (R.MADC_OFS.OFS.ix (s.get R.MADC_STAT.CH_ACT)))).toNat)) → 
      Does .madcCalDone s fun t =>
        let ch := s.get R.MADC_STAT.CH_ACT
        t.get (R.MADC_GAIN.GAIN.ix ch) = s.get (R.MADC_GAIN.GAIN.ix ch) ∧ t.on R.MADC_STAT.CAL_ERR = true ∧ Raised s t E.MADC_CAL (16 * ch) ∧
        t.pwr.cal = none ∧
        t.on R.MADC_STAT.CAL_BUSY = false ∧
        Keeps s t ([R.MADC_OFS.OFS.ix ch, R.MADC_GAIN.GAIN.ix ch] ++ [R.MADC_STAT.CAL_BUSY, R.MADC_STAT.CAL_ERR] ++ evF) [] (evP.append [.pwr])) ∧
    (Open s .madc → s.runBit .madc = true → 
      Does .madcRunClear s fun t =>
        t.runBit .madc = false ∧ t.running .madc = false ∧ t.pwr.cal = none ∧ (s.pwr.cal ≠ none → t.on R.MADC_STAT.CAL_ERR = true) ∧
        Keeps s t ([runF .madc, runningF .madc] ++ [R.MADC_STAT.CAL_BUSY, R.MADC_STAT.CAL_ERR]) [] [.pwr, .waiting, .stops])

/-- For a switched domain, PD 5 to 21. With PWR reached, DOMAIN_POWER_ON where EN is 0 sets EN; where the domain is off,
outside NIGHT and THERMAL-OFF, it then ramps or waits for its ramp. DOMAIN_POWERED of the ramping domain with EN 1 sets ON
and lets the next one ramp. With PWR reached and no Night entry or wake holding the domains, DOMAIN_POWER_OFF of one that is
on, with no block or lane running, clears EN and starts a drain; with one it leaves EN at 1 and sets REJ with
EV_DOM_REFUSED; one that is off no longer waits for its ramp. DOMAIN_OFF_ACK of a draining domain with EN 0, and
DOMAIN_FORCE_OFF with PWR reached, switch it off: ON falls, none of its blocks but those that always run runs, its
registers, but for those that levels change, hold their reset values. DOMAIN_DRAIN_TIMEOUT after the time for the
acknowledgement sets EN and REJ. RAIL_FAULT of a good rail clears GOOD and sets LATCH with its event; RAIL_WITHIN_TOLERANCE
sets GOOD. Each clause names what else may change. -/
def Obligations.PowerDomains : Prop :=
  ∀ (s : State),
    (∀ (d : Nat), 5 ≤ d → d ≤ 21 → Open s .pwr → bitOf (s.get R.PWR_DOM_EN.EN) d = false → 
      Does (.domainPowerOn d) s fun t =>
        bitOf (t.get R.PWR_DOM_EN.EN) d = true ∧ (s.domOn d = true → t.pwr = s.pwr) ∧
        (s.domOn d = false → s.dev ≠ stNIGHT → s.dev ≠ stTHERMALOFF → t.pwr.ramp = some d ∨ d ∈ t.pwr.queue) ∧
        Keeps s t [R.PWR_DOM_EN.EN] [] [.pwr]) ∧
    (∀ (d : Nat), 5 ≤ d → d ≤ 21 → s.pwr.ramp = some d → bitOf (s.get R.PWR_DOM_EN.EN) d = true → 
      Does (.domainPowered d) s fun t =>
        t.domOn d = true ∧ t.pwr.ramp = s.pwr.queue.head? ∧ t.pwr.queue = s.pwr.queue.tail ∧
        Keeps s t (lvF ++ [R.PWR_DOM_STAT.ON]) [.lanes, .pod, .client, .store, .flow, .fec .A, .fec .B, .framer .A, .framer .B, .cipher .A, .cipher .B, .conv .A, .conv .B, .clk]
          (linkP.append [.pwr, .fec .A, .fec .B, .clk])) ∧
    (∀ (d : Nat), 5 ≤ d → d ≤ 21 → Open s .pwr → bitOf (s.get R.PWR_DOM_EN.EN) d = true → domsHeld s = false → s.domOn d = true → s.domRuns d = false → laneOn s d = false → 
      Does (.domainPowerOff d) s fun t =>
        bitOf (t.get R.PWR_DOM_EN.EN) d = false ∧ d ∈ t.pwr.drains ∧
        Keeps s t ([R.PWR_DOM_EN.EN, R.PWR_DOM_REJ.REJ] ++ evF) [] (evP.append [.pwr, .marks])) ∧
    (∀ (d : Nat), 5 ≤ d → d ≤ 21 → Open s .pwr → bitOf (s.get R.PWR_DOM_EN.EN) d = true → domsHeld s = false → s.domOn d = true → (s.domRuns d = true ∨ laneOn s d = true) → 
      Does (.domainPowerOff d) s fun t =>
        bitOf (t.get R.PWR_DOM_EN.EN) d = true ∧ bitOf (t.get R.PWR_DOM_REJ.REJ) d = true ∧
          Raised s t E.DOM_REFUSED (d + 256) ∧
        Keeps s t ([R.PWR_DOM_EN.EN, R.PWR_DOM_REJ.REJ] ++ evF) [] (evP.append [.pwr, .marks])) ∧
    (∀ (d : Nat), 5 ≤ d → d ≤ 21 → Open s .pwr → bitOf (s.get R.PWR_DOM_EN.EN) d = true → domsHeld s = false → s.domOn d = false → 
      Does (.domainPowerOff d) s fun t =>
        bitOf (t.get R.PWR_DOM_EN.EN) d = false ∧ d ∉ t.pwr.queue ∧
        Keeps s t ([R.PWR_DOM_EN.EN, R.PWR_DOM_REJ.REJ] ++ evF) [] (evP.append [.pwr, .marks])) ∧
    (∀ (d : Nat), 5 ≤ d → d ≤ 21 → d ∈ s.pwr.drains → bitOf (s.get R.PWR_DOM_EN.EN) d = false → s.domOn d = true → 
      Does (.domainOffAck d) s fun t =>
        t.domOn d = false ∧ d ∉ t.pwr.drains ∧ (∀ b ∈ allBlks, blkDom b = d → alwaysRuns b = false → t.running b = false) ∧
        (∀ k, keyDom k = d → k ∉ lvF.map Fld.key → t.regs.get k = R.resets.get k) ∧ Keeps s t lvF offB offP) ∧
    (∀ (d : Nat), 5 ≤ d → d ≤ 21 → Open s .pwr → s.domOn d = true → 
      Does (.domainForceOff d) s fun t =>
        t.domOn d = false ∧ bitOf (t.get R.PWR_DOM_EN.EN) d = false ∧ (∀ b ∈ allBlks, blkDom b = d → alwaysRuns b = false → t.running b = false) ∧
        (∀ k, keyDom k = d → k ∉ lvF.map Fld.key → t.regs.get k = R.resets.get k) ∧ Keeps s t lvF offB offP) ∧
    (∀ (d : Nat), d < 22 → d ∈ s.pwr.drains → bitOf (s.get R.PWR_DOM_EN.EN) d = false → ackWait s d ≤ s.age (.drain d) → 
      Does (.domainDrainTimeout d) s fun t =>
        d ∉ t.pwr.drains ∧ bitOf (t.get R.PWR_DOM_EN.EN) d = true ∧ bitOf (t.get R.PWR_DOM_REJ.REJ) d = true ∧ Raised s t E.DOM_REFUSED d ∧
        Keeps s t ([R.PWR_DOM_EN.EN, R.PWR_DOM_REJ.REJ] ++ evF) [] (evP.append [.pwr])) ∧
    (∀ (r : Nat), r < 10 → bitOf (s.get R.PWR_RAIL.GOOD) r = true → 
      Does (.railFault r) s fun t =>
        bitOf (t.get R.PWR_RAIL.GOOD) r = false ∧ bitOf (t.get R.PWR_RAIL.LATCH) r = true ∧ Raised s t E.RAIL_FAULT r ∧
        Keeps s t ([R.PWR_RAIL.GOOD, R.PWR_RAIL.LATCH] ++ evF) [] evP) ∧
    (∀ (r : Nat), r < 10 → 
      Does (.railWithinTolerance r) s fun t => bitOf (t.get R.PWR_RAIL.GOOD) r = true ∧ Keeps s t [R.PWR_RAIL.GOOD] [] [])

/-- NIGHT_STOP_TIMEOUT, 1 ms into a Night entry, stops every block of a switched domain. NIGHT_ENTRY_DONE of an entry, every
block stopped or that time over, ends it: every switched domain is off, MUX0 selects the crystal, NIGHT_BUSY falls; where a
wake waits, the wake begins in STANDBY instead. WAKE_DONE of a complete wake sets WAKE_DONE and raises EV_NIGHT_READY with
the time. SENSOR_READING, 1 ms after the last one and outside THERMAL-OFF, takes the temperature, the peak, band, warning
and throttle with their hysteresis; the second reading in a row of 118 °C or more, or of a failed sensor, outside RESET
enters THERMAL-OFF with every domain but PD_AON and PD_LEDG off. THERMAL_RESTART after 10,000 cool readings enters RESET
with cause 3. THROTTLE_TEST with PWR reached gives the test bit its value and the throttle follows. Each clause names what
else may change. -/
def Obligations.NightAndHeat : Prop :=
  ∀ (s : State),
    (∀ (b : Blk), b ∈ allBlks → 5 ≤ blkDom b → alwaysRuns b = false → s.pwr.night = 1 → 1000000 ≤ s.age .night → 
      Does .nightStopTimeout s fun t =>
        t.running b = false ∧ Keeps s t lvF offB offP) ∧
    (s.pwr.night = 1 → s.pwr.wakePend = false → s.dev = stNIGHT → (notStopped s = [] ∨ 1000000 ≤ s.age .night) → 
      Does .nightEntryDone s fun t =>
        (∀ d < 22, switched d = true → t.domOn d = false) ∧ t.get (R.CLK_MUX.SEL.ix 0) = 1 ∧ t.on R.PWR_STAT.NIGHT_BUSY = false ∧ t.pwr.night = 0 ∧
        t.pwr.queue = [] ∧ t.pwr.ramp = none ∧ t.dev = s.dev ∧
        Keeps s t lvF offB offP) ∧
    (s.pwr.night = 1 → s.pwr.wakePend = true → s.dev = stNIGHT → (notStopped s = [] ∨ 1000000 ≤ s.age .night) → 
      Does .nightEntryDone s fun t =>
        t.dev = stSTANDBY ∧ t.pwr.night = 2 ∧ t.on R.PWR_STAT.NIGHT_BUSY = true ∧ t.pwr.wakePend = false ∧
        Keeps s t lvF offB offP) ∧
    (s.pwr.night = 2 → wakeComplete s = true → 
      Does .wakeDone s fun t =>
        t.on R.PWR_NIGHT.WAKE_DONE = true ∧ t.get R.PWR_NIGHT.WAKE_US = satTo 16 ((s.time.aon - s.pwr.wakeAt) / 1000) ∧ t.pwr.night = 0 ∧
        t.on R.PWR_STAT.NIGHT_BUSY = false ∧ Raised s t E.NIGHT_READY (satTo 16 ((s.time.aon - s.pwr.wakeAt) / 1000)) ∧
        Keeps s t ([R.PWR_NIGHT.WAKE_DONE, R.PWR_NIGHT.WAKE_US, R.PWR_STAT.NIGHT_BUSY] ++ evF) [] (evP.append [.pwr])) ∧
    (∀ (reading : Option Int), 1000000 ≤ s.age .sensor → s.dev ≠ stTHERMALOFF → (∀ x ∈ reading, x < 1888 ∨ s.pwr.hot = 0) → (reading ≠ none ∨ s.pwr.hot = 0) → 
      Does (.sensorReading reading) s fun t =>
        let r : Int := (reading.map (clampSigned 16)).getD 32767
        t.get R.THERM_TEMP.TEMP = ofSigned 16 r ∧ toSigned 16 (t.get R.THERM_TEMP.TMAX) = max (toSigned 16 (s.get R.THERM_TEMP.TMAX)) r ∧
        t.get R.PWR_STAT.BAND = bandOf (!s.pwr.seen) (s.get R.PWR_STAT.BAND) r % 4 ∧ t.on R.PWR_STAT.WARN = hystOf (s.on R.PWR_STAT.WARN) 1600 1552 r ∧
        t.on R.PWR_STAT.SENS_FAULT = (s.on R.PWR_STAT.SENS_FAULT || reading.isNone) ∧ t.pwr.seen = true ∧
        t.pwr.throttleHot = hystOf s.pwr.throttleHot 1728 1664 r ∧
        t.on R.PWR_STAT.THROTTLE = (t.pwr.throttleHot || s.on R.THERM_CTRL.THROTTLE_TEST) ∧ t.pwr.hot = (if 1888 ≤ r then min 2 (s.pwr.hot + 1) else 0) ∧
        Keeps s t lvF [.pwr, .rxdsp .A, .rxdsp .B, .conv .A, .conv .B, .fec .A, .fec .B] (lvP.append [.pwr, .marks, .conv .A, .conv .B, .rx .A, .rx .B, .fec .A, .fec .B])) ∧
    (∀ (reading : Option Int), 1000000 ≤ s.age .sensor → s.dev ≠ stTHERMALOFF → s.dev ≠ 0 → (∀ x ∈ reading, 1888 ≤ x) → 1 ≤ s.pwr.hot → 
      Does (.sensorReading reading) s fun t =>
        t.dev = stTHERMALOFF ∧ (∀ d < 22, 2 ≤ d → t.domOn d = false) ∧ t.ctl.started = false ∧ t.host.boot = .idle ∧
        t.get R.PWR_DOM_EN.EN = 0x1F ∧ t.get R.THERM_LOG.TRIP_TEMP = ofSigned 16 ((reading.map (clampSigned 16)).getD 32767) ∧
        t.get R.THERM_LOG.TRIPS = satTo 16 (s.get R.THERM_LOG.TRIPS + 1) ∧
        Keeps s t lvF offB (offP.append [.ctl, .host])) ∧
    (s.dev = stTHERMALOFF → 10000 ≤ s.pwr.cool → 
      Does .thermalRestart s fun t => t.dev = 0 ∧ t.get R.SYS_STATE.RESET_CAUSE = 3 ∧ AfterReset s t) ∧
    (∀ (on : Bool), Open s .pwr → 
      Does (.throttleTest on) s fun t =>
        t.on R.THERM_CTRL.THROTTLE_TEST = on ∧ t.on R.PWR_STAT.THROTTLE = (s.pwr.throttleHot || on) ∧
        Keeps s t (lvF ++ [R.THERM_CTRL.THROTTLE_TEST, R.PWR_STAT.THROTTLE]) [.rxdsp .A, .rxdsp .B, .fec .A, .fec .B] (lvP.append [.rx .A, .rx .B, .fec .A, .fec .B]))

/-- HOST_BAR0_REQUEST of one word, outside RESET and with PCIE_PERST_N high, is a register access of the host; one that
fails, or is narrower than 32 bits, sets HOST_ERR with its offset; in RESET or with PCIE_PERST_N low it changes nothing.
HOST_LINK_RESET aborts DMA and clears the mailbox flags, the interrupt mask and the MSI-X table, a link going down also
LINK_UP; PCIE_PERST low does so too. PCIE_LINK_UP of a link that was down sets LINK_UP with width and speed. With HOSTIF
reached, MBOX_RING of an empty mailbox sets FULL and LEN and tells the receiver, of a full one sets DROP; MBOX_ACK clears
FULL; DMA_START of an idle channel latches the job, begins one that is permitted, and ends another with status 1. DMA_DONE
of a running job: words for SRAM go to every channel, words of SRAM or of registers go to the host memory address of the
job, words for registers are written as host accesses; STATUS is 3 after a PCIe error and 2 after an access that failed,
whose address DMA_DADDR then shows. Each clause names what else may change. -/
def Obligations.HostInterface : Prop :=
  ∀ (s : State),
    (∀ (off : Nat), s.dev ≠ 0 → s.host.perst = false → 
      Does (.hostBar0Request (.read off 1)) s fun t =>
        ((busRead s 1 (bar0 off)).2.isSome = true → Keeps (busRead s 1 (bar0 off)).1 t [] [] [.ctl, .freeCtr]) ∧
        ((busRead s 1 (bar0 off)).2 = none → t.on R.HOST_ERR.VALID = true ∧ t.get R.HOST_ERR.OFFSET = (bar0 off) % 2 ^ 23 ∧
          Keeps (busRead s 1 (bar0 off)).1 t [R.HOST_ERR.VALID, R.HOST_ERR.OFFSET] [] [.ctl, .freeCtr])) ∧
    (∀ (off w : Nat), s.dev ≠ 0 → s.host.perst = false → 
      Does (.hostBar0Request (.write off [w])) s fun t =>
        ((busWrite s .host (bar0 off) w).2 = true → t = { (busWrite s .host (bar0 off) w).1 with pending := s.pending }) ∧
        ((busWrite s .host (bar0 off) w).2 = false → t.on R.HOST_ERR.VALID = true ∧ t.get R.HOST_ERR.OFFSET = (bar0 off) % 2 ^ 23 ∧
          Keeps (busWrite s .host (bar0 off) w).1 t [R.HOST_ERR.VALID, R.HOST_ERR.OFFSET] [] [])) ∧
    (∀ (store : Bool) (off : Nat), s.dev ≠ 0 → s.host.perst = false → 
      Does (.hostBar0Request (.narrow store off)) s fun t =>
        t.get R.BUS_ERR.COUNT = satTo 32 (s.get R.BUS_ERR.COUNT + 1) ∧ t.on R.HOST_ERR.VALID = true ∧ t.get R.HOST_ERR.OFFSET = (bar0 off) % 2 ^ 23 ∧
        Keeps s t ([R.BUS_ERR.COUNT, R.HOST_ERR.VALID, R.HOST_ERR.OFFSET] ++ evF) [.perf] evP) ∧
    (∀ (r : Bar0Req), (s.dev = 0 ∨ s.host.perst = true) → 
      Does (.hostBar0Request r) s fun t => t = s) ∧
    (∀ (down : Bool), 
      Does (.hostLinkReset down) s fun t =>
        (∀ j < 2, t.on (R.DMA_CTRL.BUSY.ix j) = false ∧ (s.on (R.DMA_CTRL.BUSY.ix j) = true → t.get (R.DMA_CTRL.STATUS.ix j) = 4)) ∧
        t.on R.MBOX_H2S.FULL = false ∧ t.on R.MBOX_S2H.FULL = false ∧ t.on R.MBOX_H2S.DROP = false ∧ t.on R.MBOX_S2H.DROP = false ∧
        t.get R.HOST_IRQ_MASK.MASK = 0 ∧ t.host.msixTable = [] ∧ (down = true → t.on R.HOST_STAT.LINK_UP = false) ∧
        Keeps s t ([R.DMA_CTRL.BUSY.ix 0, R.DMA_CTRL.BUSY.ix 1, R.DMA_CTRL.STATUS.ix 0, R.DMA_CTRL.STATUS.ix 1, R.HOST_IRQ_STAT.STAT,
          R.MBOX_H2S.FULL, R.MBOX_S2H.FULL, R.MBOX_H2S.DROP, R.MBOX_S2H.DROP, R.HOST_IRQ_MASK.MASK, R.HOST_STAT.LINK_UP, R.HOST_STAT.WIDTH,
          R.HOST_STAT.SPEED] ++ evF) [] (evP.append [.host])) ∧
    (∀ (low : Bool), 
      Does (.pciePerst low) s fun t =>
        t.host.perst = low ∧ (low = true → t.on R.HOST_STAT.LINK_UP = false ∧ t.get R.HOST_IRQ_MASK.MASK = 0 ∧ t.host.msixTable = []) ∧
        (low = false → Keeps s t [] [] [.host]) ∧
        Keeps s t ([R.DMA_CTRL.BUSY.ix 0, R.DMA_CTRL.BUSY.ix 1, R.DMA_CTRL.STATUS.ix 0, R.DMA_CTRL.STATUS.ix 1, R.HOST_IRQ_STAT.STAT,
          R.MBOX_H2S.FULL, R.MBOX_S2H.FULL, R.MBOX_H2S.DROP, R.MBOX_S2H.DROP, R.HOST_IRQ_MASK.MASK, R.HOST_STAT.LINK_UP, R.HOST_STAT.WIDTH,
          R.HOST_STAT.SPEED] ++ evF) [] (evP.append [.host])) ∧
    (∀ (width speed : Nat), s.host.perst = false → s.dev ≠ 0 → s.on R.HOST_STAT.LINK_UP = false → 
      Does (.pcieLinkUp width speed) s fun t =>
        t.on R.HOST_STAT.LINK_UP = true ∧ t.get R.HOST_STAT.WIDTH = width % 8 ∧ t.get R.HOST_STAT.SPEED = speed % 8 ∧ Raised s t E.PCIE_LINK 256 ∧
        Keeps s t ([R.HOST_STAT.LINK_UP, R.HOST_STAT.WIDTH, R.HOST_STAT.SPEED] ++ evF) [] evP) ∧
    (∀ (s2h : Bool) (len : Nat), Open s .hostif → (s2h = false ∨ votes s = true) → s.on (mboxFull s2h) = true → 
      Does (.mboxRing s2h len) s fun t =>
        t.on (mboxDrop s2h) = true ∧ Keeps s t [mboxDrop s2h] [] []) ∧
    (∀ (s2h : Bool) (len : Nat), Open s .hostif → (s2h = false ∨ votes s = true) → s.on (mboxFull s2h) = false → 
      Does (.mboxRing s2h len) s fun t =>
        t.on (mboxFull s2h) = true ∧ t.get (mboxLen s2h) = len % 8192 ∧
          (s2h = true → bitOf (t.get R.HOST_IRQ_STAT.STAT) 0 = true) ∧ (s2h = false → Raised s t E.HOST_MBOX (len % 8192)) ∧
          Keeps s t ([mboxFull s2h, mboxLen s2h, R.HOST_IRQ_STAT.STAT] ++ evF) [] evP) ∧
    (∀ (s2h : Bool), Open s .hostif → (s2h = true ∨ votes s = true) → 
      Does (.mboxAck s2h) s fun t =>
        t.on (mboxFull s2h) = false ∧ (s2h = true → Raised s t E.HOST_MBOX_ACK 0) ∧ Keeps s t (mboxFull s2h :: evF) [] evP) ∧
    (∀ (j : Nat) (dir : Bool), j < 2 → Open s .hostif → s.on (R.DMA_CTRL.BUSY.ix j) = false → 
      Does (.dmaStart j dir) s fun t =>
        t.host.jobs = (dmaLatched s j dir).host.jobs ∧ t.on (R.DMA_CTRL.DIR.ix j) = dir ∧
        ((dmaTarget (dmaLatched s j dir) j).isSome = true → t.on (R.DMA_CTRL.BUSY.ix j) = true ∧
          Keeps s t [R.DMA_CTRL.BUSY.ix j, R.DMA_CTRL.DIR.ix j] [] [.host]) ∧
        (dmaTarget (dmaLatched s j dir) j = none → t.on (R.DMA_CTRL.BUSY.ix j) = false ∧ t.get (R.DMA_CTRL.STATUS.ix j) = 1 ∧
          Raised s t E.DMA_DONE (j + 256)) ∧
        Keeps s t ([R.DMA_CTRL.BUSY.ix j, R.DMA_CTRL.STATUS.ix j, R.HOST_IRQ_STAT.STAT, R.DMA_CTRL.DIR.ix j] ++ evF) [] (evP.append [.host])) ∧
    (∀ (j : Nat) (ws : List Nat) (err : Bool), j < 2 → s.on (R.DMA_CTRL.BUSY.ix j) = true → (dmaTarget s j = some .data ∨ dmaTarget s j = some .boot) → s.vote ≠ vRESYNC → ((dmaJob s j).toHost = true ∨ err = true ∨ (dmaJob s j).len / 4 ≤ ws.length) → 
      Does (.dmaDone j ws err) s fun t =>
        t.on (R.DMA_CTRL.BUSY.ix j) = false ∧ t.get (R.DMA_CTRL.STATUS.ix j) = (if err = true then 3 else 0) ∧
        bitOf (t.get R.HOST_IRQ_STAT.STAT) (1 + j) = true ∧ Raised s t E.DMA_DONE (j + 256 * (if err = true then 3 else 0)) ∧
        ((dmaJob s j).toHost = true → t.ctl = s.ctl ∧
          t.host.dmaOut.find j = some ((dmaJob s j).haddr, (sramReads s (dmaJob s j).addr [] ((dmaJob s j).len / 4)).2.reverse)) ∧
        ((dmaJob s j).toHost = false → t.host.dmaOut = s.host.dmaOut ∧
          ∀ m < 3, chan t m = { chan s m with mem := (chan (sramWords s (dmaJob s j).addr (ws.take ((dmaJob s j).len / 4))) m).mem }) ∧
        Keeps s t ([R.DMA_CTRL.BUSY.ix j, R.DMA_CTRL.STATUS.ix j, R.HOST_IRQ_STAT.STAT] ++ evF) [] (evP.append [.ctl, .host, .freeCtr])) ∧
    (∀ (j : Nat) (ws : List Nat) (err : Bool), j < 2 → s.on (R.DMA_CTRL.BUSY.ix j) = true → dmaTarget s j = some .regs → (dmaJob s j).toHost = false → ((dmaJob s j).toHost = true ∨ err = true ∨ (dmaJob s j).len / 4 ≤ ws.length) → 
      Does (.dmaDone j ws err) s fun t =>
        let r := dmaWrites s (dmaJob s j).addr (ws.take ((dmaJob s j).len / 4))
        (r.1.on (R.DMA_CTRL.BUSY.ix j) = false → t.regs = r.1.regs) ∧
        (r.1.on (R.DMA_CTRL.BUSY.ix j) = true → t.on (R.DMA_CTRL.BUSY.ix j) = false ∧
          (r.2 = none → t.get (R.DMA_CTRL.STATUS.ix j) = (if err = true then 3 else 0) ∧ Keeps r.1 t ([R.DMA_CTRL.BUSY.ix j, R.DMA_CTRL.STATUS.ix j, R.HOST_IRQ_STAT.STAT] ++ evF) [] evP) ∧
          (∀ a ∈ r.2, t.get (R.DMA_CTRL.STATUS.ix j) = 2 ∧ t.get (R.DMA_DADDR.DADDR.ix j) = a % 2 ^ 32 ∧
            Keeps r.1 t ([R.DMA_CTRL.BUSY.ix j, R.DMA_CTRL.STATUS.ix j, R.HOST_IRQ_STAT.STAT, R.DMA_DADDR.DADDR.ix j] ++ evF) [] evP))) ∧
    (∀ (j : Nat) (ws : List Nat) (err : Bool), j < 2 → s.on (R.DMA_CTRL.BUSY.ix j) = true → dmaTarget s j = some .regs → (dmaJob s j).toHost = true → 
      Does (.dmaDone j ws err) s fun t =>
        let r := dmaReads s (dmaJob s j).addr [] ((dmaJob s j).len / 4)
        t.host.dmaOut.find j = some ((dmaJob r.1 j).haddr, r.2.1.reverse) ∧ t.on (R.DMA_CTRL.BUSY.ix j) = false ∧
        (r.1.on (R.DMA_CTRL.BUSY.ix j) = true → r.2.2 = none → t.get (R.DMA_CTRL.STATUS.ix j) = (if err = true then 3 else 0)) ∧
        (r.1.on (R.DMA_CTRL.BUSY.ix j) = true → ∀ a ∈ r.2.2, t.get (R.DMA_CTRL.STATUS.ix j) = 2 ∧ t.get (R.DMA_DADDR.DADDR.ix j) = a % 2 ^ 32) ∧
        Keeps r.1 t ([R.DMA_CTRL.BUSY.ix j, R.DMA_CTRL.STATUS.ix j, R.HOST_IRQ_STAT.STAT, R.DMA_DADDR.DADDR.ix j] ++ evF) [] (evP.append [.host]))

/-- BOOT_FLASH_HEADERS, both headers awaited, begins with the first slot of the order of good headers; with none the boot
fails with code 10. BOOT_IMAGE_READ of an awaited slot puts the image into bank 0 and begins its check. BOOT_VERIFY_DONE in
BOOT: an image that passes starts the channels and leaves BOOT once both optics reads have ended, else waits for them; one
that fails shows a code in LAST_ERR. BOOT_GO with HOSTIF reached begins the check of a host-loaded image. While the boot
waits for the peer, BOOT_REQ_SEND, 100 ms after the last one, asks at the next port of 4 and 5, or at the other where that
is not UP; BOOT_PEER_TIMEOUT after 10 s fails with code 9. With EVENT reached by a voting majority, PROG_VERIFY begins a
check, and PROG_SWITCH with its key arms a switch where IDLE_OK is set, else raises EV_PROG_SWITCH. PROG_VERIFY_DONE shows
its RESULT. PROG_BANK_SWITCH of an armed switch starts every live channel from the other bank. Each clause names what else
may change. -/
def Obligations.BootAndUpdate : Prop :=
  ∀ (s : State),
    (∀ (h0 h1 : List Nat), s.host.boot = .headers → 
      Does (.bootFlashHeaders h0 h1) s fun t =>
        (slotOrder h0 h1 = [] → t.get R.HOST_BOOT.LAST_ERR = 10 ∧ (s.host.restart = false → t.on R.SYS_STATE.BOOT_FAIL = true ∧ t.host.boot = .host)) ∧
        (∀ n ∈ (slotOrder h0 h1).head?, t.host.boot = .slot ∧ t.host.bootSlot = n ∧ t.host.bootLeft = (slotOrder h0 h1).tail) ∧
        Keeps s t ([R.HOST_BOOT.LAST_ERR, R.SYS_STATE.BOOT_FAIL, R.CTL_RESTART.RESTART] ++ evF) [] (evP.append [.host])) ∧
    (∀ (img : List Nat), s.host.boot = .slot → 
      Does (.bootImageRead img) s fun t =>
        t.host.boot = .verify ∧ (∀ m < 3, chan t m = { chan s m with mem := (chan (loadBank0 s img) m).mem }) ∧
        Keeps s t [] [] [.host, .ctl]) ∧
    (s.host.boot = .verify → s.host.restart = false → s.dev = stBOOT → 
      Does .bootVerifyDone s fun t =>
        (imageResult s 0 0 1 ≠ 0 → t.get R.HOST_BOOT.LAST_ERR ≠ 0 ∧ t.host.boot ≠ .verify ∧ t.dev = stBOOT ∧ t.ctl.started = s.ctl.started ∧
          Keeps s t ([R.HOST_BOOT.LAST_ERR, R.SYS_STATE.BOOT_FAIL] ++ evF) [] (evP.append [.host, .freeCtr])) ∧
        (imageResult s 0 0 1 = 0 → opticsEnded s .A = false ∨ opticsEnded s .B = false → t.host.boot = .passed ∧ Keeps s t [] [] [.host]) ∧
        (imageResult s 0 0 1 = 0 → opticsEnded s .A = true → opticsEnded s .B = true →
          t.host.boot = .idle ∧ t.dev ≠ stBOOT ∧ t.ctl.started = true ∧ t.on R.SYS_STATE.BOOT_FAIL = false ∧
          Keeps s t ([R.HOST_BOOT.SRC, R.HOST_BOOT.SLOT, R.SYS_STATE.BOOT_FAIL, R.PROG_STAT.RUN_BANK, R.PROG_STAT.IDLE_OK, R.PROG_VER.VERSION] ++ lvF)
            offB (offP.append [.host, .ctl]))) ∧
    (s.host.boot = .verify → s.host.restart = false → s.dev = stBOOT → imageResult s 0 0 1 ≠ 0 → 
      Does .bootVerifyDone s fun t =>
        t.get R.HOST_BOOT.LAST_ERR ≠ 0 ∧ t.host.boot ≠ .verify ∧ t.dev = stBOOT ∧ t.ctl.started = s.ctl.started ∧
          Keeps s t ([R.HOST_BOOT.LAST_ERR, R.SYS_STATE.BOOT_FAIL] ++ evF) [] (evP.append [.host, .freeCtr])) ∧
    (s.host.boot = .verify → s.host.restart = false → s.dev = stBOOT → imageResult s 0 0 1 = 0 → opticsEnded s .A = true → opticsEnded s .B = true → 
      Does .bootVerifyDone s fun t =>
        t.host.boot = .idle ∧ t.dev ≠ stBOOT ∧ t.ctl.started = true ∧ t.on R.SYS_STATE.BOOT_FAIL = false ∧
          Keeps s t ([R.HOST_BOOT.SRC, R.HOST_BOOT.SLOT, R.SYS_STATE.BOOT_FAIL, R.PROG_STAT.RUN_BANK, R.PROG_STAT.IDLE_OK, R.PROG_VER.VERSION] ++ lvF)
            offB (offP.append [.host, .ctl])) ∧
    (Open s .hostif → s.host.boot = .host → 
      Does .bootGo s fun t => t.host.boot = .verify ∧ Keeps s t [] [] [.host]) ∧
    (s.host.boot = .peer → 100000000 ≤ s.age .bootReq → 
      Does .bootReqSend s fun t =>
        let k := if podUp s s.host.reqPort = true then s.host.reqPort else 9 - s.host.reqPort
        t.host.reqPort = 9 - s.host.reqPort ∧ (podUp s k = true → (pp t k).sent = msgBlock 0x20 0) ∧
        Keeps s t [] [] [.host, .link, .marks]) ∧
    (s.host.boot = .peer → 100000000 ≤ s.age .bootReq → podUp s (if podUp s s.host.reqPort = true then s.host.reqPort else 9 - s.host.reqPort) = true → 
      Does .bootReqSend s fun t =>
        let k := if podUp s s.host.reqPort = true then s.host.reqPort else 9 - s.host.reqPort
        (pp t k).sent = msgBlock 0x20 0 ∧
        t.host.reqPort = 9 - s.host.reqPort ∧
        Keeps s t [] [] [.host, .link, .marks]) ∧
    (s.host.boot = .peer → 10000000000 ≤ s.age .boot → 
      Does .bootPeerTimeout s fun t =>
        t.get R.HOST_BOOT.LAST_ERR = 9 ∧ (s.host.restart = false → t.host.boot = .host ∧ t.on R.SYS_STATE.BOOT_FAIL = true) ∧
        (s.host.restart = true → t.host.restart = false ∧ t.host.boot = .idle ∧ Raised s t E.CTL_RESTART 0) ∧
        Keeps s t ([R.HOST_BOOT.LAST_ERR, R.SYS_STATE.BOOT_FAIL, R.CTL_RESTART.RESTART] ++ evF) [] (evP.append [.host])) ∧
    (∀ (taskAt : Nat), Open s .event → votes s = true → 
      Does (.progVerify taskAt) s fun t =>
        t.on R.PROG_STAT.BUSY = true ∧ t.on R.PROG_STAT.IDLE_OK = false ∧ t.ctl.taskAt = (if 63 < taskAt % 256 then 0 else taskAt % 256) ∧
        Keeps s t [R.PROG_STAT.BUSY, R.PROG_STAT.IDLE_OK, R.PROG_CTRL.TASK_AT] [] [.ctl]) ∧
    (s.on R.PROG_STAT.BUSY = true → 
      Does .progVerifyDone s fun t =>
        let r := imageResult s (idleBase s) (4096 * s.ctl.taskAt) (if s.ctl.taskAt = 0 then 1 else 2)
        t.on R.PROG_STAT.BUSY = false ∧ (r ≠ rOTHER → t.get R.PROG_STAT.RESULT = r ∧ Raised s t E.PROG_VERIFY r) ∧ (r = rOTHER → t.get R.PROG_STAT.RESULT ≠ 0) ∧
        (r = 0 → t.on R.PROG_STAT.IDLE_OK = (s.ctl.taskAt == 0)) ∧ (r ≠ 0 → t.on R.PROG_STAT.IDLE_OK = s.on R.PROG_STAT.IDLE_OK) ∧
        Keeps s t ([R.PROG_STAT.BUSY, R.PROG_STAT.RESULT, R.PROG_STAT.IDLE_OK, R.PROG_IDLE_VER.VERSION] ++ evF) [] (evP.append [.freeCtr])) ∧
    (s.on R.PROG_STAT.BUSY = true → (imageResult s (idleBase s) (4096 * s.ctl.taskAt) (if s.ctl.taskAt = 0 then 1 else 2)) ≠ rOTHER → 
      Does .progVerifyDone s fun t =>
        let r := imageResult s (idleBase s) (4096 * s.ctl.taskAt) (if s.ctl.taskAt = 0 then 1 else 2)
        t.get R.PROG_STAT.RESULT = r ∧ Raised s t E.PROG_VERIFY r ∧
        t.on R.PROG_STAT.BUSY = false ∧
        Keeps s t ([R.PROG_STAT.BUSY, R.PROG_STAT.RESULT, R.PROG_STAT.IDLE_OK, R.PROG_IDLE_VER.VERSION] ++ evF) [] (evP.append [.freeCtr])) ∧
    (s.on R.PROG_STAT.BUSY = true → (imageResult s (idleBase s) (4096 * s.ctl.taskAt) (if s.ctl.taskAt = 0 then 1 else 2)) = 0 → 
      Does .progVerifyDone s fun t =>
        t.on R.PROG_STAT.IDLE_OK = (s.ctl.taskAt == 0) ∧
        t.on R.PROG_STAT.BUSY = false ∧
        Keeps s t ([R.PROG_STAT.BUSY, R.PROG_STAT.RESULT, R.PROG_STAT.IDLE_OK, R.PROG_IDLE_VER.VERSION] ++ evF) [] (evP.append [.freeCtr])) ∧
    (s.on R.PROG_STAT.BUSY = true → (imageResult s (idleBase s) (4096 * s.ctl.taskAt) (if s.ctl.taskAt = 0 then 1 else 2)) ≠ 0 → 
      Does .progVerifyDone s fun t =>
        t.on R.PROG_STAT.IDLE_OK = s.on R.PROG_STAT.IDLE_OK ∧
        t.on R.PROG_STAT.BUSY = false ∧
        Keeps s t ([R.PROG_STAT.BUSY, R.PROG_STAT.RESULT, R.PROG_STAT.IDLE_OK, R.PROG_IDLE_VER.VERSION] ++ evF) [] (evP.append [.freeCtr])) ∧
    (Open s .event → votes s = true → s.on R.PROG_STAT.IDLE_OK = true → 
      Does (.progSwitch 0x5EED) s fun t =>
        t.ctl.switchDue = true ∧ Keeps s t [] [] [.ctl]) ∧
    (Open s .event → votes s = true → s.on R.PROG_STAT.IDLE_OK = false → 
      Does (.progSwitch 0x5EED) s fun t =>
        t.ctl.switchDue = s.ctl.switchDue ∧ Raised s t E.PROG_SWITCH 256 ∧ Keeps s t evF [] evP) ∧
    (s.ctl.switchDue = true → ctlRuns s = true → 
      Does .progBankSwitch s fun t =>
        (∀ m < 3, chan t m = if m = excludedChan s then chan s m else (chan s m).start (1 - s.get R.PROG_STAT.RUN_BANK) 2) ∧
        t.get R.PROG_STAT.RUN_BANK = (1 - s.get R.PROG_STAT.RUN_BANK) % 2 ∧ t.on R.PROG_STAT.IDLE_OK = false ∧ t.ctl.switchDue = false ∧
        Raised s t E.PROG_SWITCH (1 - s.get R.PROG_STAT.RUN_BANK) ∧
        Keeps s t ([R.PROG_STAT.RUN_BANK, R.PROG_STAT.IDLE_OK, R.PROG_VER.VERSION] ++ evF) [] (evP.append [.ctl]))

/-- LC_ADVANCE moves DEVELOP with slots 0 and 3 fused, or PRODUCTION, to the next state; LC_ROLLBACK raises ROLLBACK to a
greater epoch of at most 127; LC_REVOKE revokes a slot while another fused one remains; LC_FUSE fuses an empty slot in
DEVELOP with KEY_HASH. A command refused shows its code in LC_REJ and changes nothing else but its event queue. (These four
need HOSTIF reached by a voting majority.) ID_POLL, outside RESET, with its 100 ms over and no read under way, begins a read
of an absent record on an ACK, and marks the record ABSENT at the third NACK in a row. ID_READ_DONE of a read shows the
bytes and marks the record GOOD or BAD. (Both clauses leave out a boot that waits for the optics.) ID_REREAD with HOSTIF
reached begins a read. SPI_START with HOSTIF reached, no command under way and the boot engine off the flash, sets BUSY and
sends the bytes of the command. SPI_DONE with as many bytes as the command reads clears BUSY and shows them in SPI_BUF. Each
clause names what else may change. -/
def Obligations.LifecycleOpticsFlash : Prop :=
  ∀ (s : State),
    (Open s .hostif → votes s = true → s.get R.HOST_LC.LC_STATE = 1 → bitOf (s.get R.HOST_LC.FUSED) 0 = true → bitOf (s.get R.HOST_LC.FUSED) 3 = true → 
      Does .lcAdvance s fun t =>
        t.get R.HOST_LC.LC_STATE = 2 ∧ Raised s t E.LC 1 ∧
        Keeps s t ([R.HOST_LC.LC_STATE, R.HOST_LC.LC_REJ] ++ evF) [] (evP.append [.ldg])) ∧
    (Open s .hostif → votes s = true → s.get R.HOST_LC.LC_STATE = 1 → (bitOf (s.get R.HOST_LC.FUSED) 0 = false ∨ bitOf (s.get R.HOST_LC.FUSED) 3 = false) → 
      Does .lcAdvance s fun t =>
        t.get R.HOST_LC.LC_REJ = 4 ∧ Raised s t E.LC (1 + 256) ∧ Keeps s t (R.HOST_LC.LC_REJ :: evF) [] evP) ∧
    (Open s .hostif → votes s = true → s.get R.HOST_LC.LC_STATE = 2 → 
      Does .lcAdvance s fun t =>
        t.get R.HOST_LC.LC_STATE = 3 ∧ t.ldg.blown = true ∧ Raised s t E.LC 1 ∧
        Keeps s t ([R.HOST_LC.LC_STATE, R.HOST_LC.LC_REJ] ++ evF) [] (evP.append [.ldg])) ∧
    (Open s .hostif → votes s = true → (s.get R.HOST_LC.LC_STATE = 0 ∨ s.get R.HOST_LC.LC_STATE = 3) → 
      Does .lcAdvance s fun t =>
        t.get R.HOST_LC.LC_REJ = 2 ∧ Raised s t E.LC (1 + 256) ∧ Keeps s t (R.HOST_LC.LC_REJ :: evF) [] evP) ∧
    (Open s .hostif → votes s = true → s.get R.HOST_LC.ROLLBACK < (s.get R.PROG_VER.VERSION / 65536) → (s.get R.PROG_VER.VERSION / 65536) ≤ 127 → 
      Does .lcRollback s fun t =>
        let v := s.get R.PROG_VER.VERSION / 65536
        t.get R.HOST_LC.ROLLBACK = v ∧ Raised s t E.LC 2 ∧ Keeps s t (R.HOST_LC.ROLLBACK :: evF) [] evP) ∧
    (Open s .hostif → votes s = true → ((s.get R.PROG_VER.VERSION / 65536) ≤ s.get R.HOST_LC.ROLLBACK ∨ 127 < (s.get R.PROG_VER.VERSION / 65536)) → 
      Does .lcRollback s fun t =>
        t.get R.HOST_LC.LC_REJ = 5 ∧ Raised s t E.LC (2 + 256) ∧ Keeps s t (R.HOST_LC.LC_REJ :: evF) [] evP) ∧
    (∀ (n : Nat), Open s .hostif → votes s = true → n ≤ 2 → (∃ j ∈ [0, 1, 2], j ≠ n ∧ slotFused s j = true ∧ slotRevoked s j = false) → 
      Does (.lcRevoke n) s fun t =>
        t.get R.HOST_LC.REVOKED = setBit (s.get R.HOST_LC.REVOKED) n % 16 ∧ Raised s t E.LC 3 ∧ Keeps s t (R.HOST_LC.REVOKED :: evF) [] evP) ∧
    (∀ (n : Nat), Open s .hostif → votes s = true → n ≤ 2 → ((∀ j ∈ [0, 1, 2], j = n ∨ slotFused s j = false ∨ slotRevoked s j = true)) → 
      Does (.lcRevoke n) s fun t =>
        t.get R.HOST_LC.LC_REJ = 4 ∧ Raised s t E.LC (3 + 256) ∧ Keeps s t (R.HOST_LC.LC_REJ :: evF) [] evP) ∧
    (∀ (n : Nat), Open s .hostif → votes s = true → 2 < n → 
      Does (.lcRevoke n) s fun t =>
        t.get R.HOST_LC.LC_REJ = 1 ∧ Raised s t E.LC (3 + 256) ∧ Keeps s t (R.HOST_LC.LC_REJ :: evF) [] evP) ∧
    (∀ (n : Nat), Open s .hostif → votes s = true → n ≤ 3 → s.get R.HOST_LC.LC_STATE = 1 → slotFused s n = false → 
      Does (.lcFuse n) s fun t =>
        slotFused t n = true ∧ slotHash t n = keyHash s ∧ Raised s t E.LC 4 ∧
          Keeps s t (R.HOST_LC.FUSED :: evF) [] (evP.append [.host])) ∧
    (∀ (n : Nat), Open s .hostif → votes s = true → 3 < n → 
      Does (.lcFuse n) s fun t =>
        t.get R.HOST_LC.LC_REJ = 1 ∧ Raised s t E.LC (4 + 256) ∧ Keeps s t (R.HOST_LC.LC_REJ :: evF) [] evP) ∧
    (∀ (n : Nat), Open s .hostif → votes s = true → n ≤ 3 → s.get R.HOST_LC.LC_STATE ≠ 1 → 
      Does (.lcFuse n) s fun t =>
        t.get R.HOST_LC.LC_REJ = 2 ∧ Raised s t E.LC (4 + 256) ∧ Keeps s t (R.HOST_LC.LC_REJ :: evF) [] evP) ∧
    (∀ (n : Nat), Open s .hostif → votes s = true → n ≤ 3 → s.get R.HOST_LC.LC_STATE = 1 → slotFused s n = true → 
      Does (.lcFuse n) s fun t =>
        t.get R.HOST_LC.LC_REJ = 3 ∧ Raised s t E.LC (4 + 256) ∧ Keeps s t (R.HOST_LC.LC_REJ :: evF) [] evP) ∧
    (∀ (c : Carrier) (ack : Bool), s.dev ≠ 0 → (s.time.marks.find (Timer.poll c).key = none ∨ 100000000 ≤ s.age (.poll c)) → s.host.reading.get c = false → s.host.boot ≠ .passed → ack = true → 
      Does (.idPoll c ack) s fun t =>
        t.host.nacks.get c = 0 ∧ (idState s c = 0 → t.host.reading.get c = true ∧ idState t c = 1) ∧
          (idState s c ≠ 0 → idState t c = idState s c) ∧
        Keeps s t ([R.ID_STAT.STATE_A, R.ID_STAT.STATE_B] ++ evF) [] (evP.append [.host, .marks])) ∧
    (∀ (c : Carrier) (ack : Bool), s.dev ≠ 0 → (s.time.marks.find (Timer.poll c).key = none ∨ 100000000 ≤ s.age (.poll c)) → s.host.reading.get c = false → s.host.boot ≠ .passed → ack = false → 
      Does (.idPoll c ack) s fun t =>
        t.host.nacks.get c = min 3 (s.host.nacks.get c + 1) ∧ (2 ≤ s.host.nacks.get c → idState t c = 0) ∧
          (s.host.nacks.get c < 2 → idState t c = idState s c) ∧
        Keeps s t ([R.ID_STAT.STATE_A, R.ID_STAT.STATE_B] ++ evF) [] (evP.append [.host, .marks])) ∧
    (∀ (c : Carrier) (b : List Nat), s.host.reading.get c = true → s.host.boot ≠ .passed → 
      Does (.idReadDone c b) s fun t =>
        t.host.reading.get c = false ∧
        idState t c = (if crc32 ((b ++ List.replicate 252 0).take 252) = leAt b 252 4 ∧ leAt b 48 2 = 0x0C01 then 2 else 3) ∧
        (∀ i < 64, t.get (wordAt (0x40404000 + 0x100 * c.num + 4 * i)) = leAt b (4 * i) 4 % 2 ^ 32) ∧
        Keeps s t ([R.ID_STAT.STATE_A, R.ID_STAT.STATE_B] ++ (List.range 64).map (fun i => wordAt (0x40404000 + 0x100 * c.num + 4 * i)) ++ evF) []
          (evP.append [.host])) ∧
    (∀ (c : Carrier), Open s .hostif → 
      Does (.idReread c) s fun t =>
        t.host.reading.get c = true ∧ (s.host.reading.get c = false → idState t c = 1) ∧
        Keeps s t ([R.ID_STAT.STATE_A, R.ID_STAT.STATE_B] ++ evF) [] (evP.append [.host])) ∧
    (Open s .hostif → s.on R.SPI_CMD.BUSY = false → s.host.boot ≠ .headers → s.host.boot ≠ .slot → 
      Does .spiStart s fun t => t.on R.SPI_CMD.BUSY = true ∧ t.host.spiOut = spiBytes s ∧
        t.host.spiIn = (if s.on R.SPI_CMD.DIR = true then min 256 (s.get R.SPI_CMD.LEN) else 0) ∧ Keeps s t [R.SPI_CMD.BUSY] [] [.host]) ∧
    (∀ (data : List Nat), s.on R.SPI_CMD.BUSY = true → s.host.spiIn ≤ data.length → 
      Does (.spiDone data) s fun t =>
        t.on R.SPI_CMD.BUSY = false ∧
        (s.host.spiIn ≤ 256 → ∀ i < s.host.spiIn, t.get (wordAt (0x40403000 + i / 4 * 4)) / 256 ^ (i % 4) % 256 = data.getD i 0 % 256) ∧
        Keeps s t (R.SPI_CMD.BUSY :: (List.range s.host.spiIn).map (fun i => wordAt (0x40403000 + i / 4 * 4))) [] [])

/-- With PD_DBG on and the port unlocked: RD and WR access a register on the Ubant path and answer its value or OK, or ERR.
MRD reads a word of the chosen channel; MWR, only while halted, writes it into all three; another address answers ERR. DRD
reads, and DWR writes, PC, g0 to g15 and s0 to s31 (writes only while halted), breakpoints and watchpoints; DWR of DCTRL
takes CH. With PD_DBG on: ID returns SYS_DEVID; where DBG_BLOCK is 0, CHAL returns a word of the challenge, RESP takes words
0 to 23, UNLOCK with a right response and no LOCKOUT sets UNLOCKED, with a wrong one counts FAILS and at three sets LOCKOUT,
each attempt drawing a new challenge. A locked port refuses RD, WR, MRD, MWR, DRD and DWR, and DBG_BLOCK refuses CHAL, RESP
and UNLOCK, with LOCKED. DATA that no rule gives is a free value (log entry 7). Each clause names what else may change. -/
def Obligations.UbantCommands : Prop :=
  ∀ (s : State),
    (∀ (addr : Nat), ubOn s = true → ubOpen s = true → 
      Does (.ubRd addr) s fun t =>
        (∀ v ∈ (busRead s 2 addr).2, t.host.ubOut = 2 ^ 32 + v % 2 ^ 32) ∧ ((busRead s 2 addr).2 = none → Says t 4) ∧
        Keeps (busRead s 2 addr).1 t [] [] [.host, .freeCtr]) ∧
    (∀ (addr v : Nat), ubOn s = true → ubOpen s = true → 
      Does (.ubWr addr v) s fun t =>
        Says t (if (busWrite s .ubant addr v).2 = true then 1 else 4) ∧ Keeps (busWrite s .ubant addr v).1 t [] [] [.host, .freeCtr]) ∧
    (∀ (addr : Nat), ubOn s = true → ubOpen s = true → 
      Does (.ubMrd addr) s fun t =>
        (addr % 4 = 0 → (inProg addr 4 = true ∨ inData addr 4 = true) → s.host.dbgCh < 3 →
          t.host.ubOut = 2 ^ 32 + memLe (chan s s.host.dbgCh).mem addr 4 % 2 ^ 32) ∧
        (addr % 4 ≠ 0 ∨ (inProg addr 4 = false ∧ inData addr 4 = false) → Says t 4) ∧ Keeps s t [] [] [.host, .freeCtr]) ∧
    (∀ (addr v : Nat), ubOn s = true → ubOpen s = true → 
      Does (.ubMwr addr v) s fun t =>
        (halted s = true → addr % 4 = 0 → (inProg addr 4 = true ∨ inData addr 4 = true) →
          Says t 1 ∧ ∀ m < 3, chan t m = { chan s m with mem := memPutLe (chan s m).mem addr 4 v }) ∧
        (halted s = false ∨ addr % 4 ≠ 0 ∨ (inProg addr 4 = false ∧ inData addr 4 = false) → Says t 4 ∧ Keeps s t [] [] [.host, .freeCtr]) ∧
        Keeps s t ([R.PROG_STAT.BUSY, R.PROG_STAT.RESULT, R.PROG_STAT.IDLE_OK] ++ evF) [] (evP.append [.host, .freeCtr, .ctl])) ∧
    (∀ (n : Nat), ubOn s = true → ubOpen s = true → 
      Does (.ubDrd n) s fun t =>
        (∀ v ∈ debugRead s n, t.host.ubOut = 2 ^ 32 + v % 2 ^ 32) ∧ (debugRead s n = none → Says t 4) ∧
        (0x10 ≤ n → n < 0x20 → s.host.dbgCh < 3 → t.host.ubOut = 2 ^ 32 + (chan s s.host.dbgCh).gr (n - 0x10) % 2 ^ 32) ∧
        (n = 2 → t.host.ubOut = 2 ^ 32 + (lead s).pc % 2 ^ 32) ∧ (n ≠ 0x2E → t.ctl = s.ctl) ∧
        Keeps s t [] [] [.host, .freeCtr, .ctl]) ∧
    (∀ (n v : Nat), ubOn s = true → ubOpen s = true → 
      Does (.ubDwr n v) s fun t =>
        (halted s = true → n = 2 → Says t 1 ∧ ∀ m < 3, chan t m = (chan s m).goto (v % 2 ^ 32)) ∧
        (halted s = true → 0x10 ≤ n → n < 0x20 → Says t 1 ∧ ∀ m < 3, chan t m = (chan s m).setG (n - 0x10) (v % 2 ^ 32)) ∧
        (halted s = true → 0x20 ≤ n → n < 0x40 → Says t 1 ∧ ∀ m < 3, chan t m = (chan s m).sregWrite (n - 0x20) (v % 2 ^ 32)) ∧
        (0x40 ≤ n → n < 0x44 → Says t 1 ∧ t.host.bp.get (n - 0x40) = (v % 2 ^ 32) &&& 0xFFFFFFFD ∧ Keeps s t [] [] [.host, .freeCtr]) ∧
        (n = 0x44 ∨ n = 0x45 → Says t 1 ∧ t.host.wp.get (n - 0x44) = v % 2 ^ 32 ∧ Keeps s t [] [] [.host, .freeCtr]) ∧
        (halted s = false → 1 ≤ n → n < 0x40 → Says t 4 ∧ Keeps s t [] [] [.host, .freeCtr]) ∧ (n = 1 ∨ 0x46 ≤ n → Says t 4 ∧ Keeps s t [] [] [.host, .freeCtr]) ∧
        (n = 0 → Says t 1 ∧ t.host.dbgCh = v / 16 % 4 ∧ (v % 8 = 0 → Keeps s t [] [] [.host, .freeCtr])) ∧
        (n ≠ 0 → Keeps s t [] [] [.host, .freeCtr, .ctl]) ∧ Keeps s t (R.UB_STAT.HALTED :: evF) [] (evP.append [.host, .freeCtr, .ctl])) ∧
    (ubOn s = true → 
      Does .ubId s fun t => t.host.ubOut = 2 ^ 32 + s.get R.SYS_DEVID.DEVICE_ID % 2 ^ 32 ∧ Keeps s t [] [] [.host]) ∧
    (∀ (addr : Nat), ubOn s = true → s.on R.UB_CTRL.DBG_BLOCK = false → 
      Does (.ubChal addr) s fun t =>
        t.host.ubOut = 2 ^ 32 + s.host.chal / 2 ^ (32 * (addr % 4)) % 2 ^ 32 ∧ Keeps s t [] [] [.host]) ∧
    (∀ (addr v : Nat), ubOn s = true → s.on R.UB_CTRL.DBG_BLOCK = false → 
      Does (.ubResp addr v) s fun t =>
        (addr % 32 < 24 → Says t 1 ∧ t.host.resp.get (addr % 32) = v % 2 ^ 32 ∧ ∀ j < 24, j ≠ addr % 32 → t.host.resp.get j = s.host.resp.get j) ∧
        (24 ≤ addr % 32 → Says t 4 ∧ t.host.resp = s.host.resp) ∧ Keeps s t [] [] [.host, .freeCtr]) ∧
    (ubOn s = true → s.on R.UB_CTRL.DBG_BLOCK = false → 
      Does .ubUnlock s fun t =>
        t.host.chal = s.free % 2 ^ 128 ∧
        (s.on R.UB_STAT.LOCKOUT = false → unlockOk s = true → t.on R.UB_STAT.UNLOCKED = true ∧ Says t 1 ∧ Raised s t E.UB_UNLOCK 1) ∧
        (unlockOk s = false → Says t 4 ∧ t.get R.UB_STAT.FAILS = satTo 4 (s.get R.UB_STAT.FAILS + 1) ∧ t.on R.UB_STAT.UNLOCKED = s.on R.UB_STAT.UNLOCKED ∧
          (2 ≤ s.get R.UB_STAT.FAILS → t.on R.UB_STAT.LOCKOUT = true) ∧
          Raised s t E.UB_UNLOCK (256 * t.get R.UB_STAT.LOCKOUT)) ∧
        (s.on R.UB_STAT.LOCKOUT = true → t.on R.UB_STAT.LOCKOUT = true ∧ t.on R.UB_STAT.UNLOCKED = s.on R.UB_STAT.UNLOCKED ∧ Says t 4) ∧
        Keeps s t ([R.UB_STAT.UNLOCKED, R.UB_STAT.FAILS, R.UB_STAT.LOCKOUT] ++ evF) [] (evP.append [.host, .freeCtr])) ∧
    (∀ (addr : Nat), ubOn s = true → ubOpen s = false → 
      Does (.ubRd addr) s fun t => Says t 7 ∧ Keeps s t [] [] [.host, .freeCtr]) ∧
    (∀ (addr v : Nat), ubOn s = true → ubOpen s = false → 
      Does (.ubWr addr v) s fun t => Says t 7 ∧ Keeps s t [] [] [.host, .freeCtr]) ∧
    (∀ (addr : Nat), ubOn s = true → ubOpen s = false → 
      Does (.ubMrd addr) s fun t => Says t 7 ∧ Keeps s t [] [] [.host, .freeCtr]) ∧
    (∀ (addr v : Nat), ubOn s = true → ubOpen s = false → 
      Does (.ubMwr addr v) s fun t => Says t 7 ∧ Keeps s t [] [] [.host, .freeCtr]) ∧
    (∀ (n : Nat), ubOn s = true → ubOpen s = false → 
      Does (.ubDrd n) s fun t => Says t 7 ∧ Keeps s t [] [] [.host, .freeCtr]) ∧
    (∀ (n v : Nat), ubOn s = true → ubOpen s = false → 
      Does (.ubDwr n v) s fun t => Says t 7 ∧ Keeps s t [] [] [.host, .freeCtr]) ∧
    (∀ (addr : Nat), ubOn s = true → s.on R.UB_CTRL.DBG_BLOCK = true → 
      Does (.ubChal addr) s fun t => Says t 7 ∧ Keeps s t [] [] [.host, .freeCtr]) ∧
    (∀ (addr v : Nat), ubOn s = true → s.on R.UB_CTRL.DBG_BLOCK = true → 
      Does (.ubResp addr v) s fun t => Says t 7 ∧ Keeps s t [] [] [.host, .freeCtr]) ∧
    (ubOn s = true → s.on R.UB_CTRL.DBG_BLOCK = true → 
      Does .ubUnlock s fun t => Says t 7 ∧ Keeps s t [] [] [.host, .freeCtr])

/-- With PD_DBG on and the port unlocked, DBG_HALT_REQ on running channels halts them with reason 1 and EV_UB_HALT, and
during RESYNC is kept in haltDue; DBG_RESUME clears HALTED; DBG_STEP of halted channels lets the next instruction run. With
PD_DBG on, DBG_BREAKPOINT at an enabled breakpoint of the PC of channels that may run halts with reason 2, DBG_WATCHPOINT of
an enabled watchpoint of the word and kind of access with reason 3; where no enabled one matches nothing changes. BYPASS,
IDCODE and SAMPLE/PRELOAD always load; EXTEST, CLAMP, HIGHZ, EXTEST_PULSE and EXTEST_TRAIN load only in RESET and BOOT, and
elsewhere BYPASS loads and EV_JTAG_REFUSED is raised. Each clause names what else may change. -/
def Obligations.DebugAndJtag : Prop :=
  ∀ (s : State),
    (ubOn s = true → ubOpen s = true → ctlRuns s = true → halted s = false → 
      Does .dbgHaltReq s fun t => t.on R.UB_STAT.HALTED = true ∧ t.host.dbgReason = 1 ∧ Raised s t E.UB_HALT 1 ∧ t.ctl.chans = s.ctl.chans ∧ Keeps s t ([R.UB_STAT.HALTED] ++ evF) [] (evP.append [.host, .freeCtr])) ∧
    (ubOn s = true → ubOpen s = true → s.vote = vRESYNC → halted s = false → 
      Does .dbgHaltReq s fun t => t.ctl.haltDue = true ∧ t.on R.UB_STAT.HALTED = false ∧ Keeps s t [] [] [.host, .freeCtr, .ctl]) ∧
    (ubOn s = true → ubOpen s = true → 
      Does .dbgResume s fun t =>
        t.on R.UB_STAT.HALTED = false ∧ (halted s = true → t.host.step = false) ∧ Keeps s t [R.UB_STAT.HALTED] [] [.host, .freeCtr]) ∧
    (ubOn s = true → ubOpen s = true → halted s = true → 
      Does .dbgStep s fun t =>
        t.host.step = true ∧
        Keeps s t [] [] [.host, .freeCtr]) ∧
    (ubOn s = true → ubOpen s = true → halted s = false → 
      Does .dbgStep s fun t =>
        t.host.step = s.host.step ∧
        Keeps s t [] [] [.host, .freeCtr]) ∧
    (∀ (i : Nat), i < 4 → ubOn s = true → mayRun s = true → halted s = false → bitOf (s.host.bp.get i) 0 = true → s.host.bp.get i / 4 = (lead s).pc / 4 → 
      Does (.dbgBreakpoint i) s fun t => t.on R.UB_STAT.HALTED = true ∧ t.host.dbgReason = 2 ∧ Raised s t E.UB_HALT 2 ∧ t.ctl.chans = s.ctl.chans ∧ Keeps s t ([R.UB_STAT.HALTED] ++ evF) [] (evP.append [.host])) ∧
    (∀ (i : Nat), (4 ≤ i ∨ bitOf (s.host.bp.get i) 0 = false ∨ s.host.bp.get i / 4 ≠ (lead s).pc / 4) → 
      Does (.dbgBreakpoint i) s fun t => t = s) ∧
    (∀ (i addr : Nat) (store : Bool), i < 2 → ubOn s = true → ctlRuns s = true → halted s = false → bitOf (s.host.wp.get i) (if store = true then 1 else 0) = true → s.host.wp.get i / 4 = addr / 4 → 
      Does (.dbgWatchpoint i addr store) s fun t => t.on R.UB_STAT.HALTED = true ∧ t.host.dbgReason = 3 ∧ Raised s t E.UB_HALT 3 ∧ t.ctl.chans = s.ctl.chans ∧ Keeps s t ([R.UB_STAT.HALTED] ++ evF) [] (evP.append [.host])) ∧
    (∀ (i addr : Nat) (store : Bool), (2 ≤ i ∨ bitOf (s.host.wp.get i) (if store = true then 1 else 0) = false ∨ s.host.wp.get i / 4 ≠ addr / 4) → 
      Does (.dbgWatchpoint i addr store) s fun t => t = s) ∧
    (
      Does .jtagBypass s fun t => t.host.ir = irBYPASS ∧ Keeps s t [] [] [.host]) ∧
    (
      Does .jtagIdcode s fun t => t.host.ir = irIDCODE ∧ Keeps s t [] [] [.host]) ∧
    (
      Does .jtagSamplePreload s fun t => t.host.ir = irSAMPLE ∧ Keeps s t [] [] [.host]) ∧
    ((s.dev = 0 ∨ s.dev = stBOOT) → 
      Does .jtagExtest s fun t =>
        t.host.ir = irEXTEST ∧ Keeps s t [] [] [.host]) ∧
    (s.dev ≠ 0 → s.dev ≠ stBOOT → 
      Does .jtagExtest s fun t =>
        t.host.ir = irBYPASS ∧ Raised s t E.JTAG_REFUSED 0 ∧ Keeps s t evF [] (evP.append [.host])) ∧
    ((s.dev = 0 ∨ s.dev = stBOOT) → 
      Does .jtagClamp s fun t =>
        t.host.ir = irCLAMP ∧ Keeps s t [] [] [.host]) ∧
    (s.dev ≠ 0 → s.dev ≠ stBOOT → 
      Does .jtagClamp s fun t =>
        t.host.ir = irBYPASS ∧ Raised s t E.JTAG_REFUSED 0 ∧ Keeps s t evF [] (evP.append [.host])) ∧
    ((s.dev = 0 ∨ s.dev = stBOOT) → 
      Does .jtagHighz s fun t =>
        t.host.ir = irHIGHZ ∧ Keeps s t [] [] [.host]) ∧
    (s.dev ≠ 0 → s.dev ≠ stBOOT → 
      Does .jtagHighz s fun t =>
        t.host.ir = irBYPASS ∧ Raised s t E.JTAG_REFUSED 0 ∧ Keeps s t evF [] (evP.append [.host])) ∧
    ((s.dev = 0 ∨ s.dev = stBOOT) → 
      Does .jtagExtestPulse s fun t =>
        t.host.ir = irPULSE ∧ Keeps s t [] [] [.host]) ∧
    (s.dev ≠ 0 → s.dev ≠ stBOOT → 
      Does .jtagExtestPulse s fun t =>
        t.host.ir = irBYPASS ∧ Raised s t E.JTAG_REFUSED 0 ∧ Keeps s t evF [] (evP.append [.host])) ∧
    ((s.dev = 0 ∨ s.dev = stBOOT) → 
      Does .jtagExtestTrain s fun t =>
        t.host.ir = irTRAIN ∧ Keeps s t [] [] [.host]) ∧
    (s.dev ≠ 0 → s.dev ≠ stBOOT → 
      Does .jtagExtestTrain s fun t =>
        t.host.ir = irBYPASS ∧ Raised s t E.JTAG_REFUSED 0 ∧ Keeps s t evF [] (evP.append [.host]))

/-- CLK_MUX_SEL_WRITE, with CLK reached, of a reserved SEL value, of a source whose PLL is not locked, or while SWITCHING
reads 1: SEL keeps its value and SEL_REJ is set; EV_MUX_REJ is in the queue with the number of the mux where its ID is
unmasked, not pending, and the queue has room for an ordinary event. A mux never comes to wait for a clock that has not
started: wherever the write leaves SWITCHING at 1 and it read 0 before, SEL names the crystal or a locked PLL. Each clause
names what else may change. -/
def Obligations.MuxSelectionRefused : Prop :=
  ∀ (s : State) (n sel : Nat),
    n < 8 →
    sel < 4 →
    Open s .clk →
    (selRefused s n sel → 
      Does (.clkMuxSelWrite n sel) s fun t =>
        t.get (R.CLK_MUX.SEL.ix n) = s.get (R.CLK_MUX.SEL.ix n) ∧ t.on (R.CLK_MUX.SEL_REJ.ix n) = true ∧
        (s.masked E.MUX_REJ = false → s.ev.pendingId E.MUX_REJ = false → s.ev.ordinary < 63 →
          ∃ e ∈ t.ev.entries, e.id = E.MUX_REJ ∧ e.data = n) ∧
        Keeps s t (lvF ++ [R.CLK_MUX.SEL_REJ.ix n]) [] lvP) ∧
    (
      Does (.clkMuxSelWrite n sel) s fun t =>
        (t.on (R.CLK_MUX.SWITCHING.ix n) = true → s.on (R.CLK_MUX.SWITCHING.ix n) = false →
        (t.get (R.CLK_MUX.SEL.ix n) = 2 ∨ bitOf (t.get R.CLK_PLL_STAT.LOCK) (muxPll n) = true)) ∧
        Keeps s t lvF [.clk] lvP)

/-- VCHK, where an instruction runs, with its fixed bits 0, completes: each channel that carries control holds STATE in bits
31 to 30, EXCLUDED in bits 29 to 28 and CAUSE in bits 27 to 24 of gd, other bits 0 (g0 reads 0), the same value in all of
them; it takes no exception, PC moves on by 4, and no register of the device is accessed. -/
def Obligations.VchkReadsTheVoter : Prop :=
  ∀ (s : State) (gd : BitVec 4),
    Ready s →
    
      Does (.vchk gd 0) s fun t =>
        (∀ m < 3, m ≠ excludedChan s →
          (chan t m).rd gd = (if gd = 0 then 0 else BitVec.ofNat 32 (s.get R.VOTE_STAT.STATE % 4 * 2 ^ 30 +
            s.get R.VOTE_STAT.EXCLUDED % 4 * 2 ^ 28 + s.get R.VOTE_STAT.CAUSE % 16 * 2 ^ 24)) ∧
          (∀ r < 16, r ≠ gd.toNat → (chan t m).gr r = (chan s m).gr r) ∧ (chan t m).pc = ((chan s m).pc + 4) % 2 ^ 32 ∧
          (∀ n < 32, n ≠ 12 → (chan t m).sreg n = (chan s m).sreg n) ∧ (chan t m).mem = (chan s m).mem) ∧
        Keeps s t [] [.perf] [.ctl, .wake]

/-- MADC_RESULT of a raw result of 24 bits while MADC runs and the time of its next result has come: DATA, as a signed
number, is an integer nearest to (raw - OFS) * GAIN / 2^22 of the converted channel, held within 24 bits; a calibration
command in progress that has fewer than eight results adds the raw result. Beside DATA, CH, NEW, OVR, SETTLED and the
calibration sum nothing else but the time mark of the result changes. -/
def Obligations.MonitorCorrection : Prop :=
  ∀ (s : State) (raw : Int),
    s.running .madc = true →
    madcPeriod s ≤ s.age .madc →
    -8388608 ≤ raw →
    raw ≤ 8388607 →
    
      Does (.madcResult raw) s fun t =>
        (let x := (raw - toSigned 24 (s.get (R.MADC_OFS.OFS.ix (s.get R.MADC_STAT.CH_ACT)))) * s.get (R.MADC_GAIN.GAIN.ix (s.get R.MADC_STAT.CH_ACT))
         ∃ q : Int, 2 * (q * 4194304 - x) ≤ 4194304 ∧ 2 * (x - q * 4194304) ≤ 4194304 ∧
          toSigned 24 (t.get R.MADC_DATA.DATA) = max (-8388608) (min 8388607 q)) ∧
        (s.pwr.cal.isSome = true → s.pwr.calN < 8 → t.pwr.calSum = s.pwr.calSum + raw ∧ t.pwr.calN = s.pwr.calN + 1) ∧
        Keeps s t ([R.MADC_DATA.DATA, R.MADC_DATA.CH, R.MADC_DATA.NEW, R.MADC_DATA.OVR, R.MADC_STAT.SETTLED]) [] [.pwr, .marks]

/-- Every instruction command but ERET answers a next state from every state. In it no channel that was at supervisor level
is at task level; a channel that was at task level and is at supervisor level stands at the vector of an exception, with EXC
set, or, where it was within an exception already, has started again after a double fault, with PC from the image of its
bank. -/
def Obligations.PrivilegeLevels : Prop :=
  ∀ (s : State) (i : Instr) (m : Nat),
    isInstruction i = true →
    m < 3 →
    
      Does i s fun t =>
        ((chan s m).task = false → (chan t m).task = false) ∧
        ((chan s m).task = true → (chan t m).task = false → AtVector (chan t m) ∨ ((chan s m).exc = true ∧ (chan t m).sreg 18 % 256 = 3))

/-- Raising an event: of a pending ID, its entry counts one more, at most 255, and no entry is added; of a masked ID that is
not pending, nothing changes; otherwise, with fewer than 63 ordinary entries, an entry with COUNT 1, the data and the AON
time is added at the tail. An ordinary event that finds 63 ordinary entries adds no entry of its own: LOST_TOTAL counts it,
and EV_LOST, where it is neither pending nor masked, is queued with the ID lost as data. A queue whose IDs occur once and
that holds at most 63 ordinary entries stays so and holds at most 64. Nothing changes but the queue, its status, the wake
latch and the messages to the host. -/
def Obligations.EventQueue : Prop :=
  ∀ (s : State) (id data : Nat),
    (s.ev.pendingId id = true → 
      (s.raise id data).ev.entries = s.ev.entries.map (fun e => if e.id = id then { e with count := min 255 (e.count + 1) } else e)) ∧
    (s.ev.pendingId id = false → s.masked id = true → 
      s.raise id data = s) ∧
    (s.ev.pendingId id = false → s.masked id = false → (s.ev.ordinary < 63 ∨ id = E.LOST) → 
      (s.raise id data).ev.entries = s.ev.entries ++ [⟨id, 1, data % 2 ^ 32, s.time.aon⟩]) ∧
    (s.ev.pendingId id = false → s.masked id = false → 63 ≤ s.ev.ordinary → id ≠ E.LOST → 
      (s.raise id data).get R.EV_STAT.LOST_TOTAL = satTo R.EV_STAT.LOST_TOTAL.width (s.get R.EV_STAT.LOST_TOTAL + 1) ∧
        (s.raise id data).ev.pendingId id = false ∧
        (s.ev.pendingId E.LOST = false → s.masked E.LOST = false →
          (s.raise id data).ev.entries = s.ev.entries ++ [⟨E.LOST, 1, id, s.time.aon⟩])) ∧
    (oncePerId s.ev → s.ev.ordinary ≤ 63 → 
      oncePerId (s.raise id data).ev ∧ (s.raise id data).ev.ordinary ≤ 63 ∧ (s.raise id data).ev.entries.length ≤ 64) ∧
    (
      Keeps s (s.raise id data) evF [] evP)

/-- A general register written reads what was written, but g0 reads 0, and every other general register reads as before. The
low n bytes of a value, written little-endian from an address on, read back as that value modulo 256 to the n, and every
byte outside them reads as before. -/
def Obligations.RegistersAndMemoryReadBack : Prop :=
  ∀ (c : Chan),
    (∀ (a d : BitVec 4) (v : BitVec 32), 
      (c.wr d v).rd a = (if a = 0 then 0 else if a = d then v else c.rd a) ∧ (c.wr d v).pc = c.pc ∧ (c.wr d v).mem = c.mem ∧ (c.wr d v).sr = c.sr) ∧
    (∀ (a n v : Nat), 
      memLe (memPutLe c.mem a n v) a n = v % 256 ^ n ∧ ∀ b, (b < a ∨ a + n ≤ b → memByte (memPutLe c.mem a n v) b = memByte c.mem b))

/-- For every command c and state s, the step of s with c at the front of its queue is exec of c on s with the rest of the
queue. On an empty queue the step answers a next state with the queue still empty, in which AON time is 20 ns later, modulo
2^48 (the model's choice for a tick: log entry 1). -/
def Obligations.StepRunsTheFrontCommand : Prop :=
  ∀ (s : State),
    (∀ (c : Instr) (rest : List Instr), s.pending = c :: rest → step s = exec c { s with pending := rest }) ∧
    (s.pending = [] → ∃ t, step s = .next t ∧ t.pending = [] ∧ t.time.aon = (s.time.aon + 20) % 2 ^ 48)

/-- From every state, each of the 392 commands, that is every constructor of Instr with every value of its operands, answers
a next state, which holds the same waiting commands. From every state, whatever commands wait, every number k of steps up to
the length of the queue meets no fault and no refusal, and leaves exactly the commands after the first k waiting; after as
many steps as commands wait the queue is empty. -/
def Obligations.RunsServeTheQueue : Prop :=
  ∀ (s : State),
    (∀ i : Instr, ∃ t : State, exec i s = .next t ∧ t.pending = s.pending) ∧
    ∀ k : Nat, k ≤ s.pending.length →
      ∃ t : State, Host.Core.run Sys2Proof.core k s = .next t ∧ t.pending = s.pending.drop k

/-- For every state with three channels, each of whose SRAMs lists strictly rising addresses and no byte 0, if the step
answers a next state, that state again has three channels and each SRAM that form, so that equal memories are equal data
(the form is the model's: log entry 5). -/
def Obligations.ControlMemoryStaysCanonical : Prop :=
  ∀ (s t : State), ctlMemWf s → step s = .next t → ctlMemWf t

/-- In the state after reset: the device is in BOOT (log entry 3); the device ID is 0x5A1740B0; domains 0 to 4 alone are
enabled and on; every block that never stops runs and no other block runs; the voter is in TMR with no channel excluded; the
event queue is empty with no event masked and nothing lost; no domain of time is valid; BAND is mid; GOOD of every rail
reads 1; the unit holds no claim and no transmit enable; the queue of commands is empty; the SRAMs of the three channels
list nothing (log entry 5) and have their canonical form. -/
def Obligations.ResetLeaves : Prop :=
  let s := State.reset
  s.dev = stBOOT ∧ s.get R.SYS_DEVID.DEVICE_ID = 0x5A1740B0 ∧
  s.get R.PWR_DOM_EN.EN = 0x1F ∧ s.get R.PWR_DOM_STAT.ON = 0x1F ∧
  (∀ b ∈ allBlks, s.running b = alwaysRuns b) ∧
  s.vote = vTMR ∧ s.get R.VOTE_STAT.EXCLUDED = 3 ∧
  s.ev.entries = [] ∧ s.get R.EV_STAT.LOST_TOTAL = 0 ∧ (∀ id < 352, s.masked id = false) ∧
  domValid s 0 = false ∧ domValid s 1 = false ∧ s.get R.PWR_STAT.BAND = 1 ∧ s.get R.PWR_RAIL.GOOD = 0x3FF ∧
  s.on R.PAIR_STAT.OWN_CLAIM = false ∧ s.pair.txEnable = false ∧ s.pending = [] ∧
  (∀ m < 3, (chan s m).mem = []) ∧ ctlMemWf s
end

