-- ==== Sys2Proof/Laws/Store.lean ====
section
/-! SUPPORT. The laws of `Map`: what a read gives after a write, for every table, and that every operation keeps the
canonical form. -/

namespace Sys2Proof.Machine

variable {α : Type}

@[simp] theorem Map.find_nil (i : Nat) : Map.find ([] : Map α) i = none := rfl

theorem Map.find_erase_same (m : Map α) (i : Nat) : (Map.erase m i).find i = none := by
  induction m with
  | nil => rfl
  | cons p m ih =>
    obtain ⟨k, v⟩ := p
    by_cases h : k = i
    · simpa [Map.erase, h] using ih
    · simpa [Map.erase, Map.find, h] using ih

theorem Map.find_filter_ne (m : Map α) (q : Nat × α → Bool) (i : Nat) (h : ∀ v, q (i, v) = true) :
    Map.find (m.filter q) i = Map.find m i := by
  induction m with
  | nil => rfl
  | cons p m ih =>
    obtain ⟨k, v⟩ := p
    by_cases hk : k = i
    · subst hk; simp [h v, Map.find]
    · cases hq : q (k, v) <;> simp [hq, Map.find, hk, ih]

theorem Map.find_filter_out (m : Map α) (q : Nat × α → Bool) (i : Nat) (h : ∀ v, q (i, v) = false) :
    Map.find (m.filter q) i = none := by
  induction m with
  | nil => rfl
  | cons p m ih =>
    obtain ⟨k, v⟩ := p
    by_cases hk : k = i
    · subst hk; simpa [List.filter_cons, h v] using ih
    · cases hq : q (k, v) <;> simp [hq, Map.find, hk, ih]

theorem Map.find_erase_ne (m : Map α) {i j : Nat} (h : j ≠ i) : (Map.erase m i).find j = m.find j :=
  Map.find_filter_ne m _ j (by simp [h])

theorem Map.find_insert_same (m : Map α) (i : Nat) (v : α) (h : m.find i = none) :
    (Map.insert m i v).find i = some v := by
  induction m with
  | nil => simp [Map.insert, Map.find]
  | cons p m ih =>
    obtain ⟨k, w⟩ := p
    by_cases hk : k = i
    · simp [Map.find, hk] at h
    · simp only [Map.find, hk, if_false] at h
      by_cases hlt : i < k
      · simp [Map.insert, hlt, Map.find]
      · simp [Map.insert, hlt, Map.find, hk, ih h]

theorem Map.find_insert_ne (m : Map α) {i j : Nat} (v : α) (h : j ≠ i) :
    (Map.insert m i v).find j = m.find j := by
  induction m with
  | nil => simp [Map.insert, Map.find, h.symm]
  | cons p m ih =>
    obtain ⟨k, w⟩ := p
    by_cases hlt : i < k
    · simp [Map.insert, hlt, Map.find, h.symm]
    · by_cases hk : k = j
      · subst hk; simp [Map.insert, hlt, Map.find]
      · simp [Map.insert, hlt, Map.find, hk, ih]

@[simp] theorem Map.find_put_same (m : Map α) (i : Nat) (v : α) : (Map.put m i v).find i = some v :=
  Map.find_insert_same _ _ _ (Map.find_erase_same m i)

theorem Map.find_put_ne (m : Map α) {i j : Nat} (v : α) (h : j ≠ i) : (Map.put m i v).find j = m.find j := by
  rw [Map.put, Map.find_insert_ne _ _ h, Map.find_erase_ne _ h]

@[simp] theorem Map.get_set_same (m : Map Nat) (i v : Nat) : (Map.set m i v).get i = v := by
  unfold Map.set Map.get
  split
  · simp [Map.find_erase_same, *]
  · simp

theorem Map.get_set_ne (m : Map Nat) {i j : Nat} (v : Nat) (h : j ≠ i) : (Map.set m i v).get j = m.get j := by
  unfold Map.set Map.get
  split
  · rw [Map.find_erase_ne _ h]
  · rw [Map.find_put_ne _ _ h]

theorem Map.find_append (a b : Map α) (i : Nat) :
    Map.find (a ++ b) i = (Map.find a i).or (Map.find b i) := by
  induction a with
  | nil => simp [Map.find]
  | cons p a ih =>
    obtain ⟨k, v⟩ := p
    by_cases hk : k = i <;> simp [Map.find, hk, ih]

/-- After restoring a range of keys: inside it the source is read, outside it nothing changed. -/
theorem Map.find_restore (lo hi : Nat) (h : lo ≤ hi) (src m : Map α) (i : Nat) :
    (Map.restore lo hi src m).find i = if lo ≤ i ∧ i < hi then src.find i else m.find i := by
  unfold Map.restore
  rw [Map.find_append, Map.find_append]
  by_cases h1 : i < lo
  · have e1 := Map.find_filter_ne m (fun p => decide (p.1 < lo)) i (by simp [h1])
    have e2 := Map.find_filter_out src (fun p => decide (lo ≤ p.1 ∧ p.1 < hi)) i (by intro v; simp; omega)
    have e3 := Map.find_filter_out m (fun p => decide (hi ≤ p.1)) i (by intro v; simp; omega)
    rw [e1, e2, e3, if_neg (by omega)]; simp
  · have e1 := Map.find_filter_out m (fun p => decide (p.1 < lo)) i (by intro v; simp; omega)
    by_cases h2 : i < hi
    · have e2 := Map.find_filter_ne src (fun p => decide (lo ≤ p.1 ∧ p.1 < hi)) i (by intro v; simp; omega)
      have e3 := Map.find_filter_out m (fun p => decide (hi ≤ p.1)) i (by intro v; simp; omega)
      rw [e1, e2, e3, if_pos (by omega)]; simp
    · have e2 := Map.find_filter_out src (fun p => decide (lo ≤ p.1 ∧ p.1 < hi)) i (by intro v; simp; omega)
      have e3 := Map.find_filter_ne m (fun p => decide (hi ≤ p.1)) i (by intro v; simp; omega)
      rw [e1, e2, e3, if_neg (by omega)]; simp

theorem Map.get_restore (lo hi : Nat) (h : lo ≤ hi) (src m : Map Nat) (i : Nat) :
    (Map.restore lo hi src m).get i = if lo ≤ i ∧ i < hi then src.get i else m.get i := by
  unfold Map.get
  rw [Map.find_restore lo hi h]
  split <;> rfl

/-! The canonical form. -/

theorem Map.sorted_iff (m : Map α) : m.sorted = true ↔ m.Pairwise (fun a b => a.1 < b.1) := by
  induction m with
  | nil => simp [Map.sorted]
  | cons p m ih =>
    cases m with
    | nil => simp [Map.sorted]
    | cons q m =>
      obtain ⟨k, v⟩ := p
      obtain ⟨k', w⟩ := q
      simp only [Map.sorted, Bool.and_eq_true, decide_eq_true_eq, ih]
      constructor
      · rintro ⟨h, hp⟩
        refine List.Pairwise.cons ?_ hp
        intro b hb
        rcases List.mem_cons.1 hb with rfl | hb
        · exact h
        · exact Nat.lt_trans h ((List.pairwise_cons.1 hp).1 b hb)
      · intro hp
        have h := List.pairwise_cons.1 hp
        exact ⟨h.1 (k', w) (by simp), h.2⟩

theorem Map.sorted_filter (m : Map α) (q : Nat × α → Bool) (h : m.sorted = true) :
    Map.sorted (m.filter q) = true :=
  (Map.sorted_iff _).2 (((Map.sorted_iff m).1 h).filter q)

theorem Map.mem_insert (m : Map α) (i : Nat) (v : α) (b : Nat × α) (hb : b ∈ Map.insert m i v) :
    b = (i, v) ∨ b ∈ m := by
  induction m with
  | nil => simpa [Map.insert] using hb
  | cons p m ih =>
    obtain ⟨k, w⟩ := p
    by_cases hlt : i < k
    · simpa [Map.insert, hlt] using hb
    · rw [Map.insert, if_neg hlt] at hb
      rcases List.mem_cons.1 hb with rfl | hb
      · exact .inr (by simp)
      · rcases ih hb with h | h
        · exact .inl h
        · exact .inr (by simp [h])

theorem Map.pairwise_insert (m : Map α) (i : Nat) (v : α) (hp : m.Pairwise (fun a b => a.1 < b.1))
    (hn : ∀ p ∈ m, p.1 ≠ i) : (Map.insert m i v).Pairwise (fun a b => a.1 < b.1) := by
  induction m with
  | nil => simp [Map.insert]
  | cons p m ih =>
    obtain ⟨k, w⟩ := p
    have h := List.pairwise_cons.1 hp
    by_cases hlt : i < k
    · rw [Map.insert, if_pos hlt]
      refine List.Pairwise.cons ?_ hp
      intro b hb
      rcases List.mem_cons.1 hb with rfl | hb
      · exact hlt
      · exact Nat.lt_trans hlt (h.1 b hb)
    · rw [Map.insert, if_neg hlt]
      refine List.Pairwise.cons ?_ (ih h.2 (fun p hp => hn p (by simp [hp])))
      intro b hb
      have hk : k ≠ i := hn (k, w) (by simp)
      rcases Map.mem_insert m i v b hb with rfl | hb
      · simp only; omega
      · exact h.1 b hb

theorem Map.sorted_put (m : Map α) (i : Nat) (v : α) (h : m.sorted = true) : (Map.put m i v).sorted = true := by
  rw [Map.sorted_iff] at h ⊢
  exact Map.pairwise_insert _ _ _ (h.filter _) (by intro p hp; simpa using (List.mem_filter.1 hp).2)

theorem Map.sorted_erase (m : Map α) (i : Nat) (h : m.sorted = true) : (Map.erase m i).sorted = true :=
  Map.sorted_filter m _ h

theorem Map.wf_erase (m : Map Nat) (i : Nat) (h : m.wf = true) : (Map.erase m i).wf = true := by
  simp only [Map.wf, Bool.and_eq_true] at h ⊢
  refine ⟨Map.sorted_erase m i h.1, ?_⟩
  rw [List.all_eq_true] at h ⊢
  exact fun p hp => h.2 p (List.mem_filter.1 hp).1

/-- Writing storage keeps its canonical form. -/
theorem Map.wf_set (m : Map Nat) (i v : Nat) (h : m.wf = true) : (Map.set m i v).wf = true := by
  unfold Map.set
  split
  · exact Map.wf_erase m i h
  · rename_i hv
    have he := Map.wf_erase m i h
    simp only [Map.wf, Bool.and_eq_true] at h he ⊢
    refine ⟨Map.sorted_put m i v h.1, ?_⟩
    rw [List.all_eq_true] at he ⊢
    intro p hp
    rcases Map.mem_insert _ i v p hp with rfl | hp
    · simp [hv]
    · exact he.2 p hp

theorem Map.sorted_restore (lo hi : Nat) (h : lo ≤ hi) (src m : Map α) (hs : src.sorted = true)
    (hm : m.sorted = true) : (Map.restore lo hi src m).sorted = true := by
  rw [Map.sorted_iff] at hs hm ⊢
  unfold Map.restore
  rw [List.pairwise_append, List.pairwise_append]
  refine ⟨hm.filter _, ⟨hs.filter _, hm.filter _, ?_⟩, ?_⟩
  · intro a ha b hb
    have h1 := (List.mem_filter.1 ha).2
    have h2 := (List.mem_filter.1 hb).2
    simp at h1 h2
    omega
  · intro a ha b hb
    have h1 := (List.mem_filter.1 ha).2
    simp at h1
    rcases List.mem_append.1 hb with hb | hb
    · have h2 := (List.mem_filter.1 hb).2
      simp at h2
      omega
    · have h2 := (List.mem_filter.1 hb).2
      simp at h2
      omega

/-- Restoring a range of keys keeps the canonical form. -/
theorem Map.wf_restore (lo hi : Nat) (h : lo ≤ hi) (src m : Map Nat) (hs : src.wf = true) (hm : m.wf = true) :
    (Map.restore lo hi src m).wf = true := by
  simp only [Map.wf, Bool.and_eq_true] at hs hm ⊢
  refine ⟨Map.sorted_restore lo hi h src m hs.1 hm.1, ?_⟩
  have h1 := hs.2
  have h2 := hm.2
  rw [List.all_eq_true] at h1 h2 ⊢
  intro p hp
  simp only [Map.restore, List.mem_append, List.mem_filter] at hp
  rcases hp with hp | hp | hp
  · exact h2 p hp.1
  · exact h1 p hp.1
  · exact h2 p hp.1

end Sys2Proof.Machine
end

