-- ==== Sys2Proof/Laws/Memory.lean ====
section
/-! SUPPORT. The laws of a channel's SRAM: what a byte reads after a write, and that every operation keeps the canonical form. -/

namespace Sys2Proof.Machine

/-- A byte reads as it was written. -/
@[simp] theorem memByte_memPut_same (m : List Host.Cell) (a : Nat) (v : BitVec 8) : memByte (memPut m a v) a = v := by
  unfold memByte memPut Map.putD
  split
  · rename_i h; rw [Map.find_erase_same, h]; rfl
  · rw [Map.find_put_same]; rfl

/-- Every other byte reads as before. -/
theorem memByte_memPut_ne (m : List Host.Cell) {a b : Nat} (v : BitVec 8) (h : b ≠ a) :
    memByte (memPut m a v) b = memByte m b := by
  unfold memByte memPut Map.putD
  split
  · rw [Map.find_erase_ne _ h]
  · rw [Map.find_put_ne _ _ h]

/-- A write of one byte keeps the canonical form. -/
theorem Memory.wf_memPut (m : List Host.Cell) (a : Nat) (v : BitVec 8) (h : Memory.wf m = true) :
    Memory.wf (memPut m a v) = true := by
  unfold Memory.wf at *
  simp only [Bool.and_eq_true, List.all_eq_true] at h
  unfold memPut Map.putD
  simp only [Bool.and_eq_true, List.all_eq_true]
  split
  · exact ⟨Map.sorted_erase _ _ h.1, fun c hc => h.2 c (List.mem_filter.1 hc).1⟩
  · rename_i hv
    refine ⟨Map.sorted_put _ _ _ h.1, fun c hc => ?_⟩
    rcases Map.mem_insert _ _ _ c hc with rfl | hc
    · simpa using hv
    · exact h.2 c (List.mem_filter.1 hc).1

/-- A write of several bytes keeps it. -/
theorem Memory.wf_memPutLe (m : List Host.Cell) (a n v : Nat) (h : Memory.wf m = true) :
    Memory.wf (memPutLe m a n v) = true := by
  induction n generalizing m a v with
  | zero => exact h
  | succ n ih => exact ih _ _ _ (Memory.wf_memPut _ _ _ h)

/-- An empty SRAM has it. -/
@[simp] theorem Memory.wf_nil : Memory.wf [] = true := rfl

/-- The number of channels after every channel changed. -/
@[simp] theorem onAll_length (s : State) (f : Chan → Chan) : (onAll s f).ctl.chans.length = 3 := rfl

/-- A channel after every channel changed. -/
theorem chan_onAll (s : State) (f : Chan → Chan) (m : Nat) (h : m < 3) : chan (onAll s f) m = f (chan s m) := by
  match m, h with
  | 0, _ => rfl
  | 1, _ => rfl
  | 2, _ => rfl

/-- A channel after the channels that carry control changed. -/
theorem chan_onLive (s : State) (f : Chan → Chan) (m : Nat) (h : m < 3) :
    chan (onLive s f) m = if m = excludedChan s then chan s m else f (chan s m) := by
  match m, h with
  | 0, _ => rfl
  | 1, _ => rfl
  | 2, _ => rfl

/-- The SRAMs of the channels have the canonical form at reset. -/
theorem reset_memory : State.reset.ctl.chans.length = 3 ∧ State.reset.ctl.chans.all (fun c => Memory.wf c.mem) = true :=
  ⟨rfl, rfl⟩

end Sys2Proof.Machine
end

