-- ==== Sys2Proof/Laws/State.lean ====
section
/-! SUPPORT. The laws of `State`: what each field reads after each update, what a register field reads after a write, and what
the operations on events and shadow copies leave alone. -/

namespace Sys2Proof.Machine

/-! Register fields. -/

/-- A field reads what was written, cut to its width; every other key reads as before. -/
theorem State.get_set (s : State) (f g : Fld) (v : Nat) :
    (s.set f v).get g = if g.key = f.key then v % 2 ^ f.width else s.get g := by
  unfold State.get State.set
  split
  · rename_i h; rw [h]; exact Map.get_set_same _ _ _
  · rename_i h; exact Map.get_set_ne _ _ h

@[simp] theorem State.get_set_same (s : State) (f : Fld) (v : Nat) : (s.set f v).get f = v % 2 ^ f.width := by
  simp [State.get_set]

theorem State.get_set_ne (s : State) {f g : Fld} (v : Nat) (h : g.key ≠ f.key) : (s.set f v).get g = s.get g := by
  simp [State.get_set, h]

/-- The same of a key. -/
theorem State.regs_set_ne (s : State) {f : Fld} {k : Nat} (v : Nat) (h : k ≠ f.key) :
    (s.set f v).regs.get k = s.regs.get k := Map.get_set_ne _ _ h

/-- A one-bit field reads the condition written. -/
theorem State.on_setB (s : State) (f : Fld) (b : Bool) (hw : f.width = 1) : (s.setB f b).on f = b := by
  cases b <;> simp [State.on, State.setB, b2n, hw]

theorem State.on_setB_ne (s : State) {f g : Fld} (b : Bool) (h : g.key ≠ f.key) : (s.setB f b).on g = s.on g := by
  simp [State.on, State.setB, State.get_set, h]

theorem State.on_set_ne (s : State) {f g : Fld} (v : Nat) (h : g.key ≠ f.key) : (s.set f v).on g = s.on g := by
  simp [State.on, State.get_set, h]

/-! A write to a register field changes the registers alone. -/

@[simp] theorem State.set_pending (s : State) (f : Fld) (v : Nat) : (s.set f v).pending = s.pending := rfl
@[simp] theorem State.setB_pending (s : State) (f : Fld) (b : Bool) : (s.setB f b).pending = s.pending := rfl
@[simp] theorem State.set_shadow (s : State) (f : Fld) (v : Nat) : (s.set f v).shadow = s.shadow := rfl
@[simp] theorem State.setB_shadow (s : State) (f : Fld) (b : Bool) : (s.setB f b).shadow = s.shadow := rfl
@[simp] theorem State.set_freeCtr (s : State) (f : Fld) (v : Nat) : (s.set f v).freeCtr = s.freeCtr := rfl
@[simp] theorem State.setB_freeCtr (s : State) (f : Fld) (b : Bool) : (s.setB f b).freeCtr = s.freeCtr := rfl
@[simp] theorem State.set_named (s : State) (f : Fld) (v : Nat) : (s.set f v).named = s.named := rfl
@[simp] theorem State.setB_named (s : State) (f : Fld) (b : Bool) : (s.setB f b).named = s.named := rfl
@[simp] theorem State.set_waiting (s : State) (f : Fld) (v : Nat) : (s.set f v).waiting = s.waiting := rfl
@[simp] theorem State.setB_waiting (s : State) (f : Fld) (b : Bool) : (s.setB f b).waiting = s.waiting := rfl
@[simp] theorem State.set_stops (s : State) (f : Fld) (v : Nat) : (s.set f v).stops = s.stops := rfl
@[simp] theorem State.setB_stops (s : State) (f : Fld) (b : Bool) : (s.setB f b).stops = s.stops := rfl
@[simp] theorem State.set_ev (s : State) (f : Fld) (v : Nat) : (s.set f v).ev = s.ev := rfl
@[simp] theorem State.setB_ev (s : State) (f : Fld) (b : Bool) : (s.setB f b).ev = s.ev := rfl
@[simp] theorem State.set_tx (s : State) (f : Fld) (v : Nat) : (s.set f v).tx = s.tx := rfl
@[simp] theorem State.setB_tx (s : State) (f : Fld) (b : Bool) : (s.setB f b).tx = s.tx := rfl
@[simp] theorem State.set_conv (s : State) (f : Fld) (v : Nat) : (s.set f v).conv = s.conv := rfl
@[simp] theorem State.setB_conv (s : State) (f : Fld) (b : Bool) : (s.setB f b).conv = s.conv := rfl
@[simp] theorem State.set_rx (s : State) (f : Fld) (v : Nat) : (s.set f v).rx = s.rx := rfl
@[simp] theorem State.setB_rx (s : State) (f : Fld) (b : Bool) : (s.setB f b).rx = s.rx := rfl
@[simp] theorem State.set_dawn (s : State) (f : Fld) (v : Nat) : (s.set f v).dawn = s.dawn := rfl
@[simp] theorem State.setB_dawn (s : State) (f : Fld) (b : Bool) : (s.setB f b).dawn = s.dawn := rfl
@[simp] theorem State.set_fec (s : State) (f : Fld) (v : Nat) : (s.set f v).fec = s.fec := rfl
@[simp] theorem State.setB_fec (s : State) (f : Fld) (b : Bool) : (s.setB f b).fec = s.fec := rfl
@[simp] theorem State.set_frm (s : State) (f : Fld) (v : Nat) : (s.set f v).frm = s.frm := rfl
@[simp] theorem State.setB_frm (s : State) (f : Fld) (b : Bool) : (s.setB f b).frm = s.frm := rfl
@[simp] theorem State.set_ciph (s : State) (f : Fld) (v : Nat) : (s.set f v).ciph = s.ciph := rfl
@[simp] theorem State.setB_ciph (s : State) (f : Fld) (b : Bool) : (s.setB f b).ciph = s.ciph := rfl
@[simp] theorem State.set_ctl (s : State) (f : Fld) (v : Nat) : (s.set f v).ctl = s.ctl := rfl
@[simp] theorem State.setB_ctl (s : State) (f : Fld) (b : Bool) : (s.setB f b).ctl = s.ctl := rfl
@[simp] theorem State.set_clk (s : State) (f : Fld) (v : Nat) : (s.set f v).clk = s.clk := rfl
@[simp] theorem State.setB_clk (s : State) (f : Fld) (b : Bool) : (s.setB f b).clk = s.clk := rfl
@[simp] theorem State.set_store (s : State) (f : Fld) (v : Nat) : (s.set f v).store = s.store := rfl
@[simp] theorem State.setB_store (s : State) (f : Fld) (b : Bool) : (s.setB f b).store = s.store := rfl
@[simp] theorem State.set_client (s : State) (f : Fld) (v : Nat) : (s.set f v).client = s.client := rfl
@[simp] theorem State.setB_client (s : State) (f : Fld) (b : Bool) : (s.setB f b).client = s.client := rfl
@[simp] theorem State.set_link (s : State) (f : Fld) (v : Nat) : (s.set f v).link = s.link := rfl
@[simp] theorem State.setB_link (s : State) (f : Fld) (b : Bool) : (s.setB f b).link = s.link := rfl
@[simp] theorem State.set_time (s : State) (f : Fld) (v : Nat) : (s.set f v).time = s.time := rfl
@[simp] theorem State.setB_time (s : State) (f : Fld) (b : Bool) : (s.setB f b).time = s.time := rfl
@[simp] theorem State.set_sched (s : State) (f : Fld) (v : Nat) : (s.set f v).sched = s.sched := rfl
@[simp] theorem State.setB_sched (s : State) (f : Fld) (b : Bool) : (s.setB f b).sched = s.sched := rfl
@[simp] theorem State.set_pair (s : State) (f : Fld) (v : Nat) : (s.set f v).pair = s.pair := rfl
@[simp] theorem State.setB_pair (s : State) (f : Fld) (b : Bool) : (s.setB f b).pair = s.pair := rfl
@[simp] theorem State.set_pwr (s : State) (f : Fld) (v : Nat) : (s.set f v).pwr = s.pwr := rfl
@[simp] theorem State.setB_pwr (s : State) (f : Fld) (b : Bool) : (s.setB f b).pwr = s.pwr := rfl
@[simp] theorem State.set_ldg (s : State) (f : Fld) (v : Nat) : (s.set f v).ldg = s.ldg := rfl
@[simp] theorem State.setB_ldg (s : State) (f : Fld) (b : Bool) : (s.setB f b).ldg = s.ldg := rfl
@[simp] theorem State.set_host (s : State) (f : Fld) (v : Nat) : (s.set f v).host = s.host := rfl
@[simp] theorem State.setB_host (s : State) (f : Fld) (b : Bool) : (s.setB f b).host = s.host := rfl

/-! A field of `State` replaced: registers read as before, and the field reads the new value. -/

@[simp] theorem State.get_with_pending (s : State) (v : List Instr) (f : Fld) : State.get { s with pending := v } f = s.get f := rfl
@[simp] theorem State.on_with_pending (s : State) (v : List Instr) (f : Fld) : State.on { s with pending := v } f = s.on f := rfl
@[simp] theorem State.get_with_shadow (s : State) (v : Map Nat) (f : Fld) : State.get { s with shadow := v } f = s.get f := rfl
@[simp] theorem State.on_with_shadow (s : State) (v : Map Nat) (f : Fld) : State.on { s with shadow := v } f = s.on f := rfl
@[simp] theorem State.get_with_freeCtr (s : State) (v : Nat) (f : Fld) : State.get { s with freeCtr := v } f = s.get f := rfl
@[simp] theorem State.on_with_freeCtr (s : State) (v : Nat) (f : Fld) : State.on { s with freeCtr := v } f = s.on f := rfl
@[simp] theorem State.get_with_named (s : State) (v : List Blk) (f : Fld) : State.get { s with named := v } f = s.get f := rfl
@[simp] theorem State.on_with_named (s : State) (v : List Blk) (f : Fld) : State.on { s with named := v } f = s.on f := rfl
@[simp] theorem State.get_with_waiting (s : State) (v : List Blk) (f : Fld) : State.get { s with waiting := v } f = s.get f := rfl
@[simp] theorem State.on_with_waiting (s : State) (v : List Blk) (f : Fld) : State.on { s with waiting := v } f = s.on f := rfl
@[simp] theorem State.get_with_stops (s : State) (v : List Blk) (f : Fld) : State.get { s with stops := v } f = s.get f := rfl
@[simp] theorem State.on_with_stops (s : State) (v : List Blk) (f : Fld) : State.on { s with stops := v } f = s.on f := rfl
@[simp] theorem State.get_with_ev (s : State) (v : EvQ) (f : Fld) : State.get { s with ev := v } f = s.get f := rfl
@[simp] theorem State.on_with_ev (s : State) (v : EvQ) (f : Fld) : State.on { s with ev := v } f = s.on f := rfl
@[simp] theorem State.get_with_tx (s : State) (v : AB TxH) (f : Fld) : State.get { s with tx := v } f = s.get f := rfl
@[simp] theorem State.on_with_tx (s : State) (v : AB TxH) (f : Fld) : State.on { s with tx := v } f = s.on f := rfl
@[simp] theorem State.get_with_conv (s : State) (v : AB ConvH) (f : Fld) : State.get { s with conv := v } f = s.get f := rfl
@[simp] theorem State.on_with_conv (s : State) (v : AB ConvH) (f : Fld) : State.on { s with conv := v } f = s.on f := rfl
@[simp] theorem State.get_with_rx (s : State) (v : AB RxH) (f : Fld) : State.get { s with rx := v } f = s.get f := rfl
@[simp] theorem State.on_with_rx (s : State) (v : AB RxH) (f : Fld) : State.on { s with rx := v } f = s.on f := rfl
@[simp] theorem State.get_with_dawn (s : State) (v : AB DawnH) (f : Fld) : State.get { s with dawn := v } f = s.get f := rfl
@[simp] theorem State.on_with_dawn (s : State) (v : AB DawnH) (f : Fld) : State.on { s with dawn := v } f = s.on f := rfl
@[simp] theorem State.get_with_fec (s : State) (v : AB FecH) (f : Fld) : State.get { s with fec := v } f = s.get f := rfl
@[simp] theorem State.on_with_fec (s : State) (v : AB FecH) (f : Fld) : State.on { s with fec := v } f = s.on f := rfl
@[simp] theorem State.get_with_frm (s : State) (v : AB FrmH) (f : Fld) : State.get { s with frm := v } f = s.get f := rfl
@[simp] theorem State.on_with_frm (s : State) (v : AB FrmH) (f : Fld) : State.on { s with frm := v } f = s.on f := rfl
@[simp] theorem State.get_with_ciph (s : State) (v : AB CiphH) (f : Fld) : State.get { s with ciph := v } f = s.get f := rfl
@[simp] theorem State.on_with_ciph (s : State) (v : AB CiphH) (f : Fld) : State.on { s with ciph := v } f = s.on f := rfl
@[simp] theorem State.get_with_ctl (s : State) (v : CtlH) (f : Fld) : State.get { s with ctl := v } f = s.get f := rfl
@[simp] theorem State.on_with_ctl (s : State) (v : CtlH) (f : Fld) : State.on { s with ctl := v } f = s.on f := rfl
@[simp] theorem State.get_with_clk (s : State) (v : ClkH) (f : Fld) : State.get { s with clk := v } f = s.get f := rfl
@[simp] theorem State.on_with_clk (s : State) (v : ClkH) (f : Fld) : State.on { s with clk := v } f = s.on f := rfl
@[simp] theorem State.get_with_store (s : State) (v : StoreH) (f : Fld) : State.get { s with store := v } f = s.get f := rfl
@[simp] theorem State.on_with_store (s : State) (v : StoreH) (f : Fld) : State.on { s with store := v } f = s.on f := rfl
@[simp] theorem State.get_with_client (s : State) (v : ClientH) (f : Fld) : State.get { s with client := v } f = s.get f := rfl
@[simp] theorem State.on_with_client (s : State) (v : ClientH) (f : Fld) : State.on { s with client := v } f = s.on f := rfl
@[simp] theorem State.get_with_link (s : State) (v : LinkH) (f : Fld) : State.get { s with link := v } f = s.get f := rfl
@[simp] theorem State.on_with_link (s : State) (v : LinkH) (f : Fld) : State.on { s with link := v } f = s.on f := rfl
@[simp] theorem State.get_with_time (s : State) (v : TimeH) (f : Fld) : State.get { s with time := v } f = s.get f := rfl
@[simp] theorem State.on_with_time (s : State) (v : TimeH) (f : Fld) : State.on { s with time := v } f = s.on f := rfl
@[simp] theorem State.get_with_sched (s : State) (v : SchedH) (f : Fld) : State.get { s with sched := v } f = s.get f := rfl
@[simp] theorem State.on_with_sched (s : State) (v : SchedH) (f : Fld) : State.on { s with sched := v } f = s.on f := rfl
@[simp] theorem State.get_with_pair (s : State) (v : PairH) (f : Fld) : State.get { s with pair := v } f = s.get f := rfl
@[simp] theorem State.on_with_pair (s : State) (v : PairH) (f : Fld) : State.on { s with pair := v } f = s.on f := rfl
@[simp] theorem State.get_with_pwr (s : State) (v : PwrH) (f : Fld) : State.get { s with pwr := v } f = s.get f := rfl
@[simp] theorem State.on_with_pwr (s : State) (v : PwrH) (f : Fld) : State.on { s with pwr := v } f = s.on f := rfl
@[simp] theorem State.get_with_ldg (s : State) (v : LdgH) (f : Fld) : State.get { s with ldg := v } f = s.get f := rfl
@[simp] theorem State.on_with_ldg (s : State) (v : LdgH) (f : Fld) : State.on { s with ldg := v } f = s.on f := rfl
@[simp] theorem State.get_with_host (s : State) (v : HostH) (f : Fld) : State.get { s with host := v } f = s.get f := rfl
@[simp] theorem State.on_with_host (s : State) (v : HostH) (f : Fld) : State.on { s with host := v } f = s.on f := rfl

/-! Carriers. -/

@[simp] theorem AB.get_set_same {α : Type} (p : AB α) (c : Carrier) (v : α) : (p.set c v).get c = v := by cases c <;> rfl

theorem AB.get_set_ne {α : Type} (p : AB α) {c d : Carrier} (v : α) (h : d ≠ c) : (p.set c v).get d = p.get d := by
  cases c <;> cases d <;> first | rfl | exact absurd rfl h

/-! Events: the queue, its two counters, the wake latch and the messages sent are all that an event changes. -/

/-- A property of states that no part of an event's effect disturbs. -/
theorem State.wakeEvq_regs (s : State) : s.wakeEvq.regs = s.regs := by unfold State.wakeEvq; split <;> rfl
theorem State.msixEvent_regs (s : State) (id : Nat) : (s.msixEvent id).regs = s.regs := by unfold State.msixEvent; split <;> rfl

@[simp] theorem State.wakeEvq_pending (s : State) : s.wakeEvq.pending = s.pending := by unfold State.wakeEvq; split <;> rfl
@[simp] theorem State.msixEvent_pending (s : State) (id : Nat) : (s.msixEvent id).pending = s.pending := by unfold State.msixEvent; split <;> rfl
@[simp] theorem State.wakeEvq_shadow (s : State) : s.wakeEvq.shadow = s.shadow := by unfold State.wakeEvq; split <;> rfl
@[simp] theorem State.msixEvent_shadow (s : State) (id : Nat) : (s.msixEvent id).shadow = s.shadow := by unfold State.msixEvent; split <;> rfl
@[simp] theorem State.wakeEvq_freeCtr (s : State) : s.wakeEvq.freeCtr = s.freeCtr := by unfold State.wakeEvq; split <;> rfl
@[simp] theorem State.msixEvent_freeCtr (s : State) (id : Nat) : (s.msixEvent id).freeCtr = s.freeCtr := by unfold State.msixEvent; split <;> rfl
@[simp] theorem State.wakeEvq_named (s : State) : s.wakeEvq.named = s.named := by unfold State.wakeEvq; split <;> rfl
@[simp] theorem State.msixEvent_named (s : State) (id : Nat) : (s.msixEvent id).named = s.named := by unfold State.msixEvent; split <;> rfl
@[simp] theorem State.wakeEvq_waiting (s : State) : s.wakeEvq.waiting = s.waiting := by unfold State.wakeEvq; split <;> rfl
@[simp] theorem State.msixEvent_waiting (s : State) (id : Nat) : (s.msixEvent id).waiting = s.waiting := by unfold State.msixEvent; split <;> rfl
@[simp] theorem State.wakeEvq_stops (s : State) : s.wakeEvq.stops = s.stops := by unfold State.wakeEvq; split <;> rfl
@[simp] theorem State.msixEvent_stops (s : State) (id : Nat) : (s.msixEvent id).stops = s.stops := by unfold State.msixEvent; split <;> rfl
@[simp] theorem State.wakeEvq_tx (s : State) : s.wakeEvq.tx = s.tx := by unfold State.wakeEvq; split <;> rfl
@[simp] theorem State.msixEvent_tx (s : State) (id : Nat) : (s.msixEvent id).tx = s.tx := by unfold State.msixEvent; split <;> rfl
@[simp] theorem State.wakeEvq_conv (s : State) : s.wakeEvq.conv = s.conv := by unfold State.wakeEvq; split <;> rfl
@[simp] theorem State.msixEvent_conv (s : State) (id : Nat) : (s.msixEvent id).conv = s.conv := by unfold State.msixEvent; split <;> rfl
@[simp] theorem State.wakeEvq_rx (s : State) : s.wakeEvq.rx = s.rx := by unfold State.wakeEvq; split <;> rfl
@[simp] theorem State.msixEvent_rx (s : State) (id : Nat) : (s.msixEvent id).rx = s.rx := by unfold State.msixEvent; split <;> rfl
@[simp] theorem State.wakeEvq_dawn (s : State) : s.wakeEvq.dawn = s.dawn := by unfold State.wakeEvq; split <;> rfl
@[simp] theorem State.msixEvent_dawn (s : State) (id : Nat) : (s.msixEvent id).dawn = s.dawn := by unfold State.msixEvent; split <;> rfl
@[simp] theorem State.wakeEvq_fec (s : State) : s.wakeEvq.fec = s.fec := by unfold State.wakeEvq; split <;> rfl
@[simp] theorem State.msixEvent_fec (s : State) (id : Nat) : (s.msixEvent id).fec = s.fec := by unfold State.msixEvent; split <;> rfl
@[simp] theorem State.wakeEvq_frm (s : State) : s.wakeEvq.frm = s.frm := by unfold State.wakeEvq; split <;> rfl
@[simp] theorem State.msixEvent_frm (s : State) (id : Nat) : (s.msixEvent id).frm = s.frm := by unfold State.msixEvent; split <;> rfl
@[simp] theorem State.wakeEvq_ciph (s : State) : s.wakeEvq.ciph = s.ciph := by unfold State.wakeEvq; split <;> rfl
@[simp] theorem State.msixEvent_ciph (s : State) (id : Nat) : (s.msixEvent id).ciph = s.ciph := by unfold State.msixEvent; split <;> rfl
@[simp] theorem State.wakeEvq_clk (s : State) : s.wakeEvq.clk = s.clk := by unfold State.wakeEvq; split <;> rfl
@[simp] theorem State.msixEvent_clk (s : State) (id : Nat) : (s.msixEvent id).clk = s.clk := by unfold State.msixEvent; split <;> rfl
@[simp] theorem State.wakeEvq_store (s : State) : s.wakeEvq.store = s.store := by unfold State.wakeEvq; split <;> rfl
@[simp] theorem State.msixEvent_store (s : State) (id : Nat) : (s.msixEvent id).store = s.store := by unfold State.msixEvent; split <;> rfl
@[simp] theorem State.wakeEvq_client (s : State) : s.wakeEvq.client = s.client := by unfold State.wakeEvq; split <;> rfl
@[simp] theorem State.msixEvent_client (s : State) (id : Nat) : (s.msixEvent id).client = s.client := by unfold State.msixEvent; split <;> rfl
@[simp] theorem State.wakeEvq_link (s : State) : s.wakeEvq.link = s.link := by unfold State.wakeEvq; split <;> rfl
@[simp] theorem State.msixEvent_link (s : State) (id : Nat) : (s.msixEvent id).link = s.link := by unfold State.msixEvent; split <;> rfl
@[simp] theorem State.wakeEvq_time (s : State) : s.wakeEvq.time = s.time := by unfold State.wakeEvq; split <;> rfl
@[simp] theorem State.msixEvent_time (s : State) (id : Nat) : (s.msixEvent id).time = s.time := by unfold State.msixEvent; split <;> rfl
@[simp] theorem State.wakeEvq_sched (s : State) : s.wakeEvq.sched = s.sched := by unfold State.wakeEvq; split <;> rfl
@[simp] theorem State.msixEvent_sched (s : State) (id : Nat) : (s.msixEvent id).sched = s.sched := by unfold State.msixEvent; split <;> rfl
@[simp] theorem State.wakeEvq_pair (s : State) : s.wakeEvq.pair = s.pair := by unfold State.wakeEvq; split <;> rfl
@[simp] theorem State.msixEvent_pair (s : State) (id : Nat) : (s.msixEvent id).pair = s.pair := by unfold State.msixEvent; split <;> rfl
@[simp] theorem State.wakeEvq_pwr (s : State) : s.wakeEvq.pwr = s.pwr := by unfold State.wakeEvq; split <;> rfl
@[simp] theorem State.msixEvent_pwr (s : State) (id : Nat) : (s.msixEvent id).pwr = s.pwr := by unfold State.msixEvent; split <;> rfl
@[simp] theorem State.wakeEvq_ldg (s : State) : s.wakeEvq.ldg = s.ldg := by unfold State.wakeEvq; split <;> rfl
@[simp] theorem State.msixEvent_ldg (s : State) (id : Nat) : (s.msixEvent id).ldg = s.ldg := by unfold State.msixEvent; split <;> rfl
@[simp] theorem State.wakeEvq_ev (s : State) : s.wakeEvq.ev = s.ev := by unfold State.wakeEvq; split <;> rfl
@[simp] theorem State.msixEvent_ev (s : State) (id : Nat) : (s.msixEvent id).ev = s.ev := by unfold State.msixEvent; split <;> rfl
@[simp] theorem State.enqueueEvent_pending (s : State) (e : Ev) : (s.enqueueEvent e).pending = s.pending := by simp [State.enqueueEvent]
@[simp] theorem State.countEvent_pending (s : State) (id data : Nat) : (s.countEvent id data).pending = s.pending := by simp [State.countEvent]
@[simp] theorem State.loseEvent_pending (s : State) (id : Nat) : (s.loseEvent id).pending = s.pending := by
  unfold State.loseEvent; simp only []; (repeat' split) <;> simp [State.bump, State.addSat]
@[simp] theorem State.raise_pending (s : State) (id data : Nat) : (s.raise id data).pending = s.pending := by
  unfold State.raise; simp only []; (repeat' split) <;> simp
@[simp] theorem State.enqueueEvent_shadow (s : State) (e : Ev) : (s.enqueueEvent e).shadow = s.shadow := by simp [State.enqueueEvent]
@[simp] theorem State.countEvent_shadow (s : State) (id data : Nat) : (s.countEvent id data).shadow = s.shadow := by simp [State.countEvent]
@[simp] theorem State.loseEvent_shadow (s : State) (id : Nat) : (s.loseEvent id).shadow = s.shadow := by
  unfold State.loseEvent; simp only []; (repeat' split) <;> simp [State.bump, State.addSat]
@[simp] theorem State.raise_shadow (s : State) (id data : Nat) : (s.raise id data).shadow = s.shadow := by
  unfold State.raise; simp only []; (repeat' split) <;> simp
@[simp] theorem State.enqueueEvent_freeCtr (s : State) (e : Ev) : (s.enqueueEvent e).freeCtr = s.freeCtr := by simp [State.enqueueEvent]
@[simp] theorem State.countEvent_freeCtr (s : State) (id data : Nat) : (s.countEvent id data).freeCtr = s.freeCtr := by simp [State.countEvent]
@[simp] theorem State.loseEvent_freeCtr (s : State) (id : Nat) : (s.loseEvent id).freeCtr = s.freeCtr := by
  unfold State.loseEvent; simp only []; (repeat' split) <;> simp [State.bump, State.addSat]
@[simp] theorem State.raise_freeCtr (s : State) (id data : Nat) : (s.raise id data).freeCtr = s.freeCtr := by
  unfold State.raise; simp only []; (repeat' split) <;> simp
@[simp] theorem State.enqueueEvent_named (s : State) (e : Ev) : (s.enqueueEvent e).named = s.named := by simp [State.enqueueEvent]
@[simp] theorem State.countEvent_named (s : State) (id data : Nat) : (s.countEvent id data).named = s.named := by simp [State.countEvent]
@[simp] theorem State.loseEvent_named (s : State) (id : Nat) : (s.loseEvent id).named = s.named := by
  unfold State.loseEvent; simp only []; (repeat' split) <;> simp [State.bump, State.addSat]
@[simp] theorem State.raise_named (s : State) (id data : Nat) : (s.raise id data).named = s.named := by
  unfold State.raise; simp only []; (repeat' split) <;> simp
@[simp] theorem State.enqueueEvent_waiting (s : State) (e : Ev) : (s.enqueueEvent e).waiting = s.waiting := by simp [State.enqueueEvent]
@[simp] theorem State.countEvent_waiting (s : State) (id data : Nat) : (s.countEvent id data).waiting = s.waiting := by simp [State.countEvent]
@[simp] theorem State.loseEvent_waiting (s : State) (id : Nat) : (s.loseEvent id).waiting = s.waiting := by
  unfold State.loseEvent; simp only []; (repeat' split) <;> simp [State.bump, State.addSat]
@[simp] theorem State.raise_waiting (s : State) (id data : Nat) : (s.raise id data).waiting = s.waiting := by
  unfold State.raise; simp only []; (repeat' split) <;> simp
@[simp] theorem State.enqueueEvent_stops (s : State) (e : Ev) : (s.enqueueEvent e).stops = s.stops := by simp [State.enqueueEvent]
@[simp] theorem State.countEvent_stops (s : State) (id data : Nat) : (s.countEvent id data).stops = s.stops := by simp [State.countEvent]
@[simp] theorem State.loseEvent_stops (s : State) (id : Nat) : (s.loseEvent id).stops = s.stops := by
  unfold State.loseEvent; simp only []; (repeat' split) <;> simp [State.bump, State.addSat]
@[simp] theorem State.raise_stops (s : State) (id data : Nat) : (s.raise id data).stops = s.stops := by
  unfold State.raise; simp only []; (repeat' split) <;> simp
@[simp] theorem State.enqueueEvent_tx (s : State) (e : Ev) : (s.enqueueEvent e).tx = s.tx := by simp [State.enqueueEvent]
@[simp] theorem State.countEvent_tx (s : State) (id data : Nat) : (s.countEvent id data).tx = s.tx := by simp [State.countEvent]
@[simp] theorem State.loseEvent_tx (s : State) (id : Nat) : (s.loseEvent id).tx = s.tx := by
  unfold State.loseEvent; simp only []; (repeat' split) <;> simp [State.bump, State.addSat]
@[simp] theorem State.raise_tx (s : State) (id data : Nat) : (s.raise id data).tx = s.tx := by
  unfold State.raise; simp only []; (repeat' split) <;> simp
@[simp] theorem State.enqueueEvent_conv (s : State) (e : Ev) : (s.enqueueEvent e).conv = s.conv := by simp [State.enqueueEvent]
@[simp] theorem State.countEvent_conv (s : State) (id data : Nat) : (s.countEvent id data).conv = s.conv := by simp [State.countEvent]
@[simp] theorem State.loseEvent_conv (s : State) (id : Nat) : (s.loseEvent id).conv = s.conv := by
  unfold State.loseEvent; simp only []; (repeat' split) <;> simp [State.bump, State.addSat]
@[simp] theorem State.raise_conv (s : State) (id data : Nat) : (s.raise id data).conv = s.conv := by
  unfold State.raise; simp only []; (repeat' split) <;> simp
@[simp] theorem State.enqueueEvent_rx (s : State) (e : Ev) : (s.enqueueEvent e).rx = s.rx := by simp [State.enqueueEvent]
@[simp] theorem State.countEvent_rx (s : State) (id data : Nat) : (s.countEvent id data).rx = s.rx := by simp [State.countEvent]
@[simp] theorem State.loseEvent_rx (s : State) (id : Nat) : (s.loseEvent id).rx = s.rx := by
  unfold State.loseEvent; simp only []; (repeat' split) <;> simp [State.bump, State.addSat]
@[simp] theorem State.raise_rx (s : State) (id data : Nat) : (s.raise id data).rx = s.rx := by
  unfold State.raise; simp only []; (repeat' split) <;> simp
@[simp] theorem State.enqueueEvent_dawn (s : State) (e : Ev) : (s.enqueueEvent e).dawn = s.dawn := by simp [State.enqueueEvent]
@[simp] theorem State.countEvent_dawn (s : State) (id data : Nat) : (s.countEvent id data).dawn = s.dawn := by simp [State.countEvent]
@[simp] theorem State.loseEvent_dawn (s : State) (id : Nat) : (s.loseEvent id).dawn = s.dawn := by
  unfold State.loseEvent; simp only []; (repeat' split) <;> simp [State.bump, State.addSat]
@[simp] theorem State.raise_dawn (s : State) (id data : Nat) : (s.raise id data).dawn = s.dawn := by
  unfold State.raise; simp only []; (repeat' split) <;> simp
@[simp] theorem State.enqueueEvent_fec (s : State) (e : Ev) : (s.enqueueEvent e).fec = s.fec := by simp [State.enqueueEvent]
@[simp] theorem State.countEvent_fec (s : State) (id data : Nat) : (s.countEvent id data).fec = s.fec := by simp [State.countEvent]
@[simp] theorem State.loseEvent_fec (s : State) (id : Nat) : (s.loseEvent id).fec = s.fec := by
  unfold State.loseEvent; simp only []; (repeat' split) <;> simp [State.bump, State.addSat]
@[simp] theorem State.raise_fec (s : State) (id data : Nat) : (s.raise id data).fec = s.fec := by
  unfold State.raise; simp only []; (repeat' split) <;> simp
@[simp] theorem State.enqueueEvent_frm (s : State) (e : Ev) : (s.enqueueEvent e).frm = s.frm := by simp [State.enqueueEvent]
@[simp] theorem State.countEvent_frm (s : State) (id data : Nat) : (s.countEvent id data).frm = s.frm := by simp [State.countEvent]
@[simp] theorem State.loseEvent_frm (s : State) (id : Nat) : (s.loseEvent id).frm = s.frm := by
  unfold State.loseEvent; simp only []; (repeat' split) <;> simp [State.bump, State.addSat]
@[simp] theorem State.raise_frm (s : State) (id data : Nat) : (s.raise id data).frm = s.frm := by
  unfold State.raise; simp only []; (repeat' split) <;> simp
@[simp] theorem State.enqueueEvent_ciph (s : State) (e : Ev) : (s.enqueueEvent e).ciph = s.ciph := by simp [State.enqueueEvent]
@[simp] theorem State.countEvent_ciph (s : State) (id data : Nat) : (s.countEvent id data).ciph = s.ciph := by simp [State.countEvent]
@[simp] theorem State.loseEvent_ciph (s : State) (id : Nat) : (s.loseEvent id).ciph = s.ciph := by
  unfold State.loseEvent; simp only []; (repeat' split) <;> simp [State.bump, State.addSat]
@[simp] theorem State.raise_ciph (s : State) (id data : Nat) : (s.raise id data).ciph = s.ciph := by
  unfold State.raise; simp only []; (repeat' split) <;> simp
@[simp] theorem State.enqueueEvent_clk (s : State) (e : Ev) : (s.enqueueEvent e).clk = s.clk := by simp [State.enqueueEvent]
@[simp] theorem State.countEvent_clk (s : State) (id data : Nat) : (s.countEvent id data).clk = s.clk := by simp [State.countEvent]
@[simp] theorem State.loseEvent_clk (s : State) (id : Nat) : (s.loseEvent id).clk = s.clk := by
  unfold State.loseEvent; simp only []; (repeat' split) <;> simp [State.bump, State.addSat]
@[simp] theorem State.raise_clk (s : State) (id data : Nat) : (s.raise id data).clk = s.clk := by
  unfold State.raise; simp only []; (repeat' split) <;> simp
@[simp] theorem State.enqueueEvent_store (s : State) (e : Ev) : (s.enqueueEvent e).store = s.store := by simp [State.enqueueEvent]
@[simp] theorem State.countEvent_store (s : State) (id data : Nat) : (s.countEvent id data).store = s.store := by simp [State.countEvent]
@[simp] theorem State.loseEvent_store (s : State) (id : Nat) : (s.loseEvent id).store = s.store := by
  unfold State.loseEvent; simp only []; (repeat' split) <;> simp [State.bump, State.addSat]
@[simp] theorem State.raise_store (s : State) (id data : Nat) : (s.raise id data).store = s.store := by
  unfold State.raise; simp only []; (repeat' split) <;> simp
@[simp] theorem State.enqueueEvent_client (s : State) (e : Ev) : (s.enqueueEvent e).client = s.client := by simp [State.enqueueEvent]
@[simp] theorem State.countEvent_client (s : State) (id data : Nat) : (s.countEvent id data).client = s.client := by simp [State.countEvent]
@[simp] theorem State.loseEvent_client (s : State) (id : Nat) : (s.loseEvent id).client = s.client := by
  unfold State.loseEvent; simp only []; (repeat' split) <;> simp [State.bump, State.addSat]
@[simp] theorem State.raise_client (s : State) (id data : Nat) : (s.raise id data).client = s.client := by
  unfold State.raise; simp only []; (repeat' split) <;> simp
@[simp] theorem State.enqueueEvent_link (s : State) (e : Ev) : (s.enqueueEvent e).link = s.link := by simp [State.enqueueEvent]
@[simp] theorem State.countEvent_link (s : State) (id data : Nat) : (s.countEvent id data).link = s.link := by simp [State.countEvent]
@[simp] theorem State.loseEvent_link (s : State) (id : Nat) : (s.loseEvent id).link = s.link := by
  unfold State.loseEvent; simp only []; (repeat' split) <;> simp [State.bump, State.addSat]
@[simp] theorem State.raise_link (s : State) (id data : Nat) : (s.raise id data).link = s.link := by
  unfold State.raise; simp only []; (repeat' split) <;> simp
@[simp] theorem State.enqueueEvent_time (s : State) (e : Ev) : (s.enqueueEvent e).time = s.time := by simp [State.enqueueEvent]
@[simp] theorem State.countEvent_time (s : State) (id data : Nat) : (s.countEvent id data).time = s.time := by simp [State.countEvent]
@[simp] theorem State.loseEvent_time (s : State) (id : Nat) : (s.loseEvent id).time = s.time := by
  unfold State.loseEvent; simp only []; (repeat' split) <;> simp [State.bump, State.addSat]
@[simp] theorem State.raise_time (s : State) (id data : Nat) : (s.raise id data).time = s.time := by
  unfold State.raise; simp only []; (repeat' split) <;> simp
@[simp] theorem State.enqueueEvent_sched (s : State) (e : Ev) : (s.enqueueEvent e).sched = s.sched := by simp [State.enqueueEvent]
@[simp] theorem State.countEvent_sched (s : State) (id data : Nat) : (s.countEvent id data).sched = s.sched := by simp [State.countEvent]
@[simp] theorem State.loseEvent_sched (s : State) (id : Nat) : (s.loseEvent id).sched = s.sched := by
  unfold State.loseEvent; simp only []; (repeat' split) <;> simp [State.bump, State.addSat]
@[simp] theorem State.raise_sched (s : State) (id data : Nat) : (s.raise id data).sched = s.sched := by
  unfold State.raise; simp only []; (repeat' split) <;> simp
@[simp] theorem State.enqueueEvent_pair (s : State) (e : Ev) : (s.enqueueEvent e).pair = s.pair := by simp [State.enqueueEvent]
@[simp] theorem State.countEvent_pair (s : State) (id data : Nat) : (s.countEvent id data).pair = s.pair := by simp [State.countEvent]
@[simp] theorem State.loseEvent_pair (s : State) (id : Nat) : (s.loseEvent id).pair = s.pair := by
  unfold State.loseEvent; simp only []; (repeat' split) <;> simp [State.bump, State.addSat]
@[simp] theorem State.raise_pair (s : State) (id data : Nat) : (s.raise id data).pair = s.pair := by
  unfold State.raise; simp only []; (repeat' split) <;> simp
@[simp] theorem State.enqueueEvent_pwr (s : State) (e : Ev) : (s.enqueueEvent e).pwr = s.pwr := by simp [State.enqueueEvent]
@[simp] theorem State.countEvent_pwr (s : State) (id data : Nat) : (s.countEvent id data).pwr = s.pwr := by simp [State.countEvent]
@[simp] theorem State.loseEvent_pwr (s : State) (id : Nat) : (s.loseEvent id).pwr = s.pwr := by
  unfold State.loseEvent; simp only []; (repeat' split) <;> simp [State.bump, State.addSat]
@[simp] theorem State.raise_pwr (s : State) (id data : Nat) : (s.raise id data).pwr = s.pwr := by
  unfold State.raise; simp only []; (repeat' split) <;> simp
@[simp] theorem State.enqueueEvent_ldg (s : State) (e : Ev) : (s.enqueueEvent e).ldg = s.ldg := by simp [State.enqueueEvent]
@[simp] theorem State.countEvent_ldg (s : State) (id data : Nat) : (s.countEvent id data).ldg = s.ldg := by simp [State.countEvent]
@[simp] theorem State.loseEvent_ldg (s : State) (id : Nat) : (s.loseEvent id).ldg = s.ldg := by
  unfold State.loseEvent; simp only []; (repeat' split) <;> simp [State.bump, State.addSat]
@[simp] theorem State.raise_ldg (s : State) (id data : Nat) : (s.raise id data).ldg = s.ldg := by
  unfold State.raise; simp only []; (repeat' split) <;> simp

/-- An event changes no register but HWM and LOST_TOTAL (R497, R504). -/
theorem State.raise_regs (s : State) (id data k : Nat) (h1 : k ≠ R.EV_STAT.HWM.key) (h2 : k ≠ R.EV_STAT.LOST_TOTAL.key) :
    (s.raise id data).regs.get k = s.regs.get k := by
  have enq : ∀ (t : State) (e : Ev), (t.enqueueEvent e).regs.get k = t.regs.get k := by
    intro t e
    simp only [State.enqueueEvent, State.wakeEvq_regs, State.msixEvent_regs]
    exact State.regs_set_ne _ _ h1
  have cnt : ∀ (t : State) (i d : Nat), (t.countEvent i d).regs = t.regs := by
    intro t i d; simp only [State.countEvent, State.wakeEvq_regs]
  have bmp : ∀ t : State, (t.bump R.EV_STAT.LOST_TOTAL).regs.get k = t.regs.get k := fun t => State.regs_set_ne _ _ h2
  unfold State.raise
  simp only []
  split
  · rw [cnt]
  split
  · rfl
  split
  · unfold State.loseEvent
    simp only []
    split
    · rw [cnt, bmp]
    split
    · exact bmp s
    · rw [enq, bmp]
  · exact enq _ _

/-- The same of a field. -/
theorem State.raise_get (s : State) (id data : Nat) (f : Fld) (h1 : f.key ≠ R.EV_STAT.HWM.key)
    (h2 : f.key ≠ R.EV_STAT.LOST_TOTAL.key) : (s.raise id data).get f = s.get f := State.raise_regs s id data _ h1 h2

end Sys2Proof.Machine
end

