-- ==== Sys2Proof/Laws/Ops.lean ====
section
/-! SUPPORT. The laws of the operations that meanings share: the outcome of a command, a write that needs its block to be
reached, the commands of the Ubant port. -/

namespace Sys2Proof.Machine

open Sys2Proof

/-- A command that turns `s` into `t` answers `t` with the queue of `s`. -/
theorem done_next (s t u : State) : done s t = .next u ↔ u = { t with pending := s.pending } := by
  unfold done
  exact ⟨fun h => (Host.Outcome.next.inj h).symm, fun h => by rw [h]⟩

/-- A write to a block acts where the block is reached. -/
theorem reach_open (s : State) (b : Blk) (f : State → State) (h0 : s.dev ≠ 0) (h1 : reachable s b (blkBase b) = true)
    (h2 : s.on (resettingF b) = false) : reach s b f = f s := by
  simp [reach, h0, h1, h2]

/-- It does nothing in the freeze. -/
theorem reach_shut (s : State) (b : Blk) (f : State → State)
    (h : s.dev = 0 ∨ reachable s b (blkBase b) = false ∨ s.on (resettingF b) = true) : reach s b f = s := by
  rcases h with h | h | h <;> simp [reach, h]

/-- A write that voted control alone makes acts while control writes are not frozen. -/
theorem reachVoted_free (s : State) (b : Blk) (f : State → State) (h : s.frozen = false) :
    reachVoted s b f = reach s b f := by
  simp [reachVoted, h]

/-- It does nothing elsewhere. -/
theorem reachVoted_frozen (s : State) (b : Blk) (f : State → State) (h : s.frozen = true) : reachVoted s b f = s := by
  simp [reachVoted, h]

/-- A command of an open Ubant port is carried out. -/
theorem ubCmd_open (s : State) (f : State → State) (h0 : ubOn s = true) (h1 : ubOpen s = true) : ubCmd s f = f s := by
  simp [ubCmd, h0, h1]

/-- A locked port answers LOCKED. -/
theorem ubCmd_locked (s : State) (f : State → State) (h0 : ubOn s = true) (h1 : ubOpen s = false) :
    ubCmd s f = ubAck s ackLOCKED := by
  simp [ubCmd, h0, h1]

/-- A port without power does nothing. -/
theorem ubCmd_off (s : State) (f : State → State) (h : ubOn s = false) : ubCmd s f = s := by
  simp [ubCmd, h]

/-- Counting without losses: nothing lost changes nothing. -/
@[simp] theorem portErr_zero (s : State) (f : Fld) (p : Nat) : s.portErr f p 0 = s := rfl

end Sys2Proof.Machine
end

