-- ==== Sys2Proof/Machine/Pins.lean ====
section
/-! DEFINITION. Levels at output pins that State determines, beside IRQ_N (R615), THERMTRIP_N (R600), PPS_OUT and VFRAME (R453,
R457). -/

namespace Sys2Proof.Machine

open Sys2Proof

/-- ACTIVE: high while the unit is in RUN (R39, R544). -/
def activePin (s : State) : Bool := s.dev == stRUN

/-- CLAIM_OUT_N: open drain, low while the claim is asserted and undriven otherwise (R544, R643). -/
def claimOutN (s : State) : Bool := !s.on R.PAIR_STAT.OWN_CLAIM

/-- A TIA gain-control output in nV: code × 1.200 / 1,023 V, 0 V while the ADC domain is off (R114, R655). -/
def tiaNanovolts (s : State) (c : Carrier) (o : Nat) : Nat :=
  if s.domOn (adcDom c) then s.get ((R.TIA_CODE.CUR.ix o).on c) * 1200000000 / 1023 else 0

/-- A bias output in nV: 0.050 + code × 1.350 / 4,095 V, 0 V while the DAC domain is off (R116, R656). -/
def biasNanovolts (s : State) (c : Carrier) (o : Nat) : Nat :=
  if s.domOn (dacDom c) then 50000000 + s.get ((R.BIAS.CUR.ix o).on c) * 1350000000 / 4095 else 0

end Sys2Proof.Machine
end

