-- ==== Sys2Proof/Tests/Slice0.lean ====
section
/-! SUPPORT. Our own tests: what WellFormed refuses, single steps on small states against the worked examples of the spec, and
for every statement with hypotheses a state and operands that meet them. -/

namespace Sys2Proof.Tests

open Sys2Proof Sys2Proof.Machine Sys2Proof.Spec

set_option Elab.async false

/-! Well-formedness: one ill-formed term for each check, which the check refuses, beside terms that pass every check. -/

/-- None of these commands is well-formed. -/
def noneWf (l : List Instr) : Bool := l.all (fun i => !WellFormed i)

theorem test_wf_refuses_1 : noneWf
    [.readClear .host (2 ^ 32), .wideReadSnapshot .host (2 ^ 32), .commitReq (.conv .A) 4, .commitTick .sys,
     .sysCmodeWrite .A (2 ^ 32), .sysReset (2 ^ 16), .resetExit false 4 0 0 0, .resetExit false 0 2 0 0,
     .resetExit false 0 0 2 0, .resetExit false 0 0 0 4, .bgRoundEnd .A 4 ⟨0, 0, 0⟩,
     .bgMeasureDone .A 4 ⟨0, 0, 0⟩ ⟨0, 0, 0⟩, .seedWindowWrite .A 0x213 0, .seedWindowWrite .A 0 (2 ^ 32),
     .dawnDescriptor .A (2 ^ 128), .dawnExpectWrite .A (2 ^ 32), .seedFreeze .A 64, .seedThaw .A 64,
     .seedInvalidate .A 64, .dawnSeedWrite .A 0x1000 0, .dawnSeedWrite .A 0 (2 ^ 32), .lineAlignCheck .A 2 0 0,
     .lineAlignCheck .A 0 (2 ^ 384) 0, .defectTimer .A 0, .defectTimer .A 4] = true := by decide +kernel

theorem test_wf_refuses_2 : noneWf
    [.defectForce .A (2 ^ 32), .keyLoad .A 4, .clPortEnable 24, .clPortDisable 24,
     .clLinkChange 24 false 0 false false, .clIngressFrame 24 [] 0 0 0, .clIngressFrame 0 [256] 0 0 0,
     .clIngressFrame 0 [] 20 0 0, .clEgressFrame 24 0, .clEgressFrame 0 20, .impHeader 24,
     .storeIdReadDone 4 (List.replicate 256 0), .storeIdReadDone 0 [], .storeRecoveryDone 4 [] [], .storeReread 4,
     .storeIdOverride 4, .ringArm 256, .ringDisarm 256, .ringClear 256, .ringPtrSave 256, .storeOverloadExit 4,
     .storeDropLevelStep 4, .storeDropLevelReset 4, .ringRateWindow 256, .storeEccLeak 4] = true := by decide +kernel

theorem test_wf_refuses_3 : noneWf
    [.ringExtentEnter 256, .rplPrepare 16, .rplPrepareDone 16, .rplLaunch 16, .rplLaunchNow 16, .rplUnitStart 16,
     .rplPacketSend 16 0, .rplPacketSend 0 20, .rplStop 16, .laneEnable 48, .laneDisable 48, .lanePowered 48,
     .laneCdrLock 48, .laneAdaptDone 48, .laneCdrLoss 48, .lanePolTimer 48, .laneRxInvWrite 48 false, .podBlock 6 0,
     .podBlock 0 (2 ^ 132), .podCommaAlign 48 0 0, .podCommaAlign 0 (2 ^ 132) 0, .podHeaderHunt 48 0,
     .podHeaderHunt 0 16, .podAmAlign 48 0 0 0, .podAmAlign 0 (2 ^ 128) 0 0] = true := by decide +kernel

theorem test_wf_refuses_4 : noneWf
    [.podAmAlign 0 0 256 0, .podDeskew 6 0, .podPortEnable 6, .podMsg 6, .podLinkIdTimer 6, .podPortDown 6 none,
     .podTransferReceive 6 none, .podAck 6, .podRetryTimeout 6 0, .podRetryTimeout 0 (2 ^ 16), .podTimeSend 6 0,
     .podTimeReceive 6 0, .lanePatLock 48 0, .laneInjOne 48, .clockGood 4, .pllLock 8, .pllUnlock 8,
     .pllRateChange 8, .refselAccept 4, .refLoa 4, .refMonitorRestart 4 false 0,
     .refMonitorRestart 0 false 0x40000000, .clkMuxSelWrite 8 0, .clkMuxSelWrite 0 4, .muxChangeover 8] = true := by decide +kernel

theorem test_wf_refuses_5 : noneWf
    [.muxStall 8, .muxForce 8, .tdSet 2, .tdStep 2 0, .tdStep 0 (2 ^ 32), .tdSlew 2 0, .tdSlew 0 (2 ^ 32),
     .tdValidWrite 2 false, .tdLeaseExpiry 2, .timeExtWrap 2, .swReq 2, .swForce 2, .vtbEnable 4, .vtbFrameStart 4,
     .schedAtwExecute 4096, .schedCommitExecute 4096, .schedMarkExecute 4096, .schedLaunchHandoff 4096,
     .schedCancel (2 ^ 32) none, .ctlRestart (2 ^ 16), .cgateRequest 22, .cgateAck 22, .cgateTimeout 22,
     .cgateForce 22, .cgateClear 22] = true := by decide +kernel

theorem test_wf_refuses_6 : noneWf
    [.accessWithdraw .host (2 ^ 32) 0, .accessWithdraw .host 0 (2 ^ 32), .perfClr (2 ^ 32), .histSnap 8,
     .histClear 8, .srd 0 32 0, .srd 0 0 0x3C0001F, .swr 0 32 0, .swr 0 0 0x3C001F, .syscall 16384 0,
     .syscall 0 0x3FFF, .wfe 0 0x3C0000, .vchk 0 0x3C00000, .callr 0 0 0x3FC0000, .ldb 0 0 0 0 [3] [],
     .ldb 0 0 0 0 [] [3], .ldbz 0 0 0 0 [3] [], .ldbz 0 0 0 0 [] [3], .ldh 0 0 0 0 [3] [], .ldh 0 0 0 0 [] [3],
     .ldhz 0 0 0 0 [3] [], .ldhz 0 0 0 0 [] [3], .ldw 0 0 0 0 [3] [], .ldw 0 0 0 0 [] [3], .progVerify 256] = true := by decide +kernel

theorem test_wf_refuses_7 : noneWf
    [.progSwitch (2 ^ 16), .hbReceive false 256 0 0, .hbReceive false 0 (2 ^ 32) 0, .hbReceive false 0 0 256,
     .pairRelease (2 ^ 16), .bookOpen 256, .bookClose (2 ^ 16), .domainPowerOn 22, .domainPowered 22,
     .domainPowerOff 22, .domainOffAck 22, .domainDrainTimeout 22, .domainForceOff 22, .railFault 10,
     .madcChWrite 16, .mboxRing false 4097, .dmaStart 2 false, .dmaDone 2 [] false, .dmaDone 0 [2 ^ 32] false,
     .bootFlashHeaders [] (List.replicate 128 0), .bootFlashHeaders (List.replicate 128 0) [], .bootImageRead [256],
     .lcRevoke 16, .lcFuse 16, .idReadDone .A []] = true := by decide +kernel

theorem test_wf_refuses_8 : noneWf
    [.spiDone [256], .ubRd (2 ^ 32), .ubWr (2 ^ 32) 0, .ubWr 0 (2 ^ 32), .ubMrd (2 ^ 32), .ubMwr (2 ^ 32) 0,
     .ubMwr 0 (2 ^ 32), .ubDrd (2 ^ 32), .ubDwr (2 ^ 32) 0, .ubDwr 0 (2 ^ 32), .ubChal (2 ^ 32), .ubResp (2 ^ 32) 0,
     .ubResp 0 (2 ^ 32), .dbgBreakpoint 4, .dbgWatchpoint 2 0 false, .dbgWatchpoint 0 (2 ^ 32) false,
     .pcieLinkUp 5 0, .pcieLinkUp 0 6, .railWithinTolerance 10, .lnPatWrite 48 false false,
     .rxLineFrame .A [[], [], []], .rxLineFrame .A [[64], [0], [0], [0]], .rxLineFrame .A [[0], [0], [0, 0], [0]],
     .dawnDetection .A [(4, 0, 0)], .registerWrite (.both none none none (2 ^ 32) 0)] = true := by decide +kernel

theorem test_wf_refuses_9 : noneWf
    [.registerWrite (.both (some (4, 0)) none none 8 0), .registerWrite (.voted (some (2 ^ 32, 0)) none none),
     .registerWrite (.voted none (some (0, 2 ^ 32)) none), .registerWrite (.voted none none (some (2 ^ 32, 0))),
     .registerWrite (.single false 3 0 0), .registerWrite (.single false 4 (2 ^ 32) 0),
     .registerWrite (.single true 4 0 (2 ^ 32)), .hostBar0Request (.read 0 0), .hostBar0Request (.read 0x7FFFFC 2),
     .hostBar0Request (.write 0 []), .hostBar0Request (.write 0x7FFFFC [0, 0]), .hostBar0Request (.write 0 [2 ^ 32]),
     .hostBar0Request (.narrow true 0x800000), .scrubCheck true 22 .clean, .scrubCheck false 9 .clean,
     .resyncDone (some (3, 0)), .resyncDone (some (0, 3))] = true := by decide +kernel

theorem test_wf_accepts_1 : List.all (α := Instr)
    [.readClear .host 0, .wideReadSnapshot .host 0, .commitReq (.conv .A) 0, .commitTick (.conv .A),
     .sysCmodeWrite .A 0, .sysReset 0, .resetExit false 0 0 0 0, .bgRoundEnd .A 0 ⟨0, 0, 0⟩,
     .bgMeasureDone .A 0 ⟨0, 0, 0⟩ ⟨0, 0, 0⟩, .seedWindowWrite .A 0 0, .dawnDescriptor .A 0, .dawnExpectWrite .A 0,
     .seedFreeze .A 0, .seedThaw .A 0, .seedInvalidate .A 0, .dawnSeedWrite .A 0 0, .lineAlignCheck .A 0 0 0,
     .defectTimer .A 1, .defectForce .A 0, .keyLoad .A 0, .clPortEnable 0, .clPortDisable 0,
     .clLinkChange 0 false 0 false false, .clIngressFrame 0 [] 0 0 0, .clEgressFrame 0 0] WellFormed = true := by decide +kernel

theorem test_wf_accepts_2 : List.all (α := Instr)
    [.impHeader 0, .storeIdReadDone 0 (List.replicate 256 0), .storeRecoveryDone 0 [] [], .storeReread 0,
     .storeIdOverride 0, .ringArm 0, .ringDisarm 0, .ringClear 0, .ringPtrSave 0, .storeOverloadExit 0,
     .storeDropLevelStep 0, .storeDropLevelReset 0, .ringRateWindow 0, .storeEccLeak 0, .ringExtentEnter 0,
     .rplPrepare 0, .rplPrepareDone 0, .rplLaunch 0, .rplLaunchNow 0, .rplUnitStart 0, .rplPacketSend 0 0,
     .rplStop 0, .laneEnable 0, .laneDisable 0, .lanePowered 0] WellFormed = true := by decide +kernel

theorem test_wf_accepts_3 : List.all (α := Instr)
    [.laneCdrLock 0, .laneAdaptDone 0, .laneCdrLoss 0, .lanePolTimer 0, .laneRxInvWrite 0 false, .podBlock 0 0,
     .podCommaAlign 0 0 0, .podHeaderHunt 0 0, .podAmAlign 0 0 0 0, .podDeskew 0 0, .podPortEnable 0, .podMsg 0,
     .podLinkIdTimer 0, .podPortDown 0 none, .podTransferReceive 0 none, .podAck 0, .podRetryTimeout 0 0,
     .podTimeSend 0 0, .podTimeReceive 0 0, .lanePatLock 0 0, .laneInjOne 0, .clockGood 0, .pllLock 0, .pllUnlock 0,
     .pllRateChange 0] WellFormed = true := by decide +kernel

theorem test_wf_accepts_4 : List.all (α := Instr)
    [.refselAccept 0, .refLoa 0, .refMonitorRestart 0 false 0, .clkMuxSelWrite 0 0, .muxChangeover 0, .muxStall 0,
     .muxForce 0, .tdSet 0, .tdStep 0 0, .tdSlew 0 0, .tdValidWrite 0 false, .tdLeaseExpiry 0, .timeExtWrap 0,
     .swReq 0, .swForce 0, .vtbEnable 0, .vtbFrameStart 0, .schedAtwExecute 0, .schedCommitExecute 0,
     .schedMarkExecute 0, .schedLaunchHandoff 0, .schedCancel 0 none, .ctlRestart 0, .cgateRequest 0, .cgateAck 0] WellFormed = true := by decide +kernel

theorem test_wf_accepts_5 : List.all (α := Instr)
    [.cgateTimeout 0, .cgateForce 0, .cgateClear 0, .accessWithdraw .host 0 0, .perfClr 0, .histSnap 0, .histClear 0,
     .srd 0 0 0, .swr 0 0 0, .syscall 0 0, .wfe 0 0, .vchk 0 0, .callr 0 0 0, .ldb 0 0 0 0 [] [],
     .ldbz 0 0 0 0 [] [], .ldh 0 0 0 0 [] [], .ldhz 0 0 0 0 [] [], .ldw 0 0 0 0 [] [], .progVerify 0, .progSwitch 0,
     .hbReceive false 0 0 0, .pairRelease 0, .bookOpen 0, .bookClose 0, .domainPowerOn 0] WellFormed = true := by decide +kernel

theorem test_wf_accepts_6 : List.all (α := Instr)
    [.domainPowered 0, .domainPowerOff 0, .domainOffAck 0, .domainDrainTimeout 0, .domainForceOff 0, .railFault 0,
     .madcChWrite 0, .mboxRing false 0, .dmaStart 0 false, .dmaDone 0 [] false,
     .bootFlashHeaders (List.replicate 128 0) (List.replicate 128 0), .bootImageRead [], .lcRevoke 0, .lcFuse 0,
     .idReadDone .A (List.replicate 256 0), .spiDone [], .ubRd 0, .ubWr 0 0, .ubMrd 0, .ubMwr 0 0, .ubDrd 0,
     .ubDwr 0 0, .ubChal 0, .ubResp 0 0, .dbgBreakpoint 0] WellFormed = true := by decide +kernel

theorem test_wf_accepts_7 : List.all (α := Instr)
    [.dbgWatchpoint 0 0 false, .pcieLinkUp 0 0, .railWithinTolerance 0, .lnPatWrite 0 false false,
     .rxLineFrame .A [[63], [-64], [0], [0]], .dawnDetection .A [(3, 0, 0)],
     .registerWrite (.both (some (4, 0)) none none 4 0), .registerWrite (.voted (some (0, 0)) none none),
     .registerWrite (.single false 2 0 0), .hostBar0Request (.read 0x7FFFFC 1), .hostBar0Request (.write 0 [0]),
     .hostBar0Request (.narrow true 0x7FFFFF), .scrubCheck true 21 .clean, .scrubCheck false 8 .clean,
     .resyncDone (some (2, 2))] WellFormed = true := by decide +kernel

/-! The states of the tests. -/

/-- No register listed: the device in RESET. -/
def bare : State := { State.reset with regs := [] }

/-- RUN, with every domain on. -/
def up : State := (bare.set R.SYS_STATE.STATE 2).set R.PWR_DOM_STAT.ON 0x3FFFFF
/-- STANDBY, with every domain on. -/
def standby : State := up.set R.SYS_STATE.STATE 3
/-- The state at an AON time, no timer started since 0. -/
def at_ (n : Nat) (s : State) : State := { s with time := { s.time with aon := n } }
/-- RXDSP of Carrier A runs and holds the samples of a first cycle that carries a header: symbol 192 + m at sample 181 + ⌊9m / 8⌋. -/
def rxHolds (hdr : Nat) : State :=
  let sgn := fun (b : Bool) => if b then (-800 : Int) else 800
  let w := List.replicate 181 ((0 : Int), (0 : Int)) ++ (List.range 72).map (fun j =>
    let m := 8 * (j / 9) + min 7 (j % 9)
    (sgn (bitOf hdr (127 - 2 * m)), sgn (bitOf hdr (126 - 2 * m)))) ++ List.replicate 35 (0, 0)
  let h := { RxH.reset with taps := [(35, 0x4000), (0x1A3, 0x4000)] }
  { up.set (runningF (.rxdsp .A)) 1 with
    rx := ⟨{ h with str := { h.str with x := { h.str.x with wait := w }, y := { h.str.y with wait := w } } }, .reset⟩ }
/-- The words of an image that R111 accepts, the CRC apart. -/
def imageBody : State := ((up.set (imgWord .A 0) 0xCA1B5EED).set (imgWord .A 1) 0x40001).set (imgWord .A 4) 804
/-- A calibration image that passes every check of R111. -/
def goodImage : State := imageBody.set (imgWord .A 803) (crc32 (imgBytes imageBody .A))
/-- DAWN runs, in the Dawn receive mode. -/
def dn : State := (up.set (runningF (.dawn .A)) 1).set (R.SYS_CMODE.MODE.ix 0) mDAWNRX
/-- The 128 coded bits of a good descriptor with a source and a length. -/
def goodCoded (src n : Nat) : Nat :=
  let d := (src * 65536 + n) * 65536
  let d := d * 65536 + crcOf 16 0x1021 0xFFFF (msbFirst 48 d)
  let w := fun k => rmEncode (bitsOf d (63 - 16 * k) (48 - 16 * k))
  w 0 + 2 ^ 32 * w 1 + 2 ^ 64 * w 2 + 2 ^ 96 * w 3
/-- FRAMER of Carrier A runs in CONT mode. -/
def fr : State := ((up.set (runningF (.framer .A)) 1).set (R.SYS_CMODE.MODE.ix 0) mCONT).set (R.CIPH_STAT.IN_SYNC.on .A) 1
/-- A second with a near-end errored second. -/
def tenth : SecRec := ⟨true, false, false, false, false, false, false, false, false, 1, false⟩
/-- CIPHER of Carrier A runs in CONT mode. -/
def ci : State := (up.set (runningF (.cipher .A)) 1).set (R.SYS_CMODE.MODE.ix 0) mCONT
/-- A KEK blob of 32 bytes 7 under the blown wrap key stands in the window. -/
def blobState : State :=
  let s := { up with ldg := { LdgH.reset with blown := true } }
  foldIdx (fun i s b => setWindowByte s (blkBase (.cipher .A) + 0x160) i b) 0 s (kwWrap (wrapKey s) (List.replicate 32 7))
/-- A key record of 40 bytes 9 under a KEK of bytes 7 stands in the window. -/
def recState : State :=
  let s := { up with ciph := ⟨{ CiphH.reset with kek := some (List.replicate 32 7) }, .reset⟩ }
  foldIdx (fun i s b => setWindowByte s (blkBase (.cipher .A) + 0x100) i b) 0 s (kwWrap (List.replicate 32 7) (List.replicate 40 9))
/-- Port 3 runs, at one lane. -/
def cl : State := ((up.set (R.CL_PORT_STAT.RUNNING.ix 3) 1).set (R.CL_PORT_CFG.LANE_RATE.ix 3) 2).set (runningF .client) 1
/-- Port 0 may start: its lane has power, its MTU is legal. -/
def cl1 : State := setLn ((up.set (R.CL_PORT_CFG.LANE_RATE.ix 0) 2).set (R.CL_PORT_CFG.MTU.ix 0) 1500) 0 { LaneH.reset with st := 1 }
/-- A frame of 64 bytes with a good FCS. -/
def goodFrame : List Nat := withFcs (List.replicate 60 5)
/-- An AM block of lane number 1. -/
def goodAm : Nat := payload ([0x4D, 1] ++ (List.range 12).map (fun i => patP (i + 2)) ++ [5, 250])
/-- POD4 and POD5 are UP and meet the conditions of a bond. -/
def bondable : State :=
  let s := ((up.set (R.POD_PORT.STATE.ix 4) 4).set (R.POD_PORT.STATE.ix 5) 4).set R.POD_CFG.BOND 1
  (podLanes 5).foldl (fun s n => setLn s n { LaneH.reset with num := n % 4 + 4 }) (s.set R.POD_RINFO.RPORT5 1)
/-- An identity record that passes R356. -/
def goodRec : List Nat :=
  let b := (List.replicate 48 0) ++ [1, 10, 20, 0] ++ List.replicate 200 0
  b ++ leBytes 4 (crc32 b)
/-- A unit in packet mode. -/
def theUnit : RUnit := ⟨0, 8, 0, 0, 100, [⟨0, 1, [1, 2]⟩], 0⟩
/-- STORE runs, ring 0 holds extents on module 0, which is READY, and units 0 to 4; channel 2 may prepare to DEST 1. -/
def rplReady : State :=
  let s := ((up.set (runningF .store) 1).set (R.STORE_MOD_STAT.STATE.ix 0) 3).set (R.RING_HEAD.HEAD.ix 0) 5
  (setRg s 0 { RingH.reset with exts := [4] }).set (R.RPL_DEST.DEST.ix 2) 1
/-- STORE and FLOW run, module 1 is READY, ring 3 holds an extent of it and declares a rate. -/
def armable : State :=
  let s := ((up.set (R.STORE_MOD_STAT.STATE.ix 1) 3).set (runningF .flow) 1).set (runningF .store) 1
  let s := ((s.set (R.RING_CFG.MODULE.ix 3) 1).set (R.RING_RATE.DECL_RATE.ix 3) 1000).set (R.RING_CFG.EXTENTS.ix 3) 1
  setRg s 3 { RingH.reset with exts := [4], module := 1 }
/-- A program runs on three equal channels, in RUN. -/
def cx : State := let s := up.set R.VOTE_STAT.EXCLUDED 3; { s with ctl := { CtlH.reset with started := true } }
/-- One channel differs from the others. -/
def cxOdd (m : Nat) : State := { cx with ctl := { cx.ctl with chans := cx.ctl.chans.set m { Chan.reset with pc := 4 } } }
/-- Channel 2 is excluded. -/
def cxDup : State := (cx.set R.VOTE_STAT.STATE vDUPLEX).set R.VOTE_STAT.EXCLUDED 2
/-- A resynchronisation of channel 2 is in progress. -/
def cxRes : State := cxDup.set R.VOTE_STAT.STATE vRESYNC
/-- A control restart waits for the check of its image. -/
def goodBoot : State := { cx.set R.VOTE_STAT.STATE vFROZEN with host := { HostH.reset with restart := true, boot := .verify } }
/-- Three equal channels with g3 = 1 and g4 = 3. -/
def cxg : State := { cx with ctl := { cx.ctl with chans := List.replicate 3 { Chan.reset with g := [(3, 1), (4, 3)] } } }
/-- A task runs on three equal channels, with regions for all its SRAM and a time slice. -/
def cxt : State :=
  { cx with ctl := { cx.ctl with chans := List.replicate 3 { Chan.reset with
    sr := [(0, 1), (8, 0x80000), (9, 0x100000), (10, 0x180000), (12, 9)] } } }
/-- The supervisor runs within an exception. -/
def cxe : State := { cx with ctl := { cx.ctl with chans := List.replicate 3 { Chan.reset with sr := [(0, 0x1F0004)] } } }
/-- Three equal channels whose registers and SRAM hold what is given. -/
def cxWith (c : Chan) : State := { cx with ctl := { cx.ctl with chans := List.replicate 3 c } }
/-- g4 points into data SRAM. -/
def cxm : State := cxWith { Chan.reset with g := [(3, 0xFF), (4, 0x100000)], mem := [(0x100004, 0x85)] }
/-- A task without regions runs at 0. -/
def cxn : State := cxWith { Chan.reset with sr := [(0, 1), (8, 4)] }
/-- g3 points at CLK, g5 is 5. -/
def cxr : State := cxWith { Chan.reset with g := [(3, 0x40010000), (4, 0x40010000), (5, 5)] }
/-- A task with g4 at CLK. -/
def cxtr : State := cxWith { Chan.reset with g := [(3, 0x40010000), (4, 0x40010000), (5, 5)], sr := [(0, 1), (8, 0x80000)] }
/-- g4 and g5 point into bank 1 while bank 0 runs. -/
def cxi : State := cxWith { Chan.reset with g := [(4, 0x50000), (5, 0x50000)] }
/-- A descriptor at the start of data SRAM, at g4: time 2^32, ARG0 and ARG1. -/
def cxs (arg0 arg1 : Nat) : State :=
  cxWith { Chan.reset with
    g := [(4, 0x100000)], mem := memPutLe (memPutLe (memPutLe (memPutLe [(0x100000, 200)] 0x100004 4 (2 ^ 20)) 0x100008 4 arg0) 0x10000C 4 arg1) 0x100014 4 7 }
/-- A descriptor of zeros. -/
def cxm0 : State := cxWith { Chan.reset with g := [(4, 0x100000)] }
/-- g3 and g4 point at TX of Carrier A, whose domain is off. -/
def cxoff : State := (cxWith { Chan.reset with g := [(3, blkBase (.tx .A)), (4, blkBase (.tx .A))] }).set R.PWR_DOM_STAT.ON 0x1F
/-- The value that CLK's first register shows. -/
def regV : Nat := ((busRead (presented cxr) 0 0x40010000).2).getD 0
/-- The Pod path of the pair is in use. -/
def podPair : State := ((up.set R.PAIR_CFG.HB_POD_EN 1).set (R.POD_PORT.STATE.ix 4) 4).set (rinfoF 4).1 1 |>.set (rinfoF 4).2.1 1
/-- DMA channel 1 moves two words from the host to data SRAM. -/
def dmaData : State :=
  (((up.set (R.DMA_CTRL.BUSY.ix 1) 1).set (R.DMA_LEN.LEN.ix 1) 8).set (R.DMA_DADDR.DADDR.ix 1) 0x100000).set R.DMA_WIN.LIMIT 4
/-- DMA channel 1 moves two words from the host to registers. -/
def dmaRegs : State := ((up.set (R.DMA_CTRL.BUSY.ix 1) 1).set (R.DMA_LEN.LEN.ix 1) 8).set (R.DMA_DADDR.DADDR.ix 1) 0x40010000
/-- 1,024 control cycles on. -/
def cyc (s : State) : State := { s with ctl := { s.ctl with cycles := 1024 } }
/-- Its time slice has run down. -/
def cxtt : State := { cxt with ctl := { cxt.ctl with chans := cxt.ctl.chans.map (fun c => { c with timer := true, sr := c.sr.filter (fun p => decide (p.1 ≠ 12)) }) } }
/-- The encoder runs, and CIPHER has formed so many words. -/
def formedFor (s : State) (n : Nat) : State :=
  { s.set (R.FEC_STAT.ENC_ACTIVE.on .A) 1 with ciph := ⟨{ CiphH.reset with formed := List.replicate n ⟨false, 0, 0, 0, 0, List.replicate 16 5⟩, anchorHeld := true }, .reset⟩ }
/-- An image of a program of one word that passes every check of R535: the signature's key and point are the neutral point. -/
def smallImage : List Host.Cell :=
  [(0, 0x4C), (1, 0x4B), (2, 0x4E), (3, 0x4A), (4, 1), (6, 1), (8, 196), (12, 128), (64, 1), (132, 1)]

/-! Single steps and tables: expected values come from the worked examples of the spec, named at each test, or from the
standards that the spec cites. -/

/-- The state a command answers. -/
def after (i : Instr) (s : State) : State := match exec i s with | .next t => t | _ => s
/-- IDs and data of the queued events. -/
def evs (s : State) : List (Nat × Nat) := s.ev.entries.map (fun e => (e.id, e.data))

/-- 02_transmit_path.md, worked example: ENTROPY 109 gives B = 337, 110 gives 341 and 1,394,008 coded bits per frame. -/
theorem test_block_bits : blockBits 3 109 = 337 ∧ blockBits 3 110 = 341 ∧ 4088 * blockBits 3 110 = 1394008 := by decide
/-- 03_converters.md, worked example: offset 9.5 rounds to 10, gain -6.5 to -7. -/
theorem test_interpolate :
    interpolate 6 13 832 1408 1120 = 10 ∧ interpolate (-4) (-9) 832 1408 1120 = -7 := by decide
/-- 09_client_ports.md, worked example: slot 307 is slot 7 of slice 16, and its MSI byte is that of port 16, 0x90. -/
theorem test_msi_byte : psiByte (up.set (wordAt 0x40308130) 0x90808080) .A (2 + 7) 15 = 0x90 := by decide +kernel
/-- 10_acorn_store.md, worked example: 12,000 Mb/s is charged 12,120. -/
theorem test_charge : ceil101 12000 = 12120 := by decide
/-- 13_time_scheduling.md, worked example: the start of frame F and of line 2,200 at 2160p59.94. -/
theorem test_timebase :
    let s := (up.set (R.VTB_CFG.RASTER.ix 1) 3).set (R.VTB_CFG.RATE.ix 1) 6
    vtbFrameStart s 1 104595404595 = 1744999999993250000 ∧ vtbLineStart s 1 2200 = 16305177 := by decide +kernel
/-- The same example: DIFF 180 ns is accepted with R = -180 ns, DIFF 620 ns refused. -/
theorem test_switch_accepted :
    let s := ((up.set (R.TD_CTRL.VALID.ix 1) 1).set R.TIME_CTRL.SW_TARGET 1).set R.TIME_CTRL.TIME_AGREE 50 |>.set R.TIME_DIFF.DIFF_NS 180
    (after (.swReq 1) s).get R.TIME_STAT.ACT_DOM = 1 ∧ evs (after (.swReq 1) s) = [(E.TIME_SWITCH, 257)] := by decide +kernel
theorem test_switch_refused :
    let s := ((up.set (R.TD_CTRL.VALID.ix 1) 1).set R.TIME_CTRL.SW_TARGET 1).set R.TIME_CTRL.TIME_AGREE 50 |>.set R.TIME_DIFF.DIFF_NS 620
    (after (.swReq 1) s).get R.TIME_STAT.ACT_DOM = 0 ∧ evs (after (.swReq 1) s) = [(E.TIME_SWITCH, 769)] := by decide +kernel
/-- 11_serial_lanes.md, worked example, at device 0: DELAY 1,300 ps and OFFSET 37 ns. Times in 1/256 ns, less 500,000,000 ns;
T4 is AON time here. -/
theorem test_pod_time :
    let s := { up.set (R.POD_PORT.STATE.ix 5) 4 with time := { TimeH.reset with aon := 41964 } }
    let s := setPp s 5 { PodPortH.reset with inbox := [0x99 * 2 ^ 120 + 42000 * 256 * 2 ^ 80 + 9805] }
    let t := after (.podTimeReceive 5 77) s
    t.get (R.POD_DELAY.DELAY_PS.ix 1) / 10 = 130 ∧ t.get (R.POD_OFF.OFF_NS.ix 1) = 37 := by decide +kernel
/-- 14_control_complex.md, worked example: Noon alone reads an uncorrectable word of its data SRAM. -/
theorem test_noon_upset :
    let t := after (.ldw 3 4 0 0 [] [1]) cxm
    t.get R.VOTE_STAT.STATE = 1 ∧ t.get R.VOTE_STAT.EXCLUDED = 1 ∧ t.get R.VOTE_STAT.CAUSE = 5 ∧
    (evs t).take 2 = [(E.MEM_UE, 5), (E.VOTE_DIVERGE, 0x501)] := by decide +kernel
/-- 15_instruction_set.md, worked example: words of STW, SETH, IORK, ADDK. -/
theorem test_words :
    encI 0x22 1 2 0 = 0x88480000 ∧ encI 0x18 3 0 0x225C0 = 0x60C225C0 ∧ encI 0x12 3 3 0x7D0 = 0x48CC07D0 ∧
    encI 0x10 3 0 0x3FFFF = 0x40C3FFFF := by decide
/-- The same example: g3 = 0x8970_07D0 after SETH and IORK. -/
theorem test_seth_iork :
    (chan (after (.iork 3 3 0x7D0) (after (.seth 3 0 0x225C0) cx)) 1).gr 3 = 0x897007D0 := by decide +kernel
/-- ADDK with an immediate of -1 sign-extends (the same example). -/
theorem test_addk_minus_one : (chan (after (.addk 3 0 0x3FFFF) cx) 2).gr 3 = 0xFFFFFFFF := by decide +kernel
/-- A source that is also the destination: 3 - 3 into g4 (R524). -/
theorem test_sub_same : (chan (after (.sub 4 4 4) cxg) 0).gr 4 = 0 := by decide +kernel
/-- A task's SWR takes PRIV with EPC at the instruction (R512, R518). -/
theorem test_swr_task : (chan (after (.swr 3 6 0) cxt) 0).sreg 3 = xPRIV ∧ (chan (after (.swr 3 6 0) cxt) 0).task = false := by
  decide +kernel
/-- 18_power_thermal_monitor.md, worked example: 100.0 °C sets WARN, 108.0 °C THROTTLE, 104.0 °C clears THROTTLE. -/
theorem test_thermal :
    let s := after (.sensorReading (some 0x640)) (at_ 1000000 { up with pwr := { PwrH.reset with seen := true } })
    let t := after (.sensorReading (some 0x6C0)) (at_ 2000000 s)
    s.on R.PWR_STAT.WARN = true ∧ s.on R.PWR_STAT.THROTTLE = false ∧ t.on R.PWR_STAT.THROTTLE = true ∧
    (after (.sensorReading (some 0x680)) (at_ 3000000 t)).on R.PWR_STAT.THROTTLE = false := by decide +kernel
/-- Headers without their magic are not tried (R534, R620). -/
theorem test_slot_order : slotOrder (List.replicate 128 0) [] = [] := by decide +kernel
/-- The check value of CRC-32 of IEEE 802.3 over "123456789" (R667). -/
theorem test_crc32 : crc32 [0x31, 0x32, 0x33, 0x34, 0x35, 0x36, 0x37, 0x38, 0x39] = 0xCBF43926 := by decide +kernel
/-- The check value of CRC-16 with 0x1021 and initial value 0xFFFF over "123456789" (R667). -/
theorem test_crc16 :
    crcOf 16 0x1021 0xFFFF (bytesMsbFirst [0x31, 0x32, 0x33, 0x34, 0x35, 0x36, 0x37, 0x38, 0x39]) = 0x29B1 := by decide +kernel
set_option maxRecDepth 100000 in
/-- FIPS 197: the S-box maps 0x53 to 0xED, and {57} · {83} = {c1}. -/
theorem test_aes_tables : aesSub 0x53 = 0xED ∧ gf8Mul 0x57 0x83 = 0xC1 := by decide +kernel
/-- No word spells a command (log entry 2). -/
theorem test_no_words : decodeTableWord 32 0x40C3FFFF = none ∧ (up.withFetchWord 32 7).pending = [] := by decide +kernel

/-! The image that passes every check of R111: its CRC is computed over the other words, so the check of the CRC is shown and
not evaluated. -/

theorem crc32Bit_lt {r : Nat} (h : r < 2 ^ 32) : crc32Bit r < 2 ^ 32 := by
  unfold crc32Bit
  split
  · exact Nat.xor_lt_two_pow (by rw [Nat.shiftRight_eq_div_pow]; omega) (by decide)
  · rw [Nat.shiftRight_eq_div_pow]; omega

theorem crc32_lt (bs : List Nat) : crc32 bs < 2 ^ 32 := by
  refine Nat.xor_lt_two_pow ?_ (by decide)
  have : ∀ (bs : List Nat) (r : Nat), r < 2 ^ 32 → bs.foldl crc32Byte r < 2 ^ 32 := by
    intro bs
    induction bs with
    | nil => exact fun r h => h
    | cons b bs ih =>
      intro r h
      refine ih _ ?_
      unfold crc32Byte
      exact crc32Bit_lt (crc32Bit_lt (crc32Bit_lt (crc32Bit_lt (crc32Bit_lt (crc32Bit_lt (crc32Bit_lt (crc32Bit_lt
        (Nat.xor_lt_two_pow h (by omega)))))))))
  exact this bs _ (by decide)

/-- Another word of the window, or another field, reads as before its CRC was written. -/
theorem goodImage_get {f : Fld} (h : f.key ≠ (imgWord .A 803).key) : goodImage.get f = imageBody.get f :=
  State.get_set_ne _ _ h

theorem goodImage_bytes : imgBytes goodImage .A = imgBytes imageBody .A := by
  unfold imgBytes
  rw [List.flatMap_def, List.flatMap_def]
  refine congrArg List.flatten (List.map_congr_left fun w hw => ?_)
  rw [goodImage_get]
  have : w < 803 := List.mem_range.mp hw
  simp only [imgWord, wordAt, Fld.on, Fld.key, Carrier.num]
  omega

theorem goodImage_passes : calRejCode goodImage .A = 0 := by
  have hc : goodImage.get (imgWord .A 803) = crc32 (imgBytes goodImage .A) := by
    rw [goodImage_bytes]
    show (imageBody.set _ _).get _ = _
    rw [State.get_set_same]
    exact Nat.mod_eq_of_lt (crc32_lt _)
  have h0 : goodImage.get (imgWord .A 0) = 0xCA1B5EED := by rw [goodImage_get (by decide)]; decide +kernel
  have h1 : goodImage.get (imgWord .A 1) = 0x40001 := by rw [goodImage_get (by decide)]; decide +kernel
  have h4 : goodImage.get (imgWord .A 4) = 804 := by rw [goodImage_get (by decide)]; decide +kernel
  have z : ∀ f : Fld, f.key ≠ (imgWord .A 803).key → imageBody.get f = 0 → goodImage.get f = 0 :=
    fun f h e => (goodImage_get h).trans e
  unfold calRejCode State.getC
  simp only [ne_eq, not_true_eq_false, if_false, hc, h0, h1, h4, z (imgWord .A 2) (by decide) (by decide +kernel), z (imgWord .A 3) (by decide) (by decide +kernel),
    z (R.CAL_GEN.GEN.on .A) (by decide) (by decide +kernel), z (R.CAL_GEN_FLOOR.FLOOR.on .A) (by decide) (by decide +kernel),
    z (R.CONV_DIE_TAG.DIE_TAG.on .A) (by decide) (by decide +kernel), z (R.CAL_CTRL.MODEL.on .A) (by decide) (by decide +kernel)]
  decide +kernel

/-- The image stands where CONV can be reached, stopped and idle. -/
theorem goodImage_idle :
    Open goodImage (.conv .A) ∧ goodImage.running (.conv .A) = false ∧ goodImage.onC .A R.CONV_STAT.ADC_ACTIVE = false ∧
    goodImage.onC .A R.CONV_STAT.DAC_ACTIVE = false ∧ goodImage.onC .A R.CAL_IMG_CTRL.BUSY = false := by
  have e : ∀ f : Fld, f.key ≠ (imgWord .A 803).key → goodImage.get f = imageBody.get f := fun f h => goodImage_get h
  have hm : regMux goodImage (.conv .A) = some 5 := by
    simp only [regMux, State.domOn, e R.PWR_DOM_STAT.ON (by decide)]
    decide +kernel
  simp only [Open, State.dev, reachable, State.domOn, State.domGated, State.running, State.onC, State.on,
    e R.SYS_STATE.STATE (by decide), e R.PWR_DOM_STAT.ON (by decide), e R.PWR_CGATE_STAT.GATED (by decide),
    e (resettingF (.conv .A)) (by decide), e (runningF (.conv .A)) (by decide),
    e (R.CONV_STAT.ADC_ACTIVE.on .A) (by decide), e (R.CONV_STAT.DAC_ACTIVE.on .A) (by decide),
    e (R.CAL_IMG_CTRL.BUSY.on .A) (by decide), hm, e (R.CLK_MUX.MUX_STALL.ix 5) (by decide), (by decide : laneOfReg (.conv .A) (blkBase (.conv .A)) = none)]
  decide +kernel

/-! Witnesses. -/

/-- The hypotheses of `Obligations.RegisterWriteByAccessCode` can be met, those of each part together. -/
theorem witness_RegisterWriteByAccessCode :
    (∃ (s : State) (c : Carrier) (a : Nat) (x : Nat), x < 2 ^ 32 ∧ a / 0x10000 * 0x10000 = blkBase (.fec c) ∧ a % 4 = 0 ∧ s.dev ≠ 0 ∧ reachable s (.fec c) a = true ∧ s.on (resettingF (.fec c)) = false ∧ s.on R.SYS_CTRL.HOST_LOCK = false ∧ 16 ≤ a % 0x10000 ∧ (∀ f ∈ fieldsAt (.fec c) a, f.upd = .halted → s.running (.fec c) = false)) ∧
    (∃ (s : State) (c : Carrier) (a : Nat) (x : Nat), x < 2 ^ 32 ∧ a / 0x10000 * 0x10000 = blkBase (.fec c) ∧ a % 4 = 0 ∧ s.dev ≠ 0 ∧ reachable s (.fec c) a = true ∧ s.on (resettingF (.fec c)) = false ∧ s.on R.SYS_CTRL.HOST_LOCK = false ∧ 16 ≤ a % 0x10000 ∧ s.running (.fec c) = true ∧ (∃ f ∈ fieldsAt (.fec c) a, f.upd = .halted ∧ s.get f ≠ fieldOf f x)) ∧
    (∃ (s : State) (c : Carrier) (a : Nat) (x : Nat), x < 2 ^ 32 ∧ a / 0x10000 * 0x10000 = blkBase (.fec c) ∧ a % 4 = 0 ∧ s.dev ≠ 0 ∧ reachable s (.fec c) a = false) ∧
    (∃ (s : State) (c : Carrier) (a : Nat) (x : Nat), x < 2 ^ 32 ∧ a / 0x10000 * 0x10000 = blkBase (.fec c) ∧ a % 4 = 0 ∧ s.dev ≠ 0 ∧ reachable s (.fec c) a = true ∧ s.on (resettingF (.fec c)) = false ∧ 16 ≤ a % 0x10000 ∧ (∀ f ∈ fieldsAt (.fec c) a, f.upd = .halted → s.running (.fec c) = false) ∧ s.on R.SYS_CTRL.HOST_LOCK = false) ∧
    (∃ (s : State) (c : Carrier) (a : Nat) (x : Nat), x < 2 ^ 32 ∧ a / 0x10000 * 0x10000 = blkBase (.fec c) ∧ a % 4 = 0 ∧ s.dev ≠ 0 ∧ reachable s (.fec c) a = true ∧ s.on (resettingF (.fec c)) = false ∧ 16 ≤ a % 0x10000 ∧ (∀ f ∈ fieldsAt (.fec c) a, f.upd = .halted → s.running (.fec c) = false) ∧ votes s = true ∧ 2 ≤ (liveChans s).length) ∧
    (∃ (s : State) (c : Carrier) (a : Nat) (x : Nat), x < 2 ^ 32 ∧ a / 0x10000 * 0x10000 = blkBase (.fec c) ∧ a % 4 = 0 ∧ s.dev ≠ 0 ∧ reachable s (.fec c) a = true ∧ s.on (resettingF (.fec c)) = false ∧ 16 ≤ a % 0x10000 ∧ (∀ f ∈ fieldsAt (.fec c) a, f.upd = .halted → s.running (.fec c) = false) ∧ votes s = true ∧ 2 ≤ (liveChans s).length ∧ s.on R.SYS_CTRL.HOST_LOCK = false) ∧
    (∃ (s : State) (size : Nat), s.dev ≠ 0 ∧ size ≠ 4) :=
  ⟨⟨up, .A, 0x40140010, 0xFFFFFFFF, by decide +kernel⟩,
   ⟨up.set (runningF (.fec .A)) 1, .A, 0x40140010, 0xFFFFFFFF, by decide +kernel⟩,
   ⟨bare.set R.SYS_STATE.STATE 2, .A, 0x40140010, 7, by decide +kernel⟩,
   ⟨up, .A, 0x40140010, 0xFFFFFFFF, by decide +kernel⟩,
   ⟨cx, .A, 0x40140010, 0xFFFFFFFF, by decide +kernel⟩,
   ⟨cx, .A, 0x40140010, 0xFFFFFFFF, by decide +kernel⟩,
   ⟨up, 2, by decide +kernel⟩⟩

/-- The hypotheses of `Obligations.ReadsClearAndSnapshot` can be met, those of each part together. -/
theorem witness_ReadsClearAndSnapshot :
    (∃ (s : State) (a : Nat) (c : Carrier) (f : Fld), s.dev ≠ 0 ∧ a % 4 = 0 ∧ f ∈ fieldsAt (.fec c) a ∧ f.acc = .rc ∧ a / 0x10000 * 0x10000 = blkBase (.fec c) ∧ 16 ≤ a % 0x10000 ∧ reachable s (.fec c) a = true ∧ s.on (resettingF (.fec c)) = false ∧ wideAt (.fec c) a = false ∧ wideAt (.fec c) (a - 4) = false) ∧
    (∃ (s : State) (a : Nat) (who : Requester) (b : Blk), s.dev ≠ 0 ∧ a % 4 = 0 ∧ (b = .clk ∨ b = .time) ∧ regBlk a = some b ∧ wideAt b a = true ∧ (winAt b (a % 0x10000)).isNone = true ∧ reachable s b a = true ∧ (votedBy who = true → votes s = true)) :=
  ⟨⟨up.set (R.FEC_CAP.CAPPED.on .A) 5, (R.FEC_CAP.CAPPED.on .A).addr, .A, R.FEC_CAP.CAPPED.on .A, by decide +kernel⟩,
   ⟨up, R.AON_NOW.AON.addr, .host, .time, by decide +kernel⟩⟩

/-- The hypotheses of `Obligations.SoftResetAndCommits` can be met, those of each part together. -/
theorem witness_SoftResetAndCommits :
    (∃ (s : State) (b : Blk), Open s b ∧ alwaysRuns b = false) ∧
    (∃ (s : State) (b : Blk), heldReset s b = false) ∧
    (∃ (s : State) (b : Blk) (sel : Nat), Open s b ∧ sel < 4) ∧
    (∃ (s : State) (b : Blk) (c : Carrier), (b = .conv c ∨ b = .dawn c) ∧ tickRuns s b = true ∧ s.commitDue b = true ∧ s.shadow.sorted = true) ∧
    (∃ (s : State) (c : Carrier), tickRuns s (.rxdsp c) = true ∧ s.commitDue (.rxdsp c) = true ∧ s.shadow.sorted = true) ∧
    (∃ (s : State) (b : Blk), (s.commitDue b = false ∨ tickRuns s b = false)) :=
  ⟨⟨up.set (runF (.fec .B)) 1, .fec .B, by decide +kernel⟩,
   ⟨up.set (resettingF .madc) 1, .madc, by decide +kernel⟩,
   ⟨up, .tx .A, 1, by decide +kernel⟩,
   ⟨{ up with shadow := [((R.DAWN_CTRL.SYNC_WIN.on .A).key, 7)] }, .dawn .A, .A, by decide +kernel⟩,
   ⟨{ up with shadow := [((R.RX_CR_CTRL.TR_BW.on .A).key, 7)] }, .A, by decide +kernel⟩,
   ⟨up, .conv .A, by decide +kernel⟩⟩

/-- The hypotheses of `Obligations.WaitingBlocksStart` can be met, those of each part together. -/
theorem witness_WaitingBlocksStart :
    (∃ (s : State) (b : Blk), s.waits b = true ∧ s.runBit b = true ∧ s.running b = false ∧ s.stopping b = false ∧ s.dev ≠ stBOOT ∧ startsNow s b = true ∧ s.clockReady b = true ∧ s.on (resettingF b) = false) ∧
    (∃ (s : State) (b : Blk), s.waits b = true ∧ s.runBit b = true ∧ s.running b = false ∧ s.stopping b = false ∧ s.dev ≠ stBOOT ∧ s.clockReady b = false) :=
  ⟨⟨{ up.set (runF .client) 1 with waiting := [.client] }, .client, by decide +kernel⟩,
   ⟨{ (up.set (runF .client) 1).set (R.CLK_MUX.CUR.ix 2) 2 with waiting := [.client] }, .client, by decide +kernel⟩⟩

/-- The hypotheses of `Obligations.EntriesToReset` can be met, those of each part together. -/
theorem witness_EntriesToReset :
    (∃ (s : State) (key : Nat), Open s .sys ∧ s.dev ≠ stTHERMALOFF ∧ key % 2 ^ 16 = 0x5EED) ∧
    (∃ (s : State), s.dev ≠ 0 ∧ s.dev ≠ stTHERMALOFF) ∧
    (∃ (s : State), s.dev = stTHERMALOFF ∧ 10000 ≤ s.pwr.cool) ∧
    (∃ (s : State), s.dev = 0 ∧ s.clk.good = true ∧ coolEnough s = true ∧ 10000 ≤ s.age .hold) ∧
    (∃ (s : State) (high : Bool), s.dev = 0 ∧ (high = false ∨ s.clk.good = false ∨ coolEnough s = false ∨ s.age .hold < 10000)) ∧
    (∃ (s : State), s.dev ≠ 0) :=
  ⟨⟨up, 0x5EED, by decide +kernel⟩,
   ⟨standby, by decide +kernel⟩,
   ⟨{ up.set R.SYS_STATE.STATE 5 with pwr := { PwrH.reset with cool := 10000 } }, by decide +kernel⟩,
   ⟨at_ 10000 { bare with pwr := { PwrH.reset with seen := true } }, by decide +kernel⟩,
   ⟨bare, false, by decide +kernel⟩,
   ⟨up, by decide +kernel⟩⟩

/-- The hypotheses of `Obligations.ModesAndNight` can be met, those of each part together. -/
theorem witness_ModesAndNight :
    (∃ (s : State) (c : Carrier), Open s .sys ∧ (subBlocks c).any s.running = false) ∧
    (∃ (s : State), Open s .sys ∧ s.dev = stSTANDBY) ∧
    (∃ (s : State) (beaten : Bool), Open s .sys ∧ (s.dev ≠ stSTANDBY ∨ beaten = true)) ∧
    (∃ (s : State), Open s .sys ∧ s.dev = stNIGHT ∧ s.pwr.night ≠ 1) ∧
    (∃ (s : State), Open s .sys ∧ s.dev = stNIGHT ∧ s.pwr.night = 1) :=
  ⟨⟨standby, .B, by decide +kernel⟩,
   ⟨standby.set (runF (.tx .A)) 1, by decide +kernel⟩,
   ⟨up, false, by decide +kernel⟩,
   ⟨up.set R.SYS_STATE.STATE 4, by decide +kernel⟩,
   ⟨{ up.set R.SYS_STATE.STATE 4 with pwr := { PwrH.reset with night := 1 } }, by decide +kernel⟩⟩

/-- The hypotheses of `Obligations.TransmitCommands` can be met, those of each part together. -/
theorem witness_TransmitCommands :
    (∃ (s : State) (c : Carrier), Open s (.tx c) ∧ s.dev ≠ stBOOT ∧ idRefuses s (.tx c) = false ∧ s.runBit (.tx c) = false ∧ s.running (.tx c) = false ∧ startsNow s (.tx c) = true ∧ s.clockReady (.tx c) = true) ∧
    (∃ (s : State) (c : Carrier), Open s (.tx c) ∧ s.dev ≠ stBOOT ∧ idRefuses s (.tx c) = false ∧ s.runBit (.tx c) = false ∧ s.running (.tx c) = false ∧ s.modeErr = false ∧ txCfgCode s c ≠ 0) ∧
    (∃ (s : State) (c : Carrier), s.running (.tx c) = true ∧ s.stopping (.tx c) = false ∧ s.clockReady (.tx c) = true ∧ (s.mode c = mCONT ∨ s.mode c = mDUAL ∨ s.mode c = mREGEN ∨ s.mode c = mDIAG)) ∧
    (∃ (s : State) (c : Carrier), Open s (.tx c) ∧ s.runBit (.tx c) = true ∧ s.running (.tx c) = true) ∧
    (∃ (s : State) (c : Carrier), s.running (.tx c) = true ∧ s.stopping (.tx c) = true ∧ s.getC c R.TX_BURST.FRAMES_LEFT = 0) ∧
    (∃ (s : State) (c : Carrier), Open s (.tx c)) ∧
    (∃ (s : State) (c : Carrier) (l : Launch), s.clockReady (.tx c) = true ∧ nextLaunch s (s.tx.get c).launches = some l ∧ txLaunchReason s c = 0) ∧
    (∃ (s : State) (c : Carrier) (l : Launch), s.clockReady (.tx c) = true ∧ nextLaunch s (s.tx.get c).launches = some l ∧ txLaunchReason s c ≠ 0) ∧
    (∃ (s : State) (c : Carrier), (nextLaunch s (s.tx.get c).launches = none ∨ s.clockReady (.tx c) = false)) :=
  ⟨⟨(((((up.set (R.ID_CTRL.OVR) 3).set (R.SYS_CMODE.MODE.ix 0) 5).set (R.TX_SHAPE.ROLLOFF.on .A) 5).set ((R.CONV_RATE.RATE.ix 1).on .A) 140000).set (R.TX_PILOT.SEED_X.on .A) 1).set (R.TX_PILOT.SEED_Y.on .A) 1, .A, by decide +kernel⟩,
   ⟨up.set R.ID_CTRL.OVR 3, .A, by decide +kernel⟩,
   ⟨up.set (runningF (.tx .A)) 1, .A, by decide +kernel⟩,
   ⟨(up.set (runningF (.tx .A)) 1).set (runF (.tx .A)) 1, .A, by decide +kernel⟩,
   ⟨{ up.set (runningF (.tx .A)) 1 with stops := [.tx .A] }, .A, by decide +kernel⟩,
   ⟨up, .A, by decide +kernel⟩,
   ⟨{ (((up.set (R.SYS_CMODE.MODE.ix 1) 3).set (runningF (.tx .B)) 1)) with tx := ⟨.reset, { TxH.reset with launches := [⟨1, .s, 0, 5⟩, ⟨2, .s, 100000, 6⟩] }⟩, pair := { PairH.reset with txEnable := true } }, .B, ⟨1, .s, 0, 5⟩, by decide +kernel⟩,
   ⟨{ up with tx := ⟨.reset, { TxH.reset with launches := [⟨1, .s, 0, 5⟩, ⟨2, .s, 100000, 6⟩] }⟩ }, .B, ⟨1, .s, 0, 5⟩, by decide +kernel⟩,
   ⟨up, .A, by decide +kernel⟩⟩

/-- The hypotheses of `Obligations.CrystalAndPlls` can be met, those of each part together. -/
theorem witness_CrystalAndPlls :
    (∃ (s : State) (xtd : Nat), s.on R.CLK_XO_STAT.AMP_OK = true ∧ 1000000 * 4 ^ (if s.dev = 0 then xtd % 4 else s.get R.CLK_XO_STAT.XTD) ≤ s.age .crystal) ∧
    (∃ (s : State), s.on R.CLK_XO_STAT.AMP_OK = false ∧ s.clk.goodOnce = true ∧ 10000 ≤ s.age .crystal) ∧
    (∃ (s : State) (n : Nat), n < 8 ∧ s.domOn (pllDom n) = true ∧ pllRated s n = true) ∧
    (∃ (s : State) (n : Nat), n < 8 ∧ bitOf (s.get R.CLK_PLL_STAT.LOCK) n = true) ∧
    (∃ (s : State), s.clk.sysLost = true ∧ bitOf (s.get R.CLK_PLL_STAT.LOCK) 0 = true ∧ 1000000 ≤ s.age .sysPll) ∧
    (∃ (s : State) (n : Nat), n < 8 ∧ bitOf (s.get R.CLK_PLL_STAT.LOCK) n = true ∧ pllRate s n ≠ 0 ∧ s.clk.rates.get n ≠ pllRate s n) :=
  ⟨⟨at_ 1000000000 (up.set R.CLK_XO_STAT.AMP_OK 1), 3, by decide +kernel⟩,
   ⟨at_ 10000 up, by decide +kernel⟩,
   ⟨up, 0, by decide +kernel⟩,
   ⟨up.set R.CLK_PLL_STAT.LOCK 0xFF, 7, by decide +kernel⟩,
   ⟨at_ 1000000 { up.set R.CLK_PLL_STAT.LOCK 1 with clk := { ClkH.reset with sysLost := true } }, by decide +kernel⟩,
   ⟨((up.set R.CLK_PLL_STAT.LOCK 0xFF).set ((R.CONV_RATE.RATE.ix 1).on .A) 256000).set (R.TX_RATE.SYM_RATE.on .A) 120000, 5, by decide +kernel⟩⟩

/-- The hypotheses of `Obligations.ReferencesAndDpll` can be met, those of each part together. -/
theorem witness_ReferencesAndDpll :
    (∃ (s : State) (sel : Nat), sel < 4 ∧ s.get R.CLK_DPLL_STAT.SEL ≠ sel ∧ s.get R.CLK_DPLL_STAT.STATE = pLOCKED ∧ refQual s sel = true) ∧
    (∃ (s : State) (sel : Nat), sel < 4 ∧ s.get R.CLK_DPLL_STAT.SEL ≠ sel ∧ s.get R.CLK_DPLL_STAT.STATE = pLOCKED ∧ refQual s sel = false ∧ s.on R.CLK_DPLL_STAT.HIST_VALID = true) ∧
    (∃ (s : State) (sel : Nat), sel < 4 ∧ s.get R.CLK_DPLL_STAT.SEL ≠ sel ∧ s.get R.CLK_DPLL_STAT.STATE = pLOCKED ∧ refQual s sel = false ∧ s.on R.CLK_DPLL_STAT.HIST_VALID = false) ∧
    (∃ (s : State) (sel : Nat), sel < 4 ∧ s.get R.CLK_DPLL_STAT.SEL ≠ sel ∧ s.get R.CLK_DPLL_STAT.STATE = pDUSK ∧ refQual s sel = true) ∧
    (∃ (s : State) (sel : Nat), sel < 4 ∧ s.get R.CLK_DPLL_STAT.SEL ≠ sel ∧ s.get R.CLK_DPLL_STAT.STATE = pDUSK ∧ refQual s sel = false) ∧
    (∃ (s : State) (sel : Nat), sel < 4 ∧ s.get R.CLK_DPLL_STAT.SEL ≠ sel ∧ (s.get R.CLK_DPLL_STAT.STATE = pFREERUN ∨ s.get R.CLK_DPLL_STAT.STATE = pACQUIRE)) ∧
    (∃ (s : State) (sel : Nat), sel < 4 ∧ s.get R.CLK_DPLL_STAT.SEL = sel) ∧
    (∃ (s : State), 100000000 ≤ s.age .refs ∧ s.on (R.CLK_REF_CFG.EN.ix 0) = true ∧ s.on R.CLK_XO_STAT.XO_FAIL = false) ∧
    (∃ (s : State) (r : Nat), r < 4 ∧ if r = 3 then s.on (R.TD_CTRL.VALID.ix 0) = false else s.on (R.CLK_REF_CFG.EN.ix r) = true ∧ s.on R.CLK_XO_STAT.XO_FAIL = false) ∧
    (∃ (s : State) (r : Nat), r < 3 ∧ Open s .clk) ∧
    (∃ (s : State), s.get R.CLK_DPLL_STAT.STATE = pACQUIRE ∧ 1000000000 ≤ s.age .acquire) ∧
    (∃ (s : State), s.get R.CLK_DPLL_STAT.STATE = pLOCKED ∧ holdAvg s ≤ s.age .locked) ∧
    (∃ (s : State), s.clk.absorbing = true) :=
  ⟨⟨(up.set R.CLK_DPLL_STAT.STATE 2).set (R.CLK_MON.QUAL.ix 3) 1, 3, by decide +kernel⟩,
   ⟨(up.set R.CLK_DPLL_STAT.STATE 2).set R.CLK_DPLL_STAT.HIST_VALID 1, 3, by decide +kernel⟩,
   ⟨up.set R.CLK_DPLL_STAT.STATE 2, 3, by decide +kernel⟩,
   ⟨(up.set R.CLK_DPLL_STAT.STATE 3).set (R.CLK_MON.QUAL.ix 3) 1, 3, by decide +kernel⟩,
   ⟨up.set R.CLK_DPLL_STAT.STATE 3, 3, by decide +kernel⟩,
   ⟨up, 3, by decide +kernel⟩,
   ⟨up, 0, by decide +kernel⟩,
   ⟨at_ 100000000 (up.set (R.CLK_REF_CFG.EN.ix 0) 1), by decide +kernel⟩,
   ⟨up, 3, by decide +kernel⟩,
   ⟨up, 2, by decide +kernel⟩,
   ⟨at_ 1000000000 (up.set R.CLK_DPLL_STAT.STATE 1), by decide +kernel⟩,
   ⟨at_ 1000000000000 (up.set R.CLK_DPLL_STAT.STATE 2), by decide +kernel⟩,
   ⟨{ up.set R.CLK_DPLL_STAT.STATE 3 with clk := { ClkH.reset with absorbing := true } }, by decide +kernel⟩⟩

/-- The hypotheses of `Obligations.MuxesAndFrequencyCounter` can be met, those of each part together. -/
theorem witness_MuxesAndFrequencyCounter :
    (∃ (s : State) (n : Nat) (sel : Nat), n < 8 ∧ sel < 4 ∧ Open s .clk ∧ s.on (R.CLK_MUX.SWITCHING.ix n) = false ∧ sourceReady s n sel = true ∧ (n = 0 → s.clk.sysLost = false)) ∧
    (∃ (s : State) (n : Nat) (sel : Nat), n < 8 ∧ sel < 4 ∧ Open s .clk ∧ (s.on (R.CLK_MUX.SWITCHING.ix n) = true ∨ sourceReady s n sel = false)) ∧
    (∃ (s : State) (n : Nat), n < 8 ∧ s.on (R.CLK_MUX.SWITCHING.ix n) = true ∧ s.on (R.CLK_MUX.MUX_STALL.ix n) = false ∧ sourceReady s n (s.get (R.CLK_MUX.SEL.ix n)) = true ∧ (n = 0 → s.clk.sysLost = false)) ∧
    (∃ (s : State) (n : Nat), 0 < n ∧ n < 8 ∧ s.on (R.CLK_MUX.SWITCHING.ix n) = true ∧ sourceReady s n (s.get (R.CLK_MUX.SEL.ix n)) = true) ∧
    (∃ (s : State) (n : Nat), 0 < n ∧ n < 8 ∧ Open s .clk ∧ s.on (R.CLK_MUX.DOM_RST.ix n) = true) ∧
    (∃ (s : State), Open s .clk) ∧
    (∃ (s : State), s.on R.FMEAS_CTRL.BUSY = true ∧ gateStopped s = false ∧ gateNs s ≤ s.age .gate) :=
  ⟨⟨up, 7, 2, by decide +kernel⟩,
   ⟨up, 1, 3, by decide +kernel⟩,
   ⟨(up.set (R.CLK_MUX.SWITCHING.ix 7) 1).set (R.CLK_MUX.SEL.ix 7) 2, 7, by decide +kernel⟩,
   ⟨(up.set (R.CLK_MUX.SWITCHING.ix 7) 1).set (R.CLK_MUX.SEL.ix 7) 2, 7, by decide +kernel⟩,
   ⟨up.set (R.CLK_MUX.DOM_RST.ix 1) 1, 1, by decide +kernel⟩,
   ⟨up, by decide +kernel⟩,
   ⟨at_ 1000000000000 (up.set R.FMEAS_CTRL.BUSY 1), by decide +kernel⟩⟩

/-- The hypotheses of `Obligations.ConverterRunAndCalibration` can be met, those of each part together. -/
theorem witness_ConverterRunAndCalibration :
    (∃ (s : State) (c : Carrier), Open s (.conv c) ∧ s.dev ≠ stBOOT ∧ idRefuses s (.conv c) = false ∧ s.runBit (.conv c) = false ∧ s.running (.conv c) = false ∧ startsNow s (.conv c) = true ∧ s.clockReady (.conv c) = true) ∧
    (∃ (s : State) (c : Carrier), Open s (.conv c) ∧ s.dev ≠ stBOOT ∧ idRefuses s (.conv c) = false ∧ s.runBit (.conv c) = false ∧ s.running (.conv c) = false ∧ s.modeErr = false ∧ convCfgCode s c = 0 ∧ s.clockReady (.conv c) = true ∧ s.onC c R.CONV_STAT.CAL_VALID = false) ∧
    (∃ (s : State) (c : Carrier), Open s (.conv c) ∧ s.runBit (.conv c) = true) ∧
    (∃ (s : State) (c : Carrier), Open s (.conv c) ∧ s.running (.conv c) = false) ∧
    (∃ (s : State) (c : Carrier), Open s (.conv c) ∧ s.running (.conv c) = true) ∧
    (∃ (s : State) (c : Carrier), s.onC c R.CONV_STAT.FG_BUSY = true) ∧
    (∃ (s : State) (c : Carrier), Open s (.conv c) ∧ s.running (.conv c) = true ∧ bgOn s c = true ∧ s.onC c R.CONV_STAT.BG_BUSY = false) ∧
    (∃ (s : State) (c : Carrier), Open s (.conv c) ∧ s.running (.conv c) = true ∧ bgOn s c = true ∧ s.onC c R.CONV_STAT.BG_BUSY = true) ∧
    (∃ (s : State) (c : Carrier), s.onC c R.CONV_STAT.BG_BUSY = true ∧ (s.conv.get c).adc.any offLine = false) ∧
    (∃ (s : State) (c : Carrier) (n : Nat) (res : Trim) (a : AdcStep), (s.conv.get c).adc[n]? = some a ∧ a.st = .shadowIn ∧ res.small = true) ∧
    (∃ (s : State) (c : Carrier) (n : Nat) (res : Trim) (a : AdcStep), (s.conv.get c).adc[n]? = some a ∧ a.st = .verify ∧ res.small = true) ∧
    (∃ (s : State) (c : Carrier) (n : Nat) (r1 : Trim) (r2 : Trim) (a : AdcStep), (s.conv.get c).adc[n]? = some a ∧ a.st = .measure ∧ runsAgree (calTol s c) r1 r2 = true ∧ s.onC c R.RXDSP_STAT.LOL = false) ∧
    (∃ (s : State) (c : Carrier) (n : Nat) (r1 : Trim) (r2 : Trim) (a : AdcStep), n < 4 ∧ (s.conv.get c).adc[n]? = some a ∧ a.st = .measure ∧ runsAgree (calTol s c) r1 r2 = false ∧ s.onC c R.RXDSP_STAT.LOL = false) :=
  ⟨⟨((((up.set R.ID_CTRL.OVR 3).set (R.CONV_STAT.CAL_VALID.on .A) 1).set ((R.CONV_RATE.RATE.ix 0).on .A) 256000).set ((R.CONV_RATE.RATE.ix 1).on .A) 256000).set (R.CONV_CTRL.ADC_EN.on .A) 1, .A, by decide +kernel⟩,
   ⟨(((up.set R.ID_CTRL.OVR 3).set ((R.CONV_RATE.RATE.ix 0).on .A) 256000).set ((R.CONV_RATE.RATE.ix 1).on .A) 256000).set (R.CONV_CTRL.ADC_EN.on .A) 1, .A, by decide +kernel⟩,
   ⟨(up.set (runF (.conv .B)) 1).set (runningF (.conv .B)) 1, .B, by decide +kernel⟩,
   ⟨up, .A, by decide +kernel⟩,
   ⟨up.set (runningF (.conv .A)) 1, .A, by decide +kernel⟩,
   ⟨{ (up.set (R.CONV_STAT.FG_BUSY.on .A) 1).set (runF (.conv .A)) 1 with conv := ⟨{ ConvH.reset with fgForStart := true }, ConvH.reset⟩ }, .A, by decide +kernel⟩,
   ⟨(up.set (runningF (.conv .A)) 1).set (R.CAL_CTRL.BG_MODE.on .A) 2, .A, by decide +kernel⟩,
   ⟨((up.set (runningF (.conv .A)) 1).set (R.CAL_CTRL.BG_MODE.on .A) 2).set (R.CONV_STAT.BG_BUSY.on .A) 1, .A, by decide +kernel⟩,
   ⟨{ up.set (R.CONV_STAT.BG_BUSY.on .A) 1 with conv := ⟨{ ConvH.reset with tStart := 320 }, ConvH.reset⟩ }, .A, by decide +kernel⟩,
   ⟨{ up with conv := ⟨{ ConvH.reset with adc := [.reset, .reset, .reset, { AdcStep.reset with st := .shadowIn, slot := 5 }] }, ConvH.reset⟩ }, .A, 3, ⟨0, 0, 0⟩, { AdcStep.reset with st := .shadowIn, slot := 5 }, by decide +kernel⟩,
   ⟨{ up with conv := ⟨{ ConvH.reset with adc := [.reset, .reset, .reset, { AdcStep.reset with st := .verify, slot := 5 }] }, ConvH.reset⟩ }, .A, 3, ⟨0, 0, 0⟩, { AdcStep.reset with st := .verify, slot := 5 }, by decide +kernel⟩,
   ⟨{ up with conv := ⟨{ ConvH.reset with adc := [.reset, .reset, .reset, { AdcStep.reset with st := .measure, slot := 5 }] }, ConvH.reset⟩ }, .A, 3, ⟨4, 2, 0⟩, ⟨4, 2, 0⟩, { AdcStep.reset with st := .measure, slot := 5 }, by decide +kernel⟩,
   ⟨{ up with conv := ⟨{ ConvH.reset with adc := [.reset, .reset, .reset, { AdcStep.reset with st := .measure, slot := 5 }] }, ConvH.reset⟩ }, .A, 3, ⟨4, 2, 0⟩, ⟨90, 2, 0⟩, { AdcStep.reset with st := .measure, slot := 5 }, by decide +kernel⟩⟩

/-- The hypotheses of `Obligations.ConverterTrimsImageAndLevels` can be met, those of each part together. -/
theorem witness_ConverterTrimsImageAndLevels :
    (∃ (s : State) (c : Carrier) (i : Nat), (s.conv.get c).target.sorted = true ∧ (s.conv.get c).applied.sorted = true ∧ ((s.conv.get c).target.find i).isSome = true ∧ (s.conv.get c).inStep i = false ∧ i < 264) ∧
    (∃ (s : State) (c : Carrier), s.onC c R.CAL_CTRL.MODEL = true) ∧
    (∃ (s : State) (c : Carrier), s.onC c R.CAL_CTRL.MODEL = false) ∧
    (∃ (s : State) (c : Carrier), Open s (.conv c) ∧ s.running (.conv c) = false) ∧
    (∃ (s : State) (c : Carrier) (banded : Bool), Open s (.conv c) ∧ s.running (.conv c) = true ∧ s.onC c R.CAL_CTRL.MODEL ≠ banded) ∧
    (∃ (s : State) (c : Carrier), Open s (.conv c) ∧ s.onC c R.CAL_IMG_CTRL.BUSY = false) ∧
    (∃ (s : State) (c : Carrier), (s.conv.get c).job = .snap) ∧
    (∃ (s : State) (c : Carrier), Open s (.conv c) ∧ s.running (.conv c) = false ∧ s.onC c R.CONV_STAT.ADC_ACTIVE = false ∧ s.onC c R.CONV_STAT.DAC_ACTIVE = false ∧ s.onC c R.CAL_IMG_CTRL.BUSY = false ∧ calRejCode s c = 0) ∧
    (∃ (s : State) (c : Carrier), Open s (.conv c) ∧ s.running (.conv c) = false ∧ s.onC c R.CONV_STAT.ADC_ACTIVE = false ∧ s.onC c R.CONV_STAT.DAC_ACTIVE = false ∧ s.onC c R.CAL_IMG_CTRL.BUSY = false ∧ calRejCode s c ≠ 0) ∧
    (∃ (s : State) (c : Carrier), (s.conv.get c).job = .load) ∧
    (∃ (s : State) (c : Carrier), s.domOn (dacDom c) = true) :=
  ⟨⟨{ up with conv := ⟨{ ConvH.reset with target := [(3, 0x010203), (263, 5)], applied := [(3, 0x050607), (9, 3)] }, ConvH.reset⟩ }, .A, 263, by decide +kernel⟩,
   ⟨up.set (R.CAL_CTRL.MODEL.on .A) 1, .A, by decide +kernel⟩,
   ⟨up, .A, by decide +kernel⟩,
   ⟨up, .A, by decide +kernel⟩,
   ⟨up.set (runningF (.conv .A)) 1, .A, true, by decide +kernel⟩,
   ⟨{ up with conv := ⟨{ ConvH.reset with sets := [(0, 7), (794, 9)] }, ConvH.reset⟩ }, .A, by decide +kernel⟩,
   ⟨{ up with conv := ⟨{ ConvH.reset with job := .snap }, ConvH.reset⟩ }, .A, by decide +kernel⟩,
   ⟨goodImage, .A, goodImage_idle.1, goodImage_idle.2.1, goodImage_idle.2.2.1, goodImage_idle.2.2.2.1, goodImage_idle.2.2.2.2, goodImage_passes⟩,
   ⟨up, .A, by decide +kernel⟩,
   ⟨{ up.set (imgWord .A 802) 7 with conv := ⟨{ ConvH.reset with job := .load }, ConvH.reset⟩ }, .A, by decide +kernel⟩,
   ⟨(up.set ((R.BIAS.CODE.ix 9).on .A) 500).set ((R.BIAS.CUR.ix 0).on .A) 5, .A, by decide +kernel⟩⟩

/-- The hypotheses of `Obligations.AcquisitionSteps` can be met, those of each part together. -/
theorem witness_AcquisitionSteps :
    (∃ (s : State) (c : Carrier), s.clockReady (.rxdsp c) = true ∧ acqState s c = aFREQ) ∧
    (∃ (s : State) (c : Carrier), s.clockReady (.rxdsp c) = true ∧ acqState s c = aCD) ∧
    (∃ (s : State) (c : Carrier), s.clockReady (.rxdsp c) = true ∧ acqState s c = aCLOCK) ∧
    (∃ (s : State) (c : Carrier), s.clockReady (.rxdsp c) = true ∧ acqState s c = aBLIND ∧ (s.running (.framer c) = false ∨ lineInSync s c = false)) ∧
    (∃ (s : State) (c : Carrier), s.clockReady (.rxdsp c) = true ∧ acqState s c = aPILOT ∧ 16 ≤ (s.rx.get c).stFrames) ∧
    (∃ (s : State) (c : Carrier), s.clockReady (.rxdsp c) = true ∧ acqState s c = aDD ∧ 64 ≤ (s.rx.get c).stFrames) ∧
    (∃ (s : State) (c : Carrier), acqState s c = aTRACK ∧ 256 ≤ (s.rx.get c).oof ∧ (s.running (.framer c) = false ∨ lineInSync s c = false)) ∧
    (∃ (s : State) (c : Carrier), acqState s c = aRESUME ∧ 1000000 ≤ nsSince s (s.rx.get c).enteredAt ∧ (s.running (.framer c) = false ∨ lineInSync s c = false)) ∧
    (∃ (s : State) (c : Carrier), acqState s c = aSEEDED ∧ 2000000 ≤ nsSince s (s.rx.get c).enteredAt ∧ dawnGoverned s c = false) ∧
    (∃ (s : State) (c : Carrier), ((2 ≤ acqState s c ∧ acqState s c ≤ 8) ∨ acqState s c = aRESUME ∨ acqState s c = aSEEDED) ∧ 1000000 * max 1 (s.getC c R.RX_ACQ_CTRL.ACQ_TIMEOUT) ≤ nsSince s (s.rx.get c).timerAt) ∧
    (∃ (s : State) (c : Carrier), Open s (.rxdsp c) ∧ acqState s c ≠ aSTOPPED ∧ dawnGoverned s c = false) :=
  ⟨⟨up.set (R.RXDSP_STAT.ACQ_STATE.on .A) aFREQ, .A, by decide +kernel⟩,
   ⟨up.set (R.RXDSP_STAT.ACQ_STATE.on .A) aCD, .A, by decide +kernel⟩,
   ⟨up.set (R.RXDSP_STAT.ACQ_STATE.on .A) aCLOCK, .A, by decide +kernel⟩,
   ⟨up.set (R.RXDSP_STAT.ACQ_STATE.on .A) aBLIND, .A, by decide +kernel⟩,
   ⟨{ up.set (R.RXDSP_STAT.ACQ_STATE.on .A) aPILOT with rx := ⟨{ RxH.reset with stFrames := 16 }, .reset⟩ }, .A, by decide +kernel⟩,
   ⟨{ up.set (R.RXDSP_STAT.ACQ_STATE.on .A) aDD with rx := ⟨{ RxH.reset with stFrames := 64 }, .reset⟩ }, .A, by decide +kernel⟩,
   ⟨{ up.set (R.RXDSP_STAT.ACQ_STATE.on .A) aTRACK with rx := ⟨{ RxH.reset with oof := 256 }, .reset⟩ }, .A, by decide +kernel⟩,
   ⟨at_ 1000000 <| up.set (R.RXDSP_STAT.ACQ_STATE.on .A) aRESUME, .A, by decide +kernel⟩,
   ⟨at_ 2000000 <| up.set (R.RXDSP_STAT.ACQ_STATE.on .A) aSEEDED, .A, by decide +kernel⟩,
   ⟨at_ 1000000000000 <| up.set (R.RXDSP_STAT.ACQ_STATE.on .A) 8, .A, by decide +kernel⟩,
   ⟨up.set (R.RXDSP_STAT.ACQ_STATE.on .A) 9, .A, by decide +kernel⟩⟩

/-- The hypotheses of `Obligations.ReceiverCommands` can be met, those of each part together. -/
theorem witness_ReceiverCommands :
    (∃ (s : State) (c : Carrier), Open s (.rxdsp c) ∧ s.dev ≠ stBOOT ∧ idRefuses s (.rxdsp c) = false ∧ s.runBit (.rxdsp c) = false ∧ s.running (.rxdsp c) = false ∧ startsNow s (.rxdsp c) = true ∧ s.clockReady (.rxdsp c) = true) ∧
    (∃ (s : State) (c : Carrier), Open s (.rxdsp c) ∧ s.runBit (.rxdsp c) = true) ∧
    (∃ (s : State) (c : Carrier) (rms : Nat), s.running (.rxdsp c) = true ∧ dawnGoverned s c = false ∧ txLoopback s c = false ∧ rms < s.getC c R.RX_LOL_CTRL.LOL_THR ∧ s.onC c R.RXDSP_STAT.LOL = false ∧ s.getC c R.RX_LOL_CTRL.LOL_SET ≤ (s.rx.get c).below + 1) ∧
    (∃ (s : State) (c : Carrier) (rms : Nat), s.running (.rxdsp c) = true ∧ dawnGoverned s c = false ∧ s.getC c R.RX_LOL_CTRL.LOL_THR + s.getC c R.RX_LOL_CTRL.LOL_HYST ≤ rms ∧ s.onC c R.RXDSP_STAT.LOL = true ∧ s.getC c R.RX_LOL_CTRL.LOL_CLR ≤ (s.rx.get c).above + 1) ∧
    (∃ (s : State) (c : Carrier), s.clockReady (.rxdsp c) = true ∧ s.running (.rxdsp c) = true ∧ s.onC c R.RXDSP_STAT.LOL = false ∧ 1024 ≤ (s.rx.get c).str.cycles) ∧
    (∃ (s : State) (c : Carrier) (adc : List (List Int)), s.clockReady (.rxdsp c) = true ∧ s.running (.rxdsp c) = true ∧ s.onC c R.RXDSP_STAT.LOL = false ∧ dawnGoverned s c = false ∧ hasHeaders s c = true ∧ hdrGood (rxHdr s c adc) = true) ∧
    (∃ (s : State) (c : Carrier) (adc : List (List Int)), s.clockReady (.rxdsp c) = true ∧ s.running (.rxdsp c) = true ∧ s.onC c R.RXDSP_STAT.LOL = false ∧ dawnGoverned s c = false ∧ hasHeaders s c = true ∧ hdrGood (rxHdr s c adc) = false) ∧
    (∃ (s : State) (c : Carrier), acqState s c = aTRACK ∧ 2 ^ (s.getC c R.RX_SEED_CTRL.SEED_PERIOD + 10) ≤ (s.rx.get c).seedFrames ∧ s.onC c R.RX_SEED_CTRL.AUTO_SEED = true ∧ dawnGoverned s c = false ∧ (s.rx.get c).uncorrSeen = false ∧ captureOk s c = true) ∧
    (∃ (s : State) (c : Carrier), Open s (.rxdsp c) ∧ acqState s c = aTRACK ∧ s.onC c R.RXDSP_STAT.LOL = false ∧ dawnGoverned s c = false) ∧
    (∃ (s : State) (c : Carrier), Open s (.rxdsp c)) ∧
    (∃ (s : State) (c : Carrier) (w : Nat) (v : Nat), Open s (.rxdsp c) ∧ s.running (.rxdsp c) = false ∧ v < 2 ^ 32 ∧ seedMask w ≠ 0) ∧
    (∃ (s : State) (c : Carrier) (w : Nat) (v : Nat), Open s (.rxdsp c) ∧ s.running (.rxdsp c) = true ∧ v < 2 ^ 32 ∧ v &&& seedMask w ≠ s.get (seedF c w)) ∧
    (∃ (s : State) (c : Carrier), s.clockReady (.rxdsp c) = true ∧ s.running (.rxdsp c) = true ∧ s.onC c R.RXDSP_STAT.LOL = false ∧ 1024 ≤ (s.rx.get c).metFrames) :=
  ⟨⟨((((((up.set R.ID_CTRL.OVR 3).set (R.SYS_CMODE.MODE.ix 0) 5).set ((R.CONV_RATE.RATE.ix 0).on .A) 150000).set (R.CONV_STAT.ADC_ACTIVE.on .A) 1)).set (R.RX_FREQ.FREQ_GHZ.on .A) 193000), .A, by decide +kernel⟩,
   ⟨(up.set (runF (.rxdsp .B)) 1).set (runningF (.rxdsp .B)) 1, .B, by decide +kernel⟩,
   ⟨(up.set (runningF (.rxdsp .A)) 1).set (R.RX_LOL_CTRL.LOL_THR.on .A) 20, .A, 19, by decide +kernel⟩,
   ⟨((up.set (runningF (.rxdsp .A)) 1).set (R.RX_LOL_CTRL.LOL_THR.on .A) 20).set (R.RXDSP_STAT.LOL.on .A) 1, .A, 20, by decide +kernel⟩,
   ⟨{ up.set (runningF (.rxdsp .A)) 1 with rx := ⟨{ RxH.reset with str := { RxStream.reset with sat := 17, cycles := 1024 } }, .reset⟩ }, .A, by decide +kernel⟩,
   ⟨rxHolds (txHeader 1 80 0 5 100 7), .A, [], by decide +kernel⟩,
   ⟨up.set (runningF (.rxdsp .A)) 1, .A, [], by decide +kernel⟩,
   ⟨{ (up.set (R.RXDSP_STAT.ACQ_STATE.on .A) aTRACK).set (R.RX_SEED_CTRL.AUTO_SEED.on .A) 1 with rx := ⟨{ RxH.reset with seedFrames := 1024 }, .reset⟩ }, .A, by decide +kernel⟩,
   ⟨up.set (R.RXDSP_STAT.ACQ_STATE.on .A) aTRACK, .A, by decide +kernel⟩,
   ⟨up, .A, by decide +kernel⟩,
   ⟨up, .A, 0x212, 0x80010000, by decide +kernel⟩,
   ⟨up.set (runningF (.rxdsp .A)) 1, .A, 0, 5, by decide +kernel⟩,
   ⟨{ up.set (runningF (.rxdsp .A)) 1 with rx := ⟨{ RxH.reset with metFrames := 1024 }, .reset⟩ }, .A, by decide +kernel⟩⟩

/-- The hypotheses of `Obligations.DawnSearchAndLatch` can be met, those of each part together. -/
theorem witness_DawnSearchAndLatch :
    (∃ (s : State) (c : Carrier), Open s (.dawn c) ∧ s.dev ≠ stBOOT ∧ idRefuses s (.dawn c) = false ∧ s.runBit (.dawn c) = false ∧ s.running (.dawn c) = false ∧ startsNow s (.dawn c) = true ∧ s.clockReady (.dawn c) = true) ∧
    (∃ (s : State) (c : Carrier), Open s (.dawn c) ∧ s.runBit (.dawn c) = true) ∧
    (∃ (s : State) (c : Carrier) (rms : Nat), s.running (.dawn c) = true ∧ s.onC c R.DAWN_STAT.LIGHT = false ∧ s.getC c R.DAWN_AGC.BURST_THR ≤ rms) ∧
    (∃ (s : State) (c : Carrier) (rms : Nat), s.running (.dawn c) = true ∧ rms < s.getC c R.DAWN_AGC.BURST_THR) ∧
    (∃ (s : State) (c : Carrier) (rms : List Nat), s.clockReady (.dawn c) = true ∧ s.running (.dawn c) = true ∧ dawnState s c = dSEARCH ∧ s.onC c R.DAWN_STAT.LIGHT = true ∧ rms.length = 4) ∧
    (∃ (s : State) (c : Carrier) (ds : List (Nat × Nat × Int)) (k : Nat) (m : Nat) (str : Int), s.running (.dawn c) = true ∧ bexaBurst s c = false ∧ bestDetection s c ds = some (k, m, str) ∧ s.clockReady (.dawn c) = true ∧ (dawnState s c = dSEARCH ∨ dawnState s c = dDISCARD)) ∧
    (∃ (s : State) (c : Carrier) (ds : List (Nat × Nat × Int)) (k : Nat) (m : Nat) (str : Int), s.running (.dawn c) = true ∧ bexaBurst s c = false ∧ bestDetection s c ds = some (k, m, str) ∧ s.clockReady (.dawn c) = true ∧ dawnState s c = dQUALIFY ∧ (s.dawn.get c).candM + s.getC c R.DAWN_DET.METRIC_MARGIN ≤ m) ∧
    (∃ (s : State) (c : Carrier) (ds : List (Nat × Nat × Int)) (k : Nat) (m : Nat) (str : Int), s.running (.dawn c) = true ∧ bexaBurst s c = false ∧ bestDetection s c ds = some (k, m, str) ∧ s.clockReady (.dawn c) = true ∧ dawnState s c ∈ [dPRELOAD, dBURST, dCOLD]) ∧
    (∃ (s : State) (c : Carrier), s.clockReady (.dawn c) = true ∧ dawnState s c = dQUALIFY ∧ bexaBurst s c = false) ∧
    (∃ (s : State) (c : Carrier), dawnState s c = dQUALIFY ∧ bexaBurst s c = false ∧ 1000 * max 4096 (s.getC c R.DAWN_CTRL.SYNC_WIN) ≤ s.age (.detect c) * burstRate s c) ∧
    (∃ (s : State) (c : Carrier), dawnState s c = dQUALIFY ∧ bexaBurst s c = true ∧ 1000 * 196608 ≤ s.age (.detect c) * 130000) ∧
    (∃ (s : State) (c : Carrier) (rms : Nat), s.clockReady (.dawn c) = true ∧ s.running (.dawn c) = true ∧ bexaBurst s c = true ∧ dawnState s c = dSEARCH ∧ rms < s.getC c R.DAWN_BEXA.BEXA_THR) ∧
    (∃ (s : State) (c : Carrier) (rms : Nat), s.clockReady (.dawn c) = true ∧ s.running (.dawn c) = true ∧ bexaBurst s c = true ∧ dawnState s c = dSEARCH ∧ s.getC c R.DAWN_BEXA.BEXA_THR ≤ rms ∧ max 1 (s.getC c R.DAWN_BEXA.DWELL) ≤ (s.dawn.get c).dwell + 1) ∧
    (∃ (s : State) (c : Carrier) (rms : Nat), s.clockReady (.dawn c) = true ∧ s.running (.dawn c) = true ∧ bexaBurst s c = true ∧ dawnState s c = dSEARCH ∧ s.getC c R.DAWN_BEXA.BEXA_THR ≤ rms ∧ (s.dawn.get c).dwell + 1 < max 1 (s.getC c R.DAWN_BEXA.DWELL)) ∧
    (∃ (s : State) (c : Carrier), s.clockReady (.dawn c) = true ∧ s.running (.dawn c) = true ∧ bexaBurst s c = true ∧ dawnState s c = dQUALIFY ∧ s.age (.detect c) * 130000 ≤ 1000 * 196608) :=
  ⟨⟨((((((up.set R.ID_CTRL.OVR 3).set (R.SYS_CMODE.MODE.ix 0) 2).set (runningF (.rxdsp .A)) 1).set ((R.DAWN_RATE.EN.ix 0).on .A) 1).set ((R.DAWN_RATE.SYM_RATE.ix 0).on .A) 53000).set (R.RX_RATE.SYM_RATE.on .A) 53000).set (R.CONV_STAT.ADC_ACTIVE.on .A) 1, .A, by decide +kernel⟩,
   ⟨(up.set (runF (.dawn .B)) 1).set (runningF (.dawn .B)) 1, .B, by decide +kernel⟩,
   ⟨dn, .A, 5000, by decide +kernel⟩,
   ⟨((dn.set (R.DAWN_STAT.STATE.on .A) 1).set (R.DAWN_AGC.BURST_THR.on .A) 9), .A, 8, by decide +kernel⟩,
   ⟨(dn.set (R.DAWN_STAT.STATE.on .A) 1).set (R.DAWN_STAT.LIGHT.on .A) 1, .A, [0, 100, 1600, 5], by decide +kernel⟩,
   ⟨(dn.set (R.DAWN_STAT.STATE.on .A) 1).set ((R.DAWN_RATE.EN.ix 2).on .A) 1, .A, [(2, 1000, -7), (1, 5000, 3)], 2, 1000, -7, by decide +kernel⟩,
   ⟨(dn.set (R.DAWN_STAT.STATE.on .A) 2).set ((R.DAWN_RATE.EN.ix 2).on .A) 1, .A, [(2, 1000, -7), (1, 5000, 3)], 2, 1000, -7, by decide +kernel⟩,
   ⟨(dn.set (R.DAWN_STAT.STATE.on .A) 5).set ((R.DAWN_RATE.EN.ix 2).on .A) 1, .A, [(2, 1000, -7), (1, 5000, 3)], 2, 1000, -7, by decide +kernel⟩,
   ⟨(dn.set (R.DAWN_STAT.STATE.on .A) 2), .A, by decide +kernel⟩,
   ⟨at_ 1000000000 ((dn.set (R.DAWN_STAT.STATE.on .A) 2).set ((R.DAWN_RATE.SYM_RATE.ix 0).on .A) 53000), .A, by decide +kernel⟩,
   ⟨at_ 1000000000 (((up.set (R.SYS_CMODE.MODE.ix 0) mBEXA).set (R.SYS_CMODE.BEXA_BURST.ix 0) 1).set (R.DAWN_STAT.STATE.on .A) 2), .A, by decide +kernel⟩,
   ⟨((((up.set (runningF (.dawn .A)) 1).set (R.SYS_CMODE.MODE.ix 0) mBEXA).set (R.SYS_CMODE.BEXA_BURST.ix 0) 1).set (R.DAWN_STAT.STATE.on .A) 1).set (R.DAWN_BEXA.BEXA_THR.on .A) 5, .A, 4, by decide +kernel⟩,
   ⟨(((((up.set (runningF (.dawn .A)) 1).set (R.SYS_CMODE.MODE.ix 0) mBEXA).set (R.SYS_CMODE.BEXA_BURST.ix 0) 1).set (R.DAWN_STAT.STATE.on .A) 1).set (R.DAWN_BEXA.BEXA_THR.on .A) 5).set (R.DAWN_BEXA.DWELL.on .A) 1, .A, 9, by decide +kernel⟩,
   ⟨(((((up.set (runningF (.dawn .A)) 1).set (R.SYS_CMODE.MODE.ix 0) mBEXA).set (R.SYS_CMODE.BEXA_BURST.ix 0) 1).set (R.DAWN_STAT.STATE.on .A) 1).set (R.DAWN_BEXA.BEXA_THR.on .A) 5).set (R.DAWN_BEXA.DWELL.on .A) 3, .A, 9, by decide +kernel⟩,
   ⟨(((up.set (runningF (.dawn .A)) 1).set (R.SYS_CMODE.MODE.ix 0) mBEXA).set (R.SYS_CMODE.BEXA_BURST.ix 0) 1).set (R.DAWN_STAT.STATE.on .A) 2, .A, by decide +kernel⟩⟩

/-- The hypotheses of `Obligations.DawnBurstsAndSeedTable` can be met, those of each part together. -/
theorem witness_DawnBurstsAndSeedTable :
    (∃ (s : State) (c : Carrier) (coded : Nat), dawnState s c = dLATCHED ∧ bexaBurst s c = false ∧ descriptorOk (descriptorOf s coded) = false ∧ s.clockReady (.dawn c) = true) ∧
    (∃ (s : State) (c : Carrier) (coded : Nat), dawnState s c = dLATCHED ∧ bexaBurst s c = false ∧ descriptorOk (descriptorOf s coded) = true ∧ s.clockReady (.dawn c) = true) ∧
    (∃ (s : State) (c : Carrier), dawnState s c = dPRELOAD ∧ ((s.dawn.get c).n ≠ 0 ∨ bexaBurst s c = true) ∧ s.clockReady (.dawn c) = true) ∧
    (∃ (s : State) (c : Carrier), dawnState s c = dPRELOAD ∧ (s.dawn.get c).n = 0 ∧ bexaBurst s c = false ∧ s.clockReady (.dawn c) = true) ∧
    (∃ (s : State) (c : Carrier), (dawnState s c = dBURST ∨ dawnState s c = dCOLD) ∧ bexaBurst s c = false) ∧
    (∃ (s : State) (c : Carrier), dawnState s c = dWRITEBACK) ∧
    (∃ (s : State) (c : Carrier), Open s (.dawn c)) ∧
    (∃ (s : State) (c : Carrier) (e : Nat), Open s (.dawn c) ∧ e < 64) ∧
    (∃ (s : State) (c : Carrier) (off : Nat) (v : Nat), Open s (.dawn c) ∧ v < 2 ^ 32 ∧ off < 0x1000 ∧ entryInUse s c (s.getC c R.DAWN_SEED_SEL.ENTRY) = false ∧ entryMask off ≠ 0) ∧
    (∃ (s : State) (c : Carrier) (off : Nat) (v : Nat), Open s (.dawn c) ∧ v < 2 ^ 32 ∧ off < 0x1000 ∧ entryInUse s c (s.getC c R.DAWN_SEED_SEL.ENTRY) = true ∧ v &&& entryMask off ≠ s.get (seedWord c (s.getC c R.DAWN_SEED_SEL.ENTRY) off)) :=
  ⟨⟨(dn.set (R.DAWN_STAT.STATE.on .A) 3), .A, 0, by decide +kernel⟩,
   ⟨(dn.set (R.DAWN_STAT.STATE.on .A) 3), .A, goodCoded 5 2, by decide +kernel⟩,
   ⟨(dn.set (R.DAWN_STAT.STATE.on .A) 4).setDh .A { DawnH.reset with n := 7 }, .A, by decide +kernel⟩,
   ⟨(dn.set (R.DAWN_STAT.STATE.on .A) 4), .A, by decide +kernel⟩,
   ⟨(dn.set (R.DAWN_STAT.STATE.on .A) 5), .A, by decide +kernel⟩,
   ⟨((dn.set (R.DAWN_STAT.STATE.on .A) 7).setDh .A { DawnH.reset with wbEntry := some 3, wb := [(0x918, 5)], flags := 2, acqNs := some 90 }), .A, by decide +kernel⟩,
   ⟨(dn.set (R.DAWN_STAT.STATE.on .A) 1), .A, by decide +kernel⟩,
   ⟨up, .A, 63, by decide +kernel⟩,
   ⟨dn, .A, 0x914, 7, by decide +kernel⟩,
   ⟨up.set (R.DAWN_STAT.IN_USE.on .A) 1, .A, 0x914, 7, by decide +kernel⟩⟩

/-- The hypotheses of `Obligations.FecEncodesAndDecodes` can be met, those of each part together. -/
theorem witness_FecEncodesAndDecodes :
    (∃ (s : State) (c : Carrier), Open s (.fec c) ∧ s.dev ≠ stBOOT ∧ idRefuses s (.fec c) = false ∧ s.runBit (.fec c) = false ∧ s.running (.fec c) = false ∧ startsNow s (.fec c) = true ∧ s.clockReady (.fec c) = true) ∧
    (∃ (s : State) (c : Carrier), Open s (.fec c) ∧ s.runBit (.fec c) = true) ∧
    (∃ (s : State) (c : Carrier), s.onC c R.FEC_STAT.ENC_ACTIVE = true ∧ s.clockReady (.tx c) = true ∧ fecNative s c = true ∧ encCode s c ≠ 3 ∧ 30720 ≤ encRoom s c ∧ (anchorDue s c = false ∨ (s.ciph.get c).anchorHeld = true) ∧ encDataBits s c ≤ formedLeft ((drawn s c).ciph.get c)) ∧
    (∃ (s : State) (c : Carrier), s.onC c R.FEC_STAT.ENC_ACTIVE = true ∧ s.clockReady (.tx c) = true ∧ fecNative s c = true ∧ encCode s c ≠ 3 ∧ encRoom s c < 30720 ∧ (s.fec.get c).encHeld = false) ∧
    (∃ (s : State) (c : Carrier), s.onC c R.FEC_STAT.ENC_ACTIVE = true ∧ s.clockReady (.tx c) = true ∧ s.mode c = mBEXA ∧ encDataBits s c ≤ formedLeft ((drawn s c).ciph.get c)) ∧
    (∃ (s : State) (c : Carrier), s.onC c R.FEC_STAT.ENC_ACTIVE = true ∧ s.clockReady (.tx c) = true ∧ s.mode c = mZR400) ∧
    (∃ (s : State) (c : Carrier), s.onC c R.FEC_STAT.ENC_ACTIVE = true ∧ s.clockReady (.tx c) = true ∧ s.mode c ≠ mZR400 ∧ 4 * encDataBits s c < encWaiting s c ∧ encDataBits s c ≤ formedLeft ((drawn s c).ciph.get c)) ∧
    (∃ (s : State) (c : Carrier), encWaiting s c ≤ 4 * encDataBits s c) ∧
    (∃ (s : State) (c : Carrier) (x : Nat × Nat × Nat) (rest : List (Nat × Nat × Nat)), s.onC c R.FEC_STAT.DEC_ACTIVE = true ∧ s.clockReady (.rxdsp c) = true ∧ s.mode c ≠ mZR400 ∧ s.mode c ≠ mBEXA ∧ (s.fec.get c).coming = x :: rest ∧ x.1 < 3) ∧
    (∃ (s : State) (c : Carrier) (x : Nat × Nat × Nat) (rest : List (Nat × Nat × Nat)), s.onC c R.FEC_STAT.DEC_ACTIVE = true ∧ s.clockReady (.rxdsp c) = true ∧ s.mode c = mBEXA ∧ s.onC c R.FEC_STAT.ALIGNED = true ∧ (s.fec.get c).coming = x :: rest) ∧
    (∃ (s : State) (c : Carrier), s.onC c R.FEC_STAT.DEC_ACTIVE = true ∧ s.clockReady (.rxdsp c) = true ∧ s.mode c = mBEXA ∧ s.onC c R.FEC_STAT.ALIGNED = false ∧ bexaStart (s.fec.get c).huntPhase + 15360 ≤ (s.fec.get c).llr.length) ∧
    (∃ (s : State) (c : Carrier) (i : Nat), ((s.fec.get c).cws[i]?.map (·.busy)) = some true ∧ s.clockReady (.rxdsp c) = true) ∧
    (∃ (s : State) (c : Carrier) (i : Nat), ((s.fec.get c).cws[i]?.map (·.stopped)) = some false) ∧
    (∃ (s : State) (c : Carrier) (w : Codeword) (rest : List Codeword), s.onC c R.FEC_STAT.DEC_ACTIVE = true ∧ s.clockReady (.rxdsp c) = true ∧ w.code ≠ 4 ∧ (s.fec.get c).cws = w :: rest) ∧
    (∃ (s : State) (c : Carrier) (w : Codeword) (rest : List Codeword), s.onC c R.FEC_STAT.DEC_ACTIVE = true ∧ s.clockReady (.rxdsp c) = true ∧ w.code = 4 ∧ (s.fec.get c).cws = w :: rest) ∧
    (∃ (s : State) (c : Carrier), s.onC c R.FEC_STAT.DEC_ACTIVE = true ∧ s.clockReady (.rxdsp c) = true ∧ fecNative s c = true ∧ s.onC c R.RXDSP_STAT.LOL = false ∧ (s.fec.get c).rxFcount % 64 = 0 ∧ s.onC c R.FEC_STAT.ALIGNED = false) ∧
    (∃ (s : State) (c : Carrier), s.onC c R.FEC_STAT.DEC_ACTIVE = true ∧ s.clockReady (.rxdsp c) = true ∧ fecNative s c = true ∧ s.onC c R.RXDSP_STAT.LOL = false ∧ (s.fec.get c).rxFcount % 64 = 0 ∧ s.onC c R.FEC_STAT.ALIGNED = true ∧ onCount s c = false) ∧
    (∃ (s : State) (c : Carrier), s.onC c R.FEC_STAT.DEC_ACTIVE = true ∧ intervalFrames s c ≤ (s.fec.get c).ivFrames) :=
  ⟨⟨(((((up.set R.ID_CTRL.OVR 3).set (R.SYS_CMODE.MODE.ix 0) 1).set (R.FEC_CODE.ENC_EN.on .A) 1).set (R.CONV_STAT.ADC_ACTIVE.on .A) 1).set (R.CONV_STAT.DAC_ACTIVE.on .A) 1).set (R.FEC_CODE.DEC_EN.on .A) 1, .A, by decide +kernel⟩,
   ⟨(up.set (runF (.fec .B)) 1).set (runningF (.fec .B)) 1, .B, by decide +kernel⟩,
   ⟨formedFor up 1800, .A, by decide +kernel⟩,
   ⟨{ formedFor up 1800 with fec := ⟨{ FecH.reset with encWait := ⟨64 * 4088 * 124, 5⟩ }, .reset⟩ }, .A, by decide +kernel⟩,
   ⟨formedFor (up.set (R.SYS_CMODE.MODE.ix 0) mBEXA) 1800, .A, by decide +kernel⟩,
   ⟨(up.set (R.FEC_STAT.ENC_ACTIVE.on .A) 1).set (R.SYS_CMODE.MODE.ix 0) mZR400, .A, by decide +kernel⟩,
   ⟨formedFor up 4300, .A, by decide +kernel⟩,
   ⟨formedFor up 100, .A, by decide +kernel⟩,
   ⟨{ up.set (R.FEC_STAT.DEC_ACTIVE.on .A) 1 with fec := ⟨{ FecH.reset with coming := [(1, 0, 1), (2, 0, 0)], llr := [1, -1] }, .reset⟩ }, .A, (1, 0, 1), [(2, 0, 0)], by decide +kernel⟩,
   ⟨{ ((up.set (R.FEC_STAT.DEC_ACTIVE.on .A) 1).set (R.FEC_STAT.ALIGNED.on .A) 1).set (R.SYS_CMODE.MODE.ix 0) mBEXA with fec := ⟨{ FecH.reset with coming := [(3, 0, 0)] }, .reset⟩ }, .A, (3, 0, 0), [], by decide +kernel⟩,
   ⟨{ (up.set (R.FEC_STAT.DEC_ACTIVE.on .A) 1).set (R.SYS_CMODE.MODE.ix 0) mBEXA with fec := ⟨{ FecH.reset with llr := List.replicate 15360 1 }, .reset⟩ }, .A, by decide +kernel⟩,
   ⟨{ up with fec := ⟨{ FecH.reset with cws := [⟨0, 0, 0, 0, [], [], 5, true, false, false, false, false, 0⟩] }, .reset⟩ }, .A, 0, by decide +kernel⟩,
   ⟨{ up with fec := ⟨{ FecH.reset with cws := [⟨0, 0, 0, 0, [], [], 7, true, false, false, false, false, 0⟩] }, .reset⟩ }, .A, 0, by decide +kernel⟩,
   ⟨({ up with fec := ⟨{ FecH.reset with cws := [⟨3, 0, 0, 0, [], [], 7, false, false, true, false, false, 0⟩] }, .reset⟩ }).set (R.FEC_STAT.DEC_ACTIVE.on .A) 1, .A, ⟨3, 0, 0, 0, [], [], 7, false, false, true, false, false, 0⟩, [], by decide +kernel⟩,
   ⟨{ (up.set (R.FEC_STAT.DEC_ACTIVE.on .A) 1).set (R.SYS_CMODE.MODE.ix 0) mZR400 with fec := ⟨{ FecH.reset with cws := [zrCodeword [5]] }, .reset⟩ }, .A, zrCodeword [5], [], by decide +kernel⟩,
   ⟨up.set (R.FEC_STAT.DEC_ACTIVE.on .A) 1, .A, by decide +kernel⟩,
   ⟨{ (up.set (R.FEC_STAT.DEC_ACTIVE.on .A) 1).set (R.FEC_STAT.ALIGNED.on .A) 1 with fec := ⟨{ FecH.reset with prevBits := 30719 }, .reset⟩ }, .A, by decide +kernel⟩,
   ⟨{ up.set (R.FEC_STAT.DEC_ACTIVE.on .A) 1 with fec := ⟨{ FecH.reset with ivFrames := 67108864, ivCw := 5, ivBits := 100000, ivCorr := 7, ivIter := 44 }, .reset⟩ }, .A, by decide +kernel⟩⟩

/-- The hypotheses of `Obligations.FramerAligners` can be met, those of each part together. -/
theorem witness_FramerAligners :
    (∃ (s : State) (c : Carrier), Open s (.framer c) ∧ s.dev ≠ stBOOT ∧ idRefuses s (.framer c) = false ∧ s.runBit (.framer c) = false ∧ s.running (.framer c) = false ∧ startsNow s (.framer c) = true ∧ s.clockReady (.framer c) = true) ∧
    (∃ (s : State) (c : Carrier), Open s (.framer c) ∧ s.runBit (.framer c) = true ∧ s.running (.framer c) = true) ∧
    (∃ (s : State) (c : Carrier), s.running (.framer c) = true ∧ s.stopping (.framer c) = false ∧ s.mode c ≠ mZR400 ∧ (s.mode c ≠ mDAWNTX ∨ (s.onC c R.TX_STAT.BURST = true ∧ 0 < (s.frm.get c).txLeft)) ∧ s.clockReady (.framer c) = true) ∧
    (∃ (s : State) (c : Carrier), s.running (.framer c) = true ∧ s.stopping (.framer c) = true ∧ s.clockReady (.framer c) = true) ∧
    (∃ (s : State) (c : Carrier) (o : Nat) (pos : Nat), frmOn s c = true ∧ s.clockReady (.framer c) = true ∧ s.mode c ≠ mZR400 ∧ o < 2 ∧ lfState s c o = aHUNT ∧ lineTests s c o pos = true) ∧
    (∃ (s : State) (c : Carrier) (o : Nat) (pos : Nat), frmOn s c = true ∧ s.clockReady (.framer c) = true ∧ s.mode c ≠ mZR400 ∧ o < 2 ∧ lfState s c o = aPRESYNC ∧ lineTests s c o pos = true) ∧
    (∃ (s : State) (c : Carrier) (o : Nat) (pos : Nat), frmOn s c = true ∧ s.clockReady (.framer c) = true ∧ s.mode c ≠ mZR400 ∧ o < 2 ∧ lfState s c o = aSYNC ∧ lineTests s c o pos = true) ∧
    (∃ (s : State) (c : Carrier), frmOn s c = true ∧ s.clockReady (.framer c) = true ∧ s.mode c = mZR400) ∧
    (∃ (s : State) (c : Carrier), frmOn s c = true ∧ s.clockReady (.framer c) = true ∧ s.mode c ≠ mZR400 ∧ (s.frm.get c).tested = false ∧ s.getC c R.FRM_STAT.FAS_STATE = aHUNT ∧ (s.frm.get c).fasDirect = false) ∧
    (∃ (s : State) (c : Carrier), frmOn s c = true ∧ s.clockReady (.framer c) = true ∧ s.mode c ≠ mZR400 ∧ (s.frm.get c).tested = false ∧ 56 ≤ (s.frm.get c).rxBits.len ∧ s.getC c R.FRM_STAT.FAS_STATE = aPRESYNC) ∧
    (∃ (s : State) (c : Carrier), frmOn s c = true ∧ s.clockReady (.framer c) = true ∧ s.mode c ≠ mZR400 ∧ (s.frm.get c).tested = false ∧ 56 ≤ (s.frm.get c).rxBits.len ∧ s.getC c R.FRM_STAT.FAS_STATE = aSYNC) :=
  ⟨⟨(((((up.set R.ID_CTRL.OVR 3).set (R.SYS_CMODE.MODE.ix 0) 0).set (R.FRM_CFG.N.on .A) 8).set (R.CONV_STAT.ADC_ACTIVE.on .A) 1).set (R.CONV_STAT.DAC_ACTIVE.on .A) 1), .A, by decide +kernel⟩,
   ⟨fr.set (runF (.framer .A)) 1, .A, by decide +kernel⟩,
   ⟨fr.set (R.FRM_CFG.N.on .A) 1, .A, by decide +kernel⟩,
   ⟨{ fr with stops := [.framer .A] }, .A, by decide +kernel⟩,
   ⟨fr, .A, 1, 0, by decide +kernel⟩,
   ⟨{ (fr.set (R.FRM_STAT.LF_X.on .A) 1) with frm := ⟨{ FrmH.reset with lfX := ⟨3, 0, 0⟩ }, .reset⟩ }, .A, 0, 131072, by decide +kernel⟩,
   ⟨{ (fr.set (R.FRM_STAT.LF_X.on .A) 2) with frm := ⟨{ FrmH.reset with lfX := ⟨4, 4, 0⟩ }, .reset⟩ }, .A, 0, 131072, by decide +kernel⟩,
   ⟨fr.set (R.SYS_CMODE.MODE.ix 0) mZR400, .A, by decide +kernel⟩,
   ⟨{ (fr.set (R.FRM_STAT.FAS_STATE.on .A) 0) with frm := ⟨{ FrmH.reset with fas := ⟨0, 0, 0⟩, rxBits := (byteStr ([0, 1] ++ fasBytes ++ [0 ^^^ (otuMask 0xFFFF).2, 0])) }, .reset⟩ }, .A, by decide +kernel⟩,
   ⟨{ (fr.set (R.FRM_STAT.FAS_STATE.on .A) 1) with frm := ⟨{ FrmH.reset with fas := ⟨3, 0, 0⟩, rxBits := (byteStr ([] ++ fasBytes ++ [1 ^^^ (otuMask 0xFFFF).2, 0])) }, .reset⟩ }, .A, by decide +kernel⟩,
   ⟨{ (fr.set (R.FRM_STAT.FAS_STATE.on .A) 2) with frm := ⟨{ FrmH.reset with fas := ⟨4, 4, 0⟩, rxBits := (byteStr ([] ++ fasBytes ++ [1 ^^^ (otuMask 0xFFFF).2, 0])) }, .reset⟩ }, .A, by decide +kernel⟩⟩

/-- The hypotheses of `Obligations.FramerDefectsAndDual` can be met, those of each part together. -/
theorem witness_FramerDefectsAndDual :
    (∃ (s : State) (c : Carrier), frmOn s c = true ∧ s.clockReady (.framer c) = true ∧ (s.frm.get c).tested = true ∧ frameLen s c ≤ (s.frm.get c).rxBits.len ∧ fasInSync s c = true) ∧
    (∃ (s : State) (c : Carrier), frmOn s c = true ∧ s.clockReady (.framer c) = true ∧ (s.frm.get c).tested = true ∧ frameLen s c ≤ (s.frm.get c).rxBits.len ∧ fasInSync s c = false) ∧
    (∃ (s : State) (c : Carrier) (d : Nat), syncTimed s c d ≠ 0 ∧ 3000000 ≤ s.age (.sync c d) ∧ 1 ≤ d ∧ d ≤ 3 ∧ s.getC c R.FRM_FORCE.FORCE = 0 ∧ s.onC c R.RXDSP_STAT.LOL = false ∧ syncHolds s c d = false ∧ defectEvaluated (s.mode c) d = true) ∧
    (∃ (s : State) (c : Carrier) (d : Nat), syncTimed s c d ≠ 0 ∧ 3000000 ≤ s.age (.sync c d) ∧ 1 ≤ d ∧ d ≤ 3 ∧ s.getC c R.FRM_FORCE.FORCE = 0 ∧ s.onC c R.RXDSP_STAT.LOL = false ∧ syncHolds s c d = true) ∧
    (∃ (s : State) (c : Carrier), frmOn s c = true ∧ suppressed s c 4 = false ∧ fecxFrames s c ≤ (s.fec.get c).winFrames ∧ s.getC c R.FRM_FORCE.FORCE = 0 ∧ s.onC c R.RXDSP_STAT.LOL = false) ∧
    (∃ (s : State) (c : Carrier), s.domOn (dFRM c) = true) ∧
    (∃ (s : State) (c : Carrier) (r : SecRec) (rest : List SecRec), (s.frm.get c).secs = r :: rest ∧ 10 ≤ rest.length) ∧
    (∃ (s : State) (c : Carrier), Open s (.framer c)) ∧
    (∃ (s : State) (c : Carrier), Open s (.framer c) ∧ frmOn s c = true ∧ (s.frm.get c).dmRunning = false) ∧
    (∃ (s : State) (c : Carrier), (s.frm.get c).dmRunning = true ∧ 1000000000 ≤ s.age (.delay c)) ∧
    (∃ (s : State) (x : DualCopy) (d : Nat), s.clockReady (.framer .A) = true ∧ outputDue s = some (x, d) ∧ s.getC .A R.FRM_DUAL.SEL_MODE = 1) ∧
    (∃ (s : State) (x : DualCopy) (d : Nat), s.clockReady (.framer .A) = true ∧ outputDue s = some (x, d) ∧ s.getC .A R.FRM_DUAL.SEL_MODE = 2) ∧
    (∃ (s : State) (x : DualCopy) (d : Nat), s.clockReady (.framer .A) = true ∧ outputDue s = some (x, d) ∧ s.getC .A R.FRM_DUAL.SEL_MODE = 0 ∧ copyGood s (selectedCarrier s) (copyInTime s (selectedCarrier s) x d) = true) ∧
    (∃ (s : State) (x : DualCopy) (d : Nat), s.clockReady (.framer .A) = true ∧ outputDue s = some (x, d) ∧ s.getC .A R.FRM_DUAL.SEL_MODE = 0 ∧ copyGood s (selectedCarrier s) (copyInTime s (selectedCarrier s) x d) = false ∧ copyGood s (selectedCarrier s).other (copyInTime s (selectedCarrier s).other x d) = true) ∧
    (∃ (s : State) (x : DualCopy) (d : Nat), s.clockReady (.framer .A) = true ∧ outputDue s = some (x, d) ∧ s.getC .A R.FRM_DUAL.SEL_MODE = 0 ∧ copyGood s .A (copyInTime s .A x d) = false ∧ copyGood s .B (copyInTime s .B x d) = false) ∧
    (∃ (s : State), Open s (.framer .A)) ∧
    (∃ (s : State) (c : Carrier), (s.frm.get c).wtr = 2 ∧ 1000000000 * s.getC .A R.FRM_DUAL.WTR ≤ s.age (.wtr c)) ∧
    (∃ (s : State), inDual s = true ∧ frmOn s .A = true ∧ (s.rx.get .A).hdrRate ≠ (s.rx.get .B).hdrRate ∧ 2 ≤ (s.frm.get .A).dmmBad) ∧
    (∃ (s : State) (c : Carrier), defectForced s c 15 = false ∧ 1000000000 ≤ s.age (.late c)) ∧
    (∃ (s : State) (c : Carrier), psrCondition s c = true ∧ 100000000 * min 100 (s.getC c R.FRM_ACT.PSR_HOLDOFF) ≤ s.age (.psr c)) :=
  ⟨⟨{ ((fr.set (R.FRM_STAT.FAS_STATE.on .A) 2).set (R.CIPH_STAT.IN_SYNC.on .A) 1).set (R.FRM_CFG.N.on .A) 1 with frm := ⟨{ FrmH.reset with tested := true, rxBits := ⟨122400, 0⟩ }, .reset⟩ }, .A, by decide +kernel⟩,
   ⟨{ ((fr.set (R.FRM_STAT.FAS_STATE.on .A) 1).set (R.CIPH_STAT.IN_SYNC.on .A) 1).set (R.FRM_CFG.N.on .A) 1 with frm := ⟨{ FrmH.reset with tested := true, rxBits := ⟨122400, 0⟩ }, .reset⟩ }, .A, by decide +kernel⟩,
   ⟨at_ 3000000 fr, .A, 2, by decide +kernel⟩,
   ⟨at_ 3000000 (fr.set (R.FRM_STAT.FAS_STATE.on .A) aSYNC), .A, 2, by decide +kernel⟩,
   ⟨{ fr with fec := ⟨{ FecH.reset with winUncorr := true, winFrames := 64 }, .reset⟩, frm := ⟨{ FrmH.reset with fecxBad := 3 }, .reset⟩ }, .A, by decide +kernel⟩,
   ⟨up, .A, by decide +kernel⟩,
   ⟨{ up with frm := ⟨{ FrmH.reset with secs := List.replicate 11 tenth }, .reset⟩ }, .A, tenth, List.replicate 10 tenth, by decide +kernel⟩,
   ⟨fr, .A, by decide +kernel⟩,
   ⟨fr, .A, by decide +kernel⟩,
   ⟨at_ 1000000000 { fr with frm := ⟨{ FrmH.reset with dmRunning := true }, .reset⟩ }, .A, by decide +kernel⟩,
   ⟨{ (((((up.set (runningF (.framer .A)) 1).set (R.SYS_CMODE.MODE.ix 0) mDUAL).set (R.SYS_CMODE.MODE.ix 1) mDUAL).set (R.FRM_DUAL_STAT.ALIGNED.on .A) 1).set (R.FRM_DUAL.SEL_MODE.on .A) 1) with time := { TimeH.reset with aon := 5000 }, frm := ⟨{ FrmH.reset with delay := some 2000 }, .reset⟩, ciph := ⟨{ CiphH.reset with copies := [⟨9, 5, true, [], 7⟩] }, { CiphH.reset with copies := [⟨9, 5, false, [], 900⟩] }⟩ }, ⟨9, 5, true, [], 7⟩, 2000, by decide +kernel⟩,
   ⟨{ (((((up.set (runningF (.framer .A)) 1).set (R.SYS_CMODE.MODE.ix 0) mDUAL).set (R.SYS_CMODE.MODE.ix 1) mDUAL).set (R.FRM_DUAL_STAT.ALIGNED.on .A) 1).set (R.FRM_DUAL.SEL_MODE.on .A) 2) with time := { TimeH.reset with aon := 5000 }, frm := ⟨{ FrmH.reset with delay := some 2000 }, .reset⟩, ciph := ⟨{ CiphH.reset with copies := [⟨9, 5, true, [], 7⟩] }, { CiphH.reset with copies := [⟨9, 5, false, [], 900⟩] }⟩ }, ⟨9, 5, true, [], 7⟩, 2000, by decide +kernel⟩,
   ⟨{ (((((up.set (runningF (.framer .A)) 1).set (R.SYS_CMODE.MODE.ix 0) mDUAL).set (R.SYS_CMODE.MODE.ix 1) mDUAL).set (R.FRM_DUAL_STAT.ALIGNED.on .A) 1).set (R.FRM_DUAL.SEL_MODE.on .A) 0) with time := { TimeH.reset with aon := 5000 }, frm := ⟨{ FrmH.reset with delay := some 2000 }, .reset⟩, ciph := ⟨{ CiphH.reset with copies := [⟨9, 5, true, [], 7⟩] }, { CiphH.reset with copies := [⟨9, 5, false, [], 900⟩] }⟩ }, ⟨9, 5, true, [], 7⟩, 2000, by decide +kernel⟩,
   ⟨{ (((((up.set (runningF (.framer .A)) 1).set (R.SYS_CMODE.MODE.ix 0) mDUAL).set (R.SYS_CMODE.MODE.ix 1) mDUAL).set (R.FRM_DUAL_STAT.ALIGNED.on .A) 1).set (R.FRM_DUAL.SEL_MODE.on .A) 0) with time := { TimeH.reset with aon := 5000 }, frm := ⟨{ FrmH.reset with delay := some 2000 }, .reset⟩, ciph := ⟨{ CiphH.reset with copies := [⟨9, 5, false, [], 7⟩] }, { CiphH.reset with copies := [⟨9, 5, true, [], 900⟩] }⟩ }, ⟨9, 5, false, [], 7⟩, 2000, by decide +kernel⟩,
   ⟨{ (((((up.set (runningF (.framer .A)) 1).set (R.SYS_CMODE.MODE.ix 0) mDUAL).set (R.SYS_CMODE.MODE.ix 1) mDUAL).set (R.FRM_DUAL_STAT.ALIGNED.on .A) 1).set (R.FRM_DUAL.SEL_MODE.on .A) 0) with time := { TimeH.reset with aon := 5000 }, frm := ⟨{ FrmH.reset with delay := some 2000 }, .reset⟩, ciph := ⟨{ CiphH.reset with copies := [⟨9, 5, false, [], 7⟩] }, { CiphH.reset with copies := [⟨9, 5, false, [], 900⟩] }⟩ }, ⟨9, 5, false, [], 7⟩, 2000, by decide +kernel⟩,
   ⟨((((up.set (runningF (.framer .A)) 1).set (R.SYS_CMODE.MODE.ix 0) mDUAL).set (R.SYS_CMODE.MODE.ix 1) mDUAL).set (R.FRM_DUAL_STAT.ALIGNED.on .A) 1), by decide +kernel⟩,
   ⟨at_ 300000000000 { ((((up.set (runningF (.framer .A)) 1).set (R.SYS_CMODE.MODE.ix 0) mDUAL).set (R.SYS_CMODE.MODE.ix 1) mDUAL).set (R.FRM_DUAL_STAT.ALIGNED.on .A) 1) with frm := ⟨{ FrmH.reset with wtr := 2 }, .reset⟩ }, .A, by decide +kernel⟩,
   ⟨{ ((((up.set (runningF (.framer .A)) 1).set (R.SYS_CMODE.MODE.ix 0) mDUAL).set (R.SYS_CMODE.MODE.ix 1) mDUAL).set (R.FRM_DUAL_STAT.ALIGNED.on .A) 1) with rx := ⟨{ RxH.reset with hdrRate := 1 }, .reset⟩, frm := ⟨{ FrmH.reset with dmmBad := 2 }, .reset⟩ }, by decide +kernel⟩,
   ⟨at_ 1000000000 <| ((((up.set (runningF (.framer .A)) 1).set (R.SYS_CMODE.MODE.ix 0) mDUAL).set (R.SYS_CMODE.MODE.ix 1) mDUAL).set (R.FRM_DUAL_STAT.ALIGNED.on .A) 1).set (R.FRM_DEFECT.CURRENT.on .A) 0x8000, .A, by decide +kernel⟩,
   ⟨at_ 10000000000 <| (fr.set (R.FRM_DEFECT.CURRENT.on .A) 1).set (R.FRM_ACT.PSR_MASK.on .A) 1, .A, by decide +kernel⟩⟩

/-- The hypotheses of `Obligations.CipherSegments` can be met, those of each part together. -/
theorem witness_CipherSegments :
    (∃ (s : State) (c : Carrier), Open s (.cipher c) ∧ s.dev ≠ stBOOT ∧ idRefuses s (.cipher c) = false ∧ s.runBit (.cipher c) = false ∧ s.running (.cipher c) = false ∧ startsNow s (.cipher c) = true ∧ s.clockReady (.cipher c) = true) ∧
    (∃ (s : State) (c : Carrier), Open s (.cipher c) ∧ s.runBit (.cipher c) = true) ∧
    (∃ (s : State) (c : Carrier), s.running (.cipher c) = true ∧ s.clockReady (.cipher c) = true ∧ ciphEncrypts s c = true ∧ (s.ciph.get c).segOpen = true ∧ segmentOver s c = true) ∧
    (∃ (s : State) (c : Carrier) (p : Piece) (l : List Piece), s.running (.cipher c) = true ∧ s.clockReady (.cipher c) = true ∧ anchorDue s c = true ∧ (s.ciph.get c).anchorHeld = false ∧ (s.mode c ≠ mREGEN ∨ acrossBoard s c = false) ∧ (s.ciph.get c).formed.drop ((s.ciph.get c).fed / 128) = p :: l) ∧
    (∃ (s : State) (c : Carrier) (w : List Nat) (ws : List (List Nat)) (f : OtuTx) (q : List OtuTx), s.running (.cipher c) = true ∧ s.clockReady (.cipher c) = true ∧ anchorDue s c = true ∧ (s.ciph.get c).anchorHeld = false ∧ ciphEncrypts s c = true ∧ (s.ciph.get c).formed = [] ∧ (s.ciph.get c).fed = 0 ∧ (s.ciph.get c).segOpen = true ∧ segFull s c = false ∧ (s.frm.get c).txQ = f :: q ∧ f.words = w :: ws ∧ payloadWord (otuN s c) (txWord s c) = true) ∧
    (∃ (s : State) (c : Carrier) (b : RxBlock) (bs : List RxBlock), s.running (.cipher c) = true ∧ s.clockReady (.cipher c) = true ∧ ciphBypassed s c = false ∧ (s.ciph.get c).rem.blocks = b :: bs ∧ b.anchor ≠ 0 ∧ anchorValid (anchorOf b) = true ∧ anchorBackward s c (anchorOf b) = false) ∧
    (∃ (s : State) (c : Carrier) (b : RxBlock) (bs : List RxBlock), s.running (.cipher c) = true ∧ s.clockReady (.cipher c) = true ∧ ciphBypassed s c = false ∧ (s.ciph.get c).rem.blocks = b :: bs ∧ b.anchor ≠ 0 ∧ anchorValid (anchorOf b) = false) ∧
    (∃ (s : State) (c : Carrier) (b : RxBlock) (bs : List RxBlock), s.running (.cipher c) = true ∧ s.clockReady (.cipher c) = true ∧ ciphBypassed s c = false ∧ (s.ciph.get c).rem.blocks = b :: bs ∧ b.anchor ≠ 0 ∧ anchorValid (anchorOf b) = true ∧ anchorBackward s c (anchorOf b) = true) ∧
    (∃ (s : State) (c : Carrier) (g : SegRx) (gs : List SegRx), s.clockReady (.cipher c) = true ∧ (s.ciph.get c).rem.segs = g :: gs ∧ g.whole = true ∧ (s.onC c R.CIPH_STAT.KEYX_RX = true ∨ g.early = true)) ∧
    (∃ (s : State) (c : Carrier) (g : SegRx) (gs : List SegRx), s.clockReady (.cipher c) = true ∧ (s.ciph.get c).rem.segs = g :: gs ∧ g.whole = true ∧ s.onC c R.CIPH_STAT.KEYX_RX = false ∧ g.early = false ∧ g.key = 0 ∧ s.onC c R.CIPH_CFG.ACCEPT_CLEAR = true) ∧
    (∃ (s : State) (c : Carrier) (g : SegRx) (gs : List SegRx), s.clockReady (.cipher c) = true ∧ (s.ciph.get c).rem.segs = g :: gs ∧ g.whole = true ∧ judgedByKey s c g = true ∧ rxKey s c g.key = none) ∧
    (∃ (s : State) (c : Carrier) (g : SegRx) (gs : List SegRx) (k : KeySlot), s.clockReady (.cipher c) = true ∧ (s.ciph.get c).rem.segs = g :: gs ∧ g.whole = true ∧ judgedByKey s c g = true ∧ rxKey s c g.key = some k) ∧
    (∃ (s : State) (c : Carrier) (g : SegRx) (gs : List SegRx), s.clockReady (.cipher c) = true ∧ (s.ciph.get c).rem.segs = g :: gs ∧ g.whole = false) :=
  ⟨⟨((up.set R.ID_CTRL.OVR 3).set (R.CIPH_CFG.SEG_KIB.on .A) 64).set (R.CIPH_CFG.TX_CLEAR.on .A) 1, .A, by decide +kernel⟩,
   ⟨ci.set (runF (.cipher .A)) 1, .A, by decide +kernel⟩,
   ⟨({ ci with stops := [.cipher .A], ciph := ⟨{ CiphH.reset with segOpen := true, segLen := 16 }, .reset⟩ }.set (R.CIPH_CFG.SEG_KIB.on .A) 16), .A, by decide +kernel⟩,
   ⟨{ ci with ciph := ⟨{ CiphH.reset with formed := [⟨false, 128, 5, 9, 7, List.replicate 16 3⟩], fed := 40 }, .reset⟩ }, .A, ⟨false, 128, 5, 9, 7, List.replicate 16 3⟩, [], by decide +kernel⟩,
   ⟨({ ci with ciph := ⟨{ CiphH.reset with segOpen := true, segLen := 32 }, .reset⟩, frm := ⟨{ FrmH.reset with txQ := [⟨[List.replicate 16 9], [], none, [], []⟩] }, .reset⟩ }.set (R.CIPH_CFG.SEG_KIB.on .A) 16).set (R.FRM_CFG.N.on .A) 1, .A, List.replicate 16 9, [], ⟨[List.replicate 16 9], [], none, [], []⟩, [], by decide +kernel⟩,
   ⟨({ ci with ciph := ⟨{ CiphH.reset with rem := { RemH.reset with blocks := [⟨bitsStr ((msbFirst 192 (anchorBlock 9 1 128 3 7 7 false false 0)).map b2n), 1, false⟩] } }, .reset⟩ }), .A, ⟨bitsStr ((msbFirst 192 (anchorBlock 9 1 128 3 7 7 false false 0)).map b2n), 1, false⟩, [], by decide +kernel⟩,
   ⟨({ ci with ciph := ⟨{ CiphH.reset with rem := { RemH.reset with blocks := [⟨bitsStr ((msbFirst 192 (0)).map b2n), 1, false⟩] } }, .reset⟩ }), .A, ⟨bitsStr ((msbFirst 192 (0)).map b2n), 1, false⟩, [], by decide +kernel⟩,
   ⟨({ ci with ciph := ⟨{ CiphH.reset with verKey := some 0, rem := { RemH.reset with blocks := [⟨bitsStr ((msbFirst 192 (anchorBlock 9 1 128 3 0 0 false true 0)).map b2n), 1, false⟩] } }, .reset⟩ }).set (R.CIPH_RXCTR.RXCTR.on .A) 50, .A, ⟨bitsStr ((msbFirst 192 (anchorBlock 9 1 128 3 0 0 false true 0)).map b2n), 1, false⟩, [], by decide +kernel⟩,
   ⟨(({ ci with ciph := ⟨{ CiphH.reset with rem := { RemH.reset with segs := [{ SegRx.reset with ctr := 9, key := 5, off := 16, words := [(3, List.replicate 16 4)], tag := 77, whole := true, early := true }] } }, .reset⟩ }).set ((R.CIPH_SLOT.STATE.ix 2).on .A) 1).set ((R.CIPH_SLOT.KEY_ID.ix 2).on .A) 5, .A, { SegRx.reset with ctr := 9, key := 5, off := 16, words := [(3, List.replicate 16 4)], tag := 77, whole := true, early := true }, [], by decide +kernel⟩,
   ⟨((({ ci with ciph := ⟨{ CiphH.reset with rem := { RemH.reset with segs := [{ SegRx.reset with ctr := 9, off := 16, words := [(3, List.replicate 16 4)], tag := 77, whole := true, key := 0 }] } }, .reset⟩ }).set ((R.CIPH_SLOT.STATE.ix 2).on .A) 1).set ((R.CIPH_SLOT.KEY_ID.ix 2).on .A) 5).set (R.CIPH_CFG.ACCEPT_CLEAR.on .A) 1, .A, { SegRx.reset with ctr := 9, off := 16, words := [(3, List.replicate 16 4)], tag := 77, whole := true, key := 0 }, [], by decide +kernel⟩,
   ⟨(({ ci with ciph := ⟨{ CiphH.reset with rem := { RemH.reset with segs := [{ SegRx.reset with ctr := 9, off := 16, words := [(3, List.replicate 16 4)], tag := 77, whole := true, key := 6 }] } }, .reset⟩ }).set ((R.CIPH_SLOT.STATE.ix 2).on .A) 1).set ((R.CIPH_SLOT.KEY_ID.ix 2).on .A) 5, .A, { SegRx.reset with ctr := 9, off := 16, words := [(3, List.replicate 16 4)], tag := 77, whole := true, key := 6 }, [], by decide +kernel⟩,
   ⟨(({ ci with ciph := ⟨{ CiphH.reset with rem := { RemH.reset with segs := [{ SegRx.reset with ctr := 9, key := 5, off := 16, words := [(3, List.replicate 16 4)], tag := 77, whole := true }] } }, .reset⟩ }).set ((R.CIPH_SLOT.STATE.ix 2).on .A) 1).set ((R.CIPH_SLOT.KEY_ID.ix 2).on .A) 5, .A, { SegRx.reset with ctr := 9, key := 5, off := 16, words := [(3, List.replicate 16 4)], tag := 77, whole := true }, [], .empty, by decide +kernel⟩,
   ⟨(({ ci with ciph := ⟨{ CiphH.reset with rem := { RemH.reset with segs := [{ SegRx.reset with ctr := 9, key := 5, off := 16, words := [(3, List.replicate 16 4)], tag := 77, whole := false }] } }, .reset⟩ }).set ((R.CIPH_SLOT.STATE.ix 2).on .A) 1).set ((R.CIPH_SLOT.KEY_ID.ix 2).on .A) 5, .A, { SegRx.reset with ctr := 9, key := 5, off := 16, words := [(3, List.replicate 16 4)], tag := 77, whole := false }, [], by decide +kernel⟩⟩

/-- The hypotheses of `Obligations.CipherKeys` can be met, those of each part together. -/
theorem witness_CipherKeys :
    (∃ (s : State) (c : Carrier), Open s (.cipher c) ∧ votes s = true ∧ s.onC c R.CIPH_LOAD.BUSY = false ∧ keyCommandsOff s c = false) ∧
    (∃ (s : State) (c : Carrier), Open s (.cipher c) ∧ s.onC c R.CIPH_LOAD.BUSY = false ∧ keyCommandsOff s c = false) ∧
    (∃ (s : State) (c : Carrier), Open s (.cipher c) ∧ s.onC c R.CIPH_LOAD.BUSY = false ∧ keyCommandsOff s c = false ∧ (s.ciph.get c).kek.isSome = true) ∧
    (∃ (s : State) (c : Carrier) (kek : List Nat), Open s (.cipher c) ∧ s.onC c R.CIPH_LOAD.BUSY = false ∧ keyCommandsOff s c = false ∧ (s.ciph.get c).kek = some kek) ∧
    (∃ (s : State) (c : Carrier), Open s (.cipher c) ∧ s.onC c R.CIPH_LOAD.BUSY = false ∧ (keyCommandsOff s c = true ∨ (s.ciph.get c).kek = none)) ∧
    (∃ (s : State) (c : Carrier) (cl : Bool) (k : List Nat), (s.ciph.get c).job = .kek cl k) ∧
    (∃ (s : State) (c : Carrier) (k : List Nat), (s.ciph.get c).job = .exportKek ∧ (s.ciph.get c).kek = some k ∧ k.length = 32) ∧
    (∃ (s : State) (c : Carrier) (i : Nat) (id : Nat) (k : KeySlot), (s.ciph.get c).job = .key i k id ∧ i < 4) :=
  ⟨⟨up.set R.VOTE_STAT.STATE 1, .A, by decide +kernel⟩,
   ⟨up, .A, by decide +kernel⟩,
   ⟨{ ci with ciph := ⟨{ CiphH.reset with kek := some (List.replicate 32 7) }, .reset⟩ }, .A, by decide +kernel⟩,
   ⟨{ ci with ciph := ⟨{ CiphH.reset with kek := some (List.replicate 32 7) }, .reset⟩ }, .A, List.replicate 32 7, by decide +kernel⟩,
   ⟨up, .A, by decide +kernel⟩,
   ⟨{ ci with ciph := ⟨{ CiphH.reset with job := .kek true [5] }, .reset⟩ }, .A, true, [5], by decide +kernel⟩,
   ⟨{ ci with ciph := ⟨{ CiphH.reset with job := .exportKek, kek := some (List.replicate 32 7) }, .reset⟩ }, .A, List.replicate 32 7, by decide +kernel⟩,
   ⟨{ ci with ciph := ⟨{ CiphH.reset with job := .key 3 .empty 77 }, .reset⟩ }, .A, 3, 77, .empty, by decide +kernel⟩⟩

/-- The hypotheses of `Obligations.ClientPorts` can be met, those of each part together. -/
theorem witness_ClientPorts :
    (∃ (s : State) (p : Nat), p < 24 ∧ Open s .client ∧ s.on (R.CL_PORT_CFG.EN.ix p) = false ∧ portRunning s p = false) ∧
    (∃ (s : State) (p : Nat), p < 24 ∧ Open s .client ∧ s.on (R.CL_PORT_CFG.EN.ix p) = true ∧ portRunning s p = true) ∧
    (∃ (s : State) (p : Nat), p < 24 ∧ portRunning s p = true) ∧
    (∃ (s : State) (p : Nat), p < 24 ∧ portRunning s p = true ∧ s.clockReady .client = true ∧ s.on (R.CL_PORT_STAT.LINK_UP.ix p) = true ∧ portLoops s p 1 = false) ∧
    (∃ (s : State) (p : Nat) (u : RxUnit), p < 24 ∧ portRunning s p = true ∧ s.clockReady .client = true ∧ s.on (R.CL_PORT_STAT.REPL_ACT.ix p) = false ∧ (s.port p).zrIn = [] ∧ (s.port p).unit = some u ∧ u.len + impPad u.len ≤ (s.port p).rxIn.length ∧ u.bad = false ∧ u.err = false ∧ ((s.port p).rxIn.take u.len).any (·.2) = false) ∧
    (∃ (s : State) (p : Nat) (u : RxUnit), p < 24 ∧ portRunning s p = true ∧ s.clockReady .client = true ∧ (s.port p).zrIn = [] ∧ (s.port p).unit = some u ∧ u.len + impPad u.len ≤ (s.port p).rxIn.length ∧ (u.bad = true ∨ ((s.port p).rxIn.take u.len).any (·.2) = true)) ∧
    (∃ (s : State) (p : Nat) (f : List Nat) (fs : List (List Nat)), p < 24 ∧ portRunning s p = true ∧ s.clockReady .client = true ∧ s.on (R.CL_PORT_STAT.REPL_ACT.ix p) = false ∧ (s.port p).zrIn = f :: fs) ∧
    (∃ (s : State) (p : Nat) (hdr : Nat), p < 24 ∧ portRunning s p = true ∧ (rxCarrier s p).isSome = true ∧ (s.port p).unit = none ∧ 4 ≤ ((s.port p).rxIn.drop (s.port p).skip).length ∧ ofBe ((((s.port p).rxIn.drop (s.port p).skip).take 4).map (·.1)) = hdr) ∧
    (∃ (s : State) (p : Nat) (by' : Requester), p < 24 ∧ s.dev ≠ 0 ∧ reachable s .client R.CL_TS_NS.NS.addr = true ∧ s.on (resettingF .client) = false ∧ (votedBy by' = true → votes s = true)) :=
  ⟨⟨cl1, 0, by decide +kernel⟩,
   ⟨cl.set (R.CL_PORT_CFG.EN.ix 3) 1, 3, by decide +kernel⟩,
   ⟨cl, 3, by decide +kernel⟩,
   ⟨(cl.set (R.CL_PORT_STAT.LINK_UP.ix 3) 1).set (R.CL_PORT_CFG.MTU.ix 3) 1500, 3, by decide +kernel⟩,
   ⟨let m := cl; m.setPort 3 { m.port 3 with zrIn := [], unit := some ⟨64, false, false⟩, rxIn := goodFrame.map (fun b => (b, b == 5 && false)) ++ [(1, true)] }, 3, ⟨64, false, false⟩, by decide +kernel⟩,
   ⟨let m := cl; m.setPort 3 { m.port 3 with zrIn := [], unit := some ⟨64, false, false⟩, rxIn := goodFrame.map (fun b => (b, b == 5 && true)) ++ [(1, true)] }, 3, ⟨64, false, false⟩, by decide +kernel⟩,
   ⟨cl.setPort 3 { cl.port 3 with zrIn := [goodFrame] }, 3, goodFrame, [], by decide +kernel⟩,
   ⟨let m := cl.set (wordAt (rxMapBase .A)) 0x83; m.setPort 3 { m.port 3 with unit := none, skip := 2, rxIn := [(1, false), (2, true)] ++ (beBytes 4 (0x12345600 + crcOf 8 0x07 0x00 (msbFirst 24 0x123456))).map (fun b => (b, false)) }, 3, 0x12345600 + crcOf 8 0x07 0x00 (msbFirst 24 0x123456), by decide +kernel⟩,
   ⟨{ up with client := { ports := [], ts := [(1, 0, 5, 9), (2, 1, 6, 11)] } }, 0, .host, by decide +kernel⟩⟩

/-- The hypotheses of `Obligations.SerialLanes` can be met, those of each part together. -/
theorem witness_SerialLanes :
    (∃ (s : State) (n : Nat), n < 48 ∧ Open s (laneBlk n) ∧ laneEnabled s n = false ∧ s.domOn (laneDom n) = true ∧ (ln s n).st = 0) ∧
    (∃ (s : State) (n : Nat), n < 48 ∧ Open s (laneBlk n) ∧ laneEnabled s n = true) ∧
    (∃ (s : State) (n : Nat), n < 48 ∧ (ln s n).powering = true) ∧
    (∃ (s : State) (n : Nat), n < 48 ∧ (ln s n).st = 2) ∧
    (∃ (s : State) (n : Nat), n < 48 ∧ (ln s n).st = 3) ∧
    (∃ (s : State) (n : Nat), n < 48 ∧ 2 ≤ (ln s n).st) ∧
    (∃ (s : State) (n : Nat), n < 48 ∧ isPodLane n = false ∧ (ln s n).st = 4 ∧ s.on (laneF n R.LN_CTRL.AUTO_POL) = true ∧ (ln s n).polFixed = false ∧ 10000000 ≤ s.age (.lane n)) ∧
    (∃ (s : State) (n : Nat), n < 48 ∧ s.dev ≠ 0 ∧ reachable s (laneBlk n) (laneF n R.LN_CTRL.RX_INV).addr = true ∧ s.on (resettingF (laneBlk n)) = false ∧ (ln s n).st ≠ 0) ∧
    (∃ (s : State) (n : Nat), n < 48 ∧ 4 ≤ (ln s n).st ∧ s.on (laneF n R.LN_PAT.CHK_EN) = true ∧ s.on (laneF n R.LN_PAT.CHK_LOCK) = true) ∧
    (∃ (s : State) (n : Nat), n < 48 ∧ 4 ≤ (ln s n).st ∧ s.on (laneF n R.LN_PAT.CHK_EN) = true ∧ s.on (laneF n R.LN_PAT.CHK_LOCK) = false) :=
  ⟨⟨up, 25, by decide +kernel⟩,
   ⟨(setLn up 5 { LaneH.reset with st := 4 }).set R.LANES_EN.EN 0x20, 5, by decide +kernel⟩,
   ⟨setLn up 5 { LaneH.reset with st := 1, powering := true }, 5, by decide +kernel⟩,
   ⟨setLn up 30 { LaneH.reset with st := 2 }, 30, by decide +kernel⟩,
   ⟨setLn up 30 { LaneH.reset with st := 3 }, 30, by decide +kernel⟩,
   ⟨setLn up 30 { LaneH.reset with st := 4 }, 30, by decide +kernel⟩,
   ⟨at_ 10000000 <| (setLn up 7 { LaneH.reset with st := 4 }).set (laneF 7 R.LN_CTRL.AUTO_POL) 1, 7, by decide +kernel⟩,
   ⟨setLn (up.set R.POD_LANE_EN.EN 0x40) 30 { LaneH.reset with st := 4 }, 30, by decide +kernel⟩,
   ⟨((setLn up 30 { LaneH.reset with st := 5 }).set (laneF 30 R.LN_PAT.CHK_EN) 1).set (laneF 30 R.LN_PAT.CHK_LOCK) 1, 30, by decide +kernel⟩,
   ⟨(setLn up 30 { LaneH.reset with st := 5 }).set (laneF 30 R.LN_PAT.CHK_EN) 1, 30, by decide +kernel⟩⟩

/-- The hypotheses of `Obligations.PodLanesAndPorts` can be met, those of each part together. -/
theorem witness_PodLanesAndPorts :
    (∃ (s : State) (n : Nat) (window : Nat) (at' : Nat) (h : Nat × Bool), isPodLane n = true ∧ n < 48 ∧ (ln s n).st = 4 ∧ isPeer (podPortOf n) = false ∧ commaPlace s n at' = true ∧ laneAlign s n = 0 ∧ commaHit (laneHears s n window) = some h) ∧
    (∃ (s : State) (n : Nat) (window : Nat) (at' : Nat), isPodLane n = true ∧ n < 48 ∧ (ln s n).st = 4 ∧ isPeer (podPortOf n) = false ∧ commaPlace s n at' = true ∧ (laneAlign s n = 0 ∨ laneAlign s n = 1) ∧ commaHit (laneHears s n window) = none) ∧
    (∃ (s : State) (n : Nat) (window : Nat) (at' : Nat) (h : Nat × Bool), isPodLane n = true ∧ n < 48 ∧ (ln s n).st = 4 ∧ isPeer (podPortOf n) = false ∧ commaPlace s n at' = true ∧ laneAlign s n = 1 ∧ commaHit (laneHears s n window) = some h) ∧
    (∃ (s : State) (n : Nat) (at' : Nat), isPodLane n = true ∧ n < 48 ∧ (ln s n).st = 4 ∧ isPeer (podPortOf n) = false ∧ commaPlace s n at' = true ∧ laneAlign s n = 4) ∧
    (∃ (s : State) (n : Nat), isPodLane n = true ∧ n < 48 ∧ (ln s n).st = 4 ∧ isPeer (podPortOf n) = true ∧ laneLoop s n ≠ 1 ∧ laneAlign s n = 0) ∧
    (∃ (s : State) (n : Nat), isPodLane n = true ∧ n < 48 ∧ (ln s n).st = 4 ∧ isPeer (podPortOf n) = true ∧ laneLoop s n ≠ 1 ∧ (laneAlign s n = 2 ∨ laneAlign s n = 4)) ∧
    (∃ (s : State) (n : Nat), isPodLane n = true ∧ n < 48 ∧ (ln s n).st = 4 ∧ isPeer (podPortOf n) = true ∧ laneLoop s n ≠ 1 ∧ laneAlign s n = 3) ∧
    (∃ (s : State) (n : Nat) (at' : Nat), isPodLane n = true ∧ n < 48 ∧ (ln s n).st = 4 ∧ isPeer (podPortOf n) = true ∧ laneAlign s n ∈ [2, 3, 4] ∧ amPlace s n at' = true ∧ laneLoop s n ≠ 1 ∧ laneAlign s n = 2) ∧
    (∃ (s : State) (n : Nat) (p : Nat) (at' : Nat), isPodLane n = true ∧ n < 48 ∧ (ln s n).st = 4 ∧ isPeer (podPortOf n) = true ∧ laneAlign s n ∈ [2, 3, 4] ∧ amPlace s n at' = true ∧ laneLoop s n ≠ 1 ∧ laneAlign s n = 2 ∧ amGood p = true) ∧
    (∃ (s : State) (n : Nat) (at' : Nat), isPodLane n = true ∧ n < 48 ∧ (ln s n).st = 4 ∧ isPeer (podPortOf n) = true ∧ laneAlign s n ∈ [2, 3, 4] ∧ amPlace s n at' = true ∧ laneLoop s n ≠ 1 ∧ laneAlign s n = 3) ∧
    (∃ (s : State) (n : Nat) (at' : Nat), isPodLane n = true ∧ n < 48 ∧ (ln s n).st = 4 ∧ isPeer (podPortOf n) = true ∧ laneAlign s n ∈ [2, 3, 4] ∧ amPlace s n at' = true ∧ laneLoop s n ≠ 1 ∧ laneAlign s n = 4) ∧
    (∃ (s : State) (k : Nat), k < 6 ∧ podState s k = 2) ∧
    (∃ (s : State) (k : Nat), k < 6 ∧ Open s .pod ∧ s.on (R.POD_PORT.EN.ix k) = false ∧ podState s k = 0) ∧
    (∃ (s : State) (k : Nat), k < 6 ∧ Open s .pod ∧ s.on (R.POD_PORT.EN.ix k) = true) ∧
    (∃ (n : Nat), isPodLane n = true ∧ n < 48) ∧
    (∃ (s : State) (k : Nat) (p : Nat), (k = 4 ∨ k = 5) ∧ 3 ≤ podState s k ∧ (pp s k).inbox.find? (fun p => payByte p 0 == 0xB4) = some p ∧ payByte p 1 = 1 ∧ crcOf 16 0x1021 0xFFFF (msbFirst 112 (p / 65536)) = p % 65536) ∧
    (∃ (s : State) (k : Nat) (p : Nat), (k = 4 ∨ k = 5) ∧ 3 ≤ podState s k ∧ (pp s k).inbox.find? (fun p => payByte p 0 == 0xB4) = some p ∧ crcOf 16 0x1021 0xFFFF (msbFirst 112 (p / 65536)) ≠ p % 65536) ∧
    (∃ (s : State) (k : Nat), (k = 4 ∨ k = 5) ∧ podUp s k = true ∧ 1000000 ≤ s.age (.linkId k)) ∧
    (∃ (s : State) (skew : Nat), s.on R.POD_STAT.BONDED = false ∧ bondOk s skew = true) ∧
    (∃ (s : State), s.on R.POD_CFG.BOND = true ∧ podUp s 4 = true ∧ podUp s 5 = true ∧ s.on R.POD_STAT.BONDED = false ∧ 10000000 ≤ s.age .bond) ∧
    (∃ (s : State) (k : Nat), (k = 4 ∨ k = 5) ∧ podUp s k = true ∧ s.get R.POD_CFG.TIME_PERIOD ≠ 0 ∧ 1000 * s.get R.POD_CFG.TIME_PERIOD ≤ s.age (.podTime k)) ∧
    (∃ (s : State) (k : Nat) (p : Nat), (k = 4 ∨ k = 5) ∧ podUp s k = true ∧ (pp s k).inbox.find? (fun p => payByte p 0 == 0x99) = some p) :=
  ⟨⟨(setLn up 26 { LaneH.reset with st := 4 }).set (laneF 26 R.LN_STAT.ALIGN) 0, 26, commaBlock 2, markerBits, (2, false), by decide +kernel⟩,
   ⟨(setLn up 26 { LaneH.reset with st := 4 }).set (laneF 26 R.LN_STAT.ALIGN) 1, 26, 0, markerBits, by decide +kernel⟩,
   ⟨(setLn up 26 { LaneH.reset with st := 4, num := 2, count := 3 }).set (laneF 26 R.LN_STAT.ALIGN) 1, 26, commaBlock 2, markerBits, (2, false), by decide +kernel⟩,
   ⟨(setLn up 26 { LaneH.reset with st := 4, num := 2, count := 4 }).set (laneF 26 R.LN_STAT.ALIGN) 4, 26, markerBits, by decide +kernel⟩,
   ⟨(setLn up 41 { LaneH.reset with st := 4, hdrs := 63 }).set (laneF 41 R.LN_STAT.ALIGN) 0, 41, by decide +kernel⟩,
   ⟨(setLn up 41 { LaneH.reset with st := 4 }).set (laneF 41 R.LN_STAT.ALIGN) 4, 41, by decide +kernel⟩,
   ⟨(setLn up 41 { LaneH.reset with st := 4 }).set (laneF 41 R.LN_STAT.ALIGN) 3, 41, by decide +kernel⟩,
   ⟨(setLn up 41 { LaneH.reset with st := 4 }).set (laneF 41 R.LN_STAT.ALIGN) 2, 41, 16392, by decide +kernel⟩,
   ⟨(setLn up 41 { LaneH.reset with st := 4 }).set (laneF 41 R.LN_STAT.ALIGN) 2, 41, goodAm, 16392, by decide +kernel⟩,
   ⟨(setLn up 41 { LaneH.reset with st := 4, num := 1, pos := 7 }).set (laneF 41 R.LN_STAT.ALIGN) 3, 41, 16392, by decide +kernel⟩,
   ⟨(setLn up 41 { LaneH.reset with st := 4, num := 1, pos := 7, miss := 3 }).set (laneF 41 R.LN_STAT.ALIGN) 4, 41, 16392, by decide +kernel⟩,
   ⟨(up.set (R.POD_PORT.STATE.ix 5) 2), 5, by decide +kernel⟩,
   ⟨up.set R.POD_LANE_EN.EN 0xF00, 2, by decide +kernel⟩,
   ⟨(up.set (R.POD_PORT.STATE.ix 4) 4).set (R.POD_PORT.EN.ix 4) 1, 4, by decide +kernel⟩,
   ⟨40, by decide +kernel⟩,
   ⟨setPp (up.set (R.POD_PORT.STATE.ix 5) 3) 5 { PodPortH.reset with inbox := [linkId (up.set R.CONV_DIE_TAG.DIE_TAG 77) 4] }, 5, linkId (up.set R.CONV_DIE_TAG.DIE_TAG 77) 4, by decide +kernel⟩,
   ⟨setPp (up.set (R.POD_PORT.STATE.ix 5) 3) 5 { PodPortH.reset with inbox := [0xB4 * 2 ^ 120] }, 5, 0xB4 * 2 ^ 120, by decide +kernel⟩,
   ⟨at_ 1000000 <| setPp ((up.set (R.POD_PORT.STATE.ix 5) 4)) 5 { PodPortH.reset with txSince := 999000 }, 5, by decide +kernel⟩,
   ⟨bondable, 64, by decide +kernel⟩,
   ⟨at_ 10000000 bondable, by decide +kernel⟩,
   ⟨at_ 1000 <| (up.set (R.POD_PORT.STATE.ix 5) 4).set R.POD_CFG.TIME_PERIOD 1, 5, by decide +kernel⟩,
   ⟨setPp (up.set (R.POD_PORT.STATE.ix 5) 4) 5 { PodPortH.reset with inbox := [0x99 * 2 ^ 120 + 500 * 2 ^ 80 + 3 * 2 ^ 40 + 200] }, 5, 0x99 * 2 ^ 120 + 500 * 2 ^ 80 + 3 * 2 ^ 40 + 200, by decide +kernel⟩⟩

/-- The hypotheses of `Obligations.PodBlocksAndTransfers` can be met, those of each part together. -/
theorem witness_PodBlocksAndTransfers :
    (∃ (s : State) (k : Nat) (w : Nat) (x : PodRx), k < 6 ∧ 3 ≤ podState s k ∧ s.clockReady .pod = true ∧ streamPort s k = k ∧ lockKept s k w = true ∧ (pp s k).rxAt < 16384 * streamLanes s k ∧ (nextBlock s k w).1 = 5 ∧ (pp s k).rx = some x ∧ x.tagPos = none) ∧
    (∃ (s : State) (k : Nat) (w : Nat), k < 6 ∧ 3 ≤ podState s k ∧ s.clockReady .pod = true ∧ streamPort s k = k ∧ lockKept s k w = true ∧ (pp s k).rxAt < 16384 * streamLanes s k ∧ (nextBlock s k w).1 = 10 ∧ payByte (nextBlock s k w).2 0 = 0x78) ∧
    (∃ (s : State) (k : Nat) (w : Nat) (x : PodRx), k < 6 ∧ 3 ≤ podState s k ∧ s.clockReady .pod = true ∧ streamPort s k = k ∧ lockKept s k w = true ∧ (pp s k).rxAt < 16384 * streamLanes s k ∧ (nextBlock s k w).1 = 10 ∧ payByte (nextBlock s k w).2 0 = 0x87 ∧ (pp s k).rx = some x) ∧
    (∃ (s : State) (k : Nat) (w : Nat), k < 6 ∧ 3 ≤ podState s k ∧ s.clockReady .pod = true ∧ streamPort s k = k ∧ lockKept s k w = true ∧ (pp s k).rxAt < 16384 * streamLanes s k ∧ (nextBlock s k w).1 = 10 ∧ payByte (nextBlock s k w).2 0 ∈ (if isPeer k = true then [0xB4, 0x99] else [0xE1])) ∧
    (∃ (s : State) (k : Nat) (w : Nat), k < 6 ∧ 3 ≤ podState s k ∧ s.clockReady .pod = true ∧ streamPort s k = k ∧ lockKept s k w = true ∧ (pp s k).rxAt < 16384 * streamLanes s k ∧ blockBad k (nextBlock s k w) = true) ∧
    (∃ (s : State) (k : Nat) (w : Nat), k < 6 ∧ 3 ≤ podState s k ∧ s.clockReady .pod = true ∧ streamPort s k = k ∧ lockKept s k w = true ∧ 16384 * streamLanes s k ≤ (pp s k).rxAt ∧ blockBad k (podHears s k w / 2 ^ 128 % 16, podHears s k w % 2 ^ 128) = false) ∧
    (∃ (s : State) (k : Nat) (w : Nat), k < 6 ∧ podState s k ∈ [1, 2] ∧ s.clockReady .pod = true ∧ streamPort s k = k ∧ lockKept s k w = true ∧ (pp s k).rx = none ∧ s.get (R.POD_CNT1.HDR_ERR.ix k) < 2 ^ R.POD_CNT1.HDR_ERR.width) ∧
    (∃ (s : State) (k : Nat) (w : Nat), k < 6 ∧ 3 ≤ podState s k ∧ s.clockReady .pod = true ∧ streamPort s k = k ∧ isPeer k = false ∧ isPodLane (nextLane s k) = true ∧ podPortOf (nextLane s k) = k ∧ laneAlign s (nextLane s k) = 4 ∧ hdrValid (podHears s k w / 2 ^ 128 % 16) = false ∧ 31 ≤ (ln s (nextLane s k)).wbad) ∧
    (∃ (s : State) (k : Nat) (rep : Option ReadReport) (x : PodRx) (tag : Nat) (crc : Nat), k < 6 ∧ (pp s k).fin = some (x, tag, crc) ∧ transferGood x tag crc = false ∧ WellFormed (.podTransferReceive k rep) = true) ∧
    (∃ (s : State) (k : Nat) (rep : Option ReadReport) (x : PodRx) (tag : Nat) (crc : Nat), k < 6 ∧ (pp s k).fin = some (x, tag, crc) ∧ transferGood x tag crc = true ∧ WellFormed (.podTransferReceive k rep) = true) ∧
    (∃ (s : State) (k : Nat) (p : Nat), k < 6 ∧ isPeer k = false ∧ podUp s k = true ∧ (pp s k).inbox.find? (fun p => payByte p 0 == 0xE1) = some p ∧ payByte p 1 = 0) ∧
    (∃ (s : State) (k : Nat) (p : Nat), k < 6 ∧ isPeer k = false ∧ podUp s k = true ∧ (pp s k).inbox.find? (fun p => payByte p 0 == 0xE1) = some p ∧ payByte p 1 ≠ 0 ∧ (pp s k).fails.get (p / 2 ^ 96 % 65536) + 1 < atLeast1 (s.get R.POD_CFG.RETRY_MAX)) ∧
    (∃ (s : State) (k : Nat) (p : Nat), k < 6 ∧ isPeer k = false ∧ podUp s k = true ∧ (pp s k).inbox.find? (fun p => payByte p 0 == 0xE1) = some p ∧ payByte p 1 ≠ 0 ∧ atLeast1 (s.get R.POD_CFG.RETRY_MAX) ≤ (pp s k).fails.get (p / 2 ^ 96 % 65536) + 1) ∧
    (∃ (s : State) (k : Nat) (tag : Nat), k < 6 ∧ isPeer k = false ∧ podUp s k = true ∧ (∀ e ∈ inFlight s k, e.1 = tag → 10000 ≤ nsSince s e.2.2) ∧ (pp s k).fails.get tag + 1 < atLeast1 (s.get R.POD_CFG.RETRY_MAX)) ∧
    (∃ (s : State) (k : Nat) (tag : Nat), k < 6 ∧ isPeer k = false ∧ podUp s k = true ∧ (∀ e ∈ inFlight s k, e.1 = tag → 10000 ≤ nsSince s e.2.2) ∧ atLeast1 (s.get R.POD_CFG.RETRY_MAX) ≤ (pp s k).fails.get tag + 1) :=
  ⟨⟨setPp (up.set (R.POD_PORT.STATE.ix 2) 4) 2 { PodPortH.reset with rx := some ⟨3, 7, 1, 0, List.replicate 16 5, [], none, false⟩ }, 2, 5 * 2 ^ 128 + 9, ⟨3, 7, 1, 0, List.replicate 16 5, [], none, false⟩, by decide +kernel⟩,
   ⟨setPp (up.set (R.POD_PORT.STATE.ix 2) 4) 2 { PodPortH.reset with rx := some ⟨3, 7, 1, 0, List.replicate 16 5, [], none, false⟩ }, 2, 10 * 2 ^ 128 + (scrambled 0 (0x78 * 2 ^ 120)).1, by decide +kernel⟩,
   ⟨setPp (up.set (R.POD_PORT.STATE.ix 2) 4) 2 { PodPortH.reset with rx := some ⟨3, 7, 1, 0, List.replicate 16 5, [], none, false⟩ }, 2, 10 * 2 ^ 128 + (scrambled 0 (0x87 * 2 ^ 120)).1, ⟨3, 7, 1, 0, List.replicate 16 5, [], none, false⟩, by decide +kernel⟩,
   ⟨setPp (up.set (R.POD_PORT.STATE.ix 2) 4) 2 { PodPortH.reset with rx := some ⟨3, 7, 1, 0, List.replicate 16 5, [], none, false⟩ }, 2, 10 * 2 ^ 128 + (scrambled 0 (0xE1 * 2 ^ 120)).1, by decide +kernel⟩,
   ⟨setPp (up.set (R.POD_PORT.STATE.ix 2) 4) 2 { PodPortH.reset with rx := some ⟨3, 7, 1, 0, List.replicate 16 5, [], none, false⟩ }, 2, 0, by decide +kernel⟩,
   ⟨setPp (up.set (R.POD_PORT.STATE.ix 2) 4) 2 { PodPortH.reset with rxAt := 65539 }, 2, 10 * 2 ^ 128 + 0xC5 * 2 ^ 120, by decide +kernel⟩,
   ⟨(up.set (R.POD_PORT.STATE.ix 2) 2), 2, 0, by decide +kernel⟩,
   ⟨(((setLn up 32 { LaneH.reset with st := 4, wbad := 31 }).set (laneF 32 R.LN_STAT.ALIGN) 4).set (R.POD_PORT.STATE.ix 2) 4), 2, 0, by decide +kernel⟩,
   ⟨setPp (up.set (R.POD_PORT.STATE.ix 2) 4) 2 { PodPortH.reset with fin := some (⟨3, 7, 1, 0, List.replicate 16 5, [], none, false⟩, 1, 5) }, 2, none, ⟨3, 7, 1, 0, List.replicate 16 5, [], none, false⟩, 1, 5, by decide +kernel⟩,
   ⟨setPp (up.set (R.POD_PORT.STATE.ix 2) 4) 2 { PodPortH.reset with fin := some (⟨3, 7, 1, 0, List.replicate 16 5, [], none, false⟩, 7, crc32 (List.replicate 16 5)) }, 2, none, ⟨3, 7, 1, 0, List.replicate 16 5, [], none, false⟩, 7, crc32 (List.replicate 16 5), by decide +kernel⟩,
   ⟨setPp (up.set (R.POD_PORT.STATE.ix 2) 4) 2 { PodPortH.reset with inbox := [ackBlock false 9] }, 2, ackBlock false 9, by decide +kernel⟩,
   ⟨(setPp (up.set (R.POD_PORT.STATE.ix 2) 4) 2 { PodPortH.reset with inbox := [ackBlock true 9] }).set R.POD_CFG.RETRY_MAX 3, 2, ackBlock true 9, by decide +kernel⟩,
   ⟨setPp (up.set (R.POD_PORT.STATE.ix 2) 4) 2 { PodPortH.reset with inbox := [ackBlock true 9] }, 2, ackBlock true 9, by decide +kernel⟩,
   ⟨(up.set (R.POD_PORT.STATE.ix 2) 4).set R.POD_CFG.RETRY_MAX 3, 2, 9, by decide +kernel⟩,
   ⟨(up.set (R.POD_PORT.STATE.ix 2) 4), 2, 9, by decide +kernel⟩⟩

/-- The hypotheses of `Obligations.StoreModulesAndRings` can be met, those of each part together. -/
theorem witness_StoreModulesAndRings :
    (∃ (s : State) (m : Nat), m < 4 ∧ m < s.store.mods.length ∧ (md s m).reading = true) ∧
    (∃ (s : State) (m : Nat), m < 4 ∧ m < s.store.mods.length ∧ modState s m = 2) ∧
    (∃ (s : State) (m : Nat), m < 4 ∧ m < s.store.mods.length ∧ Open s .store ∧ modState s m = 1) ∧
    (∃ (s : State) (m : Nat), m < 4 ∧ m < s.store.mods.length ∧ Open s .store) ∧
    (∃ (s : State) (r : Nat), r < 256 ∧ Open s .store ∧ ringArmed s r = false ∧ ringMod s r < s.store.mods.length ∧ ringMod s r < 4) ∧
    (∃ (s : State) (r : Nat), r < 256 ∧ Open s .store ∧ ringArmed s r = true ∧ (rg s r).cur = .none) ∧
    (∃ (s : State) (r : Nat), r < 256 ∧ Open s .store ∧ ringArmed s r = true ∧ (rg s r).cur ≠ .none) ∧
    (∃ (s : State) (r : Nat), r < 256 ∧ Open s .store ∧ ringArmed s r = false) ∧
    (∃ (s : State) (r : Nat), r < 256 ∧ Open s .store ∧ ringArmed s r = true) ∧
    (∃ (s : State) (r : Nat), r < 256 ∧ ringArmed s r = true ∧ 1000000 * atLeast1 (s.get R.STORE_PTR_CTRL.PTR_PERIOD) ≤ s.age (.pointers r)) ∧
    (∃ (m : Nat), m < 4) ∧
    (∃ (s : State) (m : Nat), m < 4 ∧ s.on (R.STORE_MOD_BUDGET.OVERLOAD.ix m) = true ∧ 1000000 ≤ s.age (.level m)) ∧
    (∃ (s : State) (m : Nat), m < 4 ∧ s.on (R.STORE_MOD_BUDGET.OVERLOAD.ix m) = false ∧ 10000000 ≤ s.age (.calm m)) ∧
    (∃ (s : State) (r : Nat), r < 256 ∧ 100000000 ≤ s.age (.rate r)) ∧
    (∃ (s : State) (m : Nat), m < 4 ∧ 1000000 * atLeast1 (s.get R.STORE_ECC_CTRL.LEAK_PERIOD) ≤ s.age (.storeLeak m)) ∧
    (∃ (s : State) (r : Nat), r < 256 ∧ ringArmed s r = true ∧ (rg s r).exts ≠ [] ∧ ringMod s r < 4 ∧ extentBytes ≤ (rg s r).off) ∧
    (∃ (s : State), Open s .store ∧ s.runBit .store = true) :=
  ⟨⟨setMd up 1 { ModH.reset with reading := true }, 1, by decide +kernel⟩,
   ⟨(up.set (R.STORE_MOD_STAT.STATE.ix 1) 2).set (R.STORE_MOD_STAT.EXTENTS.ix 1) 20, 1, by decide +kernel⟩,
   ⟨(up.set (R.STORE_MOD_STAT.STATE.ix 1) 1), 1, by decide +kernel⟩,
   ⟨(up.set (R.STORE_MOD_STAT.STATE.ix 1) 1), 1, by decide +kernel⟩,
   ⟨armable, 3, by decide +kernel⟩,
   ⟨(setRg up 3 { RingH.reset with exts := [4], cur := .none }).set (R.RING_STAT.STATE.ix 3) 2, 3, by decide +kernel⟩,
   ⟨(setRg up 3 { RingH.reset with exts := [4], cur := .discard 5 }).set (R.RING_STAT.STATE.ix 3) 2, 3, by decide +kernel⟩,
   ⟨(setRg up 3 { RingH.reset with exts := [4] }).set (R.RING_STAT.STATE.ix 3) 1, 3, by decide +kernel⟩,
   ⟨(setRg up 3 { RingH.reset with exts := [4] }).set (R.RING_STAT.STATE.ix 3) 2, 3, by decide +kernel⟩,
   ⟨at_ 1000000 <| (setRg up 3 { RingH.reset with exts := [4] }).set (R.RING_STAT.STATE.ix 3) 2, 3, by decide +kernel⟩,
   ⟨1, by decide +kernel⟩,
   ⟨at_ 1000000 <| up.set (R.STORE_MOD_BUDGET.OVERLOAD.ix 1) 1, 1, by decide +kernel⟩,
   ⟨at_ 10000000 up, 1, by decide +kernel⟩,
   ⟨at_ 100000000 <| (setRg up 3 { RingH.reset with winBytes := 5 }).set (R.RING_STAT.STATE.ix 3) 2, 3, by decide +kernel⟩,
   ⟨at_ 2000000000 <| up.set (R.STORE_MOD_ECC.BUCKET.ix 1) 4, 1, by decide +kernel⟩,
   ⟨(setRg up 3 { RingH.reset with exts := [4, 5], off := 268435456 }).set (R.RING_STAT.STATE.ix 3) 2, 3, by decide +kernel⟩,
   ⟨(up.set (runF .store) 1).set (runningF .store) 1, by decide +kernel⟩⟩

/-- The hypotheses of `Obligations.Replay` can be met, those of each part together. -/
theorem witness_Replay :
    (∃ (s : State) (c : Nat), c < 16 ∧ Open s .store ∧ rplActive s c = false ∧ rplCode s c = 0) ∧
    (∃ (s : State) (c : Nat), c < 16 ∧ Open s .store ∧ rplActive s c = false ∧ rplCode s c ≠ 0) ∧
    (∃ (s : State) (c : Nat), c < 16 ∧ rplState s c = 1 ∧ ((rplFill s c (s.get (R.RPL_START.START.ix c))).2 = true ∨ some (rplFill s c (s.get (R.RPL_START.START.ix c))).1 = rplLast s c)) ∧
    (∃ (s : State) (c : Nat) (at' : Nat) (f32 : Option Nat), c < 16 ∧ (jb s c).launch = some (at', f32) ∧ at' ≤ tbtNs s ∧ rplState s c = 2) ∧
    (∃ (s : State) (c : Nat), c < 16 ∧ Open s .store ∧ rplState s c = 2) ∧
    (∃ (s : State) (c : Nat), c < 16 ∧ Open s .store ∧ rplState s c = 3) ∧
    (∃ (s : State) (c : Nat), c < 16 ∧ Open s .store ∧ rplState s c ≠ 2 ∧ rplState s c ≠ 3) ∧
    (∃ (s : State) (c : Nat) (u : RUnit), c < 16 ∧ s.clockReady .store = true ∧ rplState s c = 3 ∧ (s.get (R.RPL_COUNT.COUNT.ix c) = 0 ∨ (jb s c).started < s.get (R.RPL_COUNT.COUNT.ix c)) ∧ rplUnit s c (jb s c).started = some u ∧ rplUnitTime s c (jb s c).started u ≤ (tbtNs s : Int)) ∧
    (∃ (s : State) (c : Nat) (u : RUnit) (idx : Nat) (pkt : Packet) (rest : List (Nat × Packet)), c < 16 ∧ s.clockReady .store = true ∧ rplState s c = 3 ∧ (jb s c).cur = some u ∧ rplLeft (jb s c) = (idx, pkt) :: rest ∧ rplDue s c ((jb s c).started - 1) u pkt = true) ∧
    (∃ (s : State) (c : Nat), c < 16 ∧ Open s .store ∧ rplActive s c = true) :=
  ⟨⟨rplReady, 2, by decide +kernel⟩,
   ⟨up, 2, by decide +kernel⟩,
   ⟨((setJb ((setRg up 0 { RingH.reset with units := [theUnit] }).set (R.RING_STAT.STATE.ix 0) 1) 2 { JobH.reset with readTo := 3 }).set (R.RPL_STAT.STATE.ix 2) 1).set (R.RPL_COUNT.COUNT.ix 2) 1, 2, by decide +kernel⟩,
   ⟨(setJb up 2 { JobH.reset with launch := some (0, none) }).set (R.RPL_STAT.STATE.ix 2) 2, 2, 0, none, by decide +kernel⟩,
   ⟨(setJb up 2 { JobH.reset with readTo := 3 }).set (R.RPL_STAT.STATE.ix 2) 2, 2, by decide +kernel⟩,
   ⟨(setJb up 2 { JobH.reset with readTo := 3 }).set (R.RPL_STAT.STATE.ix 2) 3, 2, by decide +kernel⟩,
   ⟨up, 2, by decide +kernel⟩,
   ⟨(setJb ((setRg up 0 { RingH.reset with units := [theUnit] }).set (R.RING_STAT.STATE.ix 0) 1) 2 { JobH.reset with tL := 0 }).set (R.RPL_STAT.STATE.ix 2) 3, 2, theUnit, by decide +kernel⟩,
   ⟨(setJb up 2 { JobH.reset with tL := 0, started := 1, cur := some theUnit, left := [(0, ⟨0, 1, [1, 2]⟩)] }).set (R.RPL_STAT.STATE.ix 2) 3, 2, theUnit, 0, ⟨0, 1, [1, 2]⟩, [], by decide +kernel⟩,
   ⟨(setJb up 2 { JobH.reset with tL := 0 }).set (R.RPL_STAT.STATE.ix 2) 3, 2, by decide +kernel⟩⟩

/-- The hypotheses of `Obligations.TimeDomains` can be met, those of each part together. -/
theorem witness_TimeDomains :
    (∃ (s : State) (d : Nat), d < 2 ∧ Open s .time ∧ noneFallsDue s (tdSet s d)) ∧
    (∃ (s : State) (d : Nat) (v : Nat), d < 2 ∧ Open s .time ∧ actedNow s (2 * d) = false ∧ noneFallsDue s (tdStep s d v)) ∧
    (∃ (s : State) (d : Nat), d < 2 ∧ Open s .time ∧ actedNow s (2 * d) = false ∧ actedNow s (2 * d + 1) = false) ∧
    (∃ (s : State) (d : Nat), d < 2 ∧ Open s .time ∧ actedNow s (2 * d) = true) ∧
    (∃ (s : State) (d : Nat), d < 2 ∧ Open s .time ∧ (actedNow s (2 * d) = true ∨ actedNow s (2 * d + 1) = true)) ∧
    (∃ (s : State) (d : Nat), d < 2 ∧ Open s .time) ∧
    (∃ (s : State) (d : Nat), d < 2 ∧ domValid s d = true ∧ 1000000000 * atLeast1 (s.get (R.TD_CTRL.LEASE_S.ix d)) ≤ s.age (.lease d)) ∧
    (∃ (s : State) (d : Nat), d < 2 ∧ domCount (domTick s d) d < domCount s d) ∧
    (∃ (s : State), 1000000 ≤ s.age .diff) ∧
    (∃ (s : State) (target : Nat), target < 2 ∧ Open s .time ∧ domValid s target = true ∧ diffAgrees s (toSigned 32 (s.get R.TIME_DIFF.DIFF_NS)) = true ∧ s.time.resid = 0) ∧
    (∃ (s : State) (target : Nat), target < 2 ∧ Open s .time ∧ (domValid s target = false ∨ diffAgrees s (toSigned 32 (s.get R.TIME_DIFF.DIFF_NS)) = false ∨ s.time.resid ≠ 0)) ∧
    (∃ (s : State) (target : Nat), target < 2 ∧ Open s .time ∧ noneFallsDue s (swForce (s.set R.TIME_CTRL.SW_TARGET target))) ∧
    (∃ (s : State), s.time.resid ≠ 0 ∧ s.time.resid.natAbs ≤ 131072000 * atLeast1 (s.get R.TIME_CTRL.SW_SLEW)) ∧
    (∃ (s : State), Open s .time) ∧
    (∃ (s : State) (rising : Bool), s.on R.CAP_CTRL.PPS_IN_EN = true ∧ s.on R.CAP_CTRL.PPS_POL = !rising ∧ capTooSoon s = false) ∧
    (∃ (s : State) (rising : Bool), (s.on R.CAP_CTRL.PPS_IN_EN = false ∨ s.on R.CAP_CTRL.PPS_POL = rising ∨ capTooSoon s = true)) ∧
    (∃ (s : State), ppsSecond s ≠ s.time.ppsSec) ∧
    (∃ (s : State) (k : Nat), k < 4 ∧ Open s .time ∧ s.on (R.VTB_CFG.EN.ix k) = false ∧ vtbAccepts (s.get (R.VTB_CFG.RASTER.ix k)) (s.get (R.VTB_CFG.RATE.ix k)) = true) ∧
    (∃ (s : State) (k : Nat), k < 4 ∧ Open s .time ∧ s.on (R.VTB_CFG.EN.ix k) = false ∧ vtbAccepts (s.get (R.VTB_CFG.RASTER.ix k)) (s.get (R.VTB_CFG.RATE.ix k)) = false) ∧
    (∃ (s : State) (k : Nat), k < 4 ∧ vtbRunning s k = true ∧ s.time.vfFrame.get k ≠ ofSigned 64 (vtbFrame s k)) :=
  ⟨⟨up.set (R.TD_SET_LO.SET.ix 1) 77, 1, by decide +kernel⟩,
   ⟨up, 1, 0xFFFFFFFF, by decide +kernel⟩,
   ⟨up, 1, by decide +kernel⟩,
   ⟨tdSet up 1, 1, by decide +kernel⟩,
   ⟨tdStep up 1 7, 1, by decide +kernel⟩,
   ⟨(up.set (R.TD_CTRL.VALID.ix 0) 1).set (R.TD_CTRL.VALID.ix 1) 1, 1, by decide +kernel⟩,
   ⟨at_ 100000000000000 <| (up.set (R.TD_CTRL.VALID.ix 0) 1).set (R.TD_CTRL.VALID.ix 1) 1, 1, by decide +kernel⟩,
   ⟨setDomCount up 1 (wrap48 - 5), 1, by decide +kernel⟩,
   ⟨at_ 1000000 <| (up.set (R.TD_CTRL.VALID.ix 0) 1).set (R.TD_CTRL.VALID.ix 1) 1, by decide +kernel⟩,
   ⟨(up.set (R.TD_CTRL.VALID.ix 0) 1).set (R.TD_CTRL.VALID.ix 1) 1, 1, by decide +kernel⟩,
   ⟨up, 1, by decide +kernel⟩,
   ⟨up, 1, by decide +kernel⟩,
   ⟨{ up with time := { up.time with resid := 5 } }.set R.TIME_STAT.SLEWING 1, by decide +kernel⟩,
   ⟨up, by decide +kernel⟩,
   ⟨up.set R.CAP_CTRL.PPS_IN_EN 1, true, by decide +kernel⟩,
   ⟨up, true, by decide +kernel⟩,
   ⟨at_ 3000000000 ((up.set R.PPS_OUT_CFG.EN 1).set R.PPS_OUT_CFG.SRC 3), by decide +kernel⟩,
   ⟨up.set (R.VTB_CFG.RASTER.ix 2) 3, 2, by decide +kernel⟩,
   ⟨up, 2, by decide +kernel⟩,
   ⟨(up.set (R.VTB_CFG.VF_EN.ix 2) 1).set R.TIME_STAT.VTB_RUN 15 |> (setDomCount · 0 (timeUnit * 1000000000)), 2, by decide +kernel⟩⟩

/-- The hypotheses of `Obligations.SchedulerExecutes` can be met, those of each part together. -/
theorem witness_SchedulerExecutes :
    (∃ (s : State) (slot : Nat) (e : SchedEntry), readyEntry s slot aATW e) ∧
    (∃ (s : State) (slot : Nat) (e : SchedEntry), readyEntry s slot aCOMMIT e) ∧
    (∃ (s : State) (slot : Nat) (e : SchedEntry), readyEntry s slot aMARK e) ∧
    (∃ (s : State) (slot : Nat) (e : SchedEntry), entryAt s slot = some e ∧ isLaunch e.action = true ∧ e.handed = false ∧ e.time ≤ scaleNs s e.scale + 2000 ∧ s.frozen = false ∧ (e.action = aDAWN → (s.getC (carrierOf e.arg0) R.TX_LATENCY.LATENCY_PS : Int) < 1000 * ((e.time : Int) - scaleNs s e.scale))) ∧
    (∃ (s : State) (slot : Nat) (e : SchedEntry), entryAt s slot = some e ∧ isLaunch e.action = true ∧ e.handed = false ∧ e.time ≤ scaleNs s e.scale + 2000 ∧ s.frozen = true) ∧
    (∃ (s : State) (slot : Nat) (e : SchedEntry), entryAt s slot = some e ∧ e.action = aMARK ∧ isDue s e = true ∧ batchOf s e = [e] ∧ overtakes s { e with order := 0 } = false ∧ s.frozen = true) ∧
    (∃ (s : State), Open s .sched) :=
  ⟨⟨{ up with sched := { SchedH.reset with entries := [⟨5, aATW, .tbt, false, 0, 0, false, 0, 0x40020000, 3, 255, 77, 0, 1, false⟩] } }, 5, ⟨5, aATW, .tbt, false, 0, 0, false, 0, 0x40020000, 3, 255, 77, 0, 1, false⟩, by decide +kernel⟩,
   ⟨{ (up.set (cpSelF (.tx .A)) 1) with sched := { SchedH.reset with entries := [⟨5, aCOMMIT, .tbt, false, 0, 0, false, 0, 3, 3, 255, 77, 0, 1, false⟩] } }, 5, ⟨5, aCOMMIT, .tbt, false, 0, 0, false, 0, 3, 3, 255, 77, 0, 1, false⟩, by decide +kernel⟩,
   ⟨{ up with sched := { SchedH.reset with entries := [⟨5, aMARK, .tbt, false, 0, 0, false, 0, 0, 3, 255, 77, 0, 1, false⟩] } }, 5, ⟨5, aMARK, .tbt, false, 0, 0, false, 0, 0, 3, 255, 77, 0, 1, false⟩, by decide +kernel⟩,
   ⟨{ up with sched := { SchedH.reset with entries := [⟨5, aDAWN, .tbt, false, 0, 0, false, 100, 1, 3, 255, 77, 0, 1, false⟩] } }, 5, ⟨5, aDAWN, .tbt, false, 0, 0, false, 100, 1, 3, 255, 77, 0, 1, false⟩, by decide +kernel⟩,
   ⟨{ (up.set R.VOTE_STAT.STATE vFROZEN) with sched := { SchedH.reset with entries := [⟨5, aDAWN, .tbt, false, 0, 0, false, 0, 1, 3, 255, 77, 0, 1, false⟩] } }, 5, ⟨5, aDAWN, .tbt, false, 0, 0, false, 0, 1, 3, 255, 77, 0, 1, false⟩, by decide +kernel⟩,
   ⟨{ (up.set R.VOTE_STAT.STATE vFROZEN) with sched := { SchedH.reset with entries := [⟨5, aMARK, .tbt, false, 0, 0, false, 0, 0, 3, 255, 77, 0, 1, false⟩] } }, 5, ⟨5, aMARK, .tbt, false, 0, 0, false, 0, 0, 3, 255, 77, 0, 1, false⟩, by decide +kernel⟩,
   ⟨{ up with sched := { SchedH.reset with entries := [⟨5, aMARK, .tbt, false, 0, 0, false, 0, 0, 3, 255, 77, 0, 1, false⟩] } }, by decide +kernel⟩⟩

/-- The hypotheses of `Obligations.VotingAndRestart` can be met, those of each part together. -/
theorem witness_VotingAndRestart :
    (∃ (s : State), s.ctl.started = true ∧ s.vote = vTMR ∧ excludedChan s = 3 ∧ chanState (chan s 0) = chanState (chan s 1) ∧ chanState (chan s 1) = chanState (chan s 2)) ∧
    (∃ (s : State), s.ctl.cycles / 1024 = s.ctl.sigAt) ∧
    (∃ (s : State) (odd : Nat), s.ctl.started = true ∧ s.vote = vTMR ∧ excludedChan s = 3 ∧ odd < 3 ∧ (∀ m < 3, m ≠ odd → chanState (chan s m) = chanState (chan s ((odd + 1) % 3))) ∧ chanState (chan s odd) ≠ chanState (chan s ((odd + 1) % 3)) ∧ s.ctl.cycles / 1024 ≠ s.ctl.sigAt) ∧
    (∃ (s : State), s.ctl.started = true ∧ s.vote = vDUPLEX ∧ excludedChan s = 2 ∧ chanState (chan s 0) ≠ chanState (chan s 1) ∧ s.ctl.cycles / 1024 ≠ s.ctl.sigAt) ∧
    (∃ (s : State), s.vote = vDUPLEX ∧ idleSlot s = true) ∧
    (∃ (s : State), s.vote = vDUPLEX ∧ 1000000 * atLeast1 (s.get R.VOTE_CTRL.RESYNC_WAIT) ≤ s.age .duplex) ∧
    (∃ (s : State) (ue : Option (Nat × Nat)) (a : Nat) (b : Nat) (x : Nat), s.vote = vRESYNC ∧ excludedChan s = x ∧ x < 3 ∧ liveChans s = [a, b] ∧ chan s a = chan s b ∧ s.ctl.chans.length = 3 ∧ (ue = none ∨ ue.map Prod.fst = some x) ∧ ctlNs s 137216 ≤ s.age .resync) ∧
    (∃ (s : State), Open s .event ∧ s.vote = vFROZEN ∧ s.host.restart = false) ∧
    (∃ (s : State), s.host.restart = true ∧ s.host.boot = .verify ∧ imageResult (s.set R.VOTE_STAT.EXCLUDED 3) 0 0 1 = 0) ∧
    (∃ (s : State), s.host.restart = true ∧ s.host.boot = .verify ∧ imageResult (s.set R.VOTE_STAT.EXCLUDED 3) 0 0 1 ≠ 0) ∧
    (∃ (s : State) (dom : Bool) (i : Nat), s.dev ≠ 0 ∧ i < (if dom = true then 22 else 9) ∧ scrubDue s dom i = true) ∧
    (∃ (s : State) (dom : Bool) (i : Nat) (v : Scrub), s.dev ≠ 0 ∧ i < (if dom = true then 22 else 9) ∧ scrubDue s dom i = true ∧ v = .clean) ∧
    (∃ (s : State) (dom : Bool) (i : Nat) (v : Scrub), s.dev ≠ 0 ∧ i < (if dom = true then 22 else 9) ∧ scrubDue s dom i = true ∧ v = .corrected) ∧
    (∃ (s : State) (dom : Bool) (i : Nat) (v : Scrub), s.dev ≠ 0 ∧ i < (if dom = true then 22 else 9) ∧ scrubDue s dom i = true ∧ v = .bad ∧ dom = true) ∧
    (∃ (s : State) (dom : Bool) (i : Nat) (v : Scrub), s.dev ≠ 0 ∧ i < (if dom = true then 22 else 9) ∧ scrubDue s dom i = true ∧ v = .bad ∧ dom = false ∧ s.vote = vTMR) ∧
    (∃ (s : State), 1000000 * atLeast1 (s.get R.MEM_CTRL.LEAK_PERIOD) ≤ s.age .memLeak) :=
  ⟨⟨cx, by decide +kernel⟩,
   ⟨cx, by decide +kernel⟩,
   ⟨cyc (cxOdd 1), 1, by decide +kernel, by decide +kernel, by decide +kernel, by decide +kernel,
     fun m _ _ => by
      have : m = 0 ∨ m = 2 := by omega
      rcases this with rfl | rfl <;> decide +kernel,
     by decide +kernel, by decide +kernel⟩,
   ⟨((cyc (cxOdd 1)).set R.VOTE_STAT.STATE vDUPLEX).set R.VOTE_STAT.EXCLUDED 2, by decide +kernel⟩,
   ⟨cxDup, by decide +kernel⟩,
   ⟨at_ 100000000000 cxDup, by decide +kernel⟩,
   ⟨at_ 100000000 cxRes, none, 0, 1, 2, by decide +kernel⟩,
   ⟨cx.set R.VOTE_STAT.STATE vFROZEN, by decide +kernel⟩,
   ⟨{ goodBoot.set R.HOST_LC.LC_STATE 1 with ctl := { CtlH.reset with started := true, chans := List.replicate 3 { Chan.reset with mem := smallImage } } }, by decide +kernel⟩,
   ⟨goodBoot, by decide +kernel⟩,
   ⟨at_ 1000000000 cx, false, 4, by decide +kernel⟩,
   ⟨at_ 1000000000 cx, false, 4, .clean, by decide +kernel⟩,
   ⟨at_ 1000000000 cx, false, 4, .corrected, by decide +kernel⟩,
   ⟨at_ 1000000000 cx, true, 4, .bad, by decide +kernel⟩,
   ⟨at_ 1000000000 cx, false, 4, .bad, by decide +kernel⟩,
   ⟨at_ 100000000000 up, by decide +kernel⟩⟩

/-- The hypotheses of `Obligations.GatesEventsAndCounters` can be met, those of each part together. -/
theorem witness_GatesEventsAndCounters :
    (∃ (s : State) (d : Nat), 5 ≤ d ∧ d ≤ 21 ∧ Open s .pwr ∧ s.domOn d = true ∧ bitOf (s.get R.PWR_CGATE.GATE) d = false ∧ s.domRuns d = false) ∧
    (∃ (s : State) (d : Nat), 5 ≤ d ∧ d ≤ 21 ∧ Open s .pwr ∧ s.domOn d = true ∧ bitOf (s.get R.PWR_CGATE.GATE) d = false ∧ s.domRuns d = true) ∧
    (∃ (s : State) (d : Nat), d < 22 ∧ d ∈ s.pwr.gates) ∧
    (∃ (s : State) (d : Nat), d < 22 ∧ d ∈ s.pwr.gates ∧ ackWait s d ≤ s.age (.cgate d)) ∧
    (∃ (s : State) (d : Nat), d < 22 ∧ Open s .pwr ∧ d ∈ s.pwr.gates) ∧
    (∃ (s : State) (d : Nat), d < 22 ∧ Open s .pwr ∧ bitOf (s.get R.PWR_CGATE.GATE) d = true) ∧
    (∃ (s : State), s.dev ≠ 0) ∧
    (∃ (s : State), s.ctl.started = true ∧ s.vote = vTMR ∧ excludedChan s = 3 ∧ chan s 0 = chan s 1 ∧ chan s 1 = chan s 2 ∧ reached s = true ∧ (lead s).exc = false) ∧
    (∃ (s : State) (by' : Requester) (h : Ev) (rest : List Ev), s.dev ≠ 0 ∧ s.domOn (blkDom .event) = true ∧ s.domGated (blkDom .event) = false ∧ (by' = .host ∨ (by' = .control ∧ votes s = true)) ∧ pathOf by' = evOwner s ∧ s.ev.entries = h :: rest) ∧
    (∃ (s : State) (by' : Requester) (h : Ev) (rest : List Ev), Open s .event ∧ pathOf by' = evOwner s ∧ s.ev.entries = h :: rest) ∧
    (∃ (s : State) (by' : Requester), pathOf by' ≠ evOwner s) ∧
    (∃ (s : State), Open s .perf) ∧
    (∃ (s : State) (h : Nat), h < 8 ∧ Open s .perf) :=
  ⟨⟨up, 9, by decide +kernel⟩,
   ⟨up.set (runningF (.fec .A)) 1, (blkDom (.fec .A)), by decide +kernel⟩,
   ⟨{ up with pwr := { PwrH.reset with gates := [9] } }, 9, by decide +kernel⟩,
   ⟨at_ 1000000000 { up with pwr := { PwrH.reset with gates := [9] } }, 9, by decide +kernel⟩,
   ⟨{ up with pwr := { PwrH.reset with gates := [9] } }, 9, by decide +kernel⟩,
   ⟨up.set R.PWR_CGATE.GATE 512, 9, by decide +kernel⟩,
   ⟨up, by decide +kernel⟩,
   ⟨cx, by decide +kernel⟩,
   ⟨{ cx with ev := ⟨[⟨5, 2, 7, 9⟩], none, none⟩ }, .control, ⟨5, 2, 7, 9⟩, [], by decide +kernel⟩,
   ⟨{ cx with ev := ⟨[⟨5, 2, 7, 9⟩], some 1, none⟩ }, .control, ⟨5, 2, 7, 9⟩, [], by decide +kernel⟩,
   ⟨up, .host, by decide +kernel⟩,
   ⟨up.set (R.PERF_CNT.COUNT.ix 3) 9, by decide +kernel⟩,
   ⟨up, 7, by decide +kernel⟩⟩

/-- The hypotheses of `Obligations.AluInstructions` can be met, those of each part together. -/
theorem witness_AluInstructions :
    ∃ (s : State), Ready s :=
  ⟨cx, by decide +kernel⟩

/-- The hypotheses of `Obligations.ImmediateInstructions` can be met, those of each part together. -/
theorem witness_ImmediateInstructions :
    (∃ (s : State), Ready s) ∧
    (∃ (s : State) (imm : BitVec 18), Ready s ∧ imm.toNat < 32) ∧
    (∃ (s : State) (ga : BitVec 4), Ready s ∧ ga = 0) ∧
    (∃ (s : State) (imm : BitVec 18), Ready s ∧ imm.toNat < 1024) ∧
    (∃ (s : State) (imm : BitVec 18), Ready s ∧ 32 ≤ imm.toNat ∧ OnLive s (fun c => c.exc = false)) ∧
    (∃ (s : State) (ga : BitVec 4), Ready s ∧ ga ≠ 0 ∧ OnLive s (fun c => c.exc = false)) ∧
    (∃ (s : State) (imm : BitVec 18), Ready s ∧ 1024 ≤ imm.toNat ∧ OnLive s (fun c => c.exc = false)) :=
  ⟨⟨cx, by decide +kernel⟩,
   ⟨cx, 5, by decide +kernel⟩,
   ⟨cx, 0, by decide +kernel⟩,
   ⟨cx, 5, by decide +kernel⟩,
   ⟨cx, 2000, by decide +kernel⟩,
   ⟨cx, 2, by decide +kernel⟩,
   ⟨cx, 2000, by decide +kernel⟩⟩

/-- The hypotheses of `Obligations.BranchesAndJumps` can be met, those of each part together. -/
theorem witness_BranchesAndJumps :
    (∃ (s : State) (ga : BitVec 4) (gb : BitVec 4) (off : BitVec 18), Ready s ∧ OnLive s (fun c => c.rd ga = c.rd gb) ∧ OnLive s (fun c => c.fetchCode (targetOf c off.toInt) = none)) ∧
    (∃ (s : State) (ga : BitVec 4) (gb : BitVec 4), Ready s ∧ OnLive s (fun c => ¬(c.rd ga = c.rd gb))) ∧
    (∃ (s : State) (ga : BitVec 4) (gb : BitVec 4) (off : BitVec 18), Ready s ∧ OnLive s (fun c => c.rd ga ≠ c.rd gb) ∧ OnLive s (fun c => c.fetchCode (targetOf c off.toInt) = none)) ∧
    (∃ (s : State) (ga : BitVec 4) (gb : BitVec 4), Ready s ∧ OnLive s (fun c => ¬(c.rd ga ≠ c.rd gb))) ∧
    (∃ (s : State) (ga : BitVec 4) (gb : BitVec 4) (off : BitVec 18), Ready s ∧ OnLive s (fun c => (c.rd ga).toInt < (c.rd gb).toInt) ∧ OnLive s (fun c => c.fetchCode (targetOf c off.toInt) = none)) ∧
    (∃ (s : State) (ga : BitVec 4) (gb : BitVec 4), Ready s ∧ OnLive s (fun c => ¬((c.rd ga).toInt < (c.rd gb).toInt))) ∧
    (∃ (s : State) (ga : BitVec 4) (gb : BitVec 4) (off : BitVec 18), Ready s ∧ OnLive s (fun c => (c.rd ga).toInt ≤ (c.rd gb).toInt) ∧ OnLive s (fun c => c.fetchCode (targetOf c off.toInt) = none)) ∧
    (∃ (s : State) (ga : BitVec 4) (gb : BitVec 4), Ready s ∧ OnLive s (fun c => ¬((c.rd ga).toInt ≤ (c.rd gb).toInt))) ∧
    (∃ (s : State) (ga : BitVec 4) (gb : BitVec 4) (off : BitVec 18), Ready s ∧ OnLive s (fun c => (c.rd ga).toNat < (c.rd gb).toNat) ∧ OnLive s (fun c => c.fetchCode (targetOf c off.toInt) = none)) ∧
    (∃ (s : State) (ga : BitVec 4) (gb : BitVec 4), Ready s ∧ OnLive s (fun c => ¬((c.rd ga).toNat < (c.rd gb).toNat))) ∧
    (∃ (s : State) (ga : BitVec 4) (gb : BitVec 4) (off : BitVec 18), Ready s ∧ OnLive s (fun c => (c.rd ga).toNat ≤ (c.rd gb).toNat) ∧ OnLive s (fun c => c.fetchCode (targetOf c off.toInt) = none)) ∧
    (∃ (s : State) (ga : BitVec 4) (gb : BitVec 4), Ready s ∧ OnLive s (fun c => ¬((c.rd ga).toNat ≤ (c.rd gb).toNat))) ∧
    (∃ (s : State) (ga : BitVec 4) (gb : BitVec 4) (off : BitVec 18), Ready s ∧ OnLive s (fun c => c.rd ga &&& c.rd gb ≠ 0) ∧ OnLive s (fun c => c.fetchCode (targetOf c off.toInt) = none)) ∧
    (∃ (s : State) (ga : BitVec 4) (gb : BitVec 4), Ready s ∧ OnLive s (fun c => ¬(c.rd ga &&& c.rd gb ≠ 0))) ∧
    (∃ (s : State) (ga : BitVec 4) (gb : BitVec 4) (off : BitVec 18), Ready s ∧ OnLive s (fun c => c.rd ga &&& c.rd gb = 0) ∧ OnLive s (fun c => c.fetchCode (targetOf c off.toInt) = none)) ∧
    (∃ (s : State) (ga : BitVec 4) (gb : BitVec 4), Ready s ∧ OnLive s (fun c => ¬(c.rd ga &&& c.rd gb = 0))) ∧
    (∃ (s : State) (ga : BitVec 4) (gb : BitVec 4) (off : BitVec 18) (code : Nat), Ready s ∧ OnLive s (fun c => c.rd ga = c.rd gb) ∧ OnLive s (fun c => c.fetchCode (targetOf c off.toInt) = some code) ∧ OnLive s (fun c => c.exc = false)) ∧
    (∃ (s : State) (ga : BitVec 4) (gb : BitVec 4) (off : BitVec 18) (code : Nat), Ready s ∧ OnLive s (fun c => c.rd ga ≠ c.rd gb) ∧ OnLive s (fun c => c.fetchCode (targetOf c off.toInt) = some code) ∧ OnLive s (fun c => c.exc = false)) ∧
    (∃ (s : State) (ga : BitVec 4) (gb : BitVec 4) (off : BitVec 18) (code : Nat), Ready s ∧ OnLive s (fun c => (c.rd ga).toInt < (c.rd gb).toInt) ∧ OnLive s (fun c => c.fetchCode (targetOf c off.toInt) = some code) ∧ OnLive s (fun c => c.exc = false)) ∧
    (∃ (s : State) (ga : BitVec 4) (gb : BitVec 4) (off : BitVec 18) (code : Nat), Ready s ∧ OnLive s (fun c => (c.rd ga).toInt ≤ (c.rd gb).toInt) ∧ OnLive s (fun c => c.fetchCode (targetOf c off.toInt) = some code) ∧ OnLive s (fun c => c.exc = false)) ∧
    (∃ (s : State) (ga : BitVec 4) (gb : BitVec 4) (off : BitVec 18) (code : Nat), Ready s ∧ OnLive s (fun c => (c.rd ga).toNat < (c.rd gb).toNat) ∧ OnLive s (fun c => c.fetchCode (targetOf c off.toInt) = some code) ∧ OnLive s (fun c => c.exc = false)) ∧
    (∃ (s : State) (ga : BitVec 4) (gb : BitVec 4) (off : BitVec 18) (code : Nat), Ready s ∧ OnLive s (fun c => (c.rd ga).toNat ≤ (c.rd gb).toNat) ∧ OnLive s (fun c => c.fetchCode (targetOf c off.toInt) = some code) ∧ OnLive s (fun c => c.exc = false)) ∧
    (∃ (s : State) (ga : BitVec 4) (gb : BitVec 4) (off : BitVec 18) (code : Nat), Ready s ∧ OnLive s (fun c => c.rd ga &&& c.rd gb ≠ 0) ∧ OnLive s (fun c => c.fetchCode (targetOf c off.toInt) = some code) ∧ OnLive s (fun c => c.exc = false)) ∧
    (∃ (s : State) (ga : BitVec 4) (gb : BitVec 4) (off : BitVec 18) (code : Nat), Ready s ∧ OnLive s (fun c => c.rd ga &&& c.rd gb = 0) ∧ OnLive s (fun c => c.fetchCode (targetOf c off.toInt) = some code) ∧ OnLive s (fun c => c.exc = false)) ∧
    (∃ (s : State) (off : BitVec 26), Ready s ∧ OnLive s (fun c => c.fetchCode (targetOf c off.toInt) = none)) ∧
    (∃ (s : State) (ga : BitVec 4), Ready s ∧ OnLive s (fun c => c.fetchCode (c.rd ga).toNat = none)) ∧
    (∃ (s : State) (off : BitVec 26) (code : Nat), Ready s ∧ OnLive s (fun c => c.fetchCode (targetOf c off.toInt) = some code) ∧ OnLive s (fun c => c.exc = false)) ∧
    (∃ (s : State) (ga : BitVec 4) (code : Nat), Ready s ∧ OnLive s (fun c => c.fetchCode (c.rd ga).toNat = some code) ∧ OnLive s (fun c => c.exc = false)) :=
  ⟨⟨cx, 3, 4, 2, by decide +kernel⟩,
   ⟨cxg, 3, 4, by decide +kernel⟩,
   ⟨cxg, 3, 4, 2, by decide +kernel⟩,
   ⟨cx, 3, 4, by decide +kernel⟩,
   ⟨cxg, 3, 4, 2, by decide +kernel⟩,
   ⟨cx, 3, 4, by decide +kernel⟩,
   ⟨cx, 3, 4, 2, by decide +kernel⟩,
   ⟨cxg, 4, 3, by decide +kernel⟩,
   ⟨cxg, 3, 4, 2, by decide +kernel⟩,
   ⟨cx, 3, 4, by decide +kernel⟩,
   ⟨cx, 3, 4, 2, by decide +kernel⟩,
   ⟨cxg, 4, 3, by decide +kernel⟩,
   ⟨cxg, 3, 4, 2, by decide +kernel⟩,
   ⟨cx, 3, 4, by decide +kernel⟩,
   ⟨cx, 3, 0, 2, by decide +kernel⟩,
   ⟨cxg, 3, 4, by decide +kernel⟩,
   ⟨cx, 3, 4, 0x20001, xACCESS, by decide +kernel⟩,
   ⟨cxg, 3, 4, 0x20001, xACCESS, by decide +kernel⟩,
   ⟨cxg, 3, 4, 0x20001, xACCESS, by decide +kernel⟩,
   ⟨cx, 3, 4, 0x20001, xACCESS, by decide +kernel⟩,
   ⟨cxg, 3, 4, 0x20001, xACCESS, by decide +kernel⟩,
   ⟨cx, 3, 4, 0x20001, xACCESS, by decide +kernel⟩,
   ⟨cxg, 3, 4, 0x20001, xACCESS, by decide +kernel⟩,
   ⟨cx, 3, 0, 0x20001, xACCESS, by decide +kernel⟩,
   ⟨cx, 2, by decide +kernel⟩,
   ⟨cx, 15, by decide +kernel⟩,
   ⟨cx, 0x20000, xACCESS, by decide +kernel⟩,
   ⟨cxg, 4, xALIGN, by decide +kernel⟩⟩

/-- The hypotheses of `Obligations.SystemInstructions` can be met, those of each part together. -/
theorem witness_SystemInstructions :
    (∃ (s : State) (n : Nat), Ready s ∧ n < 32 ∧ (OnLive s (fun c => c.task = false ∨ n = 0 ∨ n = 14 ∨ n = 15))) ∧
    (∃ (s : State) (n : Nat), Ready s ∧ n < 32 ∧ n ≠ 0 ∧ n ≠ 14 ∧ n ≠ 15 ∧ OnLive s (fun c => c.task = true) ∧ OnLive s (fun c => c.exc = false)) ∧
    (∃ (s : State) (n : Nat), Ready s ∧ n < 32 ∧ OnLive s (fun c => c.task = false)) ∧
    (∃ (s : State) (n : Nat), Ready s ∧ n < 32 ∧ OnLive s (fun c => c.task = true) ∧ OnLive s (fun c => c.exc = false)) ∧
    (∃ (s : State) (n : Nat), Ready s ∧ n < 2 ^ 14 ∧ OnLive s (fun c => c.exc = false)) ∧
    (∃ (s : State) (n : Nat), Ready s ∧ n < 2 ^ 14 ∧ OnLive s (fun c => c.exc = true)) ∧
    (∃ (s : State), Ready s ∧ OnLive s (fun c => c.task = false)) ∧
    (∃ (s : State), Ready s ∧ OnLive s (fun c => c.task = true) ∧ OnLive s (fun c => c.exc = false)) ∧
    (∃ (s : State), Ready s) ∧
    (∃ (s : State), Ready s ∧ OnLive s (fun c => c.task = false) ∧ s.ctl.wakeLatch ≠ 0) ∧
    (∃ (s : State), Ready s ∧ OnLive s (fun c => c.task = false) ∧ s.ctl.wakeLatch = 0) ∧
    (∃ (s : State) (rest : BitVec 26), Ready s ∧ rest ≠ 0 ∧ OnLive s (fun c => c.exc = false)) :=
  ⟨⟨cx, 15, by decide +kernel⟩,
   ⟨cxt, 7, by decide +kernel⟩,
   ⟨cx, 6, by decide +kernel⟩,
   ⟨cxt, 7, by decide +kernel⟩,
   ⟨cxt, 7, by decide +kernel⟩,
   ⟨cxe, 7, by decide +kernel⟩,
   ⟨cx, by decide +kernel⟩,
   ⟨cxt, by decide +kernel⟩,
   ⟨cx, by decide +kernel⟩,
   ⟨{ cx with ctl := { cx.ctl with wakeLatch := 3 } }, by decide +kernel⟩,
   ⟨cx, by decide +kernel⟩,
   ⟨cx, 1, by decide +kernel⟩⟩

/-- The hypotheses of `Obligations.WaitsAndTimeSlice` can be met, those of each part together. -/
theorem witness_WaitsAndTimeSlice :
    (∃ (s : State), ctlRuns s = true ∧ s.ctl.wfe ≠ none ∧ s.ctl.wakeLatch ≠ 0) ∧
    (∃ (s : State), (s.ctl.wfe = none ∨ s.ctl.wakeLatch = 0)) ∧
    (∃ (s : State) (d : Nat), ctlRuns s = true ∧ s.ctl.wfe = some d ∧ d ≠ 0 ∧ d ≤ s.ctl.cycles ∧ s.ctl.wakeLatch = 0) ∧
    (∃ (s : State), mayRun s = true ∧ (OnLive s (fun c => c.task = true ∧ c.exc = false ∧ c.timer = true ∧ (bitOf (c.sreg 13) 0 = false ∨ s.ctl.evSeen = false)))) :=
  ⟨⟨{ cx with ctl := { cx.ctl with wakeLatch := 3, wfe := some 0 } }, by decide +kernel⟩,
   ⟨cx, by decide +kernel⟩,
   ⟨{ cx with ctl := { cx.ctl with wfe := some 5, cycles := 9 } }, 5, by decide +kernel⟩,
   ⟨cxtt, by decide +kernel⟩⟩

/-- The hypotheses of `Obligations.Loads` can be met, those of each part together. -/
theorem witness_Loads :
    (∃ (s : State) (ga : BitVec 4) (imm : BitVec 18) (bad : List Nat), Ready s ∧ OnLive s (fun c => mayLoad c (c.ea ga imm) 1 = true) ∧ (∀ m ∈ bad, m ∉ liveChans s)) ∧
    (∃ (s : State) (ga : BitVec 4) (imm : BitVec 18) (bad : List Nat), Ready s ∧ OnLive s (fun c => mayLoad c (c.ea ga imm) 2 = true) ∧ (∀ m ∈ bad, m ∉ liveChans s)) ∧
    (∃ (s : State) (ga : BitVec 4) (imm : BitVec 18) (bad : List Nat), Ready s ∧ OnLive s (fun c => mayLoad c (c.ea ga imm) 4 = true) ∧ (∀ m ∈ bad, m ∉ liveChans s)) ∧
    (∃ (s : State) (ga : BitVec 4) (imm : BitVec 18), Ready s ∧ OnLive s (fun c => outside c (c.ea ga imm) 1 = true) ∧ OnLive s (fun c => c.exc = false)) ∧
    (∃ (s : State) (ga : BitVec 4) (imm : BitVec 18), Ready s ∧ OnLive s (fun c => (c.ea ga imm) % 2 ≠ 0) ∧ OnLive s (fun c => c.exc = false)) ∧
    (∃ (s : State) (ga : BitVec 4) (imm : BitVec 18), Ready s ∧ OnLive s (fun c => outside c (c.ea ga imm) 2 = true) ∧ OnLive s (fun c => c.exc = false)) ∧
    (∃ (s : State) (ga : BitVec 4) (imm : BitVec 18), Ready s ∧ OnLive s (fun c => (c.ea ga imm) % 4 ≠ 0) ∧ OnLive s (fun c => c.exc = false)) ∧
    (∃ (s : State) (ga : BitVec 4) (imm : BitVec 18), Ready s ∧ OnLive s (fun c => outside c (c.ea ga imm) 4 = true) ∧ OnLive s (fun c => c.exc = false)) ∧
    (∃ (s : State) (ga : BitVec 4) (imm : BitVec 18) (a : Nat) (v : Nat), Ready s ∧ (OnLive s (fun c => c.task = false ∧ c.ea ga imm = a)) ∧ a % 4 = 0 ∧ inRegs a = true ∧ (busRead (presented s) 0 a).2 = some v) ∧
    (∃ (s : State) (ga : BitVec 4) (imm : BitVec 18) (a : Nat), Ready s ∧ (OnLive s (fun c => c.task = false ∧ c.ea ga imm = a)) ∧ a % 4 = 0 ∧ inRegs a = true ∧ (busRead (presented s) 0 a).2 = none ∧ OnLive s (fun c => c.exc = false)) :=
  ⟨⟨cxm, 4, 4, [], by decide +kernel⟩,
   ⟨cxm, 4, 4, [], by decide +kernel⟩,
   ⟨cxm, 4, 4, [], by decide +kernel⟩,
   ⟨cxn, 0, 4, by decide +kernel⟩,
   ⟨cxm, 4, 1, by decide +kernel⟩,
   ⟨cxn, 0, 4, by decide +kernel⟩,
   ⟨cxm, 4, 1, by decide +kernel⟩,
   ⟨cxn, 0, 4, by decide +kernel⟩,
   ⟨cxr, 4, 0, 0x40010000, regV, by decide +kernel⟩,
   ⟨cxoff, 4, 0, blkBase (.tx .A), by decide +kernel⟩⟩

/-- The hypotheses of `Obligations.Stores` can be met, those of each part together. -/
theorem witness_Stores :
    (∃ (s : State) (ga : BitVec 4) (imm : BitVec 18), Ready s ∧ OnLive s (fun c => mayStore c (c.ea ga imm) 1 = true) ∧ (OnLive s (fun c => inData (c.ea ga imm) 1 = true ∨ c.inRunBank (c.ea ga imm) = true))) ∧
    (∃ (s : State) (ga : BitVec 4) (imm : BitVec 18), Ready s ∧ s.on R.PROG_STAT.BUSY = false ∧ OnLive s (fun c => mayStore c (c.ea ga imm) 1 = true) ∧ (OnLive s (fun c => inProg (c.ea ga imm) 1 = true ∧ c.inRunBank (c.ea ga imm) = false))) ∧
    (∃ (s : State) (ga : BitVec 4) (imm : BitVec 18), Ready s ∧ (OnLive s (fun c => (c.ea ga imm) % 1 = 0 ∧ ((inProg (c.ea ga imm) 1 = true ∧ (c.task = true ∨ (c.inRunBank (c.ea ga imm) = true ∧ c.ea ga imm < c.taskArea))) ∨ outside c (c.ea ga imm) 1 = true))) ∧ OnLive s (fun c => c.exc = false)) ∧
    (∃ (s : State) (ga : BitVec 4) (imm : BitVec 18), Ready s ∧ OnLive s (fun c => mayStore c (c.ea ga imm) 2 = true) ∧ (OnLive s (fun c => inData (c.ea ga imm) 2 = true ∨ c.inRunBank (c.ea ga imm) = true))) ∧
    (∃ (s : State) (ga : BitVec 4) (imm : BitVec 18), Ready s ∧ s.on R.PROG_STAT.BUSY = false ∧ OnLive s (fun c => mayStore c (c.ea ga imm) 2 = true) ∧ (OnLive s (fun c => inProg (c.ea ga imm) 2 = true ∧ c.inRunBank (c.ea ga imm) = false))) ∧
    (∃ (s : State) (ga : BitVec 4) (imm : BitVec 18), Ready s ∧ OnLive s (fun c => (c.ea ga imm) % 2 ≠ 0) ∧ OnLive s (fun c => c.exc = false)) ∧
    (∃ (s : State) (ga : BitVec 4) (imm : BitVec 18), Ready s ∧ (OnLive s (fun c => (c.ea ga imm) % 2 = 0 ∧ ((inProg (c.ea ga imm) 2 = true ∧ (c.task = true ∨ (c.inRunBank (c.ea ga imm) = true ∧ c.ea ga imm < c.taskArea))) ∨ outside c (c.ea ga imm) 2 = true))) ∧ OnLive s (fun c => c.exc = false)) ∧
    (∃ (s : State) (ga : BitVec 4) (imm : BitVec 18), Ready s ∧ OnLive s (fun c => mayStore c (c.ea ga imm) 4 = true) ∧ (OnLive s (fun c => inData (c.ea ga imm) 4 = true ∨ c.inRunBank (c.ea ga imm) = true))) ∧
    (∃ (s : State) (ga : BitVec 4) (imm : BitVec 18), Ready s ∧ s.on R.PROG_STAT.BUSY = false ∧ OnLive s (fun c => mayStore c (c.ea ga imm) 4 = true) ∧ (OnLive s (fun c => inProg (c.ea ga imm) 4 = true ∧ c.inRunBank (c.ea ga imm) = false))) ∧
    (∃ (s : State) (ga : BitVec 4) (imm : BitVec 18), Ready s ∧ OnLive s (fun c => (c.ea ga imm) % 4 ≠ 0) ∧ OnLive s (fun c => c.exc = false)) ∧
    (∃ (s : State) (ga : BitVec 4) (imm : BitVec 18), Ready s ∧ (OnLive s (fun c => (c.ea ga imm) % 4 = 0 ∧ ((inProg (c.ea ga imm) 4 = true ∧ (c.task = true ∨ (c.inRunBank (c.ea ga imm) = true ∧ c.ea ga imm < c.taskArea))) ∨ outside c (c.ea ga imm) 4 = true))) ∧ OnLive s (fun c => c.exc = false)) ∧
    (∃ (s : State) (gd : BitVec 4) (ga : BitVec 4) (imm : BitVec 18) (a : Nat) (v : Nat), Ready s ∧ (OnLive s (fun c => c.task = false ∧ c.ea ga imm = a ∧ (c.rd gd).toNat = v)) ∧ a % 4 = 0 ∧ inRegs a = true ∧ (votedWrite (presented s) a v).2 = true ∧ ctlRuns (votedWrite (presented s) a v).1 = true ∧ (votedWrite (presented s) a v).1.host.step = false) ∧
    (∃ (s : State) (ga : BitVec 4) (imm : BitVec 18), Ready s ∧ (OnLive s (fun c => c.task = true ∧ (c.ea ga imm) % 4 = 0 ∧ inRegs (c.ea ga imm) = true ∧ taskStore (c.sreg 11) (c.ea ga imm) = false)) ∧ OnLive s (fun c => c.exc = false)) :=
  ⟨⟨cxm, 4, 4, by decide +kernel⟩,
   ⟨cxi, 4, 4, by decide +kernel⟩,
   ⟨cxn, 0, 0x100, by decide +kernel⟩,
   ⟨cxm, 4, 4, by decide +kernel⟩,
   ⟨cxi, 4, 4, by decide +kernel⟩,
   ⟨cxm, 4, 1, by decide +kernel⟩,
   ⟨cxn, 0, 0x100, by decide +kernel⟩,
   ⟨cxm, 4, 4, by decide +kernel⟩,
   ⟨cxi, 4, 4, by decide +kernel⟩,
   ⟨cxm, 4, 1, by decide +kernel⟩,
   ⟨cxn, 0, 0x100, by decide +kernel⟩,
   ⟨cxr, 5, 4, 0, 0x40010000, 5, by decide +kernel⟩,
   ⟨cxtr, 4, 0, by decide +kernel⟩⟩

/-- The hypotheses of `Obligations.SchedulingInstructions` can be met, those of each part together. -/
theorem witness_SchedulingInstructions :
    (∃ (s : State) (ga : BitVec 4) (scale : BitVec 2) (vtb : BitVec 2) (late : Bool) (i : Insert), Ready s ∧ (scale = 0 ∨ vtb = 0) ∧ (OnLive s (fun c => (c.rd ga).toNat % 4 = 0 ∧ inData (c.rd ga).toNat 24 = true ∧ (c.task = false ∨ c.inTdata (c.rd ga).toNat 24 = true) ∧ c.insertion aATW ⟨scale, vtb, late, 0, 0⟩ (c.rd ga).toNat = i)) ∧ i.code s = 0 ∧ isLate s (i.entry s) = false) ∧
    (∃ (s : State) (ga : BitVec 4) (scale : BitVec 2) (vtb : BitVec 2) (late : Bool) (i : Insert), Ready s ∧ (scale = 0 ∨ vtb = 0) ∧ (OnLive s (fun c => (c.rd ga).toNat % 4 = 0 ∧ inData (c.rd ga).toNat 24 = true ∧ (c.task = false ∨ c.inTdata (c.rd ga).toNat 24 = true) ∧ c.insertion aATW ⟨scale, vtb, late, 0, 0⟩ (c.rd ga).toNat = i)) ∧ i.code s ≠ 0) ∧
    (∃ (s : State) (ga : BitVec 4) (scale : BitVec 2) (vtb : BitVec 2) (late : Bool) (i : Insert), Ready s ∧ (scale = 0 ∨ vtb = 0) ∧ (OnLive s (fun c => (c.rd ga).toNat % 4 = 0 ∧ inData (c.rd ga).toNat 24 = true ∧ (c.task = false ∨ c.inTdata (c.rd ga).toNat 24 = true) ∧ c.insertion aCOMMIT ⟨scale, vtb, late, 0, 0⟩ (c.rd ga).toNat = i)) ∧ i.code s = 0 ∧ isLate s (i.entry s) = false) ∧
    (∃ (s : State) (ga : BitVec 4) (scale : BitVec 2) (vtb : BitVec 2) (late : Bool) (i : Insert), Ready s ∧ (scale = 0 ∨ vtb = 0) ∧ (OnLive s (fun c => (c.rd ga).toNat % 4 = 0 ∧ inData (c.rd ga).toNat 24 = true ∧ (c.task = false ∨ c.inTdata (c.rd ga).toNat 24 = true) ∧ c.insertion aCOMMIT ⟨scale, vtb, late, 0, 0⟩ (c.rd ga).toNat = i)) ∧ i.code s ≠ 0) ∧
    (∃ (s : State) (ga : BitVec 4) (scale : BitVec 2) (vtb : BitVec 2) (late : Bool) (i : Insert), Ready s ∧ (scale = 0 ∨ vtb = 0) ∧ (OnLive s (fun c => (c.rd ga).toNat % 4 = 0 ∧ inData (c.rd ga).toNat 24 = true ∧ (c.task = false ∨ c.inTdata (c.rd ga).toNat 24 = true) ∧ c.insertion aDAWN ⟨scale, vtb, late, 0, 0⟩ (c.rd ga).toNat = i)) ∧ i.code s = 0 ∧ isLate s (i.entry s) = false) ∧
    (∃ (s : State) (ga : BitVec 4) (scale : BitVec 2) (vtb : BitVec 2) (late : Bool) (i : Insert), Ready s ∧ (scale = 0 ∨ vtb = 0) ∧ (OnLive s (fun c => (c.rd ga).toNat % 4 = 0 ∧ inData (c.rd ga).toNat 24 = true ∧ (c.task = false ∨ c.inTdata (c.rd ga).toNat 24 = true) ∧ c.insertion aDAWN ⟨scale, vtb, late, 0, 0⟩ (c.rd ga).toNat = i)) ∧ i.code s ≠ 0) ∧
    (∃ (s : State) (ga : BitVec 4) (scale : BitVec 2) (vtb : BitVec 2) (late : Bool) (i : Insert), Ready s ∧ (scale = 0 ∨ vtb = 0) ∧ (OnLive s (fun c => (c.rd ga).toNat % 4 = 0 ∧ inData (c.rd ga).toNat 24 = true ∧ (c.task = false ∨ c.inTdata (c.rd ga).toNat 24 = true) ∧ c.insertion aRPL ⟨scale, vtb, late, 1, 0⟩ (c.rd ga).toNat = i)) ∧ i.code s = 0 ∧ isLate s (i.entry s) = false) ∧
    (∃ (s : State) (ga : BitVec 4) (scale : BitVec 2) (vtb : BitVec 2) (late : Bool) (i : Insert), Ready s ∧ (scale = 0 ∨ vtb = 0) ∧ (OnLive s (fun c => (c.rd ga).toNat % 4 = 0 ∧ inData (c.rd ga).toNat 24 = true ∧ (c.task = false ∨ c.inTdata (c.rd ga).toNat 24 = true) ∧ c.insertion aRPL ⟨scale, vtb, late, 1, 0⟩ (c.rd ga).toNat = i)) ∧ i.code s ≠ 0) ∧
    (∃ (s : State) (ga : BitVec 4) (scale : BitVec 2) (vtb : BitVec 2) (late : Bool) (i : Insert), Ready s ∧ (scale = 0 ∨ vtb = 0) ∧ (OnLive s (fun c => (c.rd ga).toNat % 4 = 0 ∧ inData (c.rd ga).toNat 24 = true ∧ (c.task = false ∨ c.inTdata (c.rd ga).toNat 24 = true) ∧ c.insertion aMARK ⟨scale, vtb, late, 2, 0⟩ (c.rd ga).toNat = i)) ∧ i.code s = 0 ∧ isLate s (i.entry s) = false) ∧
    (∃ (s : State) (ga : BitVec 4) (scale : BitVec 2) (vtb : BitVec 2) (late : Bool) (i : Insert), Ready s ∧ (scale = 0 ∨ vtb = 0) ∧ (OnLive s (fun c => (c.rd ga).toNat % 4 = 0 ∧ inData (c.rd ga).toNat 24 = true ∧ (c.task = false ∨ c.inTdata (c.rd ga).toNat 24 = true) ∧ c.insertion aMARK ⟨scale, vtb, late, 2, 0⟩ (c.rd ga).toNat = i)) ∧ i.code s ≠ 0) ∧
    (∃ (s : State) (scale : BitVec 2) (vtb : BitVec 2) (kind : BitVec 2) (rest : BitVec 11), Ready s ∧ (rest ≠ 0 ∨ (scale ≠ 0 ∧ vtb ≠ 0) ∨ kind ≠ 0) ∧ OnLive s (fun c => c.exc = false)) ∧
    (∃ (s : State) (scale : BitVec 2) (vtb : BitVec 2) (rest : BitVec 11), Ready s ∧ (rest ≠ 0 ∨ (scale ≠ 0 ∧ vtb ≠ 0)) ∧ OnLive s (fun c => c.exc = false)) :=
  ⟨⟨(cxs 0x40020010 5), 4, 1, 0, true, (lead (cxs 0x40020010 5)).insertion aATW ⟨1, 0, true, 0, 0⟩ 0x100000, by decide +kernel⟩,
   ⟨(cxs 0 70000), 4, 1, 0, true, (lead (cxs 0 70000)).insertion aATW ⟨1, 0, true, 0, 0⟩ 0x100000, by decide +kernel⟩,
   ⟨(cxs 1 5), 4, 1, 0, true, (lead (cxs 1 5)).insertion aCOMMIT ⟨1, 0, true, 0, 0⟩ 0x100000, by decide +kernel⟩,
   ⟨(cxs 0 70000), 4, 1, 0, true, (lead (cxs 0 70000)).insertion aCOMMIT ⟨1, 0, true, 0, 0⟩ 0x100000, by decide +kernel⟩,
   ⟨(cxs 1 5), 4, 1, 0, true, (lead (cxs 1 5)).insertion aDAWN ⟨1, 0, true, 0, 0⟩ 0x100000, by decide +kernel⟩,
   ⟨(cxs 0 70000), 4, 1, 0, true, (lead (cxs 0 70000)).insertion aDAWN ⟨1, 0, true, 0, 0⟩ 0x100000, by decide +kernel⟩,
   ⟨((cxs 1 5).set R.TIME_STAT.VTB_RUN 15), 4, 0, 0, true, (lead (cxs 1 5)).insertion aRPL ⟨0, 0, true, 1, 0⟩ 0x100000, by decide +kernel⟩,
   ⟨cxs 99 5, 4, 0, 0, false, (lead (cxs 99 5)).insertion aRPL ⟨0, 0, false, 1, 0⟩ 0x100000, by decide +kernel⟩,
   ⟨(cxs 1 5), 4, 1, 0, true, (lead (cxs 1 5)).insertion aMARK ⟨1, 0, true, 2, 0⟩ 0x100000, by decide +kernel⟩,
   ⟨cxm0, 4, 1, 0, false, (lead cxm0).insertion aMARK ⟨1, 0, false, 2, 0⟩ 0x100000, by decide +kernel⟩,
   ⟨cx, 1, 1, 0, 0, by decide +kernel⟩,
   ⟨cx, 1, 1, 0, by decide +kernel⟩⟩

/-- The hypotheses of `Obligations.HeartbeatsAndSync` can be met, those of each part together. -/
theorem witness_HeartbeatsAndSync :
    (∃ (s : State), s.dev ≠ 0 ∧ s.dev ≠ stTHERMALOFF ∧ s.pair.period ≤ s.age .beat) ∧
    (∃ (s : State) (seq : Nat) (h : Nat) (crc : Nat), s.dev ≠ 0 ∧ crc = crcOf 8 0x07 0 (msbFirst 40 (seq % 256 * 2 ^ 32 + h % 2 ^ 32)) ∧ (s.dev ≠ stNIGHT ∨ s.on R.SYS_CTRL.NIGHT_WAKE_HB = false)) ∧
    (∃ (seq : Nat) (h : Nat) (crc : Nat), crc ≠ crcOf 8 0x07 0 (msbFirst 40 (seq % 256 * 2 ^ 32 + h % 2 ^ 32))) ∧
    (∃ (s : State), s.dev ≠ 0 ∧ podPathOk s = true ∧ (s.dev ≠ stNIGHT ∨ s.on R.SYS_CTRL.NIGHT_WAKE_HB = false)) ∧
    (∃ (s : State), missRuns s false = true ∧ missTime s ≤ s.age .pinBeat ∧ (s.dev ≠ stNIGHT ∨ s.on R.SYS_CTRL.NIGHT_WAKE_HB = false)) ∧
    (∃ (s : State), missRuns s true = true ∧ missTime s ≤ s.age .podBeat ∧ (s.dev ≠ stNIGHT ∨ s.on R.SYS_CTRL.NIGHT_WAKE_HB = false)) ∧
    (∃ (s : State), Open s .pair ∧ votes s = true) ∧
    (∃ (s : State), s.get R.PAIR_TIMERS.KICK_MS ≠ 0 ∧ s.ctl.started = true ∧ s.frozen = false ∧ 1000000 * s.get R.PAIR_TIMERS.KICK_MS ≤ s.age .kick) ∧
    (∃ (s : State), Open s .pair ∧ podUp s (peerPort s) = true) ∧
    (∃ (s : State), s.get R.PAIR_CFG.SYNC_PERIOD ≠ 0 ∧ 1000000 * s.get R.PAIR_CFG.SYNC_PERIOD ≤ s.age .syncTx ∧ podUp s (peerPort s) = true) :=
  ⟨⟨at_ 100000000 up, by decide +kernel⟩,
   ⟨up, 1, 0x30000000, crcOf 8 0x07 0 (msbFirst 40 (1 % 256 * 2 ^ 32 + 0x30000000)), by decide +kernel⟩,
   ⟨1, 0x30000000, 999, by decide +kernel⟩,
   ⟨podPair, by decide +kernel⟩,
   ⟨at_ 100000000 { up with pair := { up.pair with pinRun := true } }, by decide +kernel⟩,
   ⟨at_ 100000000 { podPair with pair := { podPair.pair with podRun := true } }, by decide +kernel⟩,
   ⟨{ up with pair := { up.pair with wdog := true } }, by decide +kernel⟩,
   ⟨at_ 5000000 (cx.set R.PAIR_TIMERS.KICK_MS 5), by decide +kernel⟩,
   ⟨podPair, by decide +kernel⟩,
   ⟨at_ 5000000 (setPp (podPair.set R.PAIR_CFG.SYNC_PERIOD 5) 4 { PodPortH.reset with txSince := 5000000 }), by decide +kernel⟩⟩

/-- The hypotheses of `Obligations.ClaimInterlock` can be met, those of each part together. -/
theorem witness_ClaimInterlock :
    (∃ (s : State), s.on R.PAIR_STAT.PEER_CLAIM = true ∧ claimBlocked s = false ∧ (s.dev ≠ stNIGHT ∨ s.on R.SYS_CTRL.NIGHT_WAKE_HB = false)) ∧
    (∃ (s : State), s.on R.PAIR_STAT.PEER_CLAIM = false ∧ s.dev ≠ stNIGHT) ∧
    (∃ (s : State), claimState s = cCLAIMING ∧ 1000 ≤ s.age .claim ∧ s.on R.PAIR_STAT.PEER_CLAIM = false ∧ s.pair.txEnable = false ∧ claimBlocked s = false ∧ s.get R.PAIR_CFG.PSR_EN = 0) ∧
    (∃ (s : State), claimState s = cBACKOFF ∧ s.pair.backoff ≤ s.age .backoff) ∧
    (∃ (s : State), claimState s = cCOLLIDED ∧ actsPos s = 1 ∧ 10000 ≤ s.age .collided) ∧
    (∃ (s : State), claimState s = cCOLLIDED ∧ s.pair.unresolved = false ∧ 100000 ≤ s.age .collided) ∧
    (∃ (s : State), Open s .pair ∧ claimState s = cGRANTED) ∧
    (∃ (s : State), Open s .pair) ∧
    (∃ (s : State), s.pair.wtr ≠ none ∧ wtrLeft s = 0) ∧
    (∃ (s : State), Open s .pair ∧ revertMode s = 2 ∧ claimState s = cGRANTED ∧ s.pair.pref = 0 ∧ bitOf (s.get R.PAIR_PEER.PEER) 22 = true ∧ peerFault s = false) :=
  ⟨⟨(standby.set R.PAIR_STAT.CLAIM_STATE cBACKOFF).set R.PAIR_STAT.PEER_CLAIM 1, by decide +kernel⟩,
   ⟨up, by decide +kernel⟩,
   ⟨at_ 1000 <| (standby.set R.PAIR_STAT.CLAIM_STATE cCLAIMING), by decide +kernel⟩,
   ⟨at_ 1000000 <| (standby.set R.PAIR_STAT.CLAIM_STATE cBACKOFF), by decide +kernel⟩,
   ⟨at_ 10000 <| (({ standby with pair := { standby.pair with pos := 1 } }).set R.PAIR_STAT.CLAIM_STATE cCOLLIDED), by decide +kernel⟩,
   ⟨at_ 100000 <| (up.set R.PAIR_STAT.CLAIM_STATE cCOLLIDED), by decide +kernel⟩,
   ⟨(({ up with pair := { up.pair with txEnable := true } }).set R.PAIR_STAT.CLAIM_STATE cGRANTED), by decide +kernel⟩,
   ⟨(up.set R.PAIR_STAT.CLAIM_STATE cGRANTED), by decide +kernel⟩,
   ⟨{ up with pair := { up.pair with wtr := some 5 } }, by decide +kernel⟩,
   ⟨(up.set R.PAIR_STAT.CLAIM_STATE cGRANTED).set R.PAIR_CFG.REVERT 2 |>.set R.PAIR_PEER.PEER (2 ^ 22), by decide +kernel⟩⟩

/-- The hypotheses of `Obligations.LedgerCommands` can be met, those of each part together. -/
theorem witness_LedgerCommands :
    (∃ (s : State), s.dev ≠ 0) ∧
    (∃ (s : State) (obj : Nat) (r : SecRec) (rest : List (Nat × SecRec)), s.ldg.inbox = (obj, r) :: rest) ∧
    (∃ (s : State), s.ldg.inbox = []) ∧
    (∃ (s : State) (obj : Nat), s.dev ≠ 0 ∧ 1000000000 ≤ s.age .ledger ∧ obj < 40 ∧ (obj < 2 ∨ 16 ≤ obj)) ∧
    (∃ (s : State), Open s .ledger) ∧
    (∃ (s : State) (r : List Nat) (rest : List (List Nat)), Open s .ledger ∧ s.ldg.buf = r :: rest) ∧
    (∃ (s : State), s.ldg.buf = []) :=
  ⟨⟨up, by decide +kernel⟩,
   ⟨{ up with ldg := { LdgH.reset with inbox := [(1, tenth)] } }, 1, tenth, [], by decide +kernel⟩,
   ⟨up, by decide +kernel⟩,
   ⟨at_ 1000000000 up, 20, by decide +kernel⟩,
   ⟨up, by decide +kernel⟩,
   ⟨{ up with ldg := { LdgH.reset with buf := [[1, 2, 9], [3]] } }, [1, 2, 9], [[3]], by decide +kernel⟩,
   ⟨up, by decide +kernel⟩⟩

/-- The hypotheses of `Obligations.MonitorConverter` can be met, those of each part together. -/
theorem witness_MonitorConverter :
    (∃ (s : State), Open s .madc ∧ s.dev ≠ stBOOT ∧ s.runBit .madc = false ∧ s.running .madc = false) ∧
    (∃ (s : State), s.running .madc = true ∧ madcPeriod s ≤ s.age .madc) ∧
    (∃ (s : State), Open s .madc) ∧
    (∃ (s : State), Open s .madc ∧ s.running .madc = true ∧ s.pwr.cal = none) ∧
    (∃ (s : State), 8 ≤ s.pwr.calN ∧ s.pwr.cal ≠ none ∧ s.get R.MADC_STAT.CH_ACT < 16 ∧ s.pwr.cal = some false) ∧
    (∃ (s : State), 8 ≤ s.pwr.calN ∧ s.pwr.cal ≠ none ∧ s.get R.MADC_STAT.CH_ACT < 16 ∧ s.pwr.cal = some true ∧ 0 < ((divRoundI s.pwr.calSum 8) - toSigned 24 (s.get (R.MADC_OFS.OFS.ix (s.get R.MADC_STAT.CH_ACT)))) ∧ 0x200000 ≤ (divRound (s.get R.MADC_FS.FS_CODE * 2 ^ 22) ((divRoundI s.pwr.calSum 8) - toSigned 24 (s.get (R.MADC_OFS.OFS.ix (s.get R.MADC_STAT.CH_ACT)))).toNat) ∧ (divRound (s.get R.MADC_FS.FS_CODE * 2 ^ 22) ((divRoundI s.pwr.calSum 8) - toSigned 24 (s.get (R.MADC_OFS.OFS.ix (s.get R.MADC_STAT.CH_ACT)))).toNat) ≤ 0x800000) ∧
    (∃ (s : State), 8 ≤ s.pwr.calN ∧ s.pwr.cal ≠ none ∧ s.get R.MADC_STAT.CH_ACT < 16 ∧ s.pwr.cal = some true ∧ (((divRoundI s.pwr.calSum 8) - toSigned 24 (s.get (R.MADC_OFS.OFS.ix (s.get R.MADC_STAT.CH_ACT)))) ≤ 0 ∨ (divRound (s.get R.MADC_FS.FS_CODE * 2 ^ 22) ((divRoundI s.pwr.calSum 8) - toSigned 24 (s.get (R.MADC_OFS.OFS.ix (s.get R.MADC_STAT.CH_ACT)))).toNat) < 0x200000 ∨ 0x800000 < (divRound (s.get R.MADC_FS.FS_CODE * 2 ^ 22) ((divRoundI s.pwr.calSum 8) - toSigned 24 (s.get (R.MADC_OFS.OFS.ix (s.get R.MADC_STAT.CH_ACT)))).toNat))) ∧
    (∃ (s : State), Open s .madc ∧ s.runBit .madc = true) :=
  ⟨⟨up.set R.MADC_CFG.ORDER 3, by decide +kernel⟩,
   ⟨at_ 1000000000000 (up.set (runningF .madc) 1), by decide +kernel⟩,
   ⟨{ up.set (runningF .madc) 1 with pwr := { PwrH.reset with cal := some true } }, by decide +kernel⟩,
   ⟨{ up.set (runningF .madc) 1 with pwr := { PwrH.reset with hot := 0 } }, by decide +kernel⟩,
   ⟨{ up.set (runningF .madc) 1 with pwr := { PwrH.reset with cal := some false, calN := 8, calSum := 88 } }, by decide +kernel⟩,
   ⟨({ up.set (runningF .madc) 1 with pwr := { PwrH.reset with cal := some true, calN := 8, calSum := 8 * 1048576 } }).set R.MADC_FS.FS_CODE 1048576, by decide +kernel⟩,
   ⟨{ up.set (runningF .madc) 1 with pwr := { PwrH.reset with cal := some true, calN := 8, calSum := 0 } }, by decide +kernel⟩,
   ⟨{ up.set (runningF .madc) 1 with pwr := { PwrH.reset with cal := some true } }.set (runF .madc) 1, by decide +kernel⟩⟩

/-- The hypotheses of `Obligations.PowerDomains` can be met, those of each part together. -/
theorem witness_PowerDomains :
    (∃ (s : State) (d : Nat), 5 ≤ d ∧ d ≤ 21 ∧ Open s .pwr ∧ bitOf (s.get R.PWR_DOM_EN.EN) d = false) ∧
    (∃ (s : State) (d : Nat), 5 ≤ d ∧ d ≤ 21 ∧ s.pwr.ramp = some d ∧ bitOf (s.get R.PWR_DOM_EN.EN) d = true) ∧
    (∃ (s : State) (d : Nat), 5 ≤ d ∧ d ≤ 21 ∧ Open s .pwr ∧ bitOf (s.get R.PWR_DOM_EN.EN) d = true ∧ domsHeld s = false ∧ s.domOn d = true ∧ s.domRuns d = false ∧ laneOn s d = false) ∧
    (∃ (s : State) (d : Nat), 5 ≤ d ∧ d ≤ 21 ∧ Open s .pwr ∧ bitOf (s.get R.PWR_DOM_EN.EN) d = true ∧ domsHeld s = false ∧ s.domOn d = true ∧ (s.domRuns d = true ∨ laneOn s d = true)) ∧
    (∃ (s : State) (d : Nat), 5 ≤ d ∧ d ≤ 21 ∧ Open s .pwr ∧ bitOf (s.get R.PWR_DOM_EN.EN) d = true ∧ domsHeld s = false ∧ s.domOn d = false) ∧
    (∃ (s : State) (d : Nat), 5 ≤ d ∧ d ≤ 21 ∧ d ∈ s.pwr.drains ∧ bitOf (s.get R.PWR_DOM_EN.EN) d = false ∧ s.domOn d = true) ∧
    (∃ (s : State) (d : Nat), 5 ≤ d ∧ d ≤ 21 ∧ Open s .pwr ∧ s.domOn d = true) ∧
    (∃ (s : State) (d : Nat), d < 22 ∧ d ∈ s.pwr.drains ∧ bitOf (s.get R.PWR_DOM_EN.EN) d = false ∧ ackWait s d ≤ s.age (.drain d)) ∧
    (∃ (s : State) (r : Nat), r < 10 ∧ bitOf (s.get R.PWR_RAIL.GOOD) r = true) ∧
    (∃ (r : Nat), r < 10) :=
  ⟨⟨up.set R.PWR_DOM_STAT.ON 0x1F, 9, by decide +kernel⟩,
   ⟨{ (up.set R.PWR_DOM_STAT.ON 0x1F).set R.PWR_DOM_EN.EN 0x3FFFFF with pwr := { PwrH.reset with ramp := some 9, queue := [11] } }, 9, by decide +kernel⟩,
   ⟨up.set R.PWR_DOM_EN.EN 0x3FFFFF, 9, by decide +kernel⟩,
   ⟨(up.set R.PWR_DOM_EN.EN 0x3FFFFF).set (runningF (.fec .A)) 1, (blkDom (.fec .A)), by decide +kernel⟩,
   ⟨(up.set R.PWR_DOM_EN.EN 0x3FFFFF).set R.PWR_DOM_STAT.ON 0x1F, 9, by decide +kernel⟩,
   ⟨{ up with pwr := { PwrH.reset with drains := [9] } }, 9, by decide +kernel⟩,
   ⟨up, 9, by decide +kernel⟩,
   ⟨at_ 1000000000 { up with pwr := { PwrH.reset with drains := [9] } }, 9, by decide +kernel⟩,
   ⟨up.set R.PWR_RAIL.GOOD 0x3FF, 9, by decide +kernel⟩,
   ⟨9, by decide +kernel⟩⟩

/-- The hypotheses of `Obligations.NightAndHeat` can be met, those of each part together. -/
theorem witness_NightAndHeat :
    (∃ (s : State) (b : Blk), b ∈ allBlks ∧ 5 ≤ blkDom b ∧ alwaysRuns b = false ∧ s.pwr.night = 1 ∧ 1000000 ≤ s.age .night) ∧
    (∃ (s : State), s.pwr.night = 1 ∧ s.pwr.wakePend = false ∧ s.dev = stNIGHT ∧ (notStopped s = [] ∨ 1000000 ≤ s.age .night)) ∧
    (∃ (s : State), s.pwr.night = 1 ∧ s.pwr.wakePend = true ∧ s.dev = stNIGHT ∧ (notStopped s = [] ∨ 1000000 ≤ s.age .night)) ∧
    (∃ (s : State), s.pwr.night = 2 ∧ wakeComplete s = true) ∧
    (∃ (s : State) (reading : Option Int), 1000000 ≤ s.age .sensor ∧ s.dev ≠ stTHERMALOFF ∧ (∀ x ∈ reading, x < 1888 ∨ s.pwr.hot = 0) ∧ (reading ≠ none ∨ s.pwr.hot = 0)) ∧
    (∃ (s : State) (reading : Option Int), 1000000 ≤ s.age .sensor ∧ s.dev ≠ stTHERMALOFF ∧ s.dev ≠ 0 ∧ (∀ x ∈ reading, 1888 ≤ x) ∧ 1 ≤ s.pwr.hot) ∧
    (∃ (s : State), s.dev = stTHERMALOFF ∧ 10000 ≤ s.pwr.cool) ∧
    (∃ (s : State), Open s .pwr) :=
  ⟨⟨at_ 1000000 { up with pwr := { PwrH.reset with night := 1 } }, .store, by decide +kernel⟩,
   ⟨at_ 1000000 { (up.set R.SYS_STATE.STATE 4) with pwr := { PwrH.reset with night := 1 } }, by decide +kernel⟩,
   ⟨at_ 1000000 { (up.set R.SYS_STATE.STATE 4) with pwr := { PwrH.reset with night := 1, wakePend := true } }, by decide +kernel⟩,
   ⟨{ up with pwr := { PwrH.reset with night := 2 } }, by decide +kernel⟩,
   ⟨at_ 1000000 up, some 1700, by decide +kernel⟩,
   ⟨at_ 1000000 { up with pwr := { PwrH.reset with hot := 1 } }, some 1900, by decide +kernel⟩,
   ⟨{ (up.set R.SYS_STATE.STATE 5) with pwr := { PwrH.reset with cool := 10000 } }, by decide +kernel⟩,
   ⟨up, by decide +kernel⟩⟩

/-- The hypotheses of `Obligations.HostInterface` can be met, those of each part together. -/
theorem witness_HostInterface :
    (∃ (s : State), s.dev ≠ 0 ∧ s.host.perst = false) ∧
    (∃ (s : State), (s.dev = 0 ∨ s.host.perst = true)) ∧
    (∃ (s : State), s.host.perst = false ∧ s.dev ≠ 0 ∧ s.on R.HOST_STAT.LINK_UP = false) ∧
    (∃ (s : State) (s2h : Bool), Open s .hostif ∧ (s2h = false ∨ votes s = true) ∧ s.on (mboxFull s2h) = true) ∧
    (∃ (s : State) (s2h : Bool), Open s .hostif ∧ (s2h = false ∨ votes s = true) ∧ s.on (mboxFull s2h) = false) ∧
    (∃ (s : State) (s2h : Bool), Open s .hostif ∧ (s2h = true ∨ votes s = true)) ∧
    (∃ (s : State) (j : Nat), j < 2 ∧ Open s .hostif ∧ s.on (R.DMA_CTRL.BUSY.ix j) = false) ∧
    (∃ (s : State) (j : Nat) (ws : List Nat) (err : Bool), j < 2 ∧ s.on (R.DMA_CTRL.BUSY.ix j) = true ∧ (dmaTarget s j = some .data ∨ dmaTarget s j = some .boot) ∧ s.vote ≠ vRESYNC ∧ ((dmaJob s j).toHost = true ∨ err = true ∨ (dmaJob s j).len / 4 ≤ ws.length)) ∧
    (∃ (s : State) (j : Nat) (ws : List Nat) (err : Bool), j < 2 ∧ s.on (R.DMA_CTRL.BUSY.ix j) = true ∧ dmaTarget s j = some .regs ∧ (dmaJob s j).toHost = false ∧ ((dmaJob s j).toHost = true ∨ err = true ∨ (dmaJob s j).len / 4 ≤ ws.length)) ∧
    (∃ (s : State) (j : Nat), j < 2 ∧ s.on (R.DMA_CTRL.BUSY.ix j) = true ∧ dmaTarget s j = some .regs ∧ (dmaJob s j).toHost = true) :=
  ⟨⟨up, by decide +kernel⟩,
   ⟨bare, by decide +kernel⟩,
   ⟨up, by decide +kernel⟩,
   ⟨up.set (mboxFull true) 1, true, by decide +kernel⟩,
   ⟨up, true, by decide +kernel⟩,
   ⟨up.set R.MBOX_S2H.FULL 1, true, by decide +kernel⟩,
   ⟨((up.set (R.DMA_LEN.LEN.ix 1) 8).set (R.DMA_DADDR.DADDR.ix 1) 0x100000).set R.DMA_WIN.LIMIT 4, 1, by decide +kernel⟩,
   ⟨dmaData, 1, [5, 6], false, by decide +kernel⟩,
   ⟨dmaRegs, 1, [5, 6], false, by decide +kernel⟩,
   ⟨dmaRegs.set (R.DMA_CTRL.DIR.ix 1) 1, 1, by decide +kernel⟩⟩

/-- The hypotheses of `Obligations.BootAndUpdate` can be met, those of each part together. -/
theorem witness_BootAndUpdate :
    (∃ (s : State), s.host.boot = .headers) ∧
    (∃ (s : State), s.host.boot = .slot) ∧
    (∃ (s : State), s.host.boot = .verify ∧ s.host.restart = false ∧ s.dev = stBOOT) ∧
    (∃ (s : State), s.host.boot = .verify ∧ s.host.restart = false ∧ s.dev = stBOOT ∧ imageResult s 0 0 1 ≠ 0) ∧
    (∃ (s : State), s.host.boot = .verify ∧ s.host.restart = false ∧ s.dev = stBOOT ∧ imageResult s 0 0 1 = 0 ∧ opticsEnded s .A = true ∧ opticsEnded s .B = true) ∧
    (∃ (s : State), Open s .hostif ∧ s.host.boot = .host) ∧
    (∃ (s : State), s.host.boot = .peer ∧ 100000000 ≤ s.age .bootReq) ∧
    (∃ (s : State), s.host.boot = .peer ∧ 100000000 ≤ s.age .bootReq ∧ podUp s (if podUp s s.host.reqPort = true then s.host.reqPort else 9 - s.host.reqPort) = true) ∧
    (∃ (s : State), s.host.boot = .peer ∧ 10000000000 ≤ s.age .boot) ∧
    (∃ (s : State), Open s .event ∧ votes s = true) ∧
    (∃ (s : State), s.on R.PROG_STAT.BUSY = true) ∧
    (∃ (s : State), s.on R.PROG_STAT.BUSY = true ∧ (imageResult s (idleBase s) (4096 * s.ctl.taskAt) (if s.ctl.taskAt = 0 then 1 else 2)) ≠ rOTHER) ∧
    (∃ (s : State), s.on R.PROG_STAT.BUSY = true ∧ (imageResult s (idleBase s) (4096 * s.ctl.taskAt) (if s.ctl.taskAt = 0 then 1 else 2)) = 0) ∧
    (∃ (s : State), s.on R.PROG_STAT.BUSY = true ∧ (imageResult s (idleBase s) (4096 * s.ctl.taskAt) (if s.ctl.taskAt = 0 then 1 else 2)) ≠ 0) ∧
    (∃ (s : State), Open s .event ∧ votes s = true ∧ s.on R.PROG_STAT.IDLE_OK = true) ∧
    (∃ (s : State), Open s .event ∧ votes s = true ∧ s.on R.PROG_STAT.IDLE_OK = false) ∧
    (∃ (s : State), s.ctl.switchDue = true ∧ ctlRuns s = true) :=
  ⟨⟨up, by decide +kernel⟩,
   ⟨{ up with host := { HostH.reset with boot := .slot } }, by decide +kernel⟩,
   ⟨{ (up.set R.SYS_STATE.STATE 1) with host := { HostH.reset with boot := .verify } }, by decide +kernel⟩,
   ⟨{ (up.set R.SYS_STATE.STATE 1) with host := { HostH.reset with boot := .verify } }, by decide +kernel⟩,
   ⟨{ ((up.set R.SYS_STATE.STATE 1).set R.HOST_LC.LC_STATE 1) with host := { HostH.reset with boot := .verify, nacks := ⟨3, 3⟩ }, ctl := { CtlH.reset with started := true, chans := List.replicate 3 { Chan.reset with mem := smallImage } } }, by decide +kernel⟩,
   ⟨{ up with host := { HostH.reset with boot := .host } }, by decide +kernel⟩,
   ⟨at_ 100000000 { up with host := { HostH.reset with boot := .peer, reqPort := 4 } }, by decide +kernel⟩,
   ⟨at_ 100000000 { (setPp (up.set (R.POD_PORT.STATE.ix 4) 4) 4 { PodPortH.reset with txSince := 100000000 }) with host := { HostH.reset with boot := .peer, reqPort := 4 } }, by decide +kernel⟩,
   ⟨at_ 10000000000 { up with host := { HostH.reset with boot := .peer } }, by decide +kernel⟩,
   ⟨cx, by decide +kernel⟩,
   ⟨cx.set R.PROG_STAT.BUSY 1, by decide +kernel⟩,
   ⟨cx.set R.PROG_STAT.BUSY 1, by decide +kernel⟩,
   ⟨{ (cx.set R.PROG_STAT.BUSY 1).set R.HOST_LC.LC_STATE 1 with ctl := { CtlH.reset with started := true, chans := List.replicate 3 { Chan.reset with mem := smallImage.map (fun c => (c.1 + 262144, c.2)) } } }, by decide +kernel⟩,
   ⟨cx.set R.PROG_STAT.BUSY 1, by decide +kernel⟩,
   ⟨cx.set R.PROG_STAT.IDLE_OK 1, by decide +kernel⟩,
   ⟨cx, by decide +kernel⟩,
   ⟨{ cx with ctl := { cx.ctl with switchDue := true } }, by decide +kernel⟩⟩

/-- The hypotheses of `Obligations.LifecycleOpticsFlash` can be met, those of each part together. -/
theorem witness_LifecycleOpticsFlash :
    (∃ (s : State), Open s .hostif ∧ votes s = true ∧ s.get R.HOST_LC.LC_STATE = 1 ∧ bitOf (s.get R.HOST_LC.FUSED) 0 = true ∧ bitOf (s.get R.HOST_LC.FUSED) 3 = true) ∧
    (∃ (s : State), Open s .hostif ∧ votes s = true ∧ s.get R.HOST_LC.LC_STATE = 1 ∧ (bitOf (s.get R.HOST_LC.FUSED) 0 = false ∨ bitOf (s.get R.HOST_LC.FUSED) 3 = false)) ∧
    (∃ (s : State), Open s .hostif ∧ votes s = true ∧ s.get R.HOST_LC.LC_STATE = 2) ∧
    (∃ (s : State), Open s .hostif ∧ votes s = true ∧ (s.get R.HOST_LC.LC_STATE = 0 ∨ s.get R.HOST_LC.LC_STATE = 3)) ∧
    (∃ (s : State), Open s .hostif ∧ votes s = true ∧ s.get R.HOST_LC.ROLLBACK < (s.get R.PROG_VER.VERSION / 65536) ∧ (s.get R.PROG_VER.VERSION / 65536) ≤ 127) ∧
    (∃ (s : State), Open s .hostif ∧ votes s = true ∧ ((s.get R.PROG_VER.VERSION / 65536) ≤ s.get R.HOST_LC.ROLLBACK ∨ 127 < (s.get R.PROG_VER.VERSION / 65536))) ∧
    (∃ (s : State) (n : Nat), Open s .hostif ∧ votes s = true ∧ n ≤ 2 ∧ ((∃ j ∈ [0, 1, 2], j ≠ n ∧ slotFused s j = true ∧ slotRevoked s j = false))) ∧
    (∃ (s : State) (n : Nat), Open s .hostif ∧ votes s = true ∧ n ≤ 2 ∧ ((∀ j ∈ [0, 1, 2], j = n ∨ slotFused s j = false ∨ slotRevoked s j = true))) ∧
    (∃ (s : State) (n : Nat), Open s .hostif ∧ votes s = true ∧ 2 < n) ∧
    (∃ (s : State) (n : Nat), Open s .hostif ∧ votes s = true ∧ n ≤ 3 ∧ s.get R.HOST_LC.LC_STATE = 1 ∧ slotFused s n = false) ∧
    (∃ (s : State) (n : Nat), Open s .hostif ∧ votes s = true ∧ 3 < n) ∧
    (∃ (s : State) (n : Nat), Open s .hostif ∧ votes s = true ∧ n ≤ 3 ∧ s.get R.HOST_LC.LC_STATE ≠ 1) ∧
    (∃ (s : State) (n : Nat), Open s .hostif ∧ votes s = true ∧ n ≤ 3 ∧ s.get R.HOST_LC.LC_STATE = 1 ∧ slotFused s n = true) ∧
    (∃ (s : State) (c : Carrier) (ack : Bool), s.dev ≠ 0 ∧ (s.time.marks.find (Timer.poll c).key = none ∨ 100000000 ≤ s.age (.poll c)) ∧ s.host.reading.get c = false ∧ s.host.boot ≠ .passed ∧ ack = true) ∧
    (∃ (s : State) (c : Carrier) (ack : Bool), s.dev ≠ 0 ∧ (s.time.marks.find (Timer.poll c).key = none ∨ 100000000 ≤ s.age (.poll c)) ∧ s.host.reading.get c = false ∧ s.host.boot ≠ .passed ∧ ack = false) ∧
    (∃ (s : State) (c : Carrier), s.host.reading.get c = true ∧ s.host.boot ≠ .passed) ∧
    (∃ (s : State), Open s .hostif) ∧
    (∃ (s : State), Open s .hostif ∧ s.on R.SPI_CMD.BUSY = false ∧ s.host.boot ≠ .headers ∧ s.host.boot ≠ .slot) ∧
    (∃ (s : State) (data : List Nat), s.on R.SPI_CMD.BUSY = true ∧ s.host.spiIn ≤ data.length) :=
  ⟨⟨((up.set R.HOST_LC.LC_STATE 1).set R.HOST_LC.FUSED 9).set R.HOST_LC.REVOKED 0, by decide +kernel⟩,
   ⟨((up.set R.HOST_LC.LC_STATE 1).set R.HOST_LC.FUSED 1).set R.HOST_LC.REVOKED 0, by decide +kernel⟩,
   ⟨((up.set R.HOST_LC.LC_STATE 2).set R.HOST_LC.FUSED 0).set R.HOST_LC.REVOKED 0, by decide +kernel⟩,
   ⟨((up.set R.HOST_LC.LC_STATE 3).set R.HOST_LC.FUSED 0).set R.HOST_LC.REVOKED 0, by decide +kernel⟩,
   ⟨up.set R.PROG_VER.VERSION 0x50000, by decide +kernel⟩,
   ⟨up, by decide +kernel⟩,
   ⟨((up.set R.HOST_LC.LC_STATE 2).set R.HOST_LC.FUSED 3).set R.HOST_LC.REVOKED 0, 0, by decide +kernel⟩,
   ⟨((up.set R.HOST_LC.LC_STATE 2).set R.HOST_LC.FUSED 1).set R.HOST_LC.REVOKED 0, 0, by decide +kernel⟩,
   ⟨((up.set R.HOST_LC.LC_STATE 2).set R.HOST_LC.FUSED 3).set R.HOST_LC.REVOKED 0, 3, by decide +kernel⟩,
   ⟨((up.set R.HOST_LC.LC_STATE 1).set R.HOST_LC.FUSED 0).set R.HOST_LC.REVOKED 0, 3, by decide +kernel⟩,
   ⟨((up.set R.HOST_LC.LC_STATE 1).set R.HOST_LC.FUSED 0).set R.HOST_LC.REVOKED 0, 4, by decide +kernel⟩,
   ⟨((up.set R.HOST_LC.LC_STATE 2).set R.HOST_LC.FUSED 0).set R.HOST_LC.REVOKED 0, 3, by decide +kernel⟩,
   ⟨((up.set R.HOST_LC.LC_STATE 1).set R.HOST_LC.FUSED 8).set R.HOST_LC.REVOKED 0, 3, by decide +kernel⟩,
   ⟨up, .B, true, by decide +kernel⟩,
   ⟨up, .B, false, by decide +kernel⟩,
   ⟨{ up with host := { HostH.reset with reading := ⟨false, true⟩ } }, .B, by decide +kernel⟩,
   ⟨up, by decide +kernel⟩,
   ⟨{ up with host := { HostH.reset with boot := .idle } }, by decide +kernel⟩,
   ⟨up.set R.SPI_CMD.BUSY 1, [1], by decide +kernel⟩⟩

/-- The hypotheses of `Obligations.UbantCommands` can be met, those of each part together. -/
theorem witness_UbantCommands :
    (∃ (s : State), ubOn s = true ∧ ubOpen s = true) ∧
    (∃ (s : State), ubOn s = true) ∧
    (∃ (s : State), ubOn s = true ∧ s.on R.UB_CTRL.DBG_BLOCK = false) ∧
    (∃ (s : State), ubOn s = true ∧ ubOpen s = false) ∧
    (∃ (s : State), ubOn s = true ∧ s.on R.UB_CTRL.DBG_BLOCK = true) :=
  ⟨⟨((up.set R.UB_STAT.UNLOCKED 1).set R.SYS_DEVID.DEVICE_ID 0x15A1), by decide +kernel⟩,
   ⟨((up.set R.UB_STAT.UNLOCKED 1).set R.SYS_DEVID.DEVICE_ID 0x15A1), by decide +kernel⟩,
   ⟨{ up with host := { HostH.reset with chal := 2 ^ 100 } }, by decide +kernel⟩,
   ⟨up.set R.HOST_LC.LC_STATE 2, by decide +kernel⟩,
   ⟨up.set R.UB_CTRL.DBG_BLOCK 1, by decide +kernel⟩⟩

/-- The hypotheses of `Obligations.DebugAndJtag` can be met, those of each part together. -/
theorem witness_DebugAndJtag :
    (∃ (s : State), ubOn s = true ∧ ubOpen s = true ∧ ctlRuns s = true ∧ halted s = false) ∧
    (∃ (s : State), ubOn s = true ∧ ubOpen s = true ∧ s.vote = vRESYNC ∧ halted s = false) ∧
    (∃ (s : State), ubOn s = true ∧ ubOpen s = true) ∧
    (∃ (s : State), ubOn s = true ∧ ubOpen s = true ∧ halted s = true) ∧
    (∃ (s : State), ubOn s = true ∧ ubOpen s = true ∧ halted s = false) ∧
    (∃ (s : State) (i : Nat), i < 4 ∧ ubOn s = true ∧ mayRun s = true ∧ halted s = false ∧ bitOf (s.host.bp.get i) 0 = true ∧ s.host.bp.get i / 4 = (lead s).pc / 4) ∧
    (∃ (s : State) (i : Nat), (4 ≤ i ∨ bitOf (s.host.bp.get i) 0 = false ∨ s.host.bp.get i / 4 ≠ (lead s).pc / 4)) ∧
    (∃ (s : State) (i : Nat) (addr : Nat) (store : Bool), i < 2 ∧ ubOn s = true ∧ ctlRuns s = true ∧ halted s = false ∧ bitOf (s.host.wp.get i) (if store = true then 1 else 0) = true ∧ s.host.wp.get i / 4 = addr / 4) ∧
    (∃ (s : State) (i : Nat) (addr : Nat) (store : Bool), (2 ≤ i ∨ bitOf (s.host.wp.get i) (if store = true then 1 else 0) = false ∨ s.host.wp.get i / 4 ≠ addr / 4)) ∧
    (∃ (s : State), (s.dev = 0 ∨ s.dev = stBOOT)) ∧
    (∃ (s : State), s.dev ≠ 0 ∧ s.dev ≠ stBOOT) :=
  ⟨⟨(cx.set R.UB_STAT.UNLOCKED 1), by decide +kernel⟩,
   ⟨cxRes.set R.UB_STAT.UNLOCKED 1, by decide +kernel⟩,
   ⟨(((up.set R.UB_STAT.UNLOCKED 1).set R.SYS_DEVID.DEVICE_ID 0x15A1).set R.UB_STAT.HALTED 1), by decide +kernel⟩,
   ⟨(((up.set R.UB_STAT.UNLOCKED 1).set R.SYS_DEVID.DEVICE_ID 0x15A1).set R.UB_STAT.HALTED 1), by decide +kernel⟩,
   ⟨((up.set R.UB_STAT.UNLOCKED 1).set R.SYS_DEVID.DEVICE_ID 0x15A1), by decide +kernel⟩,
   ⟨{ cx with host := { HostH.reset with bp := [(2, 1)] } }, 2, by decide +kernel⟩,
   ⟨{ cx with host := { HostH.reset with bp := [(2, 1)] } }, 3, by decide +kernel⟩,
   ⟨{ cx with host := { HostH.reset with wp := [(1, 0x100002)] } }, 1, 0x100001, true, by decide +kernel⟩,
   ⟨{ cx with host := { HostH.reset with wp := [(1, 0x100002)] } }, 1, 0x100001, false, by decide +kernel⟩,
   ⟨up.set R.SYS_STATE.STATE 1, by decide +kernel⟩,
   ⟨up, by decide +kernel⟩⟩

/-- The hypotheses of `Obligations.MuxSelectionRefused` can be met, those of each part together. -/
theorem witness_MuxSelectionRefused :
    (∃ (s : State) (n : Nat) (sel : Nat), n < 8 ∧ sel < 4 ∧ Open s .clk ∧ selRefused s n sel) ∧
    (∃ (s : State) (n : Nat) (sel : Nat), n < 8 ∧ sel < 4 ∧ Open s .clk) :=
  ⟨⟨up, 1, 3, by decide +kernel⟩,
   ⟨up, 1, 2, by decide +kernel⟩⟩

/-- The hypotheses of `Obligations.VchkReadsTheVoter` can be met, those of each part together. -/
theorem witness_VchkReadsTheVoter :
    ∃ (s : State), Ready s :=
  ⟨cxDup, by decide +kernel⟩

/-- The hypotheses of `Obligations.MonitorCorrection` can be met, those of each part together. -/
theorem witness_MonitorCorrection :
    ∃ (s : State) (raw : Int), s.running .madc = true ∧ madcPeriod s ≤ s.age .madc ∧ -8388608 ≤ raw ∧ raw ≤ 8388607 :=
  ⟨at_ 10000000000 { up.set (runningF .madc) 1 with pwr := { PwrH.reset with cal := some true } }, -5, by decide +kernel⟩

/-- The hypotheses of `Obligations.PrivilegeLevels` can be met, those of each part together. -/
theorem witness_PrivilegeLevels :
    ∃ (i : Instr) (m : Nat), isInstruction i = true ∧ m < 3 :=
  ⟨.syscall 3 0, 1, by decide +kernel⟩

/-- The hypotheses of `Obligations.EventQueue` can be met, those of each part together. -/
theorem witness_EventQueue :
    (∃ (s : State) (id : Nat), s.ev.pendingId id = true) ∧
    (∃ (s : State) (id : Nat), s.ev.pendingId id = false ∧ s.masked id = true) ∧
    (∃ (s : State) (id : Nat), s.ev.pendingId id = false ∧ s.masked id = false ∧ (s.ev.ordinary < 63 ∨ id = E.LOST)) ∧
    (∃ (s : State) (id : Nat), s.ev.pendingId id = false ∧ s.masked id = false ∧ 63 ≤ s.ev.ordinary ∧ id ≠ E.LOST) ∧
    (∃ (s : State), oncePerId s.ev ∧ s.ev.ordinary ≤ 63) :=
  ⟨⟨up.raise 5 0, 5, by decide +kernel⟩,
   ⟨up.set (R.EV_MASK.MASK.ix 0) 0xFFFFFFFF, 5, by decide +kernel⟩,
   ⟨up, 5, by decide +kernel⟩,
   ⟨{ up with ev := ⟨(List.range 63).map (fun i => ⟨i, 1, 0, 0⟩), none, none⟩ }, 100, by decide +kernel⟩,
   ⟨{ up with ev := ⟨(List.range 63).map (fun i => ⟨i, 1, 0, 0⟩), none, none⟩ }, by decide +kernel⟩⟩

end Sys2Proof.Tests
end

section
/-! PROOFS of the statements about the scope (00_scope.md): SOFT_RESET and commits (O3), waiting blocks (O4), the state after
reset (O60). -/

namespace Sys2Proof.Machine

open Sys2Proof Sys2Proof.Spec

/-! What a command answers. -/

/-- What holds of the answer of a command that turns `s` into `t` holds of `t` with the queue of `s`. -/
theorem does_done {i : Instr} {s t : State} {P : State → Prop} (h : exec i s = done s t) :
    Does i s P ↔ P { t with pending := s.pending } := by
  simp only [Does, h, done_next, exists_eq_left]

theorem exec_softReset (b : Blk) (s : State) :
    exec (.softReset b) s = done s (reach s b (fun s => levels (softReset s b))) := rfl

theorem exec_blockClockStart (b : Blk) (s : State) : exec (.blockClockStart b) s = done s (levels (clockStart s b)) := rfl

/-- SOFT_RESET of a block that is reached takes hold, and levels follow. -/
theorem does_softReset {b : Blk} {s : State} {P : State → Prop} (h : Open s b) :
    Does (.softReset b) s P ↔ P { levels (softReset s b) with pending := s.pending } := by
  obtain ⟨hdev, hreach, hres⟩ := h
  rw [does_done (exec_softReset b s), reach_open s b _ hdev hreach hres]

/-- BLOCK_CLOCK_START without the clock leaves everything to levels. -/
theorem does_blockClockStart_unready {b : Blk} {s : State} {P : State → Prop} (h : s.clockReady b = false) :
    Does (.blockClockStart b) s P ↔ P { levels s with pending := s.pending } := by
  rw [does_done (exec_blockClockStart b s), clockStart, h, if_neg Bool.false_ne_true]

/-! O3. -/

/-- STANDBY with every domain on and Carrier A in BEXA, in which CIPHER is bypassed (R320); other registers read 0. -/
def bexaStandby : State :=
  let s : State := { State.reset with regs := [] }
  ((s.set R.SYS_STATE.STATE stSTANDBY).set R.PWR_DOM_STAT.ON 0x3FFFFF).set (R.SYS_CMODE.MODE.ix Carrier.A.num) mBEXA

theorem bexaStandby_open : Open bexaStandby (.cipher .A) := by decide +kernel

/-- The soft reset of a bypassed CIPHER ends with BYPASS following the mode, after the fields have returned to reset values. -/
theorem bexaStandby_softReset_bypass :
    (levels (softReset bexaStandby (.cipher .A))).regs.get (R.CIPH_STAT.BYPASS.on .A).key = 1 := by decide +kernel

theorem resets_bypass : R.resets.get (R.CIPH_STAT.BYPASS.on .A).key = 0 := by decide +kernel

/-- Refutes O3: CIPH_STAT.BYPASS follows the carrier's mode (R320, R323), so that after a SOFT_RESET of CIPHER in BEXA it reads
1, while its reset value is 0. -/
theorem not_softResetAndCommits : ¬ Obligations.SoftResetAndCommits := by
  intro h
  obtain ⟨hreset, -⟩ := h bexaStandby (.cipher .A)
  obtain ⟨hregs, -⟩ := (does_softReset bexaStandby_open).1 (hreset bexaStandby_open rfl)
  have hbypass := hregs (R.CIPH_STAT.BYPASS.on .A).key (by decide +kernel) (by decide +kernel) (by decide +kernel)
  dsimp only at hbypass
  rw [resets_bypass, bexaStandby_softReset_bypass] at hbypass
  exact absurd hbypass (by decide)

/-! O4. -/

/-- RUN with a Dawn burst of Carrier A in progress, an OTUCn frame of it not yet sent, the claim granted and now inhibited;
CLIENT waits with RUN set for MUX2, which runs from the crystal; other registers read 0. -/
def burstInhibited : State :=
  let s : State := { State.reset with regs := [] }
  let s := (s.set R.SYS_STATE.STATE stRUN).set (R.SYS_CMODE.MODE.ix Carrier.A.num) mDAWNTX
  let s := (s.set (runningF (.tx .A)) 1).setBC .A R.TX_STAT.BURST true
  let s := ((s.set R.PAIR_STAT.CLAIM_STATE cGRANTED).setB R.PAIR_STAT.OWN_CLAIM true).setB R.PAIR_CMD.CLAIM_INHIBIT true
  let s := (s.set (runF .client) 1).set (R.CLK_MUX.CUR.ix 2) 2
  let frm : FrmH := { FrmH.reset with txQ := [⟨[], [], none, [], []⟩] }
  { s with waiting := [.client], pair := { PairH.reset with txEnable := true }, frm := ⟨frm, .reset⟩ }

theorem burstInhibited_waits :
    burstInhibited.waits .client = true ∧ burstInhibited.runBit .client = true ∧ burstInhibited.running .client = false ∧
      burstInhibited.stopping .client = false ∧ burstInhibited.dev ≠ stBOOT ∧ burstInhibited.clockReady .client = false := by
  decide +kernel

/-- Levels release the claim, which cuts the burst off, and the frame that waited is lost (R69, R343, R553). -/
theorem burstInhibited_levels_txQ : ((levels burstInhibited).frm.get .A).txQ = [] := by decide +kernel

/-- Refutes O4: where levels cut a Dawn burst off, its OTUCn frames not yet sent are lost (R69, R343), so that
BLOCK_CLOCK_START without the clock changes FRAMER's state beside its registers, which `lvP` does not list. -/
theorem not_waitingBlocksStart : ¬ Obligations.WaitingBlocksStart := by
  intro h
  obtain ⟨hwaits, hrun, hrunning, hstopping, hdev, hclock⟩ := burstInhibited_waits
  obtain ⟨-, -, hunready⟩ := h burstInhibited .client hwaits hrun hrunning hstopping hdev
  obtain ⟨-, hparts⟩ := (does_blockClockStart_unready hclock).1 (hunready hclock)
  have hfrm := hparts (.frm .A) (by decide +kernel)
  dsimp only [Part.same] at hfrm
  have htxQ := burstInhibited_levels_txQ
  rw [hfrm] at htxQ
  exact absurd htxQ (List.cons_ne_nil _ _)

/-! O60. -/

theorem reset_domains :
    State.reset.get R.PWR_DOM_EN.EN = 0x1F ∧ State.reset.get R.PWR_DOM_STAT.ON = 0x1F ∧
      State.reset.get R.PWR_STAT.BAND = 1 ∧ State.reset.get R.PWR_RAIL.GOOD = 0x3FF := by decide +kernel

/-- After reset the blocks of R665 run, and no other. -/
theorem reset_running : ∀ b ∈ allBlks, State.reset.running b = alwaysRuns b := by decide +kernel

theorem reset_vote : State.reset.vote = vTMR ∧ State.reset.get R.VOTE_STAT.EXCLUDED = 3 := by decide +kernel

/-- The eleven registers of EV_MASK reset to 0. -/
theorem reset_mask (i : Nat) (h : i < 11) : State.reset.get (R.EV_MASK.MASK.ix i) = 0 := by
  have hall : ∀ i < 11, State.reset.get (R.EV_MASK.MASK.ix i) = 0 := by decide +kernel
  exact hall i h

theorem reset_masked (id : Nat) (h : id < 352) : State.reset.masked id = false := by
  simp [State.masked, reset_mask (id / 32) (by omega), bitOf]

theorem reset_timeInvalid : domValid State.reset 0 = false ∧ domValid State.reset 1 = false := by decide +kernel

theorem reset_chan_mem (m : Nat) (h : m < 3) : (chan State.reset m).mem = [] := by
  match m, h with
  | 0, _ | 1, _ | 2, _ => rfl

/-- Settles O60, by the reset values of the registers and the empty state beside them. -/
theorem resetLeaves : Obligations.ResetLeaves := by
  have hstate : State.reset.dev = stBOOT ∧ State.reset.get R.SYS_DEVID.DEVICE_ID = 0x5A1740B0 := by decide +kernel
  have hlost : State.reset.get R.EV_STAT.LOST_TOTAL = 0 := by decide +kernel
  have hclaim : State.reset.on R.PAIR_STAT.OWN_CLAIM = false := by decide +kernel
  obtain ⟨hboot, hid⟩ := hstate
  obtain ⟨hen, hon, hband, hgood⟩ := reset_domains
  obtain ⟨htmr, hexcl⟩ := reset_vote
  obtain ⟨hp, hs⟩ := reset_timeInvalid
  exact ⟨hboot, hid, hen, hon, reset_running, htmr, hexcl, rfl, hlost, reset_masked, hp, hs, hband, hgood, hclaim, rfl, rfl,
    reset_chan_mem, reset_memory⟩

end Sys2Proof.Machine
end

section
/-! PROOFS of the statements about the architecture (01_architecture.md): entries to RESET and the exit from it (O5), carrier
modes and NIGHT (O6). -/

namespace Sys2Proof.Machine

open Sys2Proof Sys2Proof.Spec

/-! The registers that a frame keeps. -/

/-- A register field that the frame of an answer does not list reads as before, the queue of the answer apart. -/
theorem regs_of_keeps {s t : State} {q : List Instr} {fs : List Fld} {bs : List Blk} {ps : List Part}
    (h : Keeps s { t with pending := q } fs bs ps) {k : Nat} (hf : k ∉ fs.map Fld.key) (hb : ∀ b ∈ bs, inBlk b k = false) :
    t.regs.get k = s.regs.get k := h.1 k hf hb

/-! Pod ports and lanes without power. -/

/-- No domain has power and no lane is on. -/
def Dark (s : State) : Prop := s.get R.PWR_DOM_STAT.ON = 0 ∧ s.link.lanes = []

theorem lanePower_dark {s : State} (h : Dark s) (n : Nat) : lanePower s n = s := by
  obtain ⟨hon, hlanes⟩ := h
  simp [lanePower, State.domOn, hon, bitOf, ln, hlanes, LaneH.reset]

theorem laneFollow_dark {s : State} (h : Dark s) (n : Nat) : laneFollow s n = s := by
  simp [laneFollow, laneBegin, ln, h.2, LaneH.reset]

/-- A fold whose every step leaves the start as it is ends there. -/
theorem foldl_eq_self {α β : Type} {f : α → β → α} {a : α} (h : ∀ b, f a b = a) (l : List β) : l.foldl f a = a := by
  induction l with
  | nil => rfl
  | cons b l ih => rw [List.foldl_cons, h b, ih]

/-- Without power the lanes rest, and the ports alone follow (R386, R388). -/
theorem lanesSettle_dark {s : State} (h : Dark s) : lanesSettle s = [0, 1, 2, 3, 4, 5].foldl podFollow s := by
  have hpower : (List.range 48).foldl lanePower s = s := foldl_eq_self (lanePower_dark h) _
  have hfollow : lanesFollow s = s := foldl_eq_self (laneFollow_dark h) _
  rw [lanesSettle, hpower, hfollow]

/-- Whether a port may align does not depend on its state. -/
theorem podMayAlign_setPodState (s : State) (k v : Nat) (hk : k < 6) : podMayAlign (setPodState s k v) k = podMayAlign s k := by
  have hkeys : ∀ k < 6, (R.POD_PORT.EN.ix k).key ≠ (R.POD_PORT.STATE.ix k).key ∧
      R.LANES_EN.EN.key ≠ (R.POD_PORT.STATE.ix k).key ∧ R.POD_LANE_EN.EN.key ≠ (R.POD_PORT.STATE.ix k).key := by decide
  obtain ⟨hen, hlane, hpod⟩ := hkeys k hk
  have hlanes : laneEnabled (setPodState s k v) = laneEnabled s := by
    funext n
    simp only [laneEnabled, setPodState, State.get_set_ne _ _ hlane, State.get_set_ne _ _ hpod]
  rw [podMayAlign, hlanes, setPodState, State.on_set_ne _ _ hen, podMayAlign]

/-- Module 0 is ABSENT, and without power no Pod port is past ALIGN: what follows at the lanes leaves the module so. -/
structure ModuleGone (s : State) : Prop where
  dark : Dark s
  ports : ∀ k < 6, podState s k ≤ 1
  absent : s.get (R.STORE_MOD_STAT.STATE.ix 0) = 0

/-- Any field may be written but the domains' ON and the module's STATE, and STATE of a Pod port only to DOWN or ALIGN. -/
theorem ModuleGone.set {s : State} (h : ModuleGone s) {f : Fld} {v : Nat} (hon : R.PWR_DOM_STAT.ON.key ≠ f.key)
    (hmod : (R.STORE_MOD_STAT.STATE.ix 0).key ≠ f.key)
    (hport : (∀ k < 6, (R.POD_PORT.STATE.ix k).key ≠ f.key) ∨ v % 2 ^ f.width ≤ 1) : ModuleGone (s.set f v) where
  dark := ⟨by rw [State.get_set_ne _ _ hon, h.dark.1], h.dark.2⟩
  absent := by rw [State.get_set_ne _ _ hmod, h.absent]
  ports k hk := by
    rw [podState, State.get_set]
    split
    case isTrue heq => exact hport.resolve_left fun hne => hne k hk heq
    case isFalse => exact h.ports k hk

theorem ModuleGone.setPodState {s : State} (h : ModuleGone s) {k v : Nat} (hk : k < 6) (hv : v ≤ 1) :
    ModuleGone (setPodState s k v) := by
  have hkeys : ∀ k < 6, R.PWR_DOM_STAT.ON.key ≠ (R.POD_PORT.STATE.ix k).key ∧
      (R.STORE_MOD_STAT.STATE.ix 0).key ≠ (R.POD_PORT.STATE.ix k).key := by decide
  obtain ⟨hon, hmod⟩ := hkeys k hk
  exact h.set hon hmod (.inr (Nat.le_trans (Nat.mod_le _ _) hv))

theorem ModuleGone.setPp {s : State} (h : ModuleGone s) (k : Nat) (p : PodPortH) : ModuleGone (setPp s k p) :=
  ⟨h.dark, h.ports, h.absent⟩

theorem ModuleGone.podDown {s : State} (h : ModuleGone s) {k : Nat} (hk : k < 6) (hmay : podMayAlign s k = false) :
    ModuleGone (podDown s k) := by
  have hnotUp : podUp s k = false := by
    have := h.ports k hk
    simp only [podUp, beq_eq_false_iff_ne]
    omega
  unfold Machine.podDown
  split
  case isTrue => exact h
  case isFalse =>
    have hstay : ∀ p, podMayAlign (Machine.setPp (Machine.setPodState s k 0) k p) k = false := fun _ =>
      (podMayAlign_setPodState s k 0 hk).trans hmay
    simp only [hnotUp, hstay, Bool.false_eq_true, if_false]
    exact (h.setPodState hk (by omega)).setPp k _

theorem ModuleGone.podFollow {s : State} (h : ModuleGone s) {k : Nat} (hk : k < 6) : ModuleGone (podFollow s k) := by
  unfold Machine.podFollow
  split
  case isTrue =>
    split
    case isTrue => exact (h.setPodState hk (by omega)).setPp k _
    case isFalse => exact h
  case isFalse =>
    split
    case isTrue => exact h
    case isFalse hmay => exact h.podDown hk (eq_false_of_ne_true hmay)

theorem ModuleGone.foldl_podFollow {ks : List Nat} (hks : ∀ k ∈ ks, k < 6) {s : State} (h : ModuleGone s) :
    ModuleGone (ks.foldl Machine.podFollow s) := by
  induction ks generalizing s with
  | nil => exact h
  | cons k ks ih => exact ih (fun j hj => hks j (.tail _ hj)) (h.podFollow (hks k (.head _)))

theorem ModuleGone.lanesSettle {s : State} (h : ModuleGone s) : ModuleGone (lanesSettle s) := by
  rw [lanesSettle_dark h.dark]
  exact h.foldl_podFollow (by decide)

theorem ModuleGone.laneEnable {s : State} (h : ModuleGone s) {n : Nat} (hn : 24 ≤ n) (on : Bool) :
    ModuleGone (laneEnable s n on) := by
  rw [Machine.laneEnable, if_neg (by omega)]
  exact (h.set (f := R.POD_LANE_EN.EN) (by decide) (by decide) (.inl (by decide))).lanesSettle

theorem ModuleGone.podPortEnable {s : State} (h : ModuleGone s) {k : Nat} (hk : k < 6) (en : Bool) :
    ModuleGone (podPortEnable s k en) := by
  have hkeys : ∀ k < 6, R.PWR_DOM_STAT.ON.key ≠ (R.POD_PORT.EN.ix k).key ∧
      (R.STORE_MOD_STAT.STATE.ix 0).key ≠ (R.POD_PORT.EN.ix k).key ∧
      ∀ j < 6, (R.POD_PORT.STATE.ix j).key ≠ (R.POD_PORT.EN.ix k).key := by decide
  obtain ⟨hon, hmod, hport⟩ := hkeys k hk
  exact (h.set hon hmod (.inl hport)).lanesSettle

theorem ModuleGone.foldl_laneEnable {ns : List Nat} (hns : ∀ n ∈ ns, 24 ≤ n) {s : State} (h : ModuleGone s) :
    ModuleGone (ns.foldl (fun s n => Machine.laneEnable s n true) s) := by
  induction ns generalizing s with
  | nil => exact h
  | cons n ns ih =>
    rw [List.foldl_cons]
    exact ih (fun m hm => hns m (.tail _ hm)) (h.laneEnable (hns n (.head _)) true)

theorem ModuleGone.setBoot {s : State} (h : ModuleGone s) (b : BootPh) : ModuleGone (setBoot s b) :=
  ⟨h.dark, h.ports, h.absent⟩

/-- A module that is gone once the first lane of a peer boot has been enabled stays so (R622). -/
theorem ModuleGone.peerPods {s : State} (h : ModuleGone (Machine.laneEnable (domPowerOn s dPOD) 40 true)) :
    ModuleGone (peerPods s) := by
  unfold Machine.peerPods
  dsimp only
  rw [List.foldl_cons]
  have hlanes := h.foldl_laneEnable (ns := [41, 42, 43, 44, 45, 46, 47]) (by simp)
  exact (hlanes.podPortEnable (by omega) true).podPortEnable (by omega) true

/-! O5. -/

theorem exec_resetExit (high : Bool) (bootsel pos pref xtd : Nat) (s : State) :
    exec (.resetExit high bootsel pos pref xtd) s = done s (resetExit s high bootsel pos pref xtd) := rfl

/-- RESET with nothing that holds the device there, in which POD0 still reads UP and its module READY. -/
def resetWithModule : State :=
  let s : State := { State.reset with regs := [] }
  let s := (s.set (R.POD_PORT.STATE.ix 0) 4).set (R.STORE_MOD_STAT.STATE.ix 0) 3
  { s with clk := { s.clk with good := true }, pwr := { s.pwr with seen := true }, time := { s.time with aon := 10000 } }

theorem resetWithModule_ready : resetWithModule.dev = 0 ∧ resetWithModule.clk.good = true ∧
    coolEnough resetWithModule = true ∧ 10000 ≤ resetWithModule.age .hold := by decide +kernel

/-- The state at which the boot engine begins, when RESET is left (R39, R669). -/
def released (s : State) (bootsel pos pref xtd : Nat) : State :=
  let s := { s with pwr := { s.pwr with porstLow := false } }
  let s := ((s.set R.HOST_BOOT.BOOTSEL bootsel).set R.CLK_XO_STAT.XTD xtd).goto stBOOT
  let s := { s with
    pair := { s.pair with pos := pos % 2, pref := pref % 2 }
    host := { s.host with chal := s.free % 2 ^ 128 } }.freeNext
  bootPower ([Timer.memLeak, .refs, .diff, .beat, .syncTx].foldl State.mark s)

theorem resetExit_ready {s : State} (hdev : s.dev = 0) (hgood : s.clk.good = true) (hcool : coolEnough s = true)
    (hhold : 10000 ≤ s.age .hold) (bootsel pos pref xtd : Nat) :
    resetExit s true bootsel pos pref xtd = bootBegin (released s bootsel pos pref xtd) := by
  have hleave : ¬((decide (s.dev ≠ 0) || !true || !s.clk.good || !coolEnough s || decide (s.age .hold < 10000)) = true) := by
    simp [hdev, hgood, hcool, hhold]
  unfold resetExit
  simp only [if_pos hdev]
  exact if_neg hleave

/-- The boot engine as it begins a peer boot, before it configures the peer ports (R622). -/
def peerBegun (s : State) : State :=
  ({ s with host := { s.host with bootSrc := 2, bootLeft := [], bootSlot := 0, reqPort := 4 } }.mark .boot).mark .bootReq

theorem bootBegin_peer {s : State} (h : bootSel s = 2) : bootBegin s = setBoot (peerPods (peerBegun s)) .peer := by
  simp only [bootBegin, h]
  rfl

theorem resetWithModule_bootSel : bootSel (released resetWithModule 2 0 0 0) = 2 := by decide +kernel

/-- The peer boot of that device, with the power of the Pod lanes requested and no lane enabled yet. -/
def podRequested : State := domPowerOn (peerBegun (released resetWithModule 2 0 0 0)) dPOD

theorem resetWithModule_resetExit :
    resetExit resetWithModule true 2 0 0 0 = setBoot (peerPods (peerBegun (released resetWithModule 2 0 0 0))) .peer := by
  obtain ⟨hdev, hgood, hcool, hhold⟩ := resetWithModule_ready
  rw [resetExit_ready hdev hgood hcool hhold, bootBegin_peer resetWithModule_bootSel]

/-- The enable of PD16 makes the ports follow: POD0, which is disabled, goes DOWN, and its module reads ABSENT (R357, R397). -/
theorem podRequested_laneEnable : ModuleGone (laneEnable podRequested 40 true) := by
  have hbit : putBit (podRequested.get R.POD_LANE_EN.EN) 16 true = 0x10000 := by decide +kernel
  have hdark : Dark (podRequested.set R.POD_LANE_EN.EN 0x10000) := ⟨by decide +kernel, by decide +kernel⟩
  have hdown : ModuleGone (podFollow (podRequested.set R.POD_LANE_EN.EN 0x10000) 0) :=
    ⟨⟨by decide +kernel, by decide +kernel⟩, by decide +kernel, by decide +kernel⟩
  rw [laneEnable, if_neg (by omega), hbit, lanesSettle_dark hdark, List.foldl_cons]
  exact hdown.foldl_podFollow (by decide)

theorem resetWithModule_absent :
    (resetExit resetWithModule true 2 0 0 0).regs.get (R.STORE_MOD_STAT.STATE.ix 0).key = 0 := by
  rw [resetWithModule_resetExit]
  exact ((ModuleGone.peerPods podRequested_laneEnable).setBoot .peer).absent

theorem resetWithModule_module : resetWithModule.regs.get (R.STORE_MOD_STAT.STATE.ix 0).key = 3 := by decide +kernel

/-- Refutes O5: the exit from RESET with the straps for a peer boot settles every lane and Pod port (R39, R397, R622), so that a
store port that still reads UP goes DOWN and its module reads ABSENT, a field of STORE, which the frame does not list. The
statement ranges over every state with STATE at RESET and does not ask that the ports stand as an entry to RESET leaves them. -/
theorem not_entriesToReset : ¬ Obligations.EntriesToReset := by
  intro h
  obtain ⟨-, -, -, -, hexit, -⟩ := h resetWithModule
  obtain ⟨hdev, hgood, hcool, hhold⟩ := resetWithModule_ready
  obtain ⟨-, -, -, -, -, -, hframe⟩ :=
    (does_done (exec_resetExit true 2 0 0 0 resetWithModule)).1 (hexit 2 0 0 0 hdev hgood hcool hhold)
  have hkept := regs_of_keeps hframe (k := (R.STORE_MOD_STAT.STATE.ix 0).key) (by decide +kernel) (by decide +kernel)
  rw [resetWithModule_absent, resetWithModule_module] at hkept
  exact absurd hkept (by decide)

/-! O6. -/

theorem exec_sysCmodeWrite (c : Carrier) (v : Nat) (s : State) :
    exec (.sysCmodeWrite c v) s = done s (reach s .sys (fun s => cmodeWrite s c v)) := rfl

/-- SYS_CMODE_WRITE with SYS reached is the write of the mode register. -/
theorem does_sysCmodeWrite {c : Carrier} {v : Nat} {s : State} {P : State → Prop} (h : Open s .sys) :
    Does (.sysCmodeWrite c v) s P ↔ P { cmodeWrite s c v with pending := s.pending } := by
  obtain ⟨hdev, hreach, hres⟩ := h
  rw [does_done (exec_sysCmodeWrite c v s), reach_open s .sys _ hdev hreach hres]

/-- STANDBY with every domain on, MODE_ERR set since Carrier B alone is in DUAL; FRAMER of Carrier A, both with OTUC1, waits with
RUN set; other registers read 0. -/
def framerHeld : State :=
  let s : State := { State.reset with regs := [] }
  let s := (s.set R.SYS_STATE.STATE stSTANDBY).set R.PWR_DOM_STAT.ON 0x3FFFFF
  let s := setModeErr (s.set (R.SYS_CMODE.MODE.ix Carrier.B.num) mDUAL) true
  let s := (s.setC .A R.FRM_CFG.N 1).setC .B R.FRM_CFG.N 1
  { s.set (runF (.framer .A)) 1 with waiting := [.framer .A] }

theorem framerHeld_open : Open framerHeld .sys := by decide +kernel

theorem framerHeld_stopped : (subBlocks .A).any framerHeld.running = false := by decide +kernel

/-- The write that puts Carrier A in DUAL too releases the start (R35). -/
theorem framerHeld_cmodeWrite_waiting : (cmodeWrite framerHeld .A mDUAL).waiting = [] := by decide +kernel

/-- Refutes O6: a mode write that ends MODE_ERR lets the starts take effect that wait for it (R35), so that a FRAMER that waited
with RUN set waits no longer; the frame of SYS_CMODE_WRITE lists no waiting start. -/
theorem not_modesAndNight : ¬ Obligations.ModesAndNight := by
  intro h
  obtain ⟨hwrite, -⟩ := h framerHeld framerHeld_open
  obtain ⟨-, -, -, -, -, -, -, hparts⟩ := (does_sysCmodeWrite framerHeld_open).1 (hwrite .A mDUAL framerHeld_stopped)
  have hwaiting := hparts .waiting (by decide)
  dsimp only [Part.same] at hwaiting
  rw [framerHeld_cmodeWrite_waiting] at hwaiting
  exact absurd hwaiting (List.cons_ne_nil _ _).symm

end Sys2Proof.Machine
end

section
/-! PROOFS of the statements about the transmit path (02_transmit_path.md): starts, frames, stops, mutes and launches of TX (O7). -/

namespace Sys2Proof.Machine

open Sys2Proof Sys2Proof.Spec

/-! What the claim interlock depends on. -/

/-- The fields of TX_STAT that a cause of mute sets (R65, R71). -/
def muteF : List Fld :=
  [R.TX_STAT.MUTE_CTRL, R.TX_STAT.MUTE_GATE, R.TX_STAT.MUTE_STOP, R.TX_STAT.MUTE_GAP, R.TX_STAT.MUTED]

/-- Fields that neither the claim interlock nor the end of a burst reads, and which a start of TX of Carrier A and the first part of
levels write (R65, R86, R350, R497, R548, R558). -/
def asideF : List Fld :=
  evF ++ [R.PAIR_STAT.WIRING_ERR, R.PAIR_STAT.POD_UP] ++ (List.range 24).map R.CL_PORT_STAT.REPL_ACT.ix ++
  (R.TX_LATENCY.LATENCY_PS :: muteF).map (fun (f : Fld) => f.on .A)

/-- Both states read the same but for the fields `asideF`, and agree in what PAIR holds for the health word and the transmit enable
(R545, R548). -/
structure SameClaim (s t : State) : Prop where
  get : ∀ f : Fld, f.key ∉ asideF.map Fld.key → t.get f = s.get f
  txEnable : t.pair.txEnable = s.pair.txEnable
  wdog : t.pair.wdog = s.pair.wdog
  claimSense : t.pair.claimSense = s.pair.claimSense
  hbSelf : t.pair.hbSelf = s.pair.hbSelf

/-- A change beside the registers and PAIR. -/
theorem SameClaim.of_eq {s t : State} (hregs : t.regs = s.regs) (hpair : t.pair = s.pair) : SameClaim s t where
  get f _ := by rw [State.get, State.get, hregs]
  txEnable := by rw [hpair]
  wdog := by rw [hpair]
  claimSense := by rw [hpair]
  hbSelf := by rw [hpair]

theorem SameClaim.refl (s : State) : SameClaim s s := .of_eq rfl rfl

theorem SameClaim.trans {s t u : State} (h : SameClaim s t) (k : SameClaim t u) : SameClaim s u where
  get f hf := (k.get f hf).trans (h.get f hf)
  txEnable := k.txEnable.trans h.txEnable
  wdog := k.wdog.trans h.wdog
  claimSense := k.claimSense.trans h.claimSense
  hbSelf := k.hbSelf.trans h.hbSelf

theorem SameClaim.on {s t : State} (h : SameClaim s t) {f : Fld} (hf : f.key ∉ asideF.map Fld.key) : t.on f = s.on f := by
  rw [State.on, State.on, h.get f hf]

theorem SameClaim.set (s : State) {f : Fld} (v : Nat) (hf : f.key ∈ asideF.map Fld.key) : SameClaim s (s.set f v) where
  get _ hg := State.get_set_ne _ _ fun heq => hg (heq ▸ hf)
  txEnable := rfl
  wdog := rfl
  claimSense := rfl
  hbSelf := rfl

theorem SameClaim.raise (s : State) (id data : Nat) : SameClaim s (s.raise id data) where
  get f hf := State.raise_get _ _ _ _ (fun heq => hf (heq ▸ by decide)) (fun heq => hf (heq ▸ by decide))
  txEnable := by rw [State.raise_pair]
  wdog := by rw [State.raise_pair]
  claimSense := by rw [State.raise_pair]
  hbSelf := by rw [State.raise_pair]

theorem SameClaim.healthBits {s t : State} (h : SameClaim s t) : healthBits t = healthBits s := by
  have hrun : ∀ b ∈ subBlocks .A ++ subBlocks .B, t.running b = s.running b := by
    have hkeys : ∀ b ∈ subBlocks .A ++ subBlocks .B, (runningF b).key ∉ asideF.map Fld.key := by decide +kernel
    exact fun b hb => h.on (hkeys b hb)
  have hpll : pllFault t = pllFault s := by
    have hlock : t.get R.CLK_PLL_STAT.LOCK = s.get R.CLK_PLL_STAT.LOCK := h.get _ (by decide +kernel)
    simp only [subBlocks, List.cons_append, List.nil_append, List.forall_mem_cons] at hrun
    simp [pllFault, pllLocked, hlock, subBlocks, hrun]
  have hvote : t.vote = s.vote := h.get _ (by decide +kernel)
  simp only [Machine.healthBits, State.frozen, hvote, hpll, h.wdog, h.claimSense, h.hbSelf,
    h.on (f := R.CLK_XO_STAT.XO_FAIL) (by decide +kernel), h.on (f := R.PWR_STAT.THROTTLE) (by decide +kernel),
    h.on (f := R.PWR_STAT.WARN) (by decide +kernel), State.onC, h.on (f := R.FRM_STAT.PSR.on .A) (by decide +kernel),
    h.on (f := R.FRM_STAT.PSR.on .B) (by decide +kernel), h.on (f := R.PAIR_CMD.SW_FAULT) (by decide +kernel)]

theorem SameClaim.claimBlocked {s t : State} (h : SameClaim s t) : claimBlocked t = claimBlocked s := by
  have hmask : t.get R.PAIR_MASK.FAULT_MASK = s.get R.PAIR_MASK.FAULT_MASK := h.get _ (by decide +kernel)
  have hinhibit : t.on R.PAIR_CMD.CLAIM_INHIBIT = s.on R.PAIR_CMD.CLAIM_INHIBIT := h.on (by decide +kernel)
  have hdev : t.dev = s.dev := h.get _ (by decide +kernel)
  rw [Machine.claimBlocked, Machine.claimBlocked, healthFault, healthFault, h.healthBits, hmask, hinhibit, hdev]

/-! The first part of levels. -/

theorem sameClaim_replRefresh (s : State) {p : Nat} (hp : p < 24) : SameClaim s (replRefresh s p) := by
  have hkeys : ∀ p < 24, (R.CL_PORT_STAT.REPL_ACT.ix p).key ∈ asideF.map Fld.key := by decide +kernel
  have hact : ∀ (on : Bool) (h : PortH), SameClaim s ((s.setB (R.CL_PORT_STAT.REPL_ACT.ix p) on).setPort p h) := fun _ _ =>
    (SameClaim.set s _ (hkeys p hp)).trans (.of_eq rfl rfl)
  have hwatch : ∀ t : State, SameClaim t (portWatch t p) := fun _ => .of_eq rfl rfl
  unfold replRefresh
  dsimp only
  generalize replCause s p = on
  refine SameClaim.trans ?_ (hwatch _)
  split
  case isTrue => exact .refl s
  case isFalse =>
    split
    case isTrue => exact (hact _ _).trans (.raise _ _ _)
    case isFalse => exact hact _ _

theorem sameClaim_foldl_replRefresh {ps : List Nat} (hps : ∀ p ∈ ps, p < 24) (s : State) :
    SameClaim s (ps.foldl replRefresh s) := by
  induction ps generalizing s with
  | nil => exact .refl s
  | cons p ps ih => exact (sameClaim_replRefresh s (hps p (.head _))).trans (ih (fun q hq => hps q (.tail _ hq)) _)

theorem sameClaim_replAll (s : State) : SameClaim s (replAll s) :=
  sameClaim_foldl_replRefresh (fun _ => List.mem_range.1) s

theorem sameClaim_setPath (s : State) (up : Bool) : SameClaim s (setPath s true up) := by
  unfold setPath
  split
  case isTrue => exact .refl s
  case isFalse => exact (SameClaim.set s _ (by decide +kernel)).trans (.raise _ _ _)

theorem sameClaim_pathSettle (s : State) : SameClaim s (pathSettle s) := by
  have hwiring : ∀ bad : Bool, SameClaim s (s.setB R.PAIR_STAT.WIRING_ERR bad) := fun _ => .set s _ (by decide +kernel)
  have hlost : ∀ t : State, SameClaim t { t with pair := { t.pair with podRun := false, podMiss := 0 } } := fun _ =>
    ⟨fun _ _ => rfl, rfl, rfl, rfl, rfl⟩
  unfold pathSettle
  dsimp only
  split <;> split
  case isTrue.isTrue => exact (hwiring _).trans (.raise _ _ _)
  case isTrue.isFalse => exact (((hwiring _).trans (.raise _ _ _)).trans (hlost _)).trans (sameClaim_setPath _ _)
  case isFalse.isTrue => exact hwiring _
  case isFalse.isFalse => exact ((hwiring _).trans (hlost _)).trans (sameClaim_setPath _ _)

theorem sameClaim_faultEdges (s : State) : SameClaim s (faultEdges s) := by
  have hfaults : SameClaim s { s with pair := { s.pair with faults := healthBits s } } := ⟨fun _ _ => rfl, rfl, rfl, rfl, rfl⟩
  unfold faultEdges
  dsimp only
  split
  case isTrue => exact hfaults
  case isFalse => exact hfaults.trans (.raise _ _ _)

/-! A burst of Carrier B that the claim's release cuts off (R69, R343, R553). -/

theorem txMuteNow_burst (s : State) (c : Carrier) : (txMuteNow s c).onC c R.TX_STAT.BURST = s.onC c R.TX_STAT.BURST := by
  have hcauses : (txMuteCauses s c).onC c R.TX_STAT.BURST = s.onC c R.TX_STAT.BURST := by
    unfold txMuteCauses
    cases c <;> simp (disch := decide) only [State.onC, State.setBC, State.on_setB_ne]
  unfold txMuteNow
  dsimp only
  split
  case isTrue =>
    refine Eq.trans ?_ hcauses
    cases c <;> exact State.on_setB_ne _ _ (by decide)
  case isFalse => exact hcauses

theorem txBurstOver_burst (s : State) (c : Carrier) : (txBurstOver s c).onC c R.TX_STAT.BURST = false := by
  unfold txBurstOver
  cases c <;>
    simp (disch := decide) only [State.onC, State.setC, State.setBC, State.on_set_ne, State.on_setB_ne, State.on_setB]

/-- A gated transmit enable leaves no burst in progress (R69). -/
theorem txGate_burst {s : State} (h : s.txEnabled = false) (c : Carrier) : (txGate s c).onC c R.TX_STAT.BURST = false := by
  rw [txGate, txMuteNow_burst]
  unfold txAbortIfMuted
  split
  case isTrue =>
    have hover := txBurstOver_burst s c
    cases c <;>
      simpa (disch := decide) only [State.onC, State.on, State.raiseC, State.raise_get, State.bumpC, State.bump, State.addSat,
        State.get_set_ne] using hover
  case isFalse hnone => simpa [h] using hnone

theorem txGate_pair (s : State) (c : Carrier) : (txGate s c).pair = s.pair := by
  have habort : (txAbortIfMuted s c).pair = s.pair := by
    unfold txAbortIfMuted
    split
    case isTrue => exact State.raise_pair _ _ _
    case isFalse => rfl
  rw [← habort, txGate, txMuteNow]
  split <;> rfl

/-- The transmit enable gated, a burst of Carrier B alone ends, and its OTUCn frames not yet sent are lost. -/
theorem enableChanged_txQ {s : State} (hoff : s.pair.txEnable = false) (hA : s.onC .A R.TX_STAT.BURST = false)
    (hB : s.onC .B R.TX_STAT.BURST = true) : ((enableChanged s).frm.get .B).txQ = [] := by
  have hgated : (txGate s .A).txEnabled = false := by rw [State.txEnabled, txGate_pair, hoff, Bool.false_and]
  have hover : (txGateBoth s).onC .B R.TX_STAT.BURST = false := txGate_burst hgated .B
  have hkeep : abortLoss s (txGateBoth s) .A = txGateBoth s := by simp [abortLoss, hA]
  rw [enableChanged, hkeep, abortLoss, hB, hover]
  rfl

theorem goto_get (s : State) (st : Nat) {f : Fld} (hstate : f.key ≠ R.SYS_STATE.STATE.key) (hhwm : f.key ≠ R.EV_STAT.HWM.key)
    (hlost : f.key ≠ R.EV_STAT.LOST_TOTAL.key) : (s.goto st).get f = s.get f := by
  unfold State.goto
  split
  case isTrue => rfl
  case isFalse => exact (State.raise_get _ _ _ _ hhwm hlost).trans (State.get_set_ne _ _ hstate)

theorem goto_pair (s : State) (st : Nat) : (s.goto st).pair = s.pair := by
  unfold State.goto
  split
  case isTrue => rfl
  case isFalse => exact State.raise_pair _ _ _

theorem dropClaim_txQ {s : State} (hon : s.pair.txEnable = true) (hA : s.onC .A R.TX_STAT.BURST = false)
    (hB : s.onC .B R.TX_STAT.BURST = true) : ((dropClaim s).frm.get .B).txQ = [] := by
  have hgranted : (s.setB R.PAIR_STAT.OWN_CLAIM false).pair.txEnable ≠ false := by simp [hon]
  have hclaim : ∀ c, ((s.setB R.PAIR_STAT.OWN_CLAIM false).setB R.PAIR_STAT.GRANTED false).onC c R.TX_STAT.BURST =
      s.onC c R.TX_STAT.BURST := by
    intro c
    cases c <;> simp (disch := decide) only [State.onC, State.on_setB_ne]
  have hgoto : ∀ (t : State) (c : Carrier), (t.goto stSTANDBY).onC c R.TX_STAT.BURST = t.onC c R.TX_STAT.BURST := by
    intro t c
    cases c <;> simp (disch := decide) only [State.onC, State.on, goto_get]
  unfold dropClaim setTxEnable
  rw [if_neg hgranted]
  simp only [Bool.false_eq_true, if_false]
  split
  case isTrue =>
    exact enableChanged_txQ (by rw [goto_pair]) ((hgoto _ .A).trans ((hclaim .A).trans hA))
      ((hgoto _ .B).trans ((hclaim .B).trans hB))
  case isFalse => exact enableChanged_txQ rfl ((hclaim .A).trans hA) ((hclaim .B).trans hB)

/-- The claim is released at once where the unit may not hold it (R550). -/
theorem claimSettle_blocked {s : State} (hblocked : claimBlocked s = true) (hgranted : claimState s = cGRANTED) :
    claimSettle s = ((dropClaim s).set R.PAIR_STAT.CLAIM_STATE cINELIGIBLE).raise E.PAIR_RELEASE (blockCause s) := by
  have hne : claimState s ≠ cINELIGIBLE := by rw [hgranted]; decide
  rw [claimSettle, if_pos hblocked, if_neg hne, toIneligible]
  simp [hgranted]

theorem claimSettle_ineligible {s : State} (hblocked : claimBlocked s = true) (hgranted : claimState s = cGRANTED) :
    claimState (claimSettle s) = cINELIGIBLE := by
  rw [claimSettle_blocked hblocked hgranted, claimState, State.raise_get _ _ _ _ (by decide) (by decide), State.get_set_same]
  rfl

/-- A unit without eligibility takes no further step of the claim. -/
theorem claim_rests {s : State} (h : claimState s = cINELIGIBLE) : backoffCheck (psrRelease s) = s := by
  have hne : claimState s ≠ cGRANTED ∧ claimState s ≠ cBACKOFF := by rw [h]; decide
  obtain ⟨hgranted, hbackoff⟩ := hne
  have hpsr : psrRelease s = s := by simp [psrRelease, hgranted]
  simp [hpsr, backoffCheck, hbackoff]

theorem revertSettle_frm (s : State) : (revertSettle s).frm = s.frm := by
  unfold revertSettle
  dsimp only
  (repeat' split) <;> rfl

/-- Where the unit may not hold the claim that it is granted, levels cut a Dawn burst of Carrier B off, and its OTUCn frames not yet
sent are lost (R69, R343, R553). -/
theorem levels_blocked_txQ {s : State} (hblocked : claimBlocked s = true) (hgranted : claimState s = cGRANTED)
    (hon : s.pair.txEnable = true) (hA : s.onC .A R.TX_STAT.BURST = false) (hB : s.onC .B R.TX_STAT.BURST = true) :
    ((levels s).frm.get .B).txQ = [] := by
  have h : SameClaim s (faultEdges (pathSettle (replAll s))) :=
    ((sameClaim_replAll s).trans (sameClaim_pathSettle _)).trans (sameClaim_faultEdges _)
  have hblocked' := h.claimBlocked.trans hblocked
  have hgranted' := (h.get R.PAIR_STAT.CLAIM_STATE (by decide +kernel)).trans hgranted
  have hA' := (h.on (f := R.TX_STAT.BURST.on .A) (by decide +kernel)).trans hA
  have hB' := (h.on (f := R.TX_STAT.BURST.on .B) (by decide +kernel)).trans hB
  rw [levels, pairSettle, claim_rests (claimSettle_ineligible hblocked' hgranted'), revertSettle_frm,
    claimSettle_blocked hblocked' hgranted', State.raise_frm, State.set_frm]
  exact dropClaim_txQ (h.txEnable.trans hon) hA' hB'

/-! TX_START. -/

theorem exec_txStart (c : Carrier) (s : State) :
    exec (.txStart c) s = done s (reach s (.tx c) (fun s => levels (runSet s (.tx c)))) := rfl

/-- TX_START of a TX that is reached sets RUN, and levels follow. -/
theorem does_txStart {c : Carrier} {s : State} {P : State → Prop} (h : Open s (.tx c)) :
    Does (.txStart c) s P ↔ P { levels (runSet s (.tx c)) with pending := s.pending } := by
  obtain ⟨hdev, hreach, hres⟩ := h
  rw [does_done (exec_txStart c s), reach_open s (.tx c) _ hdev hreach hres]

/-- Setting RUN of a stopped TX makes the start checks, and the neighbours follow. -/
theorem runSet_tx {s : State} {c : Carrier} (hid : idRefuses s (.tx c) = false) (hrun : s.runBit (.tx c) = false)
    (hrunning : (s.set (runF (.tx c)) 1).running (.tx c) = false)
    (hres : (s.set (runF (.tx c)) 1).on (resettingF (.tx c)) = false) (hdev : (s.set (runF (.tx c)) 1).dev ≠ stBOOT) :
    runSet s (.tx c) = replAll (fecNeighbours (txTryStart (s.set (runF (.tx c)) 1) c) c) := by
  simp [runSet, alwaysRuns, hid, hrun, hrunning, hres, hdev, startNow, assistFollow, tryStart, carrierFollow, blkCarrier]

theorem txTryStart_run {s : State} {c : Carrier} (hmode : s.modeErr = false) (hcode : txCfgCode s c = 0)
    (hclock : s.clockReady (.tx c) = true) : txTryStart s c = txRun s c := by
  simp [txTryStart, hmode, hcode, hclock]

/-- The registers and PAIR as a start of TX leaves them before it reports its latency, for which the spec gives no value (R60,
R86). -/
def txBegun (s : State) (c : Carrier) : State :=
  let s := (s.transfer (.tx c)).unwait (.tx c)
  let s := s.setC c R.TX_STAT.LUT_BANK (s.getC c R.TX_LUT_CTRL.BANK_SEL)
  (s.set (runningF (.tx c)) 1).setBC c R.TX_STAT.CFG_ERR false

theorem sameClaim_txMuteNow (s : State) : SameClaim s (txMuteNow s .A) := by
  have hkeys : ∀ f ∈ muteF, (f.on .A).key ∈ asideF.map Fld.key := by decide +kernel
  have hset : ∀ (t : State) (b : Bool), ∀ f ∈ muteF, SameClaim t (t.setBC .A f b) := fun t _ f hf => .set t _ (hkeys f hf)
  have hcauses : SameClaim s (txMuteCauses s .A) :=
    (((hset s _ _ (by simp [muteF])).trans (hset _ _ _ (by simp [muteF]))).trans (hset _ _ _ (by simp [muteF]))).trans
      (hset _ _ _ (by simp [muteF]))
  unfold txMuteNow
  dsimp only
  split
  case isTrue => exact hcauses.trans (hset _ _ _ (by simp [muteF]))
  case isFalse => exact hcauses

theorem sameClaim_txRun (s : State) : SameClaim (txBegun s .A) (txRun s .A) := by
  have hlatency : ∀ (t : State) (v : Nat) (tx : TxH) (fec : FecH) (ciph : CiphH),
      SameClaim t ((((t.setC .A R.TX_LATENCY.LATENCY_PS v).setTxh .A tx).setFh .A fec).setCh .A ciph) := fun t _ _ _ _ =>
    (SameClaim.set t _ (by decide +kernel)).trans (.of_eq rfl rfl)
  exact (hlatency _ _ _ _ _).trans (sameClaim_txMuteNow _)

/-- FEC at rest follows nothing (R248). -/
theorem fecNeighbours_rest {s : State} {c : Carrier} (hrun : s.running (.fec c) = false)
    (henc : s.onC c R.FEC_STAT.ENC_ACTIVE = false) (hdec : s.onC c R.FEC_STAT.DEC_ACTIVE = false) : fecNeighbours s c = s := by
  simp [fecNeighbours, encNeighbour, decNeighbour, hrun, henc, hdec]

/-- RUN with the claim granted, every PLL locked but PLL 5 of Carrier A, of which no block runs, and the fault mask that follows
reset (R548). Carrier B sends a Dawn burst, an OTUCn frame of it not yet sent; TX of Carrier A is ready to start in CONT, with a
good optics record. Other registers read 0. -/
def burstBesideStart : State :=
  let s : State := { State.reset with regs := [] }
  let s := ((s.set R.SYS_STATE.STATE stRUN).set R.PWR_DOM_STAT.ON 0x3FFFFF).set R.CLK_PLL_STAT.LOCK 0xDF
  let s := ((s.set R.PAIR_STAT.CLAIM_STATE cGRANTED).setB R.PAIR_STAT.OWN_CLAIM true).setB R.PAIR_STAT.GRANTED true
  let s := s.set R.PAIR_MASK.FAULT_MASK 0x0F0D
  let s := ((s.set (R.SYS_CMODE.MODE.ix Carrier.B.num) mDAWNTX).set (runF (.tx .B)) 1).set (runningF (.tx .B)) 1
  let s := ((s.setBC .B R.TX_STAT.BURST true).setBC .B R.TX_BURST.ACTIVE true).setC .B R.TX_BURST.FRAMES_LEFT 2
  let s := ((s.set R.ID_STAT.STATE_A 2).setC .A R.TX_RATE.SYM_RATE 120000).setC .A R.TX_SHAPE.ROLLOFF 10
  let s := ((s.set ((R.CONV_RATE.RATE.ix 1).on .A) 256000).setC .A R.TX_PILOT.SEED_X 1).setC .A R.TX_PILOT.SEED_Y 1
  let frm : FrmH := { FrmH.reset with txQ := [⟨[], [], none, [], []⟩] }
  { s with pair := { PairH.reset with txEnable := true }, frm := ⟨.reset, frm⟩ }

theorem burstBesideStart_open : Open burstBesideStart (.tx .A) := by decide +kernel

theorem burstBesideStart_ready :
    burstBesideStart.dev ≠ stBOOT ∧ idRefuses burstBesideStart (.tx .A) = false ∧ burstBesideStart.runBit (.tx .A) = false ∧
      burstBesideStart.running (.tx .A) = false ∧ startsNow burstBesideStart (.tx .A) = true ∧
      burstBesideStart.clockReady (.tx .A) = true := by decide +kernel

theorem burstBesideStart_mayStart :
    let s := burstBesideStart.set (runF (.tx .A)) 1
    s.running (.tx .A) = false ∧ s.on (resettingF (.tx .A)) = false ∧ s.dev ≠ stBOOT ∧ s.modeErr = false ∧
      txCfgCode s .A = 0 ∧ s.clockReady (.tx .A) = true := by decide +kernel

/-- Once TX of Carrier A runs, its PLL 5 is a fault, for which the unit may not hold its claim (R548, R549). -/
theorem burstBesideStart_begun :
    let s := txBegun (burstBesideStart.set (runF (.tx .A)) 1) .A
    claimBlocked s = true ∧ claimState s = cGRANTED ∧ s.pair.txEnable = true ∧ s.onC .A R.TX_STAT.BURST = false ∧
      s.onC .B R.TX_STAT.BURST = true ∧ s.running (.fec .A) = false ∧ s.onC .A R.FEC_STAT.ENC_ACTIVE = false ∧
      s.onC .A R.FEC_STAT.DEC_ACTIVE = false := by decide +kernel

theorem burstBesideStart_sameClaim :
    SameClaim (txBegun (burstBesideStart.set (runF (.tx .A)) 1) .A) (runSet burstBesideStart (.tx .A)) := by
  obtain ⟨-, hid, hrun, -⟩ := burstBesideStart_ready
  obtain ⟨hrunning, hres, hdev, hmode, hcode, hclock⟩ := burstBesideStart_mayStart
  obtain ⟨-, -, -, -, -, hfec, henc, hdec⟩ := burstBesideStart_begun
  have h := sameClaim_txRun (burstBesideStart.set (runF (.tx .A)) 1)
  have hrest := fecNeighbours_rest ((h.on (f := runningF (.fec .A)) (by decide +kernel)).trans hfec)
    ((h.on (f := R.FEC_STAT.ENC_ACTIVE.on .A) (by decide +kernel)).trans henc)
    ((h.on (f := R.FEC_STAT.DEC_ACTIVE.on .A) (by decide +kernel)).trans hdec)
  rw [runSet_tx hid hrun hrunning hres hdev, txTryStart_run hmode hcode hclock, hrest]
  exact h.trans (sameClaim_replAll _)

/-- The start of Carrier A releases the claim, which cuts the burst of Carrier B off with the frame that waited. -/
theorem burstBesideStart_txStart_txQ : ((levels (runSet burstBesideStart (.tx .A))).frm.get .B).txQ = [] := by
  have h := burstBesideStart_sameClaim
  obtain ⟨hblocked, hgranted, hon, hA, hB, -⟩ := burstBesideStart_begun
  exact levels_blocked_txQ (h.claimBlocked.trans hblocked) ((h.get R.PAIR_STAT.CLAIM_STATE (by decide +kernel)).trans hgranted)
    (h.txEnable.trans hon) ((h.on (f := R.TX_STAT.BURST.on .A) (by decide +kernel)).trans hA)
    ((h.on (f := R.TX_STAT.BURST.on .B) (by decide +kernel)).trans hB)

/-- Refutes O7: a start of TX whose carrier has a PLL out of lock is a fault (R548), which releases the claim and so cuts off a
Dawn burst of the other carrier, whose OTUCn frames not yet sent are lost (R69, R343, R553). The frame of TX_START lists neither
FRAMER. -/
theorem not_transmitCommands : ¬ Obligations.TransmitCommands := by
  intro h
  obtain ⟨hdev, hid, hrun, hrunning, hstarts, hclock⟩ := burstBesideStart_ready
  obtain ⟨hstart, -⟩ := h burstBesideStart .A
  obtain ⟨-, -, -, -, -, -, hparts⟩ :=
    (does_txStart burstBesideStart_open).1 (hstart burstBesideStart_open hdev hid hrun hrunning hstarts hclock)
  have hfrm := hparts (.frm .B) (by decide)
  dsimp only [Part.same] at hfrm
  have htxQ := burstBesideStart_txStart_txQ
  rw [hfrm] at htxQ
  exact absurd htxQ (List.cons_ne_nil _ _)

end Sys2Proof.Machine
end

section
/-! PROOFS of the statements about the converters (03_converters.md): starts, calibration and background passes (O11), trims, the
calibration image and levels (O12). -/

namespace Sys2Proof.Spec

open Sys2Proof Sys2Proof.Machine

/-! How frames compose: a command's frame is put together from those of its writes. -/

theorem Part.same_refl (s : State) (p : Part) : p.same s s := by
  cases p with
  | wake => exact ⟨rfl, rfl⟩
  | _ => rfl

theorem Part.same_trans {s t u : State} {p : Part} (h : p.same s t) (k : p.same t u) : p.same s u := by
  cases p <;> dsimp only [Part.same] at h k ⊢
  case wake => exact ⟨k.1.trans h.1, k.2.trans h.2⟩
  case ctl =>
    exact (congrArg (fun ctl : CtlH => { ctl with wakeLatch := s.ctl.wakeLatch, evSeen := s.ctl.evSeen }) k).trans h
  case host => exact (congrArg (fun host : HostH => { host with msixSent := s.host.msixSent }) k).trans h
  case time => exact (congrArg (fun time : TimeH => { time with marks := s.time.marks }) k).trans h
  all_goals exact k.trans h

/-- Registers are no piece of state. -/
theorem Part.same_regs (s : State) (regs : Map Nat) (p : Part) : p.same s { s with regs := regs } := by
  cases p with
  | wake => exact ⟨rfl, rfl⟩
  | _ => rfl

section
variable {s t u : State} {fs fs' : List Fld} {bs bs' : List Blk} {ps ps' : List Part}

theorem Keeps.refl (s : State) (fs : List Fld) (bs : List Blk) (ps : List Part) : Keeps s s fs bs ps :=
  ⟨fun _ _ _ => rfl, fun p _ => p.same_refl s⟩

theorem Keeps.trans (h : Keeps s t fs bs ps) (k : Keeps t u fs bs ps) : Keeps s u fs bs ps :=
  ⟨fun key hf hb => (k.1 key hf hb).trans (h.1 key hf hb), fun p hp => Part.same_trans (h.2 p hp) (k.2 p hp)⟩

theorem Keeps.mono (h : Keeps s t fs bs ps) (hfs : fs ⊆ fs') (hbs : bs ⊆ bs') (hps : ps ⊆ ps') : Keeps s t fs' bs' ps' :=
  ⟨fun key hf hb => h.1 key (fun hmem => hf (List.map_subset _ hfs hmem)) fun b hmem => hb b (hbs hmem),
    fun p hp => h.2 p fun hmem => hp (hps hmem)⟩

/-- A write to a field that the frame lists. -/
theorem Keeps.set (h : Keeps s t fs bs ps) {f : Fld} (v : Nat) (hf : f ∈ fs) : Keeps s (t.set f v) fs bs ps :=
  h.trans ⟨fun _ hk _ => State.regs_set_ne t v fun heq => hk (heq ▸ List.mem_map_of_mem hf), fun p _ => p.same_regs t _⟩

/-- A write to a field in a window that the frame lists. -/
theorem Keeps.setIn (h : Keeps s t fs bs ps) {f : Fld} (v : Nat) {b : Blk} (hb : b ∈ bs) (hf : inBlk b f.key = true) :
    Keeps s (t.set f v) fs bs ps :=
  h.trans ⟨fun _ _ hk => State.regs_set_ne t v fun heq => absurd hf (by simp [← heq, hk b hb]), fun p _ => p.same_regs t _⟩

theorem Keeps.setCvh (h : Keeps s t fs bs ps) {c : Carrier} (conv : ConvH) (hc : .conv c ∈ ps) :
    Keeps s (t.setCvh c conv) fs bs ps := by
  refine h.trans ⟨fun _ _ _ => rfl, fun p hp => ?_⟩
  cases p with
  | conv d => exact AB.get_set_ne _ _ fun heq => hp (heq ▸ hc)
  | wake => exact ⟨rfl, rfl⟩
  | _ => rfl

/-- Each of several writes within a frame leaves the whole within it. -/
theorem Keeps.foldl {α : Type} {f : State → α → State} {l : List α} (h : Keeps s t fs bs ps)
    (hstep : ∀ t, ∀ a ∈ l, Keeps t (f t a) fs bs ps) : Keeps s (l.foldl f t) fs bs ps :=
  List.foldlRecOn (motive := fun u => Keeps s u fs bs ps) l f h fun u hu a ha => hu.trans (hstep u a ha)

end

/-! The frame of an event (R496 to R499). -/

theorem keeps_wakeEvq (s : State) : Keeps s s.wakeEvq evF [] evP := by
  unfold State.wakeEvq
  split
  case isTrue => exact .refl _ _ _ _
  case isFalse =>
    refine ⟨fun _ _ _ => rfl, fun p hp => ?_⟩
    cases p with
    | wake => simp at hp
    | _ => rfl

theorem keeps_msixEvent (s : State) (id : Nat) : Keeps s (s.msixEvent id) evF [] evP := by
  unfold State.msixEvent
  split
  case isTrue =>
    refine ⟨fun _ _ _ => rfl, fun p hp => ?_⟩
    cases p with
    | msix => simp at hp
    | wake => exact ⟨rfl, rfl⟩
    | _ => rfl
  case isFalse => exact .refl _ _ _ _

theorem keeps_withEv (s : State) (ev : EvQ) : Keeps s { s with ev := ev } evF [] evP := by
  refine ⟨fun _ _ _ => rfl, fun p hp => ?_⟩
  cases p with
  | ev => simp at hp
  | wake => exact ⟨rfl, rfl⟩
  | _ => rfl

theorem keeps_enqueueEvent (s : State) (e : Ev) : Keeps s (s.enqueueEvent e) evF [] evP :=
  (((keeps_withEv s _).set _ (by simp)).trans (keeps_msixEvent _ _)).trans (keeps_wakeEvq _)

theorem keeps_countEvent (s : State) (id data : Nat) : Keeps s (s.countEvent id data) evF [] evP :=
  (keeps_withEv s _).trans (keeps_wakeEvq _)

theorem keeps_loseEvent (s : State) (id : Nat) : Keeps s (s.loseEvent id) evF [] evP := by
  have hbump : Keeps s (s.bump R.EV_STAT.LOST_TOTAL) evF [] evP := (Keeps.refl _ _ _ _).set _ (by simp)
  unfold State.loseEvent
  dsimp only
  split
  case isTrue => exact hbump.trans (keeps_countEvent _ _ _)
  case isFalse =>
    split
    case isTrue => exact hbump
    case isFalse => exact hbump.trans (keeps_enqueueEvent _ _)

theorem keeps_raise (s : State) (id data : Nat) : Keeps s (s.raise id data) evF [] evP := by
  unfold State.raise
  dsimp only
  split
  case isTrue => exact keeps_countEvent _ _ _
  case isFalse =>
    split
    case isTrue => exact .refl _ _ _ _
    case isFalse =>
      split
      case isTrue => exact keeps_loseEvent _ _
      case isFalse => exact keeps_enqueueEvent _ _

/-- Raising an event within a frame that has room for events. -/
theorem Keeps.raise {s t : State} {fs : List Fld} {bs : List Blk} {ps : List Part} (h : Keeps s t fs bs ps) (id data : Nat)
    (hfs : evF ⊆ fs) (hps : evP ⊆ ps) : Keeps s (t.raise id data) fs bs ps :=
  h.trans ((keeps_raise t id data).mono hfs (List.nil_subset _) hps)

end Sys2Proof.Spec

namespace Sys2Proof.Machine

open Sys2Proof Sys2Proof.Spec

/-! What the queue of events depends on. -/

/-- Masks, the queue and the AON time alone decide what raising an event does to the queue. -/
theorem raise_ev_congr {s t : State} {id : Nat} (data : Nat) (hev : t.ev = s.ev) (htime : t.time = s.time)
    (hid : t.masked id = s.masked id) (hlost : t.masked E.LOST = s.masked E.LOST) :
    (t.raise id data).ev = (s.raise id data).ev := by
  have hcount : ∀ {s t : State} (id data : Nat), t.ev = s.ev → t.time = s.time →
      (t.countEvent id data).ev = (s.countEvent id data).ev := by
    intro s t id data hev htime
    simp [State.countEvent, hev, htime]
  have henqueue : ∀ {s t : State} (e : Ev), t.ev = s.ev → (t.enqueueEvent e).ev = (s.enqueueEvent e).ev := by
    intro s t e hev
    simp [State.enqueueEvent, hev]
  have hbump : ∀ u : State, (u.bump R.EV_STAT.LOST_TOTAL).masked E.LOST = u.masked E.LOST := fun u =>
    congrArg (bitOf · _) (State.get_set_ne _ _ (by decide))
  have hlose : (t.loseEvent id).ev = (s.loseEvent id).ev := by
    have hev' : (t.bump R.EV_STAT.LOST_TOTAL).ev = (s.bump R.EV_STAT.LOST_TOTAL).ev := hev
    have htime' : (t.bump R.EV_STAT.LOST_TOTAL).time = (s.bump R.EV_STAT.LOST_TOTAL).time := htime
    unfold State.loseEvent
    simp only [hev', htime', hbump, hlost]
    split
    case isTrue => exact hcount _ _ hev' htime'
    case isFalse =>
      split
      case isTrue => exact hev'
      case isFalse => exact henqueue _ hev'
  unfold State.raise
  simp only [hev, hid, htime]
  split
  case isTrue => exact hcount _ _ hev htime
  case isFalse =>
    split
    case isTrue => exact hev
    case isFalse =>
      split
      case isTrue => exact hlose
      case isFalse => exact henqueue _ hev

/-- An event that a write to another register precedes enters the queue as without it. -/
theorem raise_ev_set {s : State} {f : Fld} {id : Nat} (v data : Nat) (hid : (R.EV_MASK.MASK.ix (id / 32)).key ≠ f.key)
    (hlost : (R.EV_MASK.MASK.ix (E.LOST / 32)).key ≠ f.key) : ((s.set f v).raise id data).ev = (s.raise id data).ev :=
  raise_ev_congr data rfl rfl (congrArg (bitOf · _) (State.get_set_ne _ _ hid))
    (congrArg (bitOf · _) (State.get_set_ne _ _ hlost))

/-! What a command answers. -/

/-- A command that keeps the queue answers just the state that it makes. -/
theorem does_of_keeps {i : Instr} {s t : State} {P : State → Prop} {fs : List Fld} {bs : List Blk} {ps : List Part}
    (hexec : exec i s = done s t) (hkeeps : Keeps s t fs bs ps) (hps : .pending ∉ ps) (h : P t) : Does i s P := by
  have hpending : t.pending = s.pending := hkeeps.2 .pending hps
  refine ⟨t, ?_, h⟩
  rw [hexec, done, ← hpending]

/-- A write to a block which is reached takes hold. -/
theorem exec_open {i : Instr} {s : State} {b : Blk} {f : State → State} (hexec : exec i s = done s (reach s b f))
    (h : Open s b) : exec i s = done s (f s) := by
  obtain ⟨hdev, hreach, hres⟩ := h
  rw [hexec, reach_open s b f hdev hreach hres]

/-! Registers and the state of CONV beside them. -/

@[simp] theorem setCvh_get (s : State) (c : Carrier) (h : ConvH) (f : Fld) : (s.setCvh c h).get f = s.get f := rfl

@[simp] theorem setCvh_cvh (s : State) (c : Carrier) (h : ConvH) : (s.setCvh c h).conv.get c = h := AB.get_set_same _ _ _

/-- The registers from CONV's base, written through a carrier's field, lie in that carrier's window (R22). -/
theorem inBlk_conv {f : Fld} (c : Carrier) (hlo : 0x40110000 ≤ f.addr) (hhi : f.addr < 0x40120000) (hlsb : f.lsb < 64) :
    inBlk (.conv c) (f.on c).key = true := by
  refine decide_eq_true ?_
  simp only [blkLo, blkHi, blkBase, Fld.key, Fld.on]
  omega

/-- The same of the first four entries of an array. -/
theorem inBlk_conv_ix {f : Fld} (c : Carrier) {n : Nat} (hn : n < 4) (hlo : 0x40110000 ≤ f.addr)
    (hhi : f.addr + f.stride * 3 < 0x40120000) (hlsb : f.lsb < 64) : inBlk (.conv c) ((f.ix n).on c).key = true :=
  inBlk_conv c (Nat.le_add_right_of_le hlo)
    (Nat.lt_of_le_of_lt (Nat.add_le_add_left (Nat.mul_le_mul_left _ (Nat.le_of_lt_succ hn)) _) hhi) hlsb

/-- A value held at a field's largest value fits the field. -/
theorem satTo_mod (w n : Nat) : satTo w n % 2 ^ w = min (2 ^ w - 1) n := by
  have hpos : 0 < 2 ^ w := Nat.two_pow_pos w
  rw [satTo, Nat.min_comm]
  exact Nat.mod_eq_of_lt (by omega)

/-- Writes of one field after another: each reads what it was given, where no value depends on the fields written before. -/
theorem get_foldl_set {f : Nat → Fld} {v : State → Nat → Nat} (hinj : ∀ i j, j ≠ i → (f i).key ≠ (f j).key)
    (hv : ∀ t i j x, j ≠ i → v (t.set (f j) x) i = v t i) (s : State) {n i : Nat} (hi : i < n) :
    ((List.range n).foldl (fun t i => t.set (f i) (v t i)) s).get (f i) = v s i % 2 ^ (f i).width := by
  have hkeep : ∀ m ≤ i, v ((List.range m).foldl (fun t i => t.set (f i) (v t i)) s) i = v s i := by
    intro m
    induction m with
    | zero => exact fun _ => rfl
    | succ m ih =>
      intro hm
      rw [List.range_succ, List.foldl_append]
      exact (hv _ i m _ (by omega)).trans (ih (by omega))
  induction n with
  | zero => omega
  | succ n ih =>
    rw [List.range_succ, List.foldl_append]
    by_cases heq : i = n
    · subst heq
      exact (State.get_set_same _ _ _).trans (by rw [hkeep i (Nat.le_refl i)])
    · exact (State.get_set_ne _ _ (hinj i n fun h => heq h.symm)).trans (ih (by omega))

/-- The same of the entries of a table. -/
theorem Map.get_foldl_set (v : Nat → Nat) (m : Map Nat) {n i : Nat} (hi : i < n) :
    ((List.range n).foldl (fun m k => Map.set m k (v k)) m).get i = v i := by
  induction n with
  | zero => omega
  | succ n ih =>
    rw [List.range_succ, List.foldl_append]
    by_cases heq : i = n
    · subst heq
      exact Map.get_set_same _ _ _
    · exact (Map.get_set_ne _ _ heq).trans (ih (by omega))

/-! Ramps (R100). -/

/-- An entry moved one interval towards its wanted value (R100). -/
def ConvH.ramped (h : ConvH) (i : Nat) : Trim := (h.trim i).add ((Trim.unpack (h.target.get i)).diff (h.trim i)).sign

/-- Two states of CONV agree in the steps and the wanted trims, and in what is applied at one entry. -/
structure SameEntry (i : Nat) (h h' : ConvH) : Prop where
  adc : h'.adc = h.adc
  target : h'.target = h.target
  applied : h'.applied.get i = h.applied.get i

theorem SameEntry.refl (i : Nat) (h : ConvH) : SameEntry i h h := ⟨rfl, rfl, rfl⟩

theorem SameEntry.trans {i : Nat} {h h' h'' : ConvH} (a : SameEntry i h h') (b : SameEntry i h' h'') : SameEntry i h h'' :=
  ⟨b.adc.trans a.adc, b.target.trans a.target, b.applied.trans a.applied⟩

theorem SameEntry.inStep {i : Nat} {h h' : ConvH} (a : SameEntry i h h') (j : Nat) : h'.inStep j = h.inStep j := by
  simp [ConvH.inStep, ConvH.adcAt, a.adc]

theorem SameEntry.ramped {i : Nat} {h h' : ConvH} (a : SameEntry i h h') : h'.ramped i = h.ramped i := by
  simp [ConvH.ramped, ConvH.trim, a.target, a.applied]

theorem rampEntry_other (h : ConvH) {i j : Nat} (hne : i ≠ j) : SameEntry i h (rampEntry h j) := by
  unfold rampEntry
  split
  case isTrue => exact .refl i h
  case isFalse => exact ⟨rfl, rfl, Map.get_set_ne _ _ hne⟩

/-- An entry outside a step moves by one interval, and nothing else of CONV does. -/
theorem rampEntry_free {h : ConvH} {i : Nat} (hfree : h.inStep i = false) :
    rampEntry h i = { h with applied := h.applied.set i (h.ramped i).pack } := by
  simp [rampEntry, hfree, ConvH.ramped]

theorem foldl_rampEntry_other (l : Map Nat) (h : ConvH) {i : Nat} (hi : ∀ p ∈ l, i ≠ p.1) :
    SameEntry i h (l.foldl (fun h p => rampEntry h p.1) h) :=
  List.foldlRecOn l _ (SameEntry.refl i h) fun h' hsame p hp => hsame.trans (rampEntry_other h' (hi p hp))

/-- Over the entries of a table with rising keys each one outside a step moves by one interval. -/
theorem foldl_rampEntry_mem {l : Map Nat} (hl : l.Pairwise fun a b => a.1 < b.1) (h : ConvH) {i : Nat}
    (hi : (Map.find l i).isSome = true) (hfree : h.inStep i = false) :
    (l.foldl (fun h p => rampEntry h p.1) h).target = h.target ∧ (l.foldl (fun h p => rampEntry h p.1) h).adc = h.adc ∧
      (l.foldl (fun h p => rampEntry h p.1) h).applied.get i = (h.ramped i).pack := by
  induction l generalizing h with
  | nil => simp at hi
  | cons p l ih =>
    obtain ⟨k, v⟩ := p
    obtain ⟨hhead, htail⟩ := List.pairwise_cons.1 hl
    rw [List.foldl_cons]
    by_cases hk : k = i
    · subst hk
      have hrest := foldl_rampEntry_other l (rampEntry h k) (i := k) fun p hp => Nat.ne_of_lt (hhead p hp)
      rw [rampEntry_free hfree] at hrest ⊢
      exact ⟨hrest.target, hrest.adc, hrest.applied.trans (Map.get_set_same _ _ _)⟩
    · have hsame := rampEntry_other h (i := i) (j := k) fun heq => hk heq.symm
      have hfind : (Map.find l i).isSome = true := by simpa [Map.find, hk] using hi
      obtain ⟨htarget, hadc, happlied⟩ := ih htail (rampEntry h k) hfind ((hsame.inStep i).trans hfree)
      exact ⟨htarget.trans hsame.target, hadc.trans hsame.adc, by rw [happlied, hsame.ramped]⟩

/-- Entries without a wanted value move apart from one that has one. -/
theorem foldl_rampRest_wanted (l : Map Nat) (h : ConvH) {i : Nat} (hi : (h.target.find i).isSome = true) :
    SameEntry i h (l.foldl (fun h p => if (h.target.find p.1).isSome then h else rampEntry h p.1) h) := by
  refine List.foldlRecOn l _ (SameEntry.refl i h) fun h' hsame p _ => ?_
  split
  case isTrue => exact hsame
  case isFalse hnone =>
    refine hsame.trans (rampEntry_other h' fun heq => hnone ?_)
    rw [hsame.target, ← heq, hi]

theorem adcAt_setAdc_ne (h : ConvH) {n m : Nat} (a : AdcStep) (hne : n ≠ m) : (h.setAdc n a).adcAt m = h.adcAt m := by
  simp [ConvH.adcAt, ConvH.setAdc, List.getElem?_set_ne hne]

/-- No step moves entry `i` as its ADC's spare. -/
def SpareRests (h : ConvH) (i : Nat) : Prop := ∀ n < 4, i = 65 * n + 64 → (h.adcAt n).st = .idle

/-- The spare of an ADC is free only without a step. -/
theorem spareRests_of_free {h : ConvH} {i : Nat} (hfree : h.inStep i = false) : SpareRests h i := by
  rintro n hn rfl
  have hn : ¬ 260 ≤ 65 * n + 64 := by omega
  have hdiv : (65 * n + 64) / 65 = n := by omega
  have hmod : (65 * n + 64) % 65 = 64 := by omega
  simpa [ConvH.inStep, hn, hdiv, hmod] using hfree

/-- The ramp of a step moves its ADC's spare alone (R98). -/
theorem rampAdc_other {h : ConvH} {i : Nat} (hrests : SpareRests h i) {n : Nat} (hn : n < 4) :
    SpareRests (rampAdc h n) i ∧ (rampAdc h n).applied.get i = h.applied.get i := by
  unfold rampAdc
  dsimp only
  split
  case isTrue => exact ⟨hrests, rfl⟩
  case isFalse hramp =>
    have hne : i ≠ 65 * n + 64 := fun heq => hramp (by rw [hrests n hn heq]; decide)
    refine ⟨fun m hm heq => ?_, Map.get_set_ne _ _ hne⟩
    rw [adcAt_setAdc_ne _ _ (by omega)]
    exact hrests m hm heq

theorem foldl_rampAdc_other {h : ConvH} {i : Nat} (hrests : SpareRests h i) :
    ((List.range 4).foldl rampAdc h).applied.get i = h.applied.get i := by
  refine (List.foldlRecOn (motive := fun h' => SpareRests h' i ∧ h'.applied.get i = h.applied.get i) (List.range 4) rampAdc
    ⟨hrests, rfl⟩ ?_).2
  rintro h' ⟨hrests', happlied⟩ n hn
  obtain ⟨hnext, hsame⟩ := rampAdc_other hrests' (List.mem_range.1 hn)
  exact ⟨hnext, hsame.trans happlied⟩

theorem rampInterval_applied {s : State} {c : Carrier} {i : Nat} (hsorted : (s.conv.get c).target.sorted = true)
    (hi : ((s.conv.get c).target.find i).isSome = true) (hfree : (s.conv.get c).inStep i = false) :
    ((rampInterval s c).conv.get c).applied.get i = ((s.conv.get c).ramped i).pack := by
  obtain ⟨htarget, hadc, happlied⟩ := foldl_rampEntry_mem ((Map.sorted_iff _).1 hsorted) (s.conv.get c) hi hfree
  unfold rampInterval State.cvh
  rw [setCvh_cvh]
  have hrest := foldl_rampRest_wanted
    ((s.conv.get c).target.foldl (fun h p => rampEntry h p.1) (s.conv.get c)).applied _ (htarget.symm ▸ hi)
  rw [foldl_rampAdc_other, hrest.applied, happlied]
  refine spareRests_of_free ?_
  simpa [ConvH.inStep, ConvH.adcAt, hrest.adc, hadc] using hfree

theorem keeps_rampInterval (s : State) (c : Carrier) : Keeps s (rampInterval s c) [] [] [.conv c] :=
  (Keeps.refl _ _ _ _).setCvh _ (.head _)

/-! The storage model (R107, R108). -/

theorem trimInterpolate_target {s : State} {c : Carrier} (hbanded : s.onC c R.CAL_CTRL.MODEL = true) :
    ((trimInterpolate s c).conv.get c).target = wantedTrims s c := by
  rw [trimInterpolate, if_pos hbanded, setCvh_cvh]

theorem trimInterpolate_volatile {s : State} {c : Carrier} (hvolatile : s.onC c R.CAL_CTRL.MODEL = false) :
    trimInterpolate s c = s := by
  rw [trimInterpolate, if_neg (by simp [hvolatile])]

theorem keeps_trimInterpolate (s : State) (c : Carrier) : Keeps s (trimInterpolate s c) [] [] [.conv c] := by
  unfold trimInterpolate
  split
  case isTrue => exact (Keeps.refl _ _ _ _).setCvh _ (.head _)
  case isFalse => exact .refl _ _ _ _

theorem modelChange_stopped_model {s : State} {c : Carrier} (banded : Bool) (hrun : s.running (.conv c) = false) :
    (modelChange s c banded).onC c R.CAL_CTRL.MODEL = banded := by
  unfold modelChange
  rw [if_neg (by simp [hrun])]
  split
  case isTrue heq => exact heq
  case isFalse =>
    have hset : (s.setBC c R.CAL_CTRL.MODEL banded).onC c R.CAL_CTRL.MODEL = banded := State.on_setB _ _ _ rfl
    cases banded <;> exact hset

theorem keeps_modelChange_stopped {s : State} {c : Carrier} (banded : Bool) (hrun : s.running (.conv c) = false) :
    Keeps s (modelChange s c banded) [R.CAL_CTRL.MODEL.on c] [] [.conv c] := by
  have hset : ∀ conv : ConvH, Keeps s ((s.setBC c R.CAL_CTRL.MODEL banded).setCvh c conv) [R.CAL_CTRL.MODEL.on c] [] [.conv c] :=
    fun conv => ((Keeps.refl _ _ _ _).set _ (by simp)).setCvh conv (by simp)
  unfold modelChange
  rw [if_neg (by simp [hrun])]
  split
  case isTrue => exact .refl _ _ _ _
  case isFalse => cases banded <;> exact hset _

/-- A discarded HALTED write of CONV sets CFG_DISCARD and raises EV_CFG_BUSY, and changes no other register (R11). -/
theorem haltedDiscard_conv (s : State) (c : Carrier) (addr : Nat) :
    (haltedDiscard s (.conv c) addr).on (cfgDiscardF (.conv c)) = true ∧
      Raised s (haltedDiscard s (.conv c) addr) E.CFG_BUSY addr ∧
      Keeps s (haltedDiscard s (.conv c) addr) (evF ++ [cfgDiscardF (.conv c)]) [] evP := by
  refine ⟨?_, ?_, ((Keeps.refl _ _ _ _).set _ (by simp)).raise _ _ (List.subset_append_left _ _) (fun _ h => h)⟩
  · rw [State.on, haltedDiscard, State.raise_get _ _ _ _ (by cases c <;> decide) (by cases c <;> decide), State.get_set_same]
    rfl
  · exact raise_ev_set _ _ (by cases c <;> decide) (by cases c <;> decide)

theorem modelChange_running {s : State} {c : Carrier} {banded : Bool} (hrun : s.running (.conv c) = true)
    (hne : s.onC c R.CAL_CTRL.MODEL ≠ banded) :
    modelChange s c banded = haltedDiscard s (.conv c) (R.CAL_CTRL.MODEL.on c).addr := by
  rw [modelChange, if_pos hrun, if_neg hne]

theorem haltedDiscard_model (s : State) (c : Carrier) (addr : Nat) :
    (haltedDiscard s (.conv c) addr).onC c R.CAL_CTRL.MODEL = s.onC c R.CAL_CTRL.MODEL := by
  obtain ⟨-, -, hregs, -⟩ := haltedDiscard_conv s c addr
  rw [State.onC, State.on, State.get, hregs _ (by cases c <;> decide) (by simp)]
  rfl

/-! The calibration image (R109 to R111). -/

theorem imgWord_key_ne (c : Carrier) {w v : Nat} (h : w ≠ v) : (imgWord c w).key ≠ (imgWord c v).key := by
  simp only [imgWord, wordAt, Fld.on, Fld.key]
  omega

/-- The registers of CONV stand below its window for the image. -/
theorem imgWord_key_ne_reg (c : Carrier) (w : Nat) {f : Fld} (haddr : f.addr < 0x40118000) (hlsb : f.lsb < 64) :
    (imgWord c w).key ≠ (f.on c).key := by
  simp only [imgWord, wordAt, Fld.on, Fld.key]
  omega

theorem imgBytes_congr {s t : State} {c : Carrier} (h : ∀ w < 803, t.get (imgWord c w) = s.get (imgWord c w)) :
    imgBytes t c = imgBytes s c := by
  unfold imgBytes
  rw [List.flatMap_def, List.flatMap_def]
  exact congrArg List.flatten (List.map_congr_left fun w hw => by rw [h w (List.mem_range.1 hw)])

/-- The first `n` words of the window as CAL_SNAP fills them (R109, R110). -/
def snapFilled (s : State) (c : Carrier) (n : Nat) : State :=
  (List.range n).foldl (fun t w => t.set (imgWord c w) (imgContent s c w)) s

theorem snapFilled_word (s : State) (c : Carrier) {n w : Nat} (hw : w < n) :
    (snapFilled s c n).get (imgWord c w) = imgContent s c w % 2 ^ 32 :=
  get_foldl_set (v := fun _ w => imgContent s c w) (fun _ _ hne => imgWord_key_ne c hne.symm) (fun _ _ _ _ _ => rfl) s hw

theorem keeps_snapFilled (s : State) (c : Carrier) (n : Nat) :
    Keeps s (snapFilled s c n) (R.CAL_IMG_CTRL.BUSY.on c :: (List.range n).map (imgWord c)) [] [.conv c] :=
  (Keeps.refl _ _ _ _).foldl fun _ _ hw => (Keeps.refl _ _ _ _).set _ (List.mem_cons_of_mem _ (List.mem_map_of_mem hw))

theorem calSnap_idle {s : State} {c : Carrier} (hidle : s.onC c R.CAL_IMG_CTRL.BUSY = false) :
    calSnap s c = ((snapFilled s c 803).setCvh c { (snapFilled s c 803).cvh c with job := .snap }).setB
      (R.CAL_IMG_CTRL.BUSY.on c) true := by
  unfold calSnap
  rw [if_neg (by simp [hidle])]
  rfl

theorem calSnap_word {s : State} {c : Carrier} (hidle : s.onC c R.CAL_IMG_CTRL.BUSY = false) {w : Nat} (hw : w < 803) :
    (calSnap s c).get (imgWord c w) = imgContent s c w % 2 ^ 32 := by
  rw [calSnap_idle hidle, State.setB, State.get_set_ne _ _ (imgWord_key_ne_reg c w (by decide) (by decide)), setCvh_get,
    snapFilled_word s c hw]

theorem calSnap_busy {s : State} {c : Carrier} (hidle : s.onC c R.CAL_IMG_CTRL.BUSY = false) :
    (calSnap s c).onC c R.CAL_IMG_CTRL.BUSY = true := by
  rw [calSnap_idle hidle, State.onC, State.on_setB _ _ _ rfl]

theorem keeps_calSnap {s : State} {c : Carrier} (hidle : s.onC c R.CAL_IMG_CTRL.BUSY = false) :
    Keeps s (calSnap s c) (R.CAL_IMG_CTRL.BUSY.on c :: (List.range 803).map (imgWord c)) [] [.conv c] := by
  rw [calSnap_idle hidle]
  exact ((keeps_snapFilled s c 803).setCvh _ (.head _)).set _ (.head _)

/-- The registers as CAL_SNAP_DONE has them before the CRC: CAL_GEN raised and in its word (R110). -/
def snapNumbered (s : State) (c : Carrier) : State :=
  (s.set (imgWord c 2) (satTo 32 (s.getC c R.CAL_GEN.GEN + 1))).setC c R.CAL_GEN.GEN (satTo 32 (s.getC c R.CAL_GEN.GEN + 1))

/-- The same with the CRC in its word. -/
def snapSealed (s : State) (c : Carrier) : State :=
  (snapNumbered s c).set (imgWord c 803) (crc32 (imgBytes (snapNumbered s c) c))

theorem calSnapDone_snap {s : State} {c : Carrier} (hjob : (s.conv.get c).job = .snap) :
    calSnapDone s c = ((snapSealed s c).setCvh c { (snapSealed s c).cvh c with job := .none }).setB
      (R.CAL_IMG_CTRL.BUSY.on c) false := by
  rw [calSnapDone, if_neg (by simp [State.cvh, hjob])]
  rfl

/-- The image's words but the CRC stay as they were before it. -/
theorem calSnapDone_get {s : State} {c : Carrier} (hjob : (s.conv.get c).job = .snap) {f : Fld}
    (hcrc : f.key ≠ (imgWord c 803).key) (hbusy : f.key ≠ (R.CAL_IMG_CTRL.BUSY.on c).key) :
    (calSnapDone s c).get f = (snapNumbered s c).get f := by
  rw [calSnapDone_snap hjob, State.setB, State.get_set_ne _ _ hbusy, setCvh_get, snapSealed, State.get_set_ne _ _ hcrc]

theorem calSnapDone_gen {s : State} {c : Carrier} (hjob : (s.conv.get c).job = .snap) :
    (calSnapDone s c).getC c R.CAL_GEN.GEN = min (2 ^ 32 - 1) (s.getC c R.CAL_GEN.GEN + 1) := by
  rw [State.getC, calSnapDone_get hjob (imgWord_key_ne_reg c 803 (by decide) (by decide)).symm (by cases c <;> decide),
    snapNumbered, State.setC, State.get_set_same]
  exact satTo_mod 32 _

theorem calSnapDone_generation {s : State} {c : Carrier} (hjob : (s.conv.get c).job = .snap) :
    (calSnapDone s c).get (imgWord c 2) = (calSnapDone s c).getC c R.CAL_GEN.GEN := by
  rw [calSnapDone_gen hjob, calSnapDone_get hjob (imgWord_key_ne c (by decide)) (imgWord_key_ne_reg c 2 (by decide) (by decide)),
    snapNumbered, State.setC, State.get_set_ne _ _ (imgWord_key_ne_reg c 2 (by decide) (by decide)), State.get_set_same]
  exact satTo_mod 32 _

theorem calSnapDone_crc {s : State} {c : Carrier} (hjob : (s.conv.get c).job = .snap) :
    (calSnapDone s c).get (imgWord c 803) = crc32 (imgBytes (calSnapDone s c) c) % 2 ^ 32 := by
  have hbytes : imgBytes (calSnapDone s c) c = imgBytes (snapNumbered s c) c := imgBytes_congr fun w hw =>
    calSnapDone_get hjob (imgWord_key_ne c (by omega)) (imgWord_key_ne_reg c w (by decide) (by decide))
  rw [hbytes, calSnapDone_snap hjob, State.setB, State.get_set_ne _ _ (imgWord_key_ne_reg c 803 (by decide) (by decide)),
    setCvh_get, snapSealed, State.get_set_same]
  rfl

theorem calSnapDone_busy {s : State} {c : Carrier} (hjob : (s.conv.get c).job = .snap) :
    (calSnapDone s c).onC c R.CAL_IMG_CTRL.BUSY = false := by
  rw [calSnapDone_snap hjob, State.onC, State.on_setB _ _ _ rfl]

theorem keeps_calSnapDone {s : State} {c : Carrier} (hjob : (s.conv.get c).job = .snap) :
    Keeps s (calSnapDone s c) [R.CAL_IMG_CTRL.BUSY.on c, R.CAL_GEN.GEN.on c, imgWord c 2, imgWord c 803] [] [.conv c] := by
  rw [calSnapDone_snap hjob]
  exact (((((Keeps.refl _ _ _ _).set _ (by simp)).set _ (by simp)).set _ (by simp)).setCvh _ (by simp)).set _ (by simp)

/-- Codes of REJ_CODE fit its four bits (R111). -/
theorem calRejCode_lt (s : State) (c : Carrier) : calRejCode s c < 16 := by
  unfold calRejCode
  dsimp only
  (repeat' split) <;> omega

/-- CAL_LOAD has taken an image (R111). -/
def loadAccepted (s : State) (c : Carrier) : State :=
  (s.setCvh c { s.cvh c with job := .load }).setBC c R.CAL_IMG_CTRL.BUSY true

/-- CAL_LOAD has rejected an image (R111). -/
def loadRejected (s : State) (c : Carrier) : State :=
  (s.setC c R.CAL_IMG_CTRL.REJ_CODE (calRejCode s c)).raiseC c E.CAL_IMPORT_REJ (calRejCode s c)

/-- CAL_LOAD while neither part runs and no image job is in progress judges the image by its checks (R111). -/
theorem calLoad_idle {s : State} {c : Carrier} (hrun : s.running (.conv c) = false)
    (hadc : s.onC c R.CONV_STAT.ADC_ACTIVE = false) (hdac : s.onC c R.CONV_STAT.DAC_ACTIVE = false)
    (hidle : s.onC c R.CAL_IMG_CTRL.BUSY = false) :
    calLoad s c = if calRejCode s c ≠ 0 then loadRejected s c else loadAccepted s c := by
  simp [calLoad, hrun, hadc, hdac, hidle, loadRejected, loadAccepted]

theorem keeps_loadAccepted (s : State) (c : Carrier) :
    Keeps s (loadAccepted s c) [R.CAL_IMG_CTRL.BUSY.on c] [] [.conv c] :=
  ((Keeps.refl _ _ _ _).setCvh _ (.head _)).set _ (.head _)

theorem keeps_loadRejected (s : State) (c : Carrier) :
    Keeps s (loadRejected s c) (evF ++ [R.CAL_IMG_CTRL.REJ_CODE.on c]) [] evP :=
  ((Keeps.refl _ _ _ _).set _ (by simp)).raise _ _ (List.subset_append_left _ _) (List.Subset.refl _)

theorem loadRejected_code (s : State) (c : Carrier) : (loadRejected s c).getC c R.CAL_IMG_CTRL.REJ_CODE = calRejCode s c := by
  rw [loadRejected, State.getC, State.raiseC, State.raise_get _ _ _ _ (by cases c <;> decide) (by cases c <;> decide), State.setC,
    State.get_set_same]
  exact Nat.mod_eq_of_lt (calRejCode_lt s c)

theorem loadRejected_ev (s : State) (c : Carrier) :
    (loadRejected s c).ev = (s.raiseC c E.CAL_IMPORT_REJ (calRejCode s c)).ev :=
  raise_ev_set _ _ (by cases c <;> decide) (by cases c <;> decide)

theorem calLoadDone_stat {s : State} {c : Carrier} (hjob : (s.conv.get c).job = .load) :
    (calLoadDone s c).onC c R.CONV_STAT.CAL_VALID = true ∧
      (calLoadDone s c).getC c R.CAL_GEN.GEN = s.get (imgWord c 2) % 2 ^ 32 ∧
      (calLoadDone s c).getC c R.CAL_IMG_CTRL.REJ_CODE = 0 ∧ (calLoadDone s c).onC c R.CAL_IMG_CTRL.BUSY = false ∧
      (calLoadDone s c).getC c R.CAL_STAT.ADC_FAIL = 0 ∧ (calLoadDone s c).getC c R.CAL_STAT.DAC_FAIL = 0 ∧
      (calLoadDone s c).getC c R.CAL_STAT.SPARE_FAULT = 0 := by
  unfold calLoadDone
  rw [if_neg (by simp [State.cvh, hjob])]
  dsimp only
  cases c <;>
    simp (disch := decide) only [State.onC, State.on, State.getC, State.setC, State.setBC, State.setB, State.get_set_ne,
      State.get_set_same, setCvh_get] <;>
    exact ⟨rfl, rfl, rfl, rfl, rfl, rfl, rfl⟩

/-- The sets are installed word by word (R109, R111). -/
theorem calLoadDone_sets {s : State} {c : Carrier} (hjob : (s.conv.get c).job = .load) {i : Nat} (hi : i < 795) :
    ((calLoadDone s c).conv.get c).sets.get i = setWord (s.onC c R.CAL_CTRL.MODEL) i (s.get (imgWord c (8 + i))) := by
  unfold calLoadDone
  rw [if_neg (by simp [State.cvh, hjob])]
  simp only [State.setC, State.setBC, State.set_conv, State.setB_conv, setCvh_cvh, State.cvh, ConvH.mapAdc]
  exact Map.get_foldl_set _ _ hi

theorem keeps_calLoadDone (s : State) (c : Carrier) : Keeps s (calLoadDone s c) [] [.conv c] [.conv c] := by
  have hwrite : ∀ {t : State} {f : Fld} (v : Nat), 0x40110000 ≤ f.addr → f.addr < 0x40120000 → f.lsb < 64 →
      Keeps s t [] [.conv c] [.conv c] → Keeps s (t.setC c f v) [] [.conv c] [.conv c] := fun v hlo hhi hlsb h =>
    h.setIn v (by simp) (inBlk_conv c hlo hhi hlsb)
  unfold calLoadDone
  split
  case isTrue => exact .refl _ _ _ _
  case isFalse =>
    have hconv := ((Keeps.refl s [] [.conv c] [.conv c]).setCvh (c := c) · (by simp))
    iterate 7 refine hwrite _ (by decide) (by decide) (by decide) ?_
    exact (hconv _).setCvh _ (by simp)

/-! Levels and bias outputs (R116, R128). -/

theorem adcLevel_get {s : State} {c : Carrier} {n rms clip : Nat} {f : Fld} (hrms : f.key ≠ ((R.ADC_LEVEL.RMS.ix n).on c).key)
    (hclip : f.key ≠ ((R.ADC_LEVEL.CLIP.ix n).on c).key) (hcur : f.key ≠ ((R.TIA_CODE.CUR.ix n).on c).key) :
    (adcLevel s c n rms clip).get f = s.get f := by
  unfold adcLevel
  dsimp only
  split
  case isTrue => rw [State.get_set_ne _ _ hclip, State.get_set_ne _ _ hrms]
  case isFalse => rw [State.get_set_ne _ _ hcur, State.get_set_ne _ _ hclip, State.get_set_ne _ _ hrms]

/-- One ADC's level writes in CONV's window alone. -/
theorem keeps_adcLevel (s : State) (c : Carrier) {n : Nat} (hn : n < 4) (rms clip : Nat) :
    Keeps s (adcLevel s c n rms clip) [] [.conv c] [] := by
  have hlevels : Keeps s ((s.set ((R.ADC_LEVEL.RMS.ix n).on c) (satTo 16 rms)).set ((R.ADC_LEVEL.CLIP.ix n).on c)
      (satTo 16 (clip / 16))) [] [.conv c] [] :=
    ((Keeps.refl _ _ _ _).setIn _ (.head _) (inBlk_conv_ix c hn (by decide) (by decide) (by decide))).setIn _ (.head _)
      (inBlk_conv_ix c hn (by decide) (by decide) (by decide))
  unfold adcLevel
  dsimp only
  split
  case isTrue => exact hlevels
  case isFalse => exact hlevels.setIn _ (.head _) (inBlk_conv_ix c hn (by decide) (by decide) (by decide))

/-- ADC 0 reads the level `l`: RMS in 1/256 code, and the samples at the limits in units of 16 (R128). -/
def LevelZero (c : Carrier) (l : Nat × Nat) (s : State) : Prop :=
  s.get ((R.ADC_LEVEL.RMS.ix 0).on c) = min (2 ^ 16 - 1) l.1 ∧
    s.get ((R.ADC_LEVEL.CLIP.ix 0).on c) = min (2 ^ 16 - 1) (l.2 / 16)

theorem levelZero_adcLevel_zero (s : State) (c : Carrier) (l : Nat × Nat) : LevelZero c l (adcLevel s c 0 l.1 l.2) := by
  rw [LevelZero, ← satTo_mod 16 l.1, ← satTo_mod 16 (l.2 / 16)]
  unfold adcLevel
  dsimp only
  split
  case isTrue =>
    cases c <;> simp (disch := decide) only [State.get_set_ne, State.get_set_same] <;> exact ⟨rfl, rfl⟩
  case isFalse =>
    cases c <;> simp (disch := decide) only [State.get_set_ne, State.get_set_same] <;> exact ⟨rfl, rfl⟩

/-- The level of a later ADC leaves ADC 0's. -/
theorem LevelZero.adcLevel {s : State} {c : Carrier} {l : Nat × Nat} (h : LevelZero c l s) {n : Nat} (hlo : 1 ≤ n) (hhi : n < 4)
    (rms clip : Nat) : LevelZero c l (adcLevel s c n rms clip) := by
  obtain ⟨hrms, hclip⟩ := h
  have hlater : ∀ {f : Fld}, ((f.ix 0).on c).key ≠ ((R.ADC_LEVEL.RMS.ix n).on c).key →
      ((f.ix 0).on c).key ≠ ((R.ADC_LEVEL.CLIP.ix n).on c).key → ((f.ix 0).on c).key ≠ ((R.TIA_CODE.CUR.ix n).on c).key →
      (Machine.adcLevel s c n rms clip).get ((f.ix 0).on c) = s.get ((f.ix 0).on c) := adcLevel_get
  simp only [Fld.key, Fld.on, Fld.ix] at hlater
  have hkeepRms := hlater (f := R.ADC_LEVEL.RMS) (by simp only [R.ADC_LEVEL.RMS]; omega)
    (by simp only [R.ADC_LEVEL.RMS, R.ADC_LEVEL.CLIP]; omega) (by simp only [R.ADC_LEVEL.RMS, R.TIA_CODE.CUR]; omega)
  have hkeepClip := hlater (f := R.ADC_LEVEL.CLIP) (by simp only [R.ADC_LEVEL.RMS, R.ADC_LEVEL.CLIP]; omega)
    (by simp only [R.ADC_LEVEL.CLIP]; omega) (by simp only [R.ADC_LEVEL.CLIP, R.TIA_CODE.CUR]; omega)
  exact ⟨hkeepRms.trans hrms, hkeepClip.trans hclip⟩

/-- What the steps with indices from `lo` to below `hi` keep, a fold over them keeps. -/
theorem foldIdx_induct {σ α : Type} {f : Nat → σ → α → σ} {P : σ → Prop} {lo hi : Nat}
    (hstep : ∀ i s a, lo ≤ i → i < hi → P s → P (f i s a)) (l : List α) {i : Nat} {s : σ} (hlo : lo ≤ i)
    (hhi : i + l.length ≤ hi) (h : P s) : P (foldIdx f i s l) := by
  induction l generalizing i s with
  | nil => exact h
  | cons a l ih =>
    rw [List.length_cons] at hhi
    exact ih (by omega) (by omega) (hstep i s a hlo (by omega) h)

theorem levelZero_adcLevelUpdate (s : State) (c : Carrier) (l : Nat × Nat) (ls : List (Nat × Nat)) :
    LevelZero c l (adcLevelUpdate s c (l :: ls)) := by
  rw [adcLevelUpdate, List.take_succ_cons, foldIdx]
  exact foldIdx_induct (P := LevelZero c l) (lo := 1) (hi := 4) (fun _ _ a hlo hhi h => h.adcLevel hlo hhi a.1 a.2) (ls.take 3)
    (Nat.le_refl 1) (by rw [List.length_take]; omega) (levelZero_adcLevel_zero s c l)

theorem keeps_adcLevelUpdate (s : State) (c : Carrier) (ls : List (Nat × Nat)) :
    Keeps s (adcLevelUpdate s c ls) [] [.conv c] [] :=
  foldIdx_induct (lo := 0) (hi := 4) (P := fun t => Keeps s t [] [.conv c] [])
    (fun _ t a _ hn h => h.trans (keeps_adcLevel t c hn a.1 a.2)) (ls.take 4) (Nat.le_refl 0)
    (by rw [List.length_take]; omega) (.refl _ _ _ _)

theorem biasStep_on {s : State} {c : Carrier} (hon : s.domOn (dacDom c) = true) :
    biasStep s c = (List.range 10).foldl (fun t n => t.set ((R.BIAS.CUR.ix n).on c)
      (stepTo (t.get ((R.BIAS.CUR.ix n).on c)) (t.get ((R.BIAS.CODE.ix n).on c)))) s := by
  rw [biasStep, if_neg (by simp [hon])]
  rfl

theorem biasStep_cur {s : State} {c : Carrier} (hon : s.domOn (dacDom c) = true) {n : Nat} (hn : n < 10) :
    (biasStep s c).get ((R.BIAS.CUR.ix n).on c) =
      stepTo (s.get ((R.BIAS.CUR.ix n).on c)) (s.get ((R.BIAS.CODE.ix n).on c)) % 2 ^ R.BIAS.CUR.width := by
  have hcur : ∀ i j, j ≠ i → ((R.BIAS.CUR.ix i).on c).key ≠ ((R.BIAS.CUR.ix j).on c).key := by
    intro i j hne
    simp only [Fld.key, Fld.on, Fld.ix, R.BIAS.CUR]
    omega
  have hcode : ∀ i j, ((R.BIAS.CODE.ix i).on c).key ≠ ((R.BIAS.CUR.ix j).on c).key := by
    intro i j
    simp only [Fld.key, Fld.on, Fld.ix, R.BIAS.CUR, R.BIAS.CODE]
    omega
  rw [biasStep_on hon]
  refine get_foldl_set
    (v := fun t n => stepTo (t.get ((R.BIAS.CUR.ix n).on c)) (t.get ((R.BIAS.CODE.ix n).on c))) hcur ?_ s hn
  intro t i j x hne
  rw [State.get_set_ne _ _ (hcur i j hne), State.get_set_ne _ _ (hcode i j)]

theorem keeps_biasStep {s : State} {c : Carrier} (hon : s.domOn (dacDom c) = true) :
    Keeps s (biasStep s c) ((List.range 10).map fun n => (R.BIAS.CUR.ix n).on c) [] [] := by
  rw [biasStep_on hon]
  exact (Keeps.refl _ _ _ _).foldl fun t n hn => (Keeps.refl _ _ _ _).set _ (List.mem_map_of_mem hn)

/-! O12. -/

/-- Settles O12, each command by what it writes and the frame of its writes. -/
theorem converterTrimsImageAndLevels : Obligations.ConverterTrimsImageAndLevels := by
  intro s c
  refine ⟨?ramp, ?interpolate, ?volatile, ?model, ?modelRunning, ?snap, ?snapDone, ?load, ?reject, ?loadDone, ?level, ?bias⟩
  case ramp =>
    intro i hsorted _ hi hfree _
    have hkeeps := keeps_rampInterval s c
    exact does_of_keeps rfl hkeeps (by simp) ⟨rampInterval_applied hsorted hi hfree, hkeeps⟩
  case interpolate =>
    intro hbanded
    have hkeeps := keeps_trimInterpolate s c
    exact does_of_keeps rfl hkeeps (by simp) ⟨trimInterpolate_target hbanded, hkeeps⟩
  case volatile =>
    intro hvolatile
    exact does_of_keeps rfl (keeps_trimInterpolate s c) (by simp) (trimInterpolate_volatile hvolatile)
  case model =>
    intro banded hopen hrun
    have hkeeps := keeps_modelChange_stopped (c := c) banded hrun
    exact does_of_keeps (exec_open rfl hopen) hkeeps (by simp) ⟨modelChange_stopped_model banded hrun, hkeeps⟩
  case modelRunning =>
    intro banded hopen hrun hne
    have heq := modelChange_running hrun hne
    obtain ⟨hdiscard, hraised, hkeeps⟩ := haltedDiscard_conv s c (R.CAL_CTRL.MODEL.on c).addr
    exact does_of_keeps ((exec_open rfl hopen).trans (congrArg (done s) heq)) hkeeps (by simp)
      ⟨haltedDiscard_model s c _, hdiscard, hraised, hkeeps⟩
  case snap =>
    intro hopen hidle
    have hkeeps := keeps_calSnap hidle
    exact does_of_keeps (exec_open rfl hopen) hkeeps (by simp) ⟨calSnap_busy hidle, fun w hw => calSnap_word hidle hw, hkeeps⟩
  case snapDone =>
    intro hjob
    have hkeeps := keeps_calSnapDone hjob
    exact does_of_keeps rfl hkeeps (by simp)
      ⟨calSnapDone_busy hjob, calSnapDone_gen hjob, calSnapDone_generation hjob, calSnapDone_crc hjob, hkeeps⟩
  case load =>
    intro hopen hrun hadc hdac hidle hcode
    have heq := (calLoad_idle hrun hadc hdac hidle).trans (if_neg fun hne => hne hcode)
    have hkeeps := keeps_loadAccepted s c
    exact does_of_keeps ((exec_open rfl hopen).trans (congrArg (done s) heq)) hkeeps (by simp)
      ⟨State.on_setB _ _ _ rfl, congrArg ConvH.job (setCvh_cvh _ _ _), hkeeps⟩
  case reject =>
    intro hopen hrun hadc hdac hidle hcode
    have heq := (calLoad_idle hrun hadc hdac hidle).trans (if_pos hcode)
    have hkeeps := keeps_loadRejected s c
    exact does_of_keeps ((exec_open rfl hopen).trans (congrArg (done s) heq)) hkeeps (by simp)
      ⟨loadRejected_code s c, loadRejected_ev s c, hkeeps⟩
  case loadDone =>
    intro hjob
    obtain ⟨hvalid, hgen, hrej, hbusy, hadc, hdac, hspare⟩ := calLoadDone_stat hjob
    have hkeeps := keeps_calLoadDone s c
    exact does_of_keeps rfl hkeeps (by simp)
      ⟨hvalid, hgen, hrej, hbusy, hadc, hdac, hspare, fun i hi => calLoadDone_sets hjob hi, hkeeps⟩
  case level =>
    intro l ls
    obtain ⟨hrms, hclip⟩ := levelZero_adcLevelUpdate s c l ls
    have hkeeps := keeps_adcLevelUpdate s c (l :: ls)
    exact does_of_keeps rfl hkeeps (by simp) ⟨hrms, hclip, hkeeps⟩
  case bias =>
    intro hon
    have hkeeps := keeps_biasStep hon
    exact does_of_keeps rfl hkeeps (by simp) ⟨fun n hn => biasStep_cur hon hn, hkeeps⟩

/-! O11. -/

/-- A background pass that begins at 20 °C while CONV of Carrier A runs in STANDBY: the first step of every ADC is in SHADOW_IN,
and no slice is off line yet (R98). Other registers read 0. -/
def passBegun : State :=
  let s : State := { State.reset with regs := [] }
  let s := (s.set R.SYS_STATE.STATE stSTANDBY).set R.THERM_TEMP.TEMP 320
  passStart ((s.set (runF (.conv .A)) 1).set (runningF (.conv .A)) 1) .A

theorem passBegun_busy :
    passBegun.onC .A R.CONV_STAT.BG_BUSY = true ∧ (passBegun.conv.get .A).adc.any offLine = false := by decide +kernel

/-- T_LAST is still that of the last completed pass (R104). -/
theorem passBegun_tLast : (passBegun.conv.get .A).tLast ≠ (passBegun.conv.get .A).tStart := by decide +kernel

/-- A pass with a step in SHADOW_IN is not at its end (R98, R104). -/
theorem passBegun_passEnd : bgPassEnd passBegun .A [] = passBegun := by
  have hsteps : (passBegun.cvh .A).adc.any (fun a => a.st != .idle && a.st != .parked) = true := by decide +kernel
  rw [bgPassEnd, hsteps]
  simp

/-- Refutes O11: a pass is complete once every step has ended (R104), and a step in SHADOW_IN has not, although its slice is still
in its slot (R98). BG_PASS_END leaves T_LAST as it was where no slice is off line but steps are in SHADOW_IN. -/
theorem not_converterRunAndCalibration : ¬ Obligations.ConverterRunAndCalibration := by
  intro h
  obtain ⟨-, -, -, -, -, -, -, -, hpass, -⟩ := h passBegun .A
  obtain ⟨hbusy, honline⟩ := passBegun_busy
  obtain ⟨htLast, -⟩ := (does_done (t := bgPassEnd passBegun .A []) rfl).1 (hpass [] hbusy honline)
  rw [passBegun_passEnd] at htLast
  exact passBegun_tLast htLast

end Sys2Proof.Machine
end

section
/-! PROOFS of the statements about the receive path (04_receive_dsp.md): the steps of acquisition (O13), starts, windows, frames, the
seed and metrics of RXDSP (O14). -/

namespace Sys2Proof.Spec

open Sys2Proof Sys2Proof.Machine

section
variable {s t : State} {fs fs' : List Fld} {bs bs' : List Blk} {ps ps' : List Part}

/-- A register field that the frame does not list reads as before. -/
theorem Keeps.get (h : Keeps s t fs bs ps) {f : Fld} (hf : f.key ∉ fs.map Fld.key) (hb : ∀ b ∈ bs, inBlk b f.key = false) :
    t.get f = s.get f := h.1 f.key hf hb

/-- A frame may list a window in place of fields that lie in it. -/
theorem Keeps.widen (h : Keeps s t fs bs ps) (hfs : ∀ f ∈ fs, f ∈ fs' ∨ ∃ b ∈ bs', inBlk b f.key = true) (hbs : bs ⊆ bs')
    (hps : ps ⊆ ps') : Keeps s t fs' bs' ps' := by
  refine ⟨fun k hk hb => h.1 k (fun hmem => ?_) fun b hmem => hb b (hbs hmem), fun p hp => h.2 p fun hmem => hp (hps hmem)⟩
  obtain ⟨f, hf, rfl⟩ := List.mem_map.1 hmem
  obtain hlisted | ⟨b, hb', hin⟩ := hfs f hf
  · exact hk (List.mem_map_of_mem hlisted)
  · exact absurd hin (by simp [hb b hb'])

theorem Keeps.setRxh (h : Keeps s t fs bs ps) {c : Carrier} (rx : RxH) (hc : .rx c ∈ ps) : Keeps s (t.setRxh c rx) fs bs ps := by
  refine h.trans ⟨fun _ _ _ => rfl, fun p hp => ?_⟩
  cases p with
  | rx d => exact AB.get_set_ne _ _ fun heq => hp (heq ▸ hc)
  | wake => exact ⟨rfl, rfl⟩
  | _ => rfl

theorem Keeps.setDawnTracked (h : Keeps s t fs bs ps) {c : Carrier} (hc : .dawn c ∈ ps) :
    Keeps s (t.setDawnTracked c) fs bs ps := by
  refine h.trans ⟨fun _ _ _ => rfl, fun p hp => ?_⟩
  cases p with
  | dawn d => exact AB.get_set_ne _ _ fun heq => hp (heq ▸ hc)
  | wake => exact ⟨rfl, rfl⟩
  | _ => rfl

end

end Sys2Proof.Spec

namespace Sys2Proof.Machine

open Sys2Proof Sys2Proof.Spec

/-! The state of RXDSP beside its registers. -/

@[simp] theorem setRxh_get (s : State) (c : Carrier) (h : RxH) (f : Fld) : (s.setRxh c h).get f = s.get f := rfl

@[simp] theorem setRxh_rxh (s : State) (c : Carrier) (h : RxH) : (s.setRxh c h).rx.get c = h := AB.get_set_same _ _ _

@[simp] theorem setRxh_setRxh (s : State) (c : Carrier) (h h' : RxH) : (s.setRxh c h).setRxh c h' = s.setRxh c h' := by
  cases c <;> rfl

/-- The registers from RXDSP's base, written through a carrier's field, lie in that carrier's window (R22). -/
theorem inBlk_rxdsp {f : Fld} (c : Carrier) (hlo : 0x40120000 ≤ f.addr) (hhi : f.addr < 0x40130000) (hlsb : f.lsb < 64) :
    inBlk (.rxdsp c) (f.on c).key = true := by
  refine decide_eq_true ?_
  simp only [blkLo, blkHi, blkBase, Fld.key, Fld.on]
  omega

/-- With the clock of the PLL the traffic of RXDSP comes about (R415, R427). -/
theorem exec_traffic {i : Instr} {s t : State} {c : Carrier} (hexec : exec i s = done s (traffic s (rxMux c) t))
    (hclock : s.clockReady (.rxdsp c) = true) : exec i s = done s t := by
  have hmux : (rxMux c).all s.muxOnPll = true := hclock
  rw [hexec, traffic, if_pos hmux]

/-! A change of acquisition state (R155, R162). -/

/-- The fields that show it. -/
abbrev acqF (c : Carrier) : List Fld := [R.RXDSP_STAT.ACQ_STATE.on c, R.RXDSP_STAT.LOCKED.on c]

theorem keeps_setAcq (s : State) (c : Carrier) (st : Nat) : Keeps s (setAcq s c st) (acqF c) [] [.rx c] :=
  (((Keeps.refl _ _ _ _).set _ (.head _)).set _ (.tail _ (.head _))).setRxh _ (.head _)

/-- The fields of the state lie in RXDSP's window. -/
theorem keeps_window_of_acqF {s t : State} {c : Carrier} {ps : List Part} (h : Keeps s t (acqF c) [] ps) :
    Keeps s t [] [.rxdsp c] ps := by
  refine h.widen (fun f hf => .inr ⟨_, .head _, ?_⟩) (List.nil_subset _) (List.Subset.refl _)
  obtain rfl | rfl : f = R.RXDSP_STAT.ACQ_STATE.on c ∨ f = R.RXDSP_STAT.LOCKED.on c := by simpa using hf
  · exact inBlk_rxdsp c (by decide) (by decide) (by decide)
  · exact inBlk_rxdsp c (by decide) (by decide) (by decide)

theorem setAcq_acqState (s : State) (c : Carrier) {st : Nat} (hst : st < 16) : acqState (setAcq s c st) c = st := by
  rw [acqState, State.getC, setAcq, setRxh_get, State.setBC, State.setB, State.get_set_ne _ _ (by cases c <;> decide), State.setC,
    State.get_set_same]
  exact Nat.mod_eq_of_lt hst

theorem setAcq_locked (s : State) (c : Carrier) (st : Nat) : (setAcq s c st).onC c R.RXDSP_STAT.LOCKED = (st == aTRACK) :=
  State.on_setB _ _ _ rfl

@[simp] theorem setAcq_rx (s : State) (c : Carrier) (st : Nat) :
    (setAcq s c st).rx.get c = { s.rx.get c with enteredAt := s.time.aon, stFrames := 0, oof := 0 } :=
  setRxh_rxh _ _ _

/-- SEEDED or FREQ_COARSE, as the seed allows (R149, R155). -/
theorem acqSeedOrFreq_acqState (s : State) (c : Carrier) :
    acqState (acqSeedOrFreq s c) c = if seedUsable s c = true then aSEEDED else aFREQ := by
  unfold acqSeedOrFreq
  split
  case isTrue => exact setAcq_acqState _ _ (by decide)
  case isFalse => exact setAcq_acqState _ _ (by decide)

theorem acqSeedOrFreq_locked (s : State) (c : Carrier) : (acqSeedOrFreq s c).onC c R.RXDSP_STAT.LOCKED = false := by
  unfold acqSeedOrFreq
  split
  case isTrue => exact setAcq_locked _ _ _
  case isFalse => exact setAcq_locked _ _ _

theorem keeps_acqSeedOrFreq (s : State) (c : Carrier) : Keeps s (acqSeedOrFreq s c) (acqF c) [] [.rx c] := by
  unfold acqSeedOrFreq
  split
  case isTrue => exact keeps_setAcq _ _ _
  case isFalse => exact ((Keeps.refl _ _ _ _).setRxh _ (.head _)).trans (keeps_setAcq _ _ _)

/-! The alignment of both outputs meets acquisition in FRAME, RESUME and SEEDED alone (R155). -/

theorem acqFrameLock_of_acqState {s : State} {c : Carrier} (hframe : acqState s c ≠ aFRAME) (hresume : acqState s c ≠ aRESUME)
    (hseeded : acqState s c ≠ aSEEDED) : acqFrameLock s c = s := by
  simp [acqFrameLock, acqInFrame, hframe, hresume, hseeded]

theorem acqFrameLock_setAcq (s : State) (c : Carrier) {st : Nat} (hst : st < 16) (hframe : st ≠ aFRAME) (hresume : st ≠ aRESUME)
    (hseeded : st ≠ aSEEDED) : acqFrameLock (setAcq s c st) c = setAcq s c st := by
  apply acqFrameLock_of_acqState <;> rwa [setAcq_acqState s c hst]

/-- A step that leaves FRAMER as it is finds the aligners as they were: not in frame, they change nothing. -/
theorem acqFrameLock_of_keeps {s t : State} {c : Carrier} {ps : List Part} (h : Keeps s t (evF ++ acqF c) [] ps)
    (hout : s.running (.framer c) = false ∨ lineInSync s c = false) : acqFrameLock t c = t := by
  have hrun : t.get (runningF (.framer c)) = s.get (runningF (.framer c)) := h.get (by cases c <;> decide) (by simp)
  have hx : t.get (R.FRM_STAT.LF_X.on c) = s.get (R.FRM_STAT.LF_X.on c) := h.get (by cases c <;> decide) (by simp)
  have hy : t.get (R.FRM_STAT.LF_Y.on c) = s.get (R.FRM_STAT.LF_Y.on c) := h.get (by cases c <;> decide) (by simp)
  have hrunning : t.running (.framer c) = s.running (.framer c) := congrArg (· != 0) hrun
  have hsync : lineInSync t c = lineInSync s c := by simp [lineInSync, lfState, State.getC, hx, hy]
  obtain hstopped | hhunt := hout
  · simp [acqFrameLock, hrunning, hstopped]
  · simp [acqFrameLock, hsync, hhunt]

/-! Steps on a condition of the signal (R139, R150, R155). -/

/-- The frequency loop is loaded; FIXED applies CD_PSNM and skips the search. -/
theorem acqFreqReady_coarse {s : State} {c : Carrier} (fo : Int) (hst : acqState s c = aFREQ) :
    ∃ h : RxH, acqFreqReady s c fo = setAcq (s.setRxh c h) c (if s.getC c R.RX_CD.CD_MODE = 2 then aCLOCK else aCD) ∧
      h.fo = within (-14000) 14000 fo ∧
      (s.getC c R.RX_CD.CD_MODE = 2 → h.cd = dawnCd s c (toSigned 20 (s.getC c R.RX_CD.CD_PSNM))) := by
  by_cases hfixed : s.getC c R.RX_CD.CD_MODE = 2
  case pos =>
    refine ⟨{ s.rx.get c with
      fo := within (-14000) 14000 fo, cd := dawnCd s c (toSigned 20 (s.getC c R.RX_CD.CD_PSNM)) }, ?_, rfl, fun _ => rfl⟩
    rw [acqFreqReady, if_neg (not_not_intro hst), if_pos hfixed]
    refine (if_pos hfixed).trans ?_
    rw [setRxh_setRxh, State.rxh, State.rxh, setRxh_rxh]
    rfl
  case neg =>
    refine ⟨{ s.rx.get c with fo := within (-14000) 14000 fo, cdLo := (cdWindow s c).1, cdHi := (cdWindow s c).2 }, ?_, rfl,
      fun h => absurd h hfixed⟩
    rw [acqFreqReady, if_neg (not_not_intro hst), if_neg hfixed]
    refine (if_neg hfixed).trans ?_
    dsimp only
    rw [setRxh_setRxh, State.rxh, State.rxh, setRxh_rxh]
    rfl

/-- Neither of the two states that follow meets the aligners. -/
theorem acqFreqReady_next (fixed : Prop) [Decidable fixed] :
    let st := if fixed then aCLOCK else aCD
    st < 16 ∧ st ≠ aFRAME ∧ st ≠ aRESUME ∧ st ≠ aSEEDED := by
  by_cases h : fixed
  case pos =>
    rw [if_pos h]
    decide
  case neg =>
    rw [if_neg h]
    decide

/-- The dispersion found is loaded. -/
theorem acqCdReady_search {s : State} {c : Carrier} (cd : Int) (hst : acqState s c = aCD) :
    acqCdReady s c cd =
      setAcq (s.setRxh c { s.rx.get c with cd := dawnCd s c (within (s.rx.get c).cdLo (s.rx.get c).cdHi cd) }) c aCLOCK := by
  rw [acqCdReady, if_neg (not_not_intro hst)]
  rfl

theorem acqMove_from {s : State} {c : Carrier} {frm : Nat} (dst : Nat) (hst : acqState s c = frm) :
    acqMove s c frm dst = setAcq s c dst := if_neg (not_not_intro hst)

theorem acqPilotStable_due {s : State} {c : Carrier} (hst : acqState s c = aPILOT) (hframes : 16 ≤ (s.rx.get c).stFrames) :
    acqPilotStable s c = setAcq s c aDD := by
  rw [acqPilotStable, State.rxh, if_neg (Nat.not_lt.2 hframes), acqMove_from _ hst]

/-! Events beside changes in RXDSP's window (R496). -/

theorem time_of_keeps {s t : State} {fs : List Fld} {bs : List Blk} {ps : List Part} (h : Keeps s t fs bs ps) (htime : .time ∉ ps)
    (hmarks : .marks ∉ ps) : t.time = s.time := by
  have hrest : { t.time with marks := s.time.marks } = s.time := h.2 .time htime
  have hsame : t.time.marks = s.time.marks := h.2 .marks hmarks
  rwa [← hsame] at hrest

/-- An event that changes of RXDSP alone precede enters the queue as without them. -/
theorem raiseC_ev_of_keeps {s t : State} {c : Carrier} (h : Keeps s t [] [.rxdsp c] [.rx c]) {id : Nat} (data : Nat)
    (hid : id < 0x1000) : (t.raiseC c id data).ev = (s.raiseC c id data).ev := by
  have hmask : ∀ i < 0x2000, t.masked i = s.masked i := by
    intro i hi
    refine congrArg (bitOf · _) (h.get (by simp) fun b hb => ?_)
    obtain rfl := List.mem_singleton.1 hb
    refine decide_eq_false ?_
    simp only [blkLo, blkHi, blkBase, Fld.key, Fld.ix, R.EV_MASK.MASK]
    omega
  have hnum : c.num ≤ 1 := by cases c <;> decide
  exact raise_ev_congr data (h.2 .ev (by simp)) (time_of_keeps h (by simp) (by simp)) (hmask _ (by omega)) (hmask _ (by decide))

/-- The fields that show the state of acquisition and record its attempts (R162, R174). -/
def acqShown : List Fld :=
  [R.RXDSP_STAT.ACQ_STATE, R.RXDSP_STAT.LOCKED, R.RX_ACQ_STAT.ACQ_TIME_US, R.RX_ACQ_STAT.LAST_PATH, R.RX_ACQ_STAT.FAIL_STATE,
    R.RX_ACQ_STAT.ATTEMPTS]

/-- Events leave them. -/
theorem raiseC_acqShown (s : State) (c : Carrier) (id data : Nat) {f : Fld} (hf : f ∈ acqShown) :
    (s.raiseC c id data).getC c f = s.getC c f := by
  have hkeys : ∀ f ∈ acqShown, (f.on c).key ≠ R.EV_STAT.HWM.key ∧ (f.on c).key ≠ R.EV_STAT.LOST_TOTAL.key := by
    cases c <;> decide
  obtain ⟨hhwm, hlost⟩ := hkeys f hf
  exact State.raise_get _ _ _ _ hhwm hlost

theorem keeps_setAcq_window (s : State) (c : Carrier) (st : Nat) : Keeps s (setAcq s c st) [] [.rxdsp c] [.rx c] :=
  keeps_window_of_acqF (keeps_setAcq s c st)

/-! Entry to TRACK (R148, R155, R174). -/

theorem tapWords_lt : ∀ w ∈ tapWords, w < 0x210 := by decide +kernel

theorem inBlk_seedF (c : Carrier) {w : Nat} (hw : w < 0x213) : inBlk (.rxdsp c) (seedF c w).key = true :=
  inBlk_rxdsp c (by simp only [wordAt]; omega) (by simp only [wordAt]; omega) (by simp [wordAt])

/-- The registers of RXDSP stand below its windows for the seed and the snapshot. -/
theorem key_ne_seedF (c : Carrier) (w : Nat) {f : Fld} (haddr : f.addr < 0x40125000) (hlsb : f.lsb < 64) :
    (f.on c).key ≠ (seedF c w).key := by
  simp only [seedF, wordAt, Fld.on, Fld.key]
  omega

theorem writeTaps_get (s : State) (c : Carrier) {g : Nat → Fld} {f : Fld} (hne : ∀ w, f.key ≠ (g w).key) :
    (writeTaps s c g).get f = s.get f := by
  unfold writeTaps
  dsimp only
  rw [State.get_set_ne _ _ (hne _), State.get_set_ne _ _ (hne _), State.get_set_ne _ _ (hne _)]
  exact List.foldlRecOn (motive := fun t : State => t.get f = s.get f) tapWords _ rfl fun t ht w _ =>
    (State.get_set_ne _ _ (hne w)).trans ht

theorem keeps_writeTaps (s : State) (c : Carrier) : Keeps s (writeTaps s c (seedF c)) [] [.rxdsp c] [] := by
  have hword : ∀ {t : State} {w : Nat} (v : Nat), w < 0x213 → Keeps s t [] [.rxdsp c] [] →
      Keeps s (t.set (seedF c w) v) [] [.rxdsp c] [] := fun v hw h => h.setIn v (.head _) (inBlk_seedF c hw)
  refine hword _ (by decide) (hword _ (by decide) (hword _ (by decide) ?_))
  refine (Keeps.refl _ _ _ _).foldl fun t w hw => (Keeps.refl _ _ _ _).setIn _ (.head _) (inBlk_seedF c ?_)
  have := tapWords_lt w hw
  omega

/-- An automatic capture leaves them too (R148). -/
theorem autoCapture_acqShown (s : State) (c : Carrier) {f : Fld} (hf : f ∈ acqShown) : (autoCapture s c).getC c f = s.getC c f := by
  have hkeys : ∀ f ∈ acqShown, f.addr < 0x40125000 ∧ f.lsb < 64 ∧ (f.on c).key ≠ (R.RXDSP_STAT.SEED_VALID.on c).key := by
    cases c <;> decide
  obtain ⟨haddr, hlsb, hvalid⟩ := hkeys f hf
  unfold autoCapture captureSeed
  split
  case isTrue =>
    rw [State.getC, setRxh_get, State.setBC, State.setB, State.get_set_ne _ _ hvalid,
      writeTaps_get s c fun w => key_ne_seedF c w haddr hlsb]
    rfl
  case isFalse => rfl

theorem keeps_autoCapture (s : State) (c : Carrier) : Keeps s (autoCapture s c) [] [.rxdsp c] [.rx c] := by
  unfold autoCapture
  split
  case isTrue =>
    have htaps := (keeps_writeTaps s c).mono (List.Subset.refl _) (List.Subset.refl _) (List.nil_subset [.rx c])
    exact (htaps.setIn _ (.head _) (inBlk_rxdsp c (by decide) (by decide) (by decide))).setRxh _ (.head _)
  case isFalse => exact (Keeps.refl _ _ _ _).setRxh _ (.head _)

/-- ACQ_TIME_US of an acquisition that is complete now: whole microseconds (R174; log entry 30). -/
def acqTimeUs (s : State) (c : Carrier) : Nat := satTo 16 (nsSince s (s.rxh c).tExit / 1000)

/-- TRACK with the registers that record the acquisition. -/
def trackRecorded (s : State) (c : Carrier) (path : Nat) : State :=
  setAcq ((s.setC c R.RX_ACQ_STAT.ACQ_TIME_US (acqTimeUs s c)).setC c R.RX_ACQ_STAT.LAST_PATH path) c aTRACK

/-- The same with the event raised and noted, before the seed is captured. -/
def trackEntered (s : State) (c : Carrier) (path : Nat) : State :=
  let t := ((trackRecorded s c path).raiseC c E.RX_ACQ_DONE (acqTimeUs s c)).setDawnTracked c
  t.setRxh c { t.rxh c with seedFrames := 0, uncorrSeen := false }

theorem acqTrack_eq (s : State) (c : Carrier) (path : Nat) :
    acqTrack s c path = trackEntered s c path ∨ acqTrack s c path = autoCapture (trackEntered s c path) c := by
  unfold acqTrack
  dsimp only
  split
  case isTrue => exact .inr rfl
  case isFalse => exact .inl rfl

/-- Neither the event nor the capture changes what TRACK records. -/
theorem acqTrack_acqShown (s : State) (c : Carrier) (path : Nat) {f : Fld} (hf : f ∈ acqShown) :
    (acqTrack s c path).getC c f = (trackRecorded s c path).getC c f := by
  have hentered : (trackEntered s c path).getC c f = (trackRecorded s c path).getC c f := raiseC_acqShown _ _ _ _ hf
  obtain heq | heq := acqTrack_eq s c path
  · rw [heq, hentered]
  · rw [heq, autoCapture_acqShown _ c hf, hentered]

theorem keeps_trackRecorded (s : State) (c : Carrier) (path : Nat) :
    Keeps s (trackRecorded s c path) [] [.rxdsp c] [.rx c] :=
  (((Keeps.refl _ _ _ _).setIn _ (.head _) (inBlk_rxdsp c (by decide) (by decide) (by decide))).setIn _ (.head _)
    (inBlk_rxdsp c (by decide) (by decide) (by decide))).trans (keeps_setAcq_window _ _ _)

theorem keeps_trackEntered (s : State) (c : Carrier) (path : Nat) :
    Keeps s (trackEntered s c path) evF [.rxdsp c] (evP ++ [.rx c, .dawn c]) :=
  (((((keeps_trackRecorded s c path).mono (List.nil_subset _) (List.Subset.refl _) (by simp)).raise _ _ (List.Subset.refl _)
    (List.subset_append_left _ _)).setDawnTracked (by simp)).setRxh _ (by simp))

theorem keeps_acqTrack (s : State) (c : Carrier) (path : Nat) :
    Keeps s (acqTrack s c path) evF [.rxdsp c] (evP ++ [.rx c, .dawn c]) := by
  obtain heq | heq := acqTrack_eq s c path
  · exact heq ▸ keeps_trackEntered s c path
  · exact heq ▸ (keeps_trackEntered s c path).trans
      ((keeps_autoCapture _ c).mono (List.nil_subset _) (List.Subset.refl _) (by simp))

theorem acqTrack_acqState (s : State) (c : Carrier) (path : Nat) : acqState (acqTrack s c path) c = aTRACK :=
  (acqTrack_acqShown s c path (by simp [acqShown])).trans (setAcq_acqState _ _ (by decide))

theorem acqTrack_locked (s : State) (c : Carrier) (path : Nat) : (acqTrack s c path).onC c R.RXDSP_STAT.LOCKED = true :=
  (congrArg (· != 0) (acqTrack_acqShown s c path (f := R.RXDSP_STAT.LOCKED) (by simp [acqShown]))).trans (setAcq_locked _ _ _)

theorem acqTrack_time (s : State) (c : Carrier) (path : Nat) :
    (acqTrack s c path).getC c R.RX_ACQ_STAT.ACQ_TIME_US = min (2 ^ 16 - 1) (nsSince s (s.rx.get c).tExit / 1000) := by
  rw [acqTrack_acqShown s c path (by simp [acqShown]), State.getC, trackRecorded,
    (keeps_setAcq _ _ _).get (by cases c <;> decide) (by simp), State.setC, State.setC,
    State.get_set_ne _ _ (by cases c <;> decide), State.get_set_same]
  exact satTo_mod 16 _

theorem acqTrack_path (s : State) (c : Carrier) (path : Nat) :
    (acqTrack s c path).getC c R.RX_ACQ_STAT.LAST_PATH = path % 2 ^ R.RX_ACQ_STAT.LAST_PATH.width := by
  rw [acqTrack_acqShown s c path (by simp [acqShown]), State.getC, trackRecorded,
    (keeps_setAcq _ _ _).get (by cases c <;> decide) (by simp), State.setC, State.get_set_same]
  rfl

theorem acqTrack_ev (s : State) (c : Carrier) (path : Nat) :
    (acqTrack s c path).ev = (s.raiseC c E.RX_ACQ_DONE (min (2 ^ 16 - 1) (nsSince s (s.rx.get c).tExit / 1000))).ev := by
  have hentered : (trackEntered s c path).ev = (s.raiseC c E.RX_ACQ_DONE (acqTimeUs s c)).ev :=
    raiseC_ev_of_keeps (keeps_trackRecorded s c path) _ (by decide)
  have htime : acqTimeUs s c = min (2 ^ 16 - 1) (nsSince s (s.rx.get c).tExit / 1000) := Nat.min_comm _ _
  rw [← htime, ← hentered]
  obtain heq | heq := acqTrack_eq s c path
  · rw [heq]
  · rw [heq]
    exact (keeps_autoCapture _ c).2 .ev (by simp)

theorem acqDdStable_due {s : State} {c : Carrier} (hst : acqState s c = aDD) (hframes : 64 ≤ (s.rx.get c).stFrames) :
    acqDdStable s c = acqTrack s c (s.rx.get c).path := by
  rw [acqDdStable, State.rxh, if_neg (not_or.2 ⟨not_not_intro hst, Nat.not_lt.2 hframes⟩)]

/-! Loss of lock and the timers (R155). -/

/-- TRACK left for SEEDED or FREQ_COARSE, with the timer started. -/
def lockLeft (s : State) (c : Carrier) : State := acqSeedOrFreq (s.setRxh c { s.rx.get c with timerAt := s.time.aon }) c

theorem keeps_lockLeft (s : State) (c : Carrier) : Keeps s (lockLeft s c) (acqF c) [] [.rx c] :=
  ((Keeps.refl _ _ _ _).setRxh _ (.head _)).trans (keeps_acqSeedOrFreq _ _)

theorem acqLockLost_due {s : State} {c : Carrier} (hst : acqState s c = aTRACK) (hoof : 256 ≤ (s.rx.get c).oof) :
    acqLockLost s c = (lockLeft s c).raiseC c E.RX_LOCK_LOST (s.rx.get c).lastFcount := by
  rw [acqLockLost, State.rxh, if_neg (not_or.2 ⟨not_not_intro hst, Nat.not_lt.2 hoof⟩), lockLeft]

theorem keeps_acqLockLost {s : State} {c : Carrier} (hst : acqState s c = aTRACK) (hoof : 256 ≤ (s.rx.get c).oof) :
    Keeps s (acqLockLost s c) (evF ++ acqF c) [] (evP ++ [.rx c]) := by
  rw [acqLockLost_due hst hoof]
  exact ((keeps_lockLeft s c).mono (List.subset_append_right _ _) (List.Subset.refl _) (List.subset_append_right _ _)).raise _ _
    (List.subset_append_left _ _) (List.subset_append_left _ _)

theorem resumeTimeout_due {s : State} {c : Carrier} (hst : acqState s c = aRESUME)
    (htime : 1000000 ≤ nsSince s (s.rx.get c).enteredAt) : resumeTimeout s c = acqSeedOrFreq s c := by
  rw [resumeTimeout, State.rxh, if_neg (not_or.2 ⟨not_not_intro hst, Nat.not_lt.2 htime⟩)]

theorem seededTimeout_due {s : State} {c : Carrier} (hst : acqState s c = aSEEDED)
    (htime : 2000000 ≤ nsSince s (s.rx.get c).enteredAt) (hdawn : dawnGoverned s c = false) :
    seededTimeout s c = setAcq (rxInitFfe (s.setRxh c { s.rx.get c with path := 1 }) c) c aFREQ := by
  have hown : ¬(!rxOwnAcq s c) = true := by rw [rxOwnAcq, hdawn]; decide
  rw [seededTimeout, State.rxh, if_neg (not_or.2 ⟨not_not_intro hst, not_or.2 ⟨hown, Nat.not_lt.2 htime⟩⟩)]

theorem keeps_rxInitFfe (s : State) (c : Carrier) : Keeps s (rxInitFfe s c) [] [] [.rx c] :=
  (Keeps.refl _ _ _ _).setRxh _ (.head _)

/-- A failed attempt on record, and FREQ_COARSE for the next one (R174). -/
def attemptFailed (s : State) (c : Carrier) : State :=
  let t := (s.setC c R.RX_ACQ_STAT.FAIL_STATE (acqState s c)).bumpC c R.RX_ACQ_STAT.ATTEMPTS
  setAcq (t.setRxh c { s.rx.get c with path := 1, timerAt := s.time.aon }) c aFREQ

theorem acqTimeout_due {s : State} {c : Carrier}
    (hst : (2 ≤ acqState s c ∧ acqState s c ≤ 8) ∨ acqState s c = aRESUME ∨ acqState s c = aSEEDED)
    (htime : 1000000 * max 1 (s.getC c R.RX_ACQ_CTRL.ACQ_TIMEOUT) ≤ nsSince s (s.rx.get c).timerAt) :
    acqTimeout s c = (attemptFailed s c).raiseC c E.RX_ACQ_FAIL (acqState s c) := by
  rw [acqTimeout, State.rxh, if_pos ⟨hst, htime⟩]
  rfl

/-- The fields that a failed attempt changes. -/
abbrev failF (c : Carrier) : List Fld := acqF c ++ [R.RX_ACQ_STAT.FAIL_STATE.on c, R.RX_ACQ_STAT.ATTEMPTS.on c]

theorem keeps_attemptFailed (s : State) (c : Carrier) : Keeps s (attemptFailed s c) (failF c) [] [.rx c] :=
  ((((Keeps.refl _ _ _ _).set _ (by simp)).set _ (by simp)).setRxh _ (.head _)).trans
    ((keeps_setAcq _ _ _).mono (List.subset_append_left _ _) (List.Subset.refl _) (List.Subset.refl _))

theorem keeps_attemptFailed_window (s : State) (c : Carrier) : Keeps s (attemptFailed s c) [] [.rxdsp c] [.rx c] :=
  ((((Keeps.refl _ _ _ _).setIn _ (.head _) (inBlk_rxdsp c (by decide) (by decide) (by decide))).setIn _ (.head _)
    (inBlk_rxdsp c (by decide) (by decide) (by decide))).setRxh _ (.head _)).trans (keeps_setAcq_window _ _ _)

theorem attemptFailed_failState {s : State} {c : Carrier} (hst : acqState s c < 16) :
    (attemptFailed s c).getC c R.RX_ACQ_STAT.FAIL_STATE = acqState s c := by
  rw [State.getC, attemptFailed, (keeps_setAcq _ _ _).get (by cases c <;> decide) (by simp), setRxh_get, State.bumpC, State.bump,
    State.addSat, State.get_set_ne _ _ (by cases c <;> decide), State.setC, State.get_set_same]
  exact Nat.mod_eq_of_lt hst

theorem attemptFailed_attempts (s : State) (c : Carrier) : (attemptFailed s c).getC c R.RX_ACQ_STAT.ATTEMPTS =
    satTo R.RX_ACQ_STAT.ATTEMPTS.width (s.getC c R.RX_ACQ_STAT.ATTEMPTS + 1) := by
  rw [State.getC, attemptFailed, (keeps_setAcq _ _ _).get (by cases c <;> decide) (by simp), setRxh_get, State.bumpC, State.bump,
    State.addSat, State.get_set_same, State.setC, State.get_set_ne _ _ (by cases c <;> decide)]
  exact (satTo_mod _ _).trans (Nat.min_comm _ _)

/-! The throttle and a restart (R154, R155). -/

theorem keeps_thrGateNow (s : State) (c : Carrier) :
    Keeps s (thrGateNow s c) (evF ++ [R.RXDSP_STAT.THROTTLED.on c]) [] (evP ++ [.rx c]) :=
  (((Keeps.refl _ _ _ _).setRxh _ (by simp)).set _ (by simp)).raise _ _ (List.subset_append_left _ _)
    (List.subset_append_left _ _)

theorem keeps_rxThrottle (s : State) (c : Carrier) :
    Keeps s (rxThrottle s c) (evF ++ [R.RXDSP_STAT.THROTTLED.on c]) [] (evP ++ [.rx c]) := by
  have hsame : Keeps s s (evF ++ [R.RXDSP_STAT.THROTTLED.on c]) [] (evP ++ [.rx c]) := .refl _ _ _ _
  have hstate : ∀ h, Keeps s (s.setRxh c h) (evF ++ [R.RXDSP_STAT.THROTTLED.on c]) [] (evP ++ [.rx c]) := fun h =>
    hsame.setRxh h (by simp)
  have hgate := keeps_thrGateNow s c
  unfold rxThrottle
  dsimp only
  split
  case isTrue =>
    split
    case h_1 =>
      split
      case isTrue => exact hstate _
      case isFalse =>
        split
        case isTrue => exact hstate _
        case isFalse => exact hgate
    case h_2 =>
      split
      case isTrue => exact hsame
      case isFalse => exact hgate
    case h_3 => exact hstate _
    case h_4 => exact hsame
  case isFalse =>
    split
    case h_1 => exact hsame
    case h_2 => exact hstate _
    case h_3 => exact hstate _
    case h_4 => exact hstate _

theorem rxThrottle_acqState (s : State) (c : Carrier) : acqState (rxThrottle s c) c = acqState s c :=
  (keeps_rxThrottle s c).get (by cases c <;> decide) (by simp)

theorem acqRestart_running {s : State} {c : Carrier} (hst : acqState s c ≠ aSTOPPED) (hdawn : dawnGoverned s c = false) :
    acqRestart s c = rxThrottle (setAcq (rxInitFfe (s.setRxh c { s.rx.get c with path := 1 }) c) c
      (if s.onC c R.RXDSP_STAT.LOL = true then aWAIT else aFREQ)) c := by
  rw [acqRestart, if_neg (by simp [hst, hdawn])]
  rfl

theorem acqRestart_acqState {s : State} {c : Carrier} (hst : acqState s c ≠ aSTOPPED) (hdawn : dawnGoverned s c = false) :
    acqState (acqRestart s c) c = if s.onC c R.RXDSP_STAT.LOL = true then aWAIT else aFREQ := by
  rw [acqRestart_running hst hdawn, rxThrottle_acqState]
  split
  case isTrue => exact setAcq_acqState _ _ (by decide)
  case isFalse => exact setAcq_acqState _ _ (by decide)

theorem keeps_acqRestart {s : State} {c : Carrier} (hst : acqState s c ≠ aSTOPPED) (hdawn : dawnGoverned s c = false) :
    Keeps s (acqRestart s c) (evF ++ acqF c ++ [R.RXDSP_STAT.THROTTLED.on c]) [] (evP ++ [.rx c]) := by
  rw [acqRestart_running hst hdawn]
  have hffe : ∀ h, Keeps s (rxInitFfe (s.setRxh c h) c) (acqF c) [] [.rx c] := fun h =>
    ((Keeps.refl _ _ _ _).setRxh h (.head _)).setRxh _ (.head _)
  exact (((hffe _).trans (keeps_setAcq _ _ _)).mono (by simp) (List.Subset.refl _) (by simp)).trans
    ((keeps_rxThrottle _ _).mono (by simp) (List.Subset.refl _) (List.Subset.refl _))

/-! O13. -/

/-- A command that ends with a change of state, which the aligners do not meet. -/
theorem does_setAcq {i : Instr} {s t : State} {c : Carrier} {st : Nat} {P : State → Prop}
    (hexec : exec i s = done s (acqFrameLock (setAcq t c st) c)) (hbefore : Keeps s t (acqF c) [] [.rx c])
    (hrest : acqFrameLock (setAcq t c st) c = setAcq t c st)
    (hP : Keeps s (setAcq t c st) (acqF c) [] [.rx c] → P (setAcq t c st)) : Does i s P := by
  have hkeeps := hbefore.trans (keeps_setAcq t c st)
  exact does_of_keeps (hexec.trans (congrArg (done s) hrest)) hkeeps (by simp) (hP hkeeps)

/-- Settles O13, each step by the change of state that it makes and the frame of its writes. -/
theorem acquisitionSteps : Obligations.AcquisitionSteps := by
  intro s c
  have hrxh : ∀ h, Keeps s (s.setRxh c h) (acqF c) [] [.rx c] := fun h => (Keeps.refl _ _ _ _).setRxh h (.head _)
  refine ⟨?freq, ?cd, ?timing, ?blind, ?pilot, ?dd, ?lost, ?resume, ?seeded, ?timeout, ?restart⟩
  case freq =>
    intro fo hclock hst
    obtain ⟨h, heq, hfo, hcd⟩ := acqFreqReady_coarse fo hst
    obtain ⟨hlt, hframe, hresume, hseeded⟩ := acqFreqReady_next (s.getC c R.RX_CD.CD_MODE = 2)
    refine does_setAcq ((exec_traffic rfl hclock).trans (by rw [heq])) (hrxh h) (acqFrameLock_setAcq _ _ hlt hframe hresume hseeded)
      fun hkeeps => ⟨setAcq_acqState _ _ hlt, ?_, fun hfixed => ?_, hkeeps⟩
    · rw [setAcq_rx, setRxh_rxh]
      exact hfo
    · rw [setAcq_rx, setRxh_rxh]
      exact hcd hfixed
  case cd =>
    intro cd hclock hst
    refine does_setAcq ((exec_traffic rfl hclock).trans (by rw [acqCdReady_search cd hst])) (hrxh _)
      (acqFrameLock_setAcq _ _ (by decide) (by decide) (by decide) (by decide))
      fun hkeeps => ⟨setAcq_acqState _ _ (by decide), ?_, hkeeps⟩
    rw [setAcq_rx, setRxh_rxh]
    rfl
  case timing =>
    intro hclock hst
    exact does_setAcq ((exec_traffic rfl hclock).trans (by rw [acqMove_from aBLIND hst])) (.refl _ _ _ _)
      (acqFrameLock_setAcq _ _ (by decide) (by decide) (by decide) (by decide))
      fun hkeeps => ⟨setAcq_acqState _ _ (by decide), setAcq_locked _ _ _, hkeeps⟩
  case blind =>
    intro hclock hst hout
    exact does_setAcq ((exec_traffic rfl hclock).trans (by rw [acqMove_from aFRAME hst])) (.refl _ _ _ _)
      (acqFrameLock_of_keeps ((keeps_setAcq s c aFRAME).mono (List.subset_append_right _ _) (List.Subset.refl _)
        (List.Subset.refl _)) hout)
      fun hkeeps => ⟨setAcq_acqState _ _ (by decide), setAcq_locked _ _ _, hkeeps⟩
  case pilot =>
    intro hclock hst hframes
    exact does_setAcq ((exec_traffic rfl hclock).trans (by rw [acqPilotStable_due hst hframes])) (.refl _ _ _ _)
      (acqFrameLock_setAcq _ _ (by decide) (by decide) (by decide) (by decide))
      fun hkeeps => ⟨setAcq_acqState _ _ (by decide), setAcq_locked _ _ _, hkeeps⟩
  case dd =>
    intro hclock hst hframes
    have hstate := acqTrack_acqState s c (s.rx.get c).path
    have hrest : acqFrameLock (acqTrack s c (s.rx.get c).path) c = acqTrack s c (s.rx.get c).path := by
      apply acqFrameLock_of_acqState <;> rw [hstate] <;> decide
    have hkeeps := keeps_acqTrack s c (s.rx.get c).path
    exact does_of_keeps ((exec_traffic rfl hclock).trans (by rw [acqDdStable_due hst hframes, hrest])) hkeeps (by simp)
      ⟨hstate, acqTrack_locked _ _ _, acqTrack_time _ _ _, acqTrack_path _ _ _, acqTrack_ev _ _ _, hkeeps⟩
  case lost =>
    intro hst hoof hout
    have hkeeps := keeps_acqLockLost hst hoof
    have hshown : ∀ f ∈ acqShown, (acqLockLost s c).getC c f = (lockLeft s c).getC c f := fun f hf => by
      rw [acqLockLost_due hst hoof, raiseC_acqShown _ _ _ _ hf]
    refine does_of_keeps (congrArg (done s) (acqFrameLock_of_keeps hkeeps hout)) hkeeps (by simp) ⟨?_, ?_, ?_, hkeeps⟩
    · exact (hshown _ (by simp [acqShown])).trans (acqSeedOrFreq_acqState _ _)
    · exact (congrArg (· != 0) (hshown R.RXDSP_STAT.LOCKED (by simp [acqShown]))).trans (acqSeedOrFreq_locked _ _)
    · rw [acqLockLost_due hst hoof]
      exact raiseC_ev_of_keeps (keeps_window_of_acqF (keeps_lockLeft s c)) _ (by decide)
  case resume =>
    intro hst htime hout
    have hkeeps := keeps_acqSeedOrFreq s c
    have hrest := acqFrameLock_of_keeps (hkeeps.mono (List.subset_append_right _ _) (List.Subset.refl _) (List.Subset.refl _)) hout
    exact does_of_keeps (congrArg (done s) ((congrArg (acqFrameLock · c) (resumeTimeout_due hst htime)).trans hrest)) hkeeps
      (by simp) ⟨acqSeedOrFreq_acqState s c, hkeeps⟩
  case seeded =>
    intro hst htime hdawn
    refine does_setAcq (congrArg (fun t => done s (acqFrameLock t c)) (seededTimeout_due hst htime hdawn))
      ((hrxh _).setRxh _ (.head _)) (acqFrameLock_setAcq _ _ (by decide) (by decide) (by decide) (by decide))
      fun hkeeps => ⟨setAcq_acqState _ _ (by decide), ?_, hkeeps⟩
    rw [setAcq_rx, rxInitFfe, setRxh_rxh, State.rxh, setRxh_rxh]
  case timeout =>
    intro hst htime
    have hlt : acqState s c < 16 := by
      simp only [aRESUME, aSEEDED] at hst
      omega
    have hshown : ∀ f ∈ acqShown, (acqTimeout s c).getC c f = (attemptFailed s c).getC c f := fun f hf => by
      rw [acqTimeout_due hst htime, raiseC_acqShown _ _ _ _ hf]
    have hstate : acqState (acqTimeout s c) c = aFREQ :=
      (hshown _ (by simp [acqShown])).trans (setAcq_acqState _ _ (by decide))
    have hrest : acqFrameLock (acqTimeout s c) c = acqTimeout s c := by
      apply acqFrameLock_of_acqState <;> rw [hstate] <;> decide
    have hkeeps : Keeps s (acqTimeout s c) (evF ++ acqF c ++ [R.RX_ACQ_STAT.FAIL_STATE.on c, R.RX_ACQ_STAT.ATTEMPTS.on c]) []
        (evP ++ [.rx c]) := by
      rw [acqTimeout_due hst htime]
      exact ((keeps_attemptFailed s c).mono (by simp) (List.Subset.refl _) (by simp)).raise _ _ (by simp) (by simp)
    refine does_of_keeps (congrArg (done s) hrest) hkeeps (by simp) ⟨hstate, ?_, ?_, ?_, hkeeps⟩
    · rw [hshown _ (by simp [acqShown]), attemptFailed_failState hlt]
    · rw [hshown _ (by simp [acqShown]), attemptFailed_attempts]
    · rw [acqTimeout_due hst htime]
      exact raiseC_ev_of_keeps (keeps_attemptFailed_window s c) _ (by decide)
  case restart =>
    intro hopen hst hdawn
    have hkeeps := keeps_acqRestart hst hdawn
    have hstate := acqRestart_acqState hst hdawn
    have hrest : acqFrameLock (acqRestart s c) c = acqRestart s c := by
      apply acqFrameLock_of_acqState <;> rw [hstate] <;> split <;> decide
    exact does_of_keeps ((exec_open rfl hopen).trans (congrArg (done s) hrest)) hkeeps (by simp) ⟨hstate, hkeeps⟩

/-! The start of RXDSP (R160), and LOL that clears (R146, R155). -/

/-- A transfer of shadow copies writes in the block's window alone (R9, R16). -/
theorem keeps_transfer_rxdsp (s : State) (c : Carrier) : Keeps s (s.transfer (.rxdsp c)) [] [.rxdsp c] [.shadow, .named] := by
  refine ⟨fun k _ hk => ?_, fun p hp => ?_⟩
  · have hout : inBlk (.rxdsp c) k = false := hk _ (.head _)
    have hreq : k ≠ (commitReqF (.rxdsp c)).key := by
      rintro rfl
      cases c <;> exact absurd hout (by decide)
    unfold State.transfer
    dsimp only
    rw [Map.get_set_ne _ _ hreq]
    refine List.foldlRecOn (motive := fun m : Map Nat => m.get k = s.regs.get k) _ _ rfl fun m hm p hp => ?_
    refine (Map.get_set_ne _ _ fun heq => ?_).trans hm
    have hin := (List.mem_filter.1 hp).2
    rw [← heq, hout] at hin
    exact absurd hin (by decide)
  · cases p with
    | shadow => simp at hp
    | named => simp at hp
    | wake => exact ⟨rfl, rfl⟩
    | _ => rfl

/-- The pieces that a start of RXDSP may change beside the registers. -/
abbrev rxP (c : Carrier) : List Part := evP ++ [.rx c, .shadow, .named, .waiting]

theorem keeps_rxTransfer (s : State) (c : Carrier) : Keeps s (rxTransfer s c) evF [.rxdsp c] (rxP c) := by
  have htransfer := (keeps_transfer_rxdsp s c).mono (List.nil_subset evF) (List.Subset.refl _) (ps' := rxP c) (by simp)
  unfold rxTransfer rxDfeEn
  split
  case isTrue => exact htransfer
  case isFalse => exact htransfer.setRxh _ (by simp)

theorem keeps_unwait (s : State) (b : Blk) : Keeps s (s.unwait b) [] [] [.waiting] := by
  refine ⟨fun _ _ _ => rfl, fun p hp => ?_⟩
  cases p with
  | waiting => simp at hp
  | wake => exact ⟨rfl, rfl⟩
  | _ => rfl

/-- One more field of RXDSP's window in a frame that has room for events. -/
theorem keeps_window_of_field {s t : State} {c : Carrier} {f : Fld} {ps ps' : List Part} (h : Keeps s t (evF ++ [f.on c]) [] ps)
    (hlo : 0x40120000 ≤ f.addr) (hhi : f.addr < 0x40130000) (hlsb : f.lsb < 64) (hps : ps ⊆ ps') :
    Keeps s t evF [.rxdsp c] ps' := by
  refine h.widen (fun g hg => ?_) (List.nil_subset _) hps
  obtain hg | hg := List.mem_append.1 hg
  · exact .inl hg
  · obtain rfl := List.mem_singleton.1 hg
    exact .inr ⟨_, .head _, inBlk_rxdsp c hlo hhi hlsb⟩

theorem keeps_setLol (s : State) (c : Carrier) (v : Bool) : Keeps s (setLol s c v) (evF ++ [R.RXDSP_STAT.LOL.on c]) [] evP := by
  unfold setLol
  split
  case isTrue => exact .refl _ _ _ _
  case isFalse =>
    exact ((Keeps.refl _ _ _ _).set _ (by simp)).raise _ _ (List.subset_append_left _ _) (List.Subset.refl _)

theorem setLol_acqState (s : State) (c : Carrier) (v : Bool) : acqState (setLol s c v) c = acqState s c :=
  (keeps_setLol s c v).get (by cases c <;> decide) (by simp)

/-- The same within RXDSP's window. -/
theorem keeps_setLol_window (s : State) (c : Carrier) (v : Bool) : Keeps s (setLol s c v) evF [.rxdsp c] (rxP c) :=
  keeps_window_of_field (keeps_setLol s c v) (by decide) (by decide) (by decide) (List.subset_append_left _ _)

theorem keeps_rxThrottle_window (s : State) (c : Carrier) : Keeps s (rxThrottle s c) evF [.rxdsp c] (rxP c) :=
  keeps_window_of_field (keeps_rxThrottle s c) (by decide) (by decide) (by decide) (by simp)

/-- RXDSP configured, as it begins to run (R160, R177). -/
def rxConfigured (s : State) (c : Carrier) : State :=
  let s := (rxTransfer s c).unwait (.rxdsp c)
  let s := (s.set (runningF (.rxdsp c)) 1).setBC c R.RXDSP_STAT.CFG_ERR false
  let s := s.setC c R.RX_LATENCY.LATENCY_NS (rxLatencyNs s c)
  s.setRxh c { s.rxh c with
    below := 0, above := 0, decided := [], str := { RxStream.reset with block := cdBlock (rxSymRate s c) } }

/-- The same in WAIT_LIGHT, before the TX loopback is looked at. -/
def rxBegun (s : State) (c : Carrier) : State := rxThrottle (setAcq (rxConfigured s c) c aWAIT) c

theorem rxRun_eq (s : State) (c : Carrier) :
    rxRun s c = if txLoopback (rxBegun s c) c then acqLight (setLol (rxBegun s c) c false) c else rxBegun s c := by
  unfold rxRun rxBegun rxConfigured
  rfl

theorem rxBegun_acqState (s : State) (c : Carrier) : acqState (rxBegun s c) c = aWAIT := by
  rw [rxBegun, rxThrottle_acqState, setAcq_acqState _ _ (by decide)]

theorem keeps_rxConfigured (s : State) (c : Carrier) : Keeps s (rxConfigured s c) evF [.rxdsp c] (rxP c) := by
  have hfield : ∀ {t : State} {f : Fld} (v : Nat), 0x40120000 ≤ f.addr → f.addr < 0x40130000 → f.lsb < 64 →
      Keeps s t evF [.rxdsp c] (rxP c) → Keeps s (t.setC c f v) evF [.rxdsp c] (rxP c) := fun v hlo hhi hlsb h =>
    h.setIn v (.head _) (inBlk_rxdsp c hlo hhi hlsb)
  have hwaits := (keeps_rxTransfer s c).trans
    ((keeps_unwait _ (.rxdsp c)).mono (List.nil_subset _) (List.nil_subset _) (by simp))
  have hrunning := hwaits.setIn (f := runningF (.rxdsp c)) 1 (.head _) (by cases c <;> decide)
  unfold rxConfigured
  refine Keeps.setRxh ?_ _ (by simp)
  refine hfield _ (by decide) (by decide) (by decide) ?_
  exact hfield 0 (by decide) (by decide) (by decide) hrunning

theorem keeps_rxBegun (s : State) (c : Carrier) : Keeps s (rxBegun s c) evF [.rxdsp c] (rxP c) :=
  ((keeps_rxConfigured s c).trans ((keeps_setAcq_window _ c aWAIT).mono (List.nil_subset _) (List.Subset.refl _) (by simp))).trans
    (keeps_rxThrottle_window _ _)

/-- With the TX loopback in use DAWN does not govern acquisition: the mode is DIAG (R87, R196). -/
theorem rxOwnAcq_of_txLoopback {s : State} {c : Carrier} (h : txLoopback s c = true) : rxOwnAcq s c = true := by
  have hmode : s.mode c = mDIAG := by
    simp only [txLoopback, Bool.and_eq_true, beq_iff_eq] at h
    exact h.1
  simp [rxOwnAcq, dawnGoverned, fastLoopOwns, hmode, mDIAG, mDAWNRX, mBEXA]

/-- LOL that clears ends WAIT_LIGHT (R155). -/
theorem acqLight_of_wait {s : State} {c : Carrier} (hown : rxOwnAcq s c = true) (hst : acqState s c = aWAIT) :
    ∃ t st, acqLight s c = setAcq t c st ∧ Keeps s t [] [] [.rx c] ∧ (st = aSEEDED ∨ st = aFREQ) := by
  have hexit : Keeps s (acqExit s c) [] [] [.rx c] := (Keeps.refl _ _ _ _).setRxh _ (.head _)
  unfold acqLight
  simp only [hown, hst, Bool.not_true, Bool.false_eq_true, if_false, if_true]
  split
  case isTrue => exact ⟨_, _, rfl, hexit, .inl rfl⟩
  case isFalse => exact ⟨_, _, rfl, (hexit.setRxh _ (.head _)).trans (keeps_rxInitFfe _ _), .inr rfl⟩

/-- A start with the TX loopback in use leaves WAIT_LIGHT at once, since LOL is not set with it (R146, R155). -/
theorem rxRun_loopback {s : State} {c : Carrier} (hloop : txLoopback s c = true) :
    acqState (rxRun s c) c ≠ aWAIT ∧ Keeps s (rxRun s c) evF [.rxdsp c] (rxP c) := by
  have hbegun := keeps_rxBegun s c
  have hlol := hbegun.trans (keeps_setLol_window (rxBegun s c) c false)
  have hloop' : ∀ {t : State}, Keeps s t evF [.rxdsp c] (rxP c) → txLoopback t c = true := by
    intro t h
    have hmode : t.mode c = s.mode c := h.get (by cases c <;> decide) (by cases c <;> decide)
    have hlpbk : t.get (R.TX_DIAG.LPBK.on c) = s.get (R.TX_DIAG.LPBK.on c) :=
      h.get (by cases c <;> decide) (by cases c <;> decide)
    rw [← hloop, txLoopback, txLoopback, hmode, State.onC, State.onC, State.on, State.on, hlpbk]
  have hst : acqState (setLol (rxBegun s c) c false) c = aWAIT :=
    (setLol_acqState _ _ _).trans (rxBegun_acqState s c)
  obtain ⟨t, st, heq, ht, hnext⟩ := acqLight_of_wait (rxOwnAcq_of_txLoopback (hloop' hlol)) hst
  rw [rxRun_eq, if_pos (hloop' hbegun), heq]
  refine ⟨?_, hlol.trans ((ht.mono (List.nil_subset _) (List.nil_subset _) (by simp)).trans
    ((keeps_setAcq_window t c st).mono (List.nil_subset _) (List.Subset.refl _) (by simp)))⟩
  obtain rfl | rfl := hnext
  · rw [setAcq_acqState _ _ (by decide)]
    decide
  · rw [setAcq_acqState _ _ (by decide)]
    decide

/-! Levels of a unit that may not hold the claim and does not seek it (R549, R550). -/

theorem revertSettle_get (s : State) (f : Fld) : (revertSettle s).get f = s.get f := by
  unfold revertSettle
  dsimp only
  (repeat' split) <;> rfl

theorem levels_get_ineligible {s : State} (hblocked : claimBlocked s = true) (hstate : claimState s = cINELIGIBLE) {f : Fld}
    (hf : f.key ∉ asideF.map Fld.key) : (levels s).get f = s.get f := by
  have h : SameClaim s (faultEdges (pathSettle (replAll s))) :=
    ((sameClaim_replAll s).trans (sameClaim_pathSettle _)).trans (sameClaim_faultEdges _)
  have hblocked' := h.claimBlocked.trans hblocked
  have hstate' : claimState (faultEdges (pathSettle (replAll s))) = cINELIGIBLE :=
    (h.get R.PAIR_STAT.CLAIM_STATE (by decide +kernel)).trans hstate
  have hclaim : claimSettle (faultEdges (pathSettle (replAll s))) = faultEdges (pathSettle (replAll s)) := by
    rw [claimSettle, if_pos hblocked', if_pos hstate']
  rw [levels, pairSettle, hclaim, claim_rests hstate', revertSettle_get, h.get f hf]

/-! O14. -/

theorem acqState_with_pending (s : State) (q : List Instr) (c : Carrier) : acqState { s with pending := q } c = acqState s c := rfl

theorem exec_rxdspStart (c : Carrier) (s : State) : exec (.rxdspStart c) s =
    done s (reach s (.rxdsp c) (fun s => levels (acqFrameLock (runSet s (.rxdsp c)) c))) := rfl

/-- RXDSP_START of an RXDSP that is reached sets RUN, and levels follow. -/
theorem does_rxdspStart {c : Carrier} {s : State} {P : State → Prop} (h : Open s (.rxdsp c)) :
    Does (.rxdspStart c) s P ↔ P { levels (acqFrameLock (runSet s (.rxdsp c)) c) with pending := s.pending } := by
  obtain ⟨hdev, hreach, hres⟩ := h
  rw [does_done (exec_rxdspStart c s), reach_open s (.rxdsp c) _ hdev hreach hres]

/-- Setting RUN of a stopped RXDSP makes the start checks, and the neighbours follow. -/
theorem runSet_rxdsp {s : State} {c : Carrier} (hid : idRefuses s (.rxdsp c) = false) (hrun : s.runBit (.rxdsp c) = false)
    (hrunning : (s.set (runF (.rxdsp c)) 1).running (.rxdsp c) = false)
    (hres : (s.set (runF (.rxdsp c)) 1).on (resettingF (.rxdsp c)) = false) (hdev : (s.set (runF (.rxdsp c)) 1).dev ≠ stBOOT) :
    runSet s (.rxdsp c) = replAll (fecNeighbours (rxTryStart (s.set (runF (.rxdsp c)) 1) c) c) := by
  simp [runSet, alwaysRuns, hid, hrun, hrunning, hres, hdev, startNow, assistFollow, tryStart, carrierFollow, blkCarrier]

theorem rxTryStart_run {s : State} {c : Carrier} (hmode : s.modeErr = false) (hcode : rxCfgCode s c = 0)
    (hclock : s.clockReady (.rxdsp c) = true) : rxTryStart s c = rxRun s c := by
  simp [rxTryStart, hmode, hcode, hclock]

/-- STANDBY with every domain on and the claim inhibited. Carrier A is in DIAG with the TX loopback, its optics record good, its
RXDSP ready to start at 120 GBd against a DAC rate of 140 GS/s. Other registers read 0. -/
def loopbackReady : State :=
  let s : State := { State.reset with regs := [] }
  let s := (s.set R.SYS_STATE.STATE stSTANDBY).set R.PWR_DOM_STAT.ON 0x3FFFFF
  let s := (s.setB R.PAIR_CMD.CLAIM_INHIBIT true).set (R.SYS_CMODE.MODE.ix Carrier.A.num) mDIAG
  let s := (s.setBC .A R.TX_DIAG.LPBK true).set R.ID_STAT.STATE_A 2
  let s := (s.setC .A R.RX_RATE.SYM_RATE 120000).set ((R.CONV_RATE.RATE.ix 1).on .A) 140000
  (s.setC .A R.RX_FREQ.FREQ_GHZ 193000).setBC .A R.RX_MOD.FOLLOW true

theorem loopbackReady_open : Open loopbackReady (.rxdsp .A) := by decide +kernel

theorem loopbackReady_ready :
    loopbackReady.dev ≠ stBOOT ∧ idRefuses loopbackReady (.rxdsp .A) = false ∧ loopbackReady.runBit (.rxdsp .A) = false ∧
      loopbackReady.running (.rxdsp .A) = false ∧ startsNow loopbackReady (.rxdsp .A) = true ∧
      loopbackReady.clockReady (.rxdsp .A) = true := by decide +kernel

theorem loopbackReady_mayStart :
    let s := loopbackReady.set (runF (.rxdsp .A)) 1
    s.running (.rxdsp .A) = false ∧ s.on (resettingF (.rxdsp .A)) = false ∧ s.dev ≠ stBOOT ∧ s.modeErr = false ∧
      rxCfgCode s .A = 0 ∧ s.clockReady (.rxdsp .A) = true ∧ txLoopback s .A = true := by decide +kernel

/-- FEC and FRAMER of the carrier rest, and the unit does not seek the claim. -/
theorem loopbackReady_rests :
    let s := loopbackReady.set (runF (.rxdsp .A)) 1
    s.get (runningF (.fec .A)) = 0 ∧ s.get (R.FEC_STAT.ENC_ACTIVE.on .A) = 0 ∧ s.get (R.FEC_STAT.DEC_ACTIVE.on .A) = 0 ∧
      s.get (runningF (.framer .A)) = 0 ∧ s.get R.PAIR_STAT.CLAIM_STATE = cINELIGIBLE ∧
      s.get R.PAIR_CMD.CLAIM_INHIBIT = 1 := by decide +kernel

/-- The start ends in another state than WAIT_LIGHT. -/
theorem loopbackReady_rxdspStart :
    acqState (levels (acqFrameLock (runSet loopbackReady (.rxdsp .A)) .A)) .A ≠ aWAIT := by
  obtain ⟨-, hid, hrun, -⟩ := loopbackReady_ready
  obtain ⟨hrunning, hres, hdev, hmode, hcode, hclock, hloop⟩ := loopbackReady_mayStart
  obtain ⟨hfec, henc, hdec, hframer, hclaim, hinhibit⟩ := loopbackReady_rests
  obtain ⟨hleft, hkeeps⟩ := rxRun_loopback hloop
  rw [runSet_rxdsp hid hrun hrunning hres hdev, rxTryStart_run hmode hcode hclock]
  generalize rxRun (loopbackReady.set (runF (.rxdsp .A)) 1) .A = t at hleft hkeeps
  have hoff : ∀ f, f.key ∉ evF.map Fld.key → inBlk (.rxdsp .A) f.key = false →
      (loopbackReady.set (runF (.rxdsp .A)) 1).get f = 0 → t.on f = false := by
    intro f hf hin hzero
    rw [State.on, hkeeps.get hf (by simpa using hin), hzero]
    rfl
  have hrest : fecNeighbours t .A = t := fecNeighbours_rest (hoff _ (by decide) (by decide) hfec)
    (hoff _ (by decide) (by decide) henc) (hoff _ (by decide) (by decide) hdec)
  have hsame := sameClaim_replAll t
  have hget : ∀ {f : Fld}, f.key ∉ asideF.map Fld.key → f.key ∉ evF.map Fld.key → inBlk (.rxdsp .A) f.key = false →
      (replAll t).get f = (loopbackReady.set (runF (.rxdsp .A)) 1).get f := fun haside hf hin =>
    (hsame.get _ haside).trans (hkeeps.get hf (by simpa using hin))
  have hlock : acqFrameLock (replAll t) .A = replAll t := by
    have hstopped : (replAll t).running (.framer .A) = false := by
      rw [State.running, State.on, hget (by decide +kernel) (by decide) (by decide), hframer]
      rfl
    simp [acqFrameLock, hstopped]
  have hblocked : claimBlocked (replAll t) = true := by
    have hon : (replAll t).on R.PAIR_CMD.CLAIM_INHIBIT = true := by
      rw [State.on, hget (by decide +kernel) (by decide) (by decide), hinhibit]
      rfl
    simp [claimBlocked, hon]
  have hstate : claimState (replAll t) = cINELIGIBLE := (hget (by decide +kernel) (by decide) (by decide)).trans hclaim
  have hacq : (R.RXDSP_STAT.ACQ_STATE.on .A).key ∉ asideF.map Fld.key := by decide +kernel
  rwa [hrest, hlock, acqState, State.getC, levels_get_ineligible hblocked hstate hacq, hsame.get _ hacq]

/-- Refutes O14: LOL is not set with the TX loopback in use (R146), so that a start of RXDSP in DIAG with TX_DIAG.LPBK leaves
WAIT_LIGHT at once (R155). The clause of RXDSP_START claims WAIT_LIGHT and does not leave the loopback out. -/
theorem not_receiverCommands : ¬ Obligations.ReceiverCommands := by
  intro h
  obtain ⟨hdev, hid, hrun, hrunning, hstarts, hclock⟩ := loopbackReady_ready
  obtain ⟨hstart, -⟩ := h loopbackReady .A
  obtain ⟨-, -, hwait, -⟩ := (does_rxdspStart loopbackReady_open).1
    (hstart loopbackReady_open hdev hid hrun hrunning hstarts hclock)
  rw [acqState_with_pending] at hwait
  exact loopbackReady_rxdspStart hwait

end Sys2Proof.Machine
end

section
/-! PROOFS of the statements about Dawn bursts (05_dawn_acquisition.md): search and latch (O15), bursts and the Seed table (O16). -/

namespace Sys2Proof.Machine

open Sys2Proof Sys2Proof.Spec

/-! O15. -/

theorem exec_dawnSyncLatch (c : Carrier) (fo cd : Int) (rms : Nat) (s : State) :
    exec (.dawnSyncLatch c fo cd rms) s = done s (traffic s (rxMux c) (latchCmd s (syncLatch s c fo cd rms) c)) := rfl

/-- DAWN_SYNC_LATCH with the clock of the PLL is the latch with what follows from it at FRAMER and from levels. -/
theorem does_dawnSyncLatch {c : Carrier} {fo cd : Int} {rms : Nat} {s : State} {P : State → Prop}
    (h : s.clockReady (.dawn c) = true) : Does (.dawnSyncLatch c fo cd rms) s P ↔
      P { latchCmd s (syncLatch s c fo cd rms) c with pending := s.pending } :=
  does_done (exec_traffic (exec_dawnSyncLatch c fo cd rms s) h)

/-- RUN with the claim granted and now inhibited. Carrier A is in a Dawn burst, and an OTUCn frame of it not yet sent carries on a
packet of replay channel 0, of which one byte waits; Carrier B is in DAWN-RX with a candidate in QUALIFY. Other registers read 0. -/
def replayBurstBesideLatch : State :=
  let s := burstInhibited.set (R.SYS_CMODE.MODE.ix Carrier.B.num) mDAWNRX
  let s := setDawn s .B dQUALIFY
  let s := { s with frm := ⟨{ FrmH.reset with txQ := [⟨[], [], none, [32], []⟩] }, .reset⟩ }
  setJb s 0 { JobH.reset with feed := ⟨[], [0]⟩ }

theorem replayBurstBesideLatch_qualifies :
    replayBurstBesideLatch.clockReady (.dawn .B) = true ∧ dawnState replayBurstBesideLatch .B = dQUALIFY ∧
      bexaBurst replayBurstBesideLatch .B = false := by decide +kernel

theorem replayBurstBesideLatch_rest : (jb replayBurstBesideLatch 0).feed.rest = [0] := by decide +kernel

/-- Levels release the claim, which cuts the burst off, and what waits of the replay channel's packet is gone (R69, R343, R553). -/
theorem replayBurstBesideLatch_latch_rest :
    (jb (latchCmd replayBurstBesideLatch (syncLatch replayBurstBesideLatch .B 0 0 0) .B) 0).feed.rest = [] := by decide +kernel

/-- Refutes O15: where the levels after a latch cut off a Dawn burst of the other carrier, what waits of a replay channel's packet
that its OTUCn frames not yet sent carry on is lost (R69, R343, R370). DAWN_SYNC_LATCH then changes the state of STORE beside the
registers, which its frame does not list. -/
theorem not_dawnSearchAndLatch : ¬ Obligations.DawnSearchAndLatch := by
  intro h
  obtain ⟨hclock, hqualify, hdawn⟩ := replayBurstBesideLatch_qualifies
  obtain ⟨-, -, -, -, -, -, -, -, hlatch, -⟩ := h replayBurstBesideLatch .B
  obtain ⟨-, -, -, -, -, hparts⟩ := (does_dawnSyncLatch hclock).1 (hlatch 0 0 0 hclock hqualify hdawn)
  have hstore := hparts .store (by decide)
  dsimp only [Part.same] at hstore
  have hrest := replayBurstBesideLatch_latch_rest
  rw [jb, hstore, ← jb, replayBurstBesideLatch_rest] at hrest
  exact absurd hrest (List.cons_ne_nil _ _)

/-! O16. -/

theorem exec_dawnPreloadDone (c : Carrier) (s : State) :
    exec (.dawnPreloadDone c) s = done s (traffic s (rxMux c) (levels (burstOver s (preloadDone s c) c false))) := rfl

/-- DAWN_PRELOAD_DONE with the clock of the PLL is the preload's end, and levels follow. -/
theorem does_dawnPreloadDone {c : Carrier} {s : State} {P : State → Prop} (h : s.clockReady (.dawn c) = true) :
    Does (.dawnPreloadDone c) s P ↔ P { levels (burstOver s (preloadDone s c) c false) with pending := s.pending } :=
  does_done (exec_traffic (exec_dawnPreloadDone c s) h)

/-- RUN with Carrier A in DAWN-RX, in PRELOAD of entry 0 for a burst of one frame. The entry's first DFE tap word is 1, while DFE_EN
is 0. Other registers read 0. -/
def dfeOffPreload : State :=
  let s : State := { State.reset with regs := [] }
  let s := (s.set R.SYS_STATE.STATE stRUN).set (R.SYS_CMODE.MODE.ix Carrier.A.num) mDAWNRX
  let s := (setDawn s .A dPRELOAD).set (seedWord .A 0 (4 * 0x200)) 1
  s.setDh .A { DawnH.reset with n := 1 }

theorem dfeOffPreload_preloads :
    dfeOffPreload.clockReady (.dawn .A) = true ∧ dawnState dfeOffPreload .A = dPRELOAD ∧ (dfeOffPreload.dawn.get .A).n ≠ 0 := by
  decide +kernel

theorem dfeOffPreload_entryTap :
    entryTap dfeOffPreload .A (dfeOffPreload.getC .A R.DAWN_STAT.CUR_ENTRY) 0x200 = 1 := by decide +kernel

/-- With DFE_EN = 0 the loaded DFE tap is 0 (R141). -/
theorem dfeOffPreload_tap :
    ((levels (burstOver dfeOffPreload (preloadDone dfeOffPreload .A) .A false)).rx.get .A).taps.get 0x200 = 0 := by decide +kernel

/-- Refutes O16: with DFE_EN = 0 every DFE tap is 0 (R141), so that DAWN_PRELOAD_DONE does not load a DFE tap of the entry that is
not 0. The clause claims every tap word of the entry and does not ask for DFE_EN, nor for outer taps that are not gated (R154). -/
theorem not_dawnBurstsAndSeedTable : ¬ Obligations.DawnBurstsAndSeedTable := by
  intro h
  obtain ⟨hclock, hstate, hn⟩ := dfeOffPreload_preloads
  obtain ⟨-, -, hpreload, -⟩ := h dfeOffPreload .A
  obtain ⟨-, -, -, htaps, -⟩ := (does_dawnPreloadDone hclock).1 (hpreload hstate (.inl hn) hclock)
  have htap := htaps 0x200 (by decide +kernel)
  dsimp only at htap
  rw [dfeOffPreload_tap, dfeOffPreload_entryTap] at htap
  exact absurd htap (by decide)

end Sys2Proof.Machine
end

section
/-! PROOFS of the statement about soft-decision coding (06_fec.md): a start of FEC (O17). -/

namespace Sys2Proof.Machine

open Sys2Proof Sys2Proof.Spec

/-! FEC_START. -/

theorem exec_fecStart (c : Carrier) (s : State) :
    exec (.fecStart c) s = done s (startCmd s (.fec c)) := rfl

/-- FEC_START of a FEC that is reached sets RUN, and levels follow. -/
theorem does_fecStart {c : Carrier} {s : State} {P : State → Prop} (h : Open s (.fec c)) :
    Does (.fecStart c) s P ↔ P { levels (runSet s (.fec c)) with pending := s.pending } := by
  obtain ⟨hdev, hreach, hres⟩ := h
  rw [does_done (exec_fecStart c s), startCmd, reach_open s (.fec c) _ hdev hreach hres]

/-! O17. -/

/-- RUN with the claim granted, every PLL locked but PLL 5 of Carrier A, of which no block runs, and the fault mask that follows
reset (R548). Carrier B sends a Dawn burst, and an OTUCn frame of it not yet sent carries on a packet of replay channel 0, of
which one byte waits. FEC of Carrier A is ready to start in CONT with its encoder enabled, with a good optics record. Other
registers read as in `burstBesideStart`. -/
def replayBurstBesideFecStart : State :=
  let s := burstBesideStart.setBC .A R.FEC_CODE.ENC_EN true
  let s := { s with frm := ⟨.reset, { FrmH.reset with txQ := [⟨[], [], none, [32], []⟩] }⟩ }
  setJb s 0 { JobH.reset with feed := ⟨[], [0]⟩ }

theorem replayBurstBesideFecStart_open : Open replayBurstBesideFecStart (.fec .A) := by decide +kernel

theorem replayBurstBesideFecStart_ready :
    replayBurstBesideFecStart.dev ≠ stBOOT ∧ idRefuses replayBurstBesideFecStart (.fec .A) = false ∧
      replayBurstBesideFecStart.runBit (.fec .A) = false ∧ replayBurstBesideFecStart.running (.fec .A) = false ∧
      startsNow replayBurstBesideFecStart (.fec .A) = true ∧ replayBurstBesideFecStart.clockReady (.fec .A) = true := by
  decide +kernel

theorem replayBurstBesideFecStart_rest : (jb replayBurstBesideFecStart 0).feed.rest = [0] := by decide +kernel

/-- Before the start the unit may hold its claim; once FEC of Carrier A runs, its PLL 5 is a fault (R548, R549). -/
theorem replayBurstBesideFecStart_claim :
    claimBlocked replayBurstBesideFecStart = false ∧ claimBlocked (runSet replayBurstBesideFecStart (.fec .A)) = true := by
  decide +kernel

/-- Levels release the claim, which cuts the burst off, and what waits of the replay channel's packet is gone (R69, R343, R553). -/
theorem replayBurstBesideFecStart_fecStart_rest :
    (jb (levels (runSet replayBurstBesideFecStart (.fec .A))) 0).feed.rest = [] := by decide +kernel

/-- Refutes O17: with a PLL of the carrier out of lock a start of FEC is a fault (R548), which releases the claim and so cuts off a
Dawn burst of the other carrier; what waits of a replay channel's packet that its OTUCn frames not yet sent carry on is lost (R69,
R343, R370, R553). FEC_START then changes the state of STORE beside the registers, which its frame does not list. -/
theorem not_fecEncodesAndDecodes : ¬ Obligations.FecEncodesAndDecodes := by
  intro h
  obtain ⟨hdev, hid, hrun, hrunning, hstarts, hclock⟩ := replayBurstBesideFecStart_ready
  obtain ⟨hstart, -⟩ := h replayBurstBesideFecStart .A
  obtain ⟨-, -, -, hparts⟩ := (does_fecStart replayBurstBesideFecStart_open).1
    (hstart replayBurstBesideFecStart_open hdev hid hrun hrunning hstarts hclock)
  have hstore := hparts .store (by decide)
  dsimp only [Part.same] at hstore
  have hrest := replayBurstBesideFecStart_fecStart_rest
  rw [jb, hstore, ← jb, replayBurstBesideFecStart_rest] at hrest
  exact absurd hrest (List.cons_ne_nil _ _)

end Sys2Proof.Machine
end

section
/-! PROOFS of the statements about line framing (07_line_framing.md): the aligners (O18), defects, requests and DUAL (O19). -/

namespace Sys2Proof.Machine

open Sys2Proof Sys2Proof.Spec

/-! O18. -/

theorem exec_lineAlignCheck (c : Carrier) (o bits pos : Nat) (s : State) :
    exec (.lineAlignCheck c o bits pos) s = done s (traffic s [1] (levels (lineAlignCheck s c o bits pos))) := rfl

/-- With the clock of its PLL the line aligner makes its check, and levels follow (R415, R427). -/
theorem does_lineAlignCheck {c : Carrier} {o bits pos : Nat} {s : State} {P : State → Prop}
    (hclock : s.clockReady (.framer c) = true) :
    Does (.lineAlignCheck c o bits pos) s P ↔ P { levels (lineAlignCheck s c o bits pos) with pending := s.pending } := by
  have hmux : [1].all s.muxOnPll = true := hclock
  rw [does_done (exec_lineAlignCheck c o bits pos s), traffic, if_pos hmux]

/-- The hard decisions of a line pattern without an error, from polarisation X (R49, R267). -/
def syncWordX : Nat := (bitsStr (syncBits 384 0)).val

/-- STANDBY with every domain on and Carrier A in CONT. Light is back after a loss in TRACK: RXDSP is in RESUME, the line aligner of
output Y is in SYNC on the word of polarisation Y, that of output X is one hit away from SYNC. Other registers read 0. -/
def resumeBeforeSync : State :=
  let s : State := { State.reset with regs := [] }
  let s := (s.set R.SYS_STATE.STATE stSTANDBY).set R.PWR_DOM_STAT.ON 0x3FFFFF
  let s := (s.set (R.SYS_CMODE.MODE.ix Carrier.A.num) mCONT).set (runningF (.framer .A)) 1
  let s := (s.set (runningF (.rxdsp .A)) 1).setC .A R.RXDSP_STAT.ACQ_STATE aRESUME
  let s := (s.setC .A R.FRM_STAT.LF_X aPRESYNC).setC .A R.FRM_STAT.LF_Y aSYNC
  { s with frm := ⟨{ FrmH.reset with lfX := ⟨3, 0, 0⟩, lfY := ⟨4, 0, 1⟩ }, .reset⟩ }

theorem resumeBeforeSync_tests :
    frmOn resumeBeforeSync .A = true ∧ resumeBeforeSync.clockReady (.framer .A) = true ∧ resumeBeforeSync.mode .A ≠ mZR400 ∧
      lfState resumeBeforeSync .A 0 = aPRESYNC ∧ lineTests resumeBeforeSync .A 0 131072 = true := by decide +kernel

theorem resumeBeforeSync_tracked : (resumeBeforeSync.dawn.get .A).tracked = false := by decide +kernel

/-- The hit brings output X to SYNC, so that acquisition enters TRACK (R155), which DAWN's state notes. -/
theorem resumeBeforeSync_lineAlignCheck :
    let t := levels (lineAlignCheck resumeBeforeSync .A 0 syncWordX 131072)
    lfState t .A 0 = aSYNC ∧ acqState t .A = aTRACK ∧ (t.dawn.get .A).tracked = true := by decide +kernel

/-- Refutes O18: the hit that brings the second of both line aligners to SYNC takes an RXDSP in RESUME to TRACK (R155, R268), and
an entry to TRACK is noted in DAWN's state beside its registers. The frame of LINE_ALIGN_CHECK lists RXDSP and both FRAMERs, but
not DAWN. -/
theorem not_framerAligners : ¬ Obligations.FramerAligners := by
  intro h
  obtain ⟨hon, hclock, hmode, hpre, htests⟩ := resumeBeforeSync_tests
  obtain ⟨-, -, -, -, -, hpresync, -⟩ := h resumeBeforeSync .A
  obtain ⟨-, -, -, -, hparts⟩ :=
    (does_lineAlignCheck hclock).1 (hpresync 0 syncWordX 131072 hon hclock hmode (by decide) hpre htests)
  have hdawn := hparts (.dawn .A) (by decide)
  dsimp only [Part.same] at hdawn
  obtain ⟨-, -, htracked⟩ := resumeBeforeSync_lineAlignCheck
  rw [hdawn, resumeBeforeSync_tracked] at htracked
  exact absurd htracked Bool.false_ne_true

/-! O19. -/

theorem exec_psrHoldoffExpiry (c : Carrier) (s : State) :
    exec (.psrHoldoffExpiry c) s = done s (levels (psrHoldoff s c)) := rfl

/-- RUN with the claim granted and every PLL locked; Carrier B sends a Dawn burst, an OTUCn frame of it not yet sent. On Carrier A,
in CONT, dLOS has held through a hold-off of 100 ms with no request asserted yet. The peer, whose beat has just come, is in STANDBY
without a fault, and PSR_EN is set for both carriers. Other registers read as in `burstBesideStart`. -/
def requestBesideBurst : State :=
  let s := burstBesideStart.set R.CLK_PLL_STAT.LOCK 0xFF
  let s := (s.set R.PAIR_CFG.PSR_EN 3).set R.PAIR_PEER.PEER (stSTANDBY * 2 ^ 28)
  let s := ((s.set (runningF (.framer .A)) 1).setC .A R.FRM_DEFECT.CURRENT 1).setC .A R.FRM_ACT.PSR_MASK 1
  let s := s.setC .A R.FRM_ACT.PSR_HOLDOFF 1
  let s := { s with time := { s.time with aon := 100000000 }, pair := { s.pair with pinRun := true } }
  s.mark .pinBeat

theorem requestBesideBurst_due :
    psrCondition requestBesideBurst .A = true ∧
      100000000 * min 100 (requestBesideBurst.getC .A R.FRM_ACT.PSR_HOLDOFF) ≤ requestBesideBurst.age (.psr .A) := by
  decide +kernel

theorem requestBesideBurst_txQ : (requestBesideBurst.frm.get .B).txQ ≠ [] := by decide +kernel

/-- The request releases the claim to BACKOFF, which cuts the burst of Carrier B off with the frame that waited (R69, R343, R553). -/
theorem requestBesideBurst_psrHoldoff :
    let t := levels (psrHoldoff requestBesideBurst .A)
    claimState t = cBACKOFF ∧ (t.frm.get .B).txQ = [] := by decide +kernel

/-- Refutes O19: a pair switch request that its hold-off asserts releases the claim to a peer that can take it (R285, cause 2 of
R553), which cuts off a Dawn burst of the other carrier, whose OTUCn frames not yet sent are lost (R69, R343). The frame of
PSR_HOLDOFF_EXPIRY lists neither FRAMER. -/
theorem not_framerDefectsAndDual : ¬ Obligations.FramerDefectsAndDual := by
  intro h
  obtain ⟨hcondition, hage⟩ := requestBesideBurst_due
  obtain ⟨-, -, -, -, -, -, -, -, -, -, -, -, -, -, -, -, -, -, -, hholdoff⟩ := h requestBesideBurst
  obtain ⟨-, -, hparts⟩ :=
    (does_done (exec_psrHoldoffExpiry .A requestBesideBurst)).1 (hholdoff .A hcondition hage)
  have hfrm := hparts (.frm .B) (by decide)
  dsimp only [Part.same] at hfrm
  obtain ⟨-, htxQ⟩ := requestBesideBurst_psrHoldoff
  rw [hfrm] at htxQ
  exact requestBesideBurst_txQ htxQ

end Sys2Proof.Machine
end

section
/-! PROOFS of the statements about line encryption (08_cipher.md): a start of CIPHER in a DUAL group (O20). -/

namespace Sys2Proof.Machine

open Sys2Proof Sys2Proof.Spec

/-! Levels leave the state of CIPHER beside its registers. -/

theorem goto_ciph (s : State) (st : Nat) : (s.goto st).ciph = s.ciph := by
  unfold State.goto
  split
  case isTrue => rfl
  case isFalse => exact State.raise_ciph _ _ _

theorem replRefresh_ciph (s : State) (p : Nat) : (replRefresh s p).ciph = s.ciph := by
  have hraise : ∀ (t : State) (e d : Nat), (portWatch (t.raise e d) p).ciph = t.ciph := State.raise_ciph
  unfold replRefresh
  dsimp only
  split
  case isTrue => rfl
  case isFalse =>
    split
    case isTrue => exact hraise _ _ _
    case isFalse => rfl

theorem replAll_ciph (s : State) : (replAll s).ciph = s.ciph :=
  List.foldlRecOn (motive := fun t => t.ciph = s.ciph) _ replRefresh rfl fun t ht p _ => (replRefresh_ciph t p).trans ht

theorem setPath_ciph (s : State) (pod up : Bool) : (setPath s pod up).ciph = s.ciph := by
  unfold setPath
  split
  case isTrue => rfl
  case isFalse => exact State.raise_ciph _ _ _

theorem pathSettle_ciph (s : State) : (pathSettle s).ciph = s.ciph := by
  have hraise : ∀ (t : State) (d : Nat), (t.raise E.PAIR_WIRING d).ciph = t.ciph := fun _ _ => State.raise_ciph _ _ _
  unfold pathSettle
  dsimp only
  split <;> split
  case isTrue.isTrue => exact hraise _ _
  case isTrue.isFalse => exact (setPath_ciph _ _ _).trans (hraise _ _)
  case isFalse.isTrue => rfl
  case isFalse.isFalse => exact setPath_ciph _ _ _

theorem faultEdges_ciph (s : State) : (faultEdges s).ciph = s.ciph := by
  unfold faultEdges
  dsimp only
  split
  case isTrue => rfl
  case isFalse => exact State.raise_ciph _ _ _

theorem txGate_ciph (s : State) (c : Carrier) : (txGate s c).ciph = s.ciph := by
  have habort : (txAbortIfMuted s c).ciph = s.ciph := by
    unfold txAbortIfMuted
    split
    case isTrue => exact State.raise_ciph _ _ _
    case isFalse => rfl
  rw [← habort, txGate, txMuteNow]
  split <;> rfl

theorem abortLoss_ciph (before s : State) (c : Carrier) : (abortLoss before s c).ciph = s.ciph := by
  unfold abortLoss
  split
  case isFalse => rfl
  case isTrue =>
    refine List.foldlRecOn (motive := fun t : State => t.ciph = s.ciph) (lostUnits s c) _ rfl fun t ht o _ => ?_
    have hfeed : ∀ (h : Feed), (setFeed t o h).ciph = t.ciph := by
      intro h
      unfold setFeed
      split <;> rfl
    dsimp only
    split
    case isTrue => exact (hfeed _).trans ht
    case isFalse => exact (hfeed _).trans ht

theorem enableChanged_ciph (s : State) : (enableChanged s).ciph = s.ciph := by
  rw [enableChanged, abortLoss_ciph, abortLoss_ciph, txGateBoth, txGate_ciph, txGate_ciph]

theorem dropClaim_ciph (s : State) : (dropClaim s).ciph = s.ciph := by
  unfold dropClaim setTxEnable
  split
  case isTrue => rfl
  case isFalse =>
    simp only [Bool.false_eq_true, if_false, enableChanged_ciph]
    split
    case isTrue => exact goto_ciph _ _
    case isFalse => rfl

theorem claimSettle_ciph (s : State) : (claimSettle s).ciph = s.ciph := by
  have hineligible : (toIneligible s).ciph = s.ciph := by
    unfold toIneligible
    dsimp only
    split
    case isTrue => exact (State.raise_ciph _ _ _).trans (dropClaim_ciph s)
    case isFalse => exact dropClaim_ciph s
  unfold claimSettle
  split
  case isTrue =>
    split
    case isTrue => rfl
    case isFalse => exact hineligible
  case isFalse => split <;> rfl

theorem psrRelease_ciph (s : State) : (psrRelease s).ciph = s.ciph := by
  unfold psrRelease
  dsimp only
  split
  case isFalse => rfl
  case isTrue =>
    unfold releaseClaim
    split
    case isTrue => exact (State.raise_ciph _ _ _).trans (dropClaim_ciph s)
    case isFalse => rfl

theorem backoffCheck_ciph (s : State) : (backoffCheck s).ciph = s.ciph := by
  unfold backoffCheck
  split
  case isTrue => rfl
  case isFalse =>
    split
    case isTrue => rfl
    case isFalse =>
      split
      case isTrue => exact State.raise_ciph _ _ _
      case isFalse => rfl

theorem revertSettle_ciph (s : State) : (revertSettle s).ciph = s.ciph := by
  unfold revertSettle
  dsimp only
  (repeat' split) <;> rfl

theorem levels_ciph (s : State) : (levels s).ciph = s.ciph := by
  rw [levels, pairSettle, revertSettle_ciph, backoffCheck_ciph, psrRelease_ciph, claimSettle_ciph, faultEdges_ciph,
    pathSettle_ciph, replAll_ciph]

/-! What FEC's neighbours and a start of CIPHER leave of the other carrier's CIPHER. -/

theorem encNeighbour_ciph_ne (s : State) {c d : Carrier} (hne : d ≠ c) : (encNeighbour s c).ciph.get d = s.ciph.get d := by
  unfold encNeighbour
  dsimp only
  split
  case isTrue => rfl
  case isFalse =>
    split
    case isTrue => exact AB.get_set_ne _ _ hne
    case isFalse => rfl

theorem dropAlignment_ciph_ne (s : State) {c d : Carrier} (hne : d ≠ c) : (dropAlignment s c).ciph.get d = s.ciph.get d :=
  (AB.get_set_ne _ _ hne).trans (AB.get_set_ne _ _ hne)

theorem decNeighbour_ciph_ne (s : State) {c d : Carrier} (hne : d ≠ c) : (decNeighbour s c).ciph.get d = s.ciph.get d := by
  have hns : ∀ t : State, (setDecNs t c).ciph = t.ciph := by
    intro t
    unfold setDecNs
    split <;> rfl
  unfold decNeighbour
  dsimp only
  split
  case isTrue => rfl
  case isFalse =>
    have hdrop := dropAlignment_ciph_ne (s.setBC c R.FEC_STAT.DEC_ACTIVE
      (s.running (.fec c) && s.onC c R.FEC_CODE.DEC_EN && s.running (.rxdsp c))) hne
    split
    case isTrue => rwa [hns]
    case isFalse => exact hdrop

theorem fecNeighbours_ciph_ne (s : State) {c d : Carrier} (hne : d ≠ c) : (fecNeighbours s c).ciph.get d = s.ciph.get d :=
  (decNeighbour_ciph_ne _ hne).trans (encNeighbour_ciph_ne _ hne)

/-- A start of Carrier B's CIPHER discards what Carrier A has enciphered for it (R320). -/
theorem ciphTryStart_echo {s : State} (hmode : s.modeErr = false) (hcode : ciphCfgCode s .B = 0)
    (hclock : s.clockReady (.cipher .B) = true) : ((ciphTryStart s .B).ciph.get .A).echo = [] := by
  simp only [ciphTryStart, hmode, hcode, hclock, Bool.false_eq_true, Bool.not_true, if_false, if_true, ne_eq, not_true_eq_false]
  rfl

/-! O20. -/

theorem exec_cipherStart (c : Carrier) (s : State) : exec (.cipherStart c) s = done s (startCmd s (.cipher c)) := rfl

/-- CIPHER_START of a CIPHER that is reached sets RUN, and levels follow. -/
theorem does_cipherStart {c : Carrier} {s : State} {P : State → Prop} (h : Open s (.cipher c)) :
    Does (.cipherStart c) s P ↔ P { levels (runSet s (.cipher c)) with pending := s.pending } := by
  obtain ⟨hdev, hreach, hres⟩ := h
  rw [does_done (exec_cipherStart c s), startCmd, reach_open s (.cipher c) _ hdev hreach hres]

/-- Setting RUN of a stopped CIPHER makes the start checks, and the neighbours follow. -/
theorem runSet_cipher {s : State} {c : Carrier} (hid : idRefuses s (.cipher c) = false) (hrun : s.runBit (.cipher c) = false)
    (hrunning : (s.set (runF (.cipher c)) 1).running (.cipher c) = false)
    (hres : (s.set (runF (.cipher c)) 1).on (resettingF (.cipher c)) = false) (hdev : (s.set (runF (.cipher c)) 1).dev ≠ stBOOT) :
    runSet s (.cipher c) = replAll (fecNeighbours (ciphTryStart (s.set (runF (.cipher c)) 1) c) c) := by
  simp [runSet, alwaysRuns, hid, hrun, hrunning, hres, hdev, startNow, assistFollow, tryStart, carrierFollow, blkCarrier]

/-- STANDBY with every domain on and both carriers in DUAL. CIPHER of Carrier A runs and has enciphered a word that waits for
Carrier B, whose CIPHER is stopped and ready to start, with a good optics record. Other registers read 0. -/
def echoWaiting : State :=
  let s : State := { State.reset with regs := [] }
  let s := (s.set R.SYS_STATE.STATE stSTANDBY).set R.PWR_DOM_STAT.ON 0x3FFFFF
  let s := (s.set (R.SYS_CMODE.MODE.ix Carrier.A.num) mDUAL).set (R.SYS_CMODE.MODE.ix Carrier.B.num) mDUAL
  let s := ((s.setC .A R.CIPH_CFG.SEG_KIB 128).setC .B R.CIPH_CFG.SEG_KIB 128).set R.ID_STAT.STATE_B 2
  let s := (s.set (runF (.cipher .A)) 1).set (runningF (.cipher .A)) 1
  let ciph : CiphH := { CiphH.reset with echo := [⟨false, 0, 0, 9, 7, List.replicate 16 3⟩] }
  { s with ciph := ⟨ciph, .reset⟩ }

theorem echoWaiting_open : Open echoWaiting (.cipher .B) := by decide +kernel

theorem echoWaiting_ready :
    echoWaiting.dev ≠ stBOOT ∧ idRefuses echoWaiting (.cipher .B) = false ∧ echoWaiting.runBit (.cipher .B) = false ∧
      echoWaiting.running (.cipher .B) = false ∧ startsNow echoWaiting (.cipher .B) = true ∧
      echoWaiting.clockReady (.cipher .B) = true := by decide +kernel

theorem echoWaiting_mayStart :
    let s := echoWaiting.set (runF (.cipher .B)) 1
    s.running (.cipher .B) = false ∧ s.on (resettingF (.cipher .B)) = false ∧ s.dev ≠ stBOOT ∧ s.modeErr = false ∧
      ciphCfgCode s .B = 0 ∧ s.clockReady (.cipher .B) = true := by decide +kernel

theorem echoWaiting_echo : (echoWaiting.ciph.get .A).echo ≠ [] := by decide +kernel

theorem echoWaiting_cipherStart_echo : ((levels (runSet echoWaiting (.cipher .B))).ciph.get .A).echo = [] := by
  obtain ⟨-, hid, hrun, -⟩ := echoWaiting_ready
  obtain ⟨hrunning, hres, hdev, hmode, hcode, hclock⟩ := echoWaiting_mayStart
  rw [levels_ciph, runSet_cipher hid hrun hrunning hres hdev, replAll_ciph, fecNeighbours_ciph_ne _ (by decide)]
  exact ciphTryStart_echo hmode hcode hclock

/-- Refutes O20: in a DUAL group Carrier B sends what Carrier A has enciphered, and a start of its CIPHER discards the words that
wait for it (R320). They stand in the state of Carrier A's CIPHER, which the frame of CIPHER_START of Carrier B does not list. -/
theorem not_cipherSegments : ¬ Obligations.CipherSegments := by
  intro h
  obtain ⟨hdev, hid, hrun, hrunning, hstarts, hclock⟩ := echoWaiting_ready
  obtain ⟨hstart, -⟩ := h echoWaiting .B
  obtain ⟨-, -, -, -, -, hparts⟩ := (does_cipherStart echoWaiting_open).1
    (hstart echoWaiting_open hdev hid hrun hrunning hstarts hclock)
  have hciph := hparts (.ciph .A) (by decide)
  dsimp only [Part.same] at hciph
  have hecho := echoWaiting_cipherStart_echo
  rw [hciph] at hecho
  exact echoWaiting_echo hecho

end Sys2Proof.Machine
end

section
/-! PROOFS about byte strings: the wrapping of a 32-byte key is 40 bytes (R313), and a byte of a window reads as it was written
(R330, R351). -/

namespace Sys2Proof.Machine

open Sys2Proof

/-! Byte strings. -/

theorem bytesOf_iff {l : List Nat} {n : Nat} : bytesOf l n = true ↔ l.length = n ∧ ∀ b ∈ l, b < 256 := by
  simp [bytesOf, bytes]

theorem leBytes_bytesOf (n v : Nat) : bytesOf (leBytes n v) n = true := by
  induction n generalizing v with
  | zero => rfl
  | succ n ih =>
    obtain ⟨hlen, hlt⟩ := bytesOf_iff.1 (ih (v / 256))
    exact bytesOf_iff.2 ⟨congrArg Nat.succ hlen, List.forall_mem_cons.2 ⟨Nat.mod_lt _ (by decide), hlt⟩⟩

theorem beBytes_bytesOf (n v : Nat) : bytesOf (beBytes n v) n = true := by
  obtain ⟨hlen, hlt⟩ := bytesOf_iff.1 (leBytes_bytesOf n v)
  exact bytesOf_iff.2 ⟨List.length_reverse.trans hlen, fun b hb => hlt b (List.mem_reverse.1 hb)⟩

theorem bytesOf_take {l : List Nat} {m n : Nat} (h : bytesOf l n = true) (hm : m ≤ n) : bytesOf (l.take m) m = true := by
  obtain ⟨hlen, hlt⟩ := bytesOf_iff.1 h
  exact bytesOf_iff.2 ⟨by rw [List.length_take]; omega, fun b hb => hlt b (List.mem_of_mem_take hb)⟩

theorem bytesOf_drop {l : List Nat} {m n : Nat} (h : bytesOf l n = true) : bytesOf (l.drop m) (n - m) = true := by
  obtain ⟨hlen, hlt⟩ := bytesOf_iff.1 h
  exact bytesOf_iff.2 ⟨by rw [List.length_drop, hlen], fun b hb => hlt b (List.mem_of_mem_drop hb)⟩

theorem bytesOf_append {l k : List Nat} {m n : Nat} (hl : bytesOf l m = true) (hk : bytesOf k n = true) :
    bytesOf (l ++ k) (m + n) = true := by
  obtain ⟨hlen, hlt⟩ := bytesOf_iff.1 hl
  obtain ⟨klen, klt⟩ := bytesOf_iff.1 hk
  exact bytesOf_iff.2 ⟨by rw [List.length_append, hlen, klen], fun b hb => (List.mem_append.1 hb).elim (hlt b) (klt b)⟩

theorem bytesOf_flatten {ls : List (List Nat)} {n : Nat} (h : ∀ l ∈ ls, bytesOf l n = true) :
    bytesOf ls.flatten (n * ls.length) = true := by
  induction ls with
  | nil => rfl
  | cons l ls ih =>
    obtain ⟨hl, hls⟩ := List.forall_mem_cons.1 h
    rw [List.flatten_cons, List.length_cons, Nat.mul_succ, Nat.add_comm]
    exact bytesOf_append hl (ih hls)

theorem xor_lt_byte {a b : Nat} (ha : a < 256) (hb : b < 256) : a ^^^ b < 256 := Nat.xor_lt_two_pow (n := 8) ha hb

theorem xorBytes_bytesOf {l k : List Nat} {n : Nat} (hl : bytesOf l n = true) (hk : bytesOf k n = true) :
    bytesOf (xorBytes l k) n = true := by
  obtain ⟨hlen, hlt⟩ := bytesOf_iff.1 hl
  obtain ⟨klen, klt⟩ := bytesOf_iff.1 hk
  refine bytesOf_iff.2 ⟨by rw [xorBytes, List.length_zipWith, hlen, klen, Nat.min_self], fun b hb => ?_⟩
  obtain ⟨i, hi, rfl⟩ := List.getElem_of_mem hb
  simp only [xorBytes, List.getElem_zipWith]
  exact xor_lt_byte (hlt _ (List.getElem_mem _)) (klt _ (List.getElem_mem _))

/-- An element of a list, or a value outside it that has the property too. -/
theorem getD_of_forall {α : Type} {P : α → Prop} {l : List α} (h : ∀ a ∈ l, P a) {d : α} (hd : P d) (i : Nat) :
    P (l.getD i d) := by
  rw [List.getD_eq_getElem?_getD]
  cases hi : l[i]? with
  | none => exact hd
  | some a => exact h a (List.mem_of_getElem? hi)

/-! AES (R301, R313): every round key and every block is a string of bytes. -/

theorem gf8Mul_lt {a : Nat} (ha : a < 256) (b : Nat) : gf8Mul a b < 256 := by
  refine List.foldlRecOn (motive := (· < 256)) (msbFirst 8 b) _ (by decide) fun r hr bit _ => ?_
  have hdouble : (if (r <<< 1).testBit 8 then r <<< 1 ^^^ 0x11B else r <<< 1) < 256 := by
    have hall : ∀ r < 256, (if (r <<< 1).testBit 8 then r <<< 1 ^^^ 0x11B else r <<< 1) < 256 := by decide +kernel
    exact hall r hr
  dsimp only
  generalize (if (r <<< 1).testBit 8 then r <<< 1 ^^^ 0x11B else r <<< 1) = r2 at hdouble ⊢
  split
  case isTrue => exact xor_lt_byte hdouble ha
  case isFalse => exact hdouble

theorem gf8Inv_lt {a : Nat} (ha : a < 256) : gf8Inv a < 256 :=
  List.foldlRecOn (motive := (· < 256)) _ _ ha fun _ hr _ _ => gf8Mul_lt hr a

theorem aesSbox_lt : ∀ b ∈ aesSbox, b < 256 := by
  intro b hb
  obtain ⟨v, hv, rfl⟩ := List.mem_map.1 hb
  have hrot : ∀ n w, rotl8 n w < 256 := fun _ _ => Nat.mod_lt _ (by decide)
  have hinv := gf8Inv_lt (List.mem_range.1 hv)
  exact xor_lt_byte (xor_lt_byte (xor_lt_byte (xor_lt_byte (xor_lt_byte hinv (hrot _ _)) (hrot _ _)) (hrot _ _)) (hrot _ _))
    (by decide)

/-- Bytes through the S-box. -/
def aesSubAll (l : List Nat) : List Nat := l.map fun b => aesSbox.getD b 0

theorem aesSubAll_lt (l : List Nat) : ∀ b ∈ aesSubAll l, b < 256 := by
  intro b hb
  obtain ⟨v, -, rfl⟩ := List.mem_map.1 hb
  exact getD_of_forall aesSbox_lt (by decide) v

theorem aesShift_bytesOf (inv : Bool) {st : List Nat} (h : ∀ b ∈ st, b < 256) : bytesOf (aesShift inv st) 16 = true := by
  refine bytesOf_iff.2 ⟨by simp [aesShift], fun b hb => ?_⟩
  obtain ⟨i, -, rfl⟩ := List.mem_map.1 hb
  exact getD_of_forall h (by decide) _

/-- A block enciphered takes its bytes from the S-box and the last round key, whatever went in. -/
theorem aesEncrypt_bytesOf {rk : List (List Nat)} (hrk : bytesOf (rk.getD 14 []) 16 = true) (blk : List Nat) :
    bytesOf (aesEncrypt rk blk) 16 = true :=
  xorBytes_bytesOf (aesShift_bytesOf false (aesSubAll_lt _)) hrk

/-! The key schedule. -/

theorem aesNextWord_bytesOf {ws : List (List Nat)} (hws : ∀ w ∈ ws, bytesOf w 4 = true) (hlen : 8 ≤ ws.length) (i : Nat) :
    bytesOf (aesNextWord ws i) 4 = true := by
  have hget : ∀ j < ws.length, bytesOf (ws.getD j []) 4 = true := by
    intro j hj
    rw [← List.getElem_eq_getD (h := hj)]
    exact hws _ (List.getElem_mem hj)
  have hprev : bytesOf (ws.headD []) 4 = true := by
    have h0 := hget 0 (by omega)
    cases ws with
    | nil => exact absurd hlen (by decide)
    | cons w ws => exact h0
  have hsub : ∀ {w : List Nat}, bytesOf w 4 = true → bytesOf (aesSubAll w) 4 = true := fun h =>
    bytesOf_iff.2 ⟨List.length_map _ |>.trans (bytesOf_iff.1 h).1, aesSubAll_lt _⟩
  have hrot : bytesOf ((ws.headD []).drop 1 ++ (ws.headD []).take 1) 4 = true :=
    bytesOf_append (bytesOf_drop hprev) (bytesOf_take hprev (by decide))
  have hrcon : ∀ n, bytesOf [(List.range n).foldl (fun c _ => gf8Mul c 2) 1, 0, 0, 0] 4 = true := by
    intro n
    have hlt : (List.range n).foldl (fun c _ => gf8Mul c 2) 1 < 256 :=
      List.foldlRecOn (motive := (· < 256)) _ _ (by decide) fun _ hc _ _ => gf8Mul_lt hc 2
    exact bytesOf_iff.2 ⟨rfl, by simpa using hlt⟩
  refine xorBytes_bytesOf (hget 7 (by omega)) ?_
  split
  case isTrue => exact xorBytes_bytesOf (hsub hrot) (hrcon _)
  case isFalse =>
    split
    case isTrue => exact hsub hprev
    case isFalse => exact hprev

/-- The words of the key schedule, the last first: the eight of the key and `n` more. -/
def aesSchedule (key : List Nat) (n : Nat) : List (List Nat) :=
  (List.range n).foldl (fun ws i => aesNextWord ws (i + 8) :: ws)
    ((List.range 8).foldl (fun ws i => ((key.drop (4 * i)).take 4) :: ws) [])

theorem aesSchedule_bytesOf {key : List Nat} (hkey : bytesOf key 32 = true) (n : Nat) :
    (aesSchedule key n).length = 8 + n ∧ ∀ w ∈ aesSchedule key n, bytesOf w 4 = true := by
  induction n with
  | zero =>
    refine ⟨rfl, fun w hw => ?_⟩
    have hword : ∀ i < 8, bytesOf ((key.drop (4 * i)).take 4) 4 = true := fun i hi =>
      bytesOf_take (bytesOf_drop hkey) (by omega)
    simp only [aesSchedule, List.range_zero, List.foldl_nil, List.range_succ, List.nil_append, List.foldl_append, List.foldl_cons,
      List.mem_cons, List.not_mem_nil, or_false] at hw
    obtain rfl | rfl | rfl | rfl | rfl | rfl | rfl | rfl := hw <;> exact hword _ (by decide)
  | succ n ih =>
    obtain ⟨hlen, hws⟩ := ih
    have hnext : aesSchedule key (n + 1) = aesNextWord (aesSchedule key n) (n + 8) :: aesSchedule key n := by
      simp only [aesSchedule, List.range_succ, List.foldl_append, List.foldl_cons, List.foldl_nil]
    rw [hnext]
    exact ⟨by rw [List.length_cons, hlen]; rfl, List.forall_mem_cons.2 ⟨aesNextWord_bytesOf hws (by omega) _, hws⟩⟩

/-- The last round key of a 32-byte key. -/
theorem aesKeys_last_bytesOf {key : List Nat} (hkey : bytesOf key 32 = true) : bytesOf ((aesKeys key).getD 14 []) 16 = true := by
  obtain ⟨hlen, hws⟩ := aesSchedule_bytesOf hkey 52
  have hlast : (aesKeys key).getD 14 [] = (((aesSchedule key 52).reverse.drop 56).take 4).flatten := rfl
  have hfour : (((aesSchedule key 52).reverse.drop 56).take 4).length = 4 := by
    simp only [List.length_take, List.length_drop, List.length_reverse, hlen]
    decide
  have hflat := bytesOf_flatten (ls := ((aesSchedule key 52).reverse.drop 56).take 4) fun w hw =>
    hws w (List.mem_reverse.1 (List.mem_of_mem_drop (List.mem_of_mem_take hw)))
  rwa [hfour, ← hlast] at hflat

/-! Key wrapping (RFC 3394). -/

/-- One step of the wrapping of `n` groups of eight bytes. -/
def kwWrapStep (rk : List (List Nat)) (n : Nat) (acc : List Nat × List (List Nat)) (t : Nat) : List Nat × List (List Nat) :=
  let b := aesEncrypt rk (acc.1 ++ acc.2.getD (t % n) [])
  (xorBytes (b.take 8) (beBytes 8 (t + 1)), acc.2.set (t % n) (b.drop 8))

theorem kwWrap_eq (key bs : List Nat) :
    let n := (group8 bs).length
    let r := (List.range (6 * n)).foldl (kwWrapStep (aesKeys key) n) (kwIv, group8 bs)
    kwWrap key bs = r.1 ++ r.2.flatten := rfl

/-- After `t` steps the check value is eight bytes, and so is each of the `n` groups that a step has enciphered. -/
structure KwWrapped (n t : Nat) (acc : List Nat × List (List Nat)) : Prop where
  check : bytesOf acc.1 8 = true
  groups : acc.2.length = n
  done : ∀ i < n, i < t → bytesOf (acc.2.getD i []) 8 = true

theorem KwWrapped.step {rk : List (List Nat)} {n t : Nat} {acc : List Nat × List (List Nat)} (h : KwWrapped n t acc)
    (hrk : bytesOf (rk.getD 14 []) 16 = true) (hn : 0 < n) : KwWrapped n (t + 1) (kwWrapStep rk n acc t) := by
  have hblock := aesEncrypt_bytesOf hrk (acc.1 ++ acc.2.getD (t % n) [])
  have hturn := Nat.mod_lt t hn
  refine ⟨xorBytes_bytesOf (bytesOf_take hblock (by decide)) (beBytes_bytesOf 8 _), List.length_set.trans h.groups,
    fun i hi ht => ?_⟩
  by_cases heq : t % n = i
  · subst heq
    simpa [kwWrapStep, h.groups, hturn] using bytesOf_drop (m := 8) hblock
  · have hbefore : i < t := by
      rcases Nat.lt_or_ge t n with hlt | hge
      · rw [Nat.mod_eq_of_lt hlt] at heq
        omega
      · omega
    simpa [kwWrapStep, List.getElem?_set_ne heq] using h.done i hi hbefore

theorem kwWrapped_foldl {rk : List (List Nat)} {n : Nat} (hrk : bytesOf (rk.getD 14 []) 16 = true) (hn : 0 < n)
    {gs : List (List Nat)} (hgs : gs.length = n) (t : Nat) :
    KwWrapped n t ((List.range t).foldl (kwWrapStep rk n) (kwIv, gs)) := by
  induction t with
  | zero =>
    have hiv : bytesOf kwIv 8 = true := by decide
    exact ⟨hiv, hgs, fun _ _ ht => absurd ht (Nat.not_lt_zero _)⟩
  | succ t ih =>
    rw [List.range_succ, List.foldl_append]
    exact ih.step hrk hn

/-- The wrapping of 32 values under a 32-byte key is 40 bytes. -/
theorem kwWrap_bytesOf {key k : List Nat} (hkey : bytesOf key 32 = true) (hk : k.length = 32) :
    bytesOf (kwWrap key k) 40 = true := by
  have hgroups : (group8 k).length = 4 := by simp [group8, hk]
  have hwrapped := kwWrapped_foldl (aesKeys_last_bytesOf hkey) (n := 4) (by decide) hgroups (6 * 4)
  rw [kwWrap_eq, hgroups]
  generalize (List.range (6 * 4)).foldl (kwWrapStep (aesKeys key) 4) (kwIv, group8 k) = r at hwrapped ⊢
  have hall := bytesOf_flatten (ls := r.2) (n := 8) fun g hg => by
    obtain ⟨i, hi, rfl⟩ := List.getElem_of_mem hg
    rw [List.getElem_eq_getD (h := hi) []]
    rw [hwrapped.groups] at hi
    exact hwrapped.done i hi (by omega)
  rw [hwrapped.groups] at hall
  exact bytesOf_append hwrapped.check hall

theorem wrapKey_bytesOf (s : State) : bytesOf (wrapKey s) 32 = true := beBytes_bytesOf 32 _

/-! Windows whose words hold four bytes each (R351). -/

/-- A byte of a word replaced: it reads as written, the word's other bytes as before. -/
theorem wordByte_replaced {w v k m : Nat} (hv : v < 256) (hk : k < 4) (hm : m < 4) :
    (w + v * 256 ^ k - w / 256 ^ k % 256 * 256 ^ k) % 2 ^ 32 / 256 ^ m % 256 = if m = k then v else w / 256 ^ m % 256 := by
  have hplace : ∀ n < 4, n = 0 ∨ n = 1 ∨ n = 2 ∨ n = 3 := by omega
  obtain rfl | rfl | rfl | rfl := hplace k hk <;> obtain rfl | rfl | rfl | rfl := hplace m hm <;>
    simp only [Nat.reducePow, Nat.reduceEqDiff, if_true, if_false] <;> omega

theorem windowByte_setWindowByte (s : State) (base i j v : Nat) :
    windowByte (setWindowByte s base i v) base j = if j = i then v % 256 else windowByte s base j := by
  by_cases hword : j / 4 = i / 4
  · have hbyte := wordByte_replaced (w := s.get (wordAt (base + 4 * (i / 4)))) (Nat.mod_lt v (by decide : 256 > 0))
      (Nat.mod_lt i (by decide : 4 > 0)) (Nat.mod_lt j (by decide : 4 > 0))
    have hiff : j % 4 = i % 4 ↔ j = i := by omega
    simp only [hiff] at hbyte
    simp only [windowByte, setWindowByte, hword, State.get_set_same]
    exact hbyte
  · have hkey : (wordAt (base + 4 * (j / 4))).key ≠ (wordAt (base + 4 * (i / 4))).key := by
      simp only [wordAt, Fld.key]
      omega
    rw [windowByte, setWindowByte, State.get_set_ne _ _ hkey, if_neg (by omega), windowByte]

/-- Bytes written one after another from place `i` on. -/
theorem windowByte_foldIdx (base : Nat) (l : List Nat) (s : State) (i j : Nat) :
    windowByte (foldIdx (fun i s b => setWindowByte s base i b) i s l) base j =
      if i ≤ j ∧ j < i + l.length then l.getD (j - i) 0 % 256 else windowByte s base j := by
  induction l generalizing s i with
  | nil => rw [foldIdx, if_neg (by simp)]
  | cons b l ih =>
    rw [foldIdx, ih, windowByte_setWindowByte, List.length_cons]
    by_cases hhere : j = i
    · subst hhere
      rw [if_neg (by omega), if_pos rfl, if_pos (by omega), Nat.sub_self, List.getD_cons_zero]
    · by_cases hlater : i ≤ j ∧ j < i + (l.length + 1)
      · rw [if_pos (by omega), if_pos hlater, show j - i = j - (i + 1) + 1 by omega, List.getD_cons_succ]
      · rw [if_neg (by omega), if_neg hhere, if_neg hlater]

/-- A window reads as the byte string that has been written to it. -/
theorem window_foldIdx (base : Nat) (s : State) {l : List Nat} {n : Nat} (h : bytesOf l n = true) :
    (List.range n).map (windowByte (foldIdx (fun i s b => setWindowByte s base i b) 0 s l) base) = l := by
  obtain ⟨hlen, hlt⟩ := bytesOf_iff.1 h
  refine List.ext_getElem (by rw [List.length_map, List.length_range, hlen]) fun j _ hj => ?_
  rw [List.getElem_map, List.getElem_range, windowByte_foldIdx, if_pos ⟨Nat.zero_le _, by omega⟩, Nat.sub_zero,
    ← List.getElem_eq_getD (h := hj), Nat.mod_eq_of_lt (hlt _ (List.getElem_mem hj))]

end Sys2Proof.Machine
end

section
/-! PROOFS of the statement about keys (08_cipher.md): KEK and key commands, and their completion (O21). -/

namespace Sys2Proof.Spec

open Sys2Proof Sys2Proof.Machine

theorem Keeps.setCh {s t : State} {fs : List Fld} {bs : List Blk} {ps : List Part} (h : Keeps s t fs bs ps) {c : Carrier}
    (ciph : CiphH) (hc : .ciph c ∈ ps) : Keeps s (t.setCh c ciph) fs bs ps := by
  refine h.trans ⟨fun _ _ _ => rfl, fun p hp => ?_⟩
  cases p with
  | ciph d => exact AB.get_set_ne _ _ fun heq => hp (heq ▸ hc)
  | wake => exact ⟨rfl, rfl⟩
  | _ => rfl

end Sys2Proof.Spec

namespace Sys2Proof.Machine

open Sys2Proof Sys2Proof.Spec

/-! Registers and the state of CIPHER beside them. -/

@[simp] theorem setCh_get (s : State) (c : Carrier) (h : CiphH) (f : Fld) : (s.setCh c h).get f = s.get f := rfl

@[simp] theorem setCh_ciph (s : State) (c : Carrier) (h : CiphH) : (s.setCh c h).ciph.get c = h := AB.get_set_same _ _ _

@[simp] theorem setCh_setCh (s : State) (c : Carrier) (h h' : CiphH) : (s.setCh c h).setCh c h' = s.setCh c h' := by
  cases c <;> rfl

/-- The registers from CIPHER's base, written through a carrier's field, lie in that carrier's window (R22). -/
theorem inBlk_cipher {f : Fld} (c : Carrier) (hlo : 0x40160000 ≤ f.addr) (hhi : f.addr < 0x40170000) (hlsb : f.lsb < 64) :
    inBlk (.cipher c) (f.on c).key = true := by
  refine decide_eq_true ?_
  simp only [blkLo, blkHi, blkBase, Fld.key, Fld.on]
  omega

/-- The same of the four key slots. -/
theorem inBlk_cipher_slot {f : Fld} (c : Carrier) {i : Nat} (hi : i < 4) (hlo : 0x40160000 ≤ f.addr)
    (hhi : f.addr + f.stride * 3 < 0x40170000) (hlsb : f.lsb < 64) : inBlk (.cipher c) ((f.ix i).on c).key = true :=
  inBlk_cipher c (Nat.le_add_right_of_le hlo)
    (Nat.lt_of_le_of_lt (Nat.add_le_add_left (Nat.mul_le_mul_left _ (Nat.le_of_lt_succ hi)) _) hhi) hlsb

/-! A command accepted or rejected (R313, R314). -/

theorem keeps_loadAccept (s : State) (c : Carrier) (j : KeyJob) :
    Keeps s (loadAccept s c j) [R.CIPH_LOAD.REJ_CODE.on c, R.CIPH_LOAD.BUSY.on c] [] [.ciph c] :=
  (((Keeps.refl _ _ _ _).set _ (.head _)).set _ (.tail _ (.head _))).setCh _ (.head _)

theorem loadAccept_shows (s : State) (c : Carrier) (j : KeyJob) :
    ((loadAccept s c j).ciph.get c).job = j ∧ (loadAccept s c j).onC c R.CIPH_LOAD.BUSY = true ∧
      (loadAccept s c j).getC c R.CIPH_LOAD.REJ_CODE = 0 := by
  refine ⟨congrArg CiphH.job (setCh_ciph _ _ _),
    State.on_setB (s.setC c R.CIPH_LOAD.REJ_CODE 0) (R.CIPH_LOAD.BUSY.on c) true rfl, ?_⟩
  rw [State.getC, loadAccept, setCh_get, State.setBC, State.setB, State.get_set_ne _ _ (by cases c <;> decide), State.setC,
    State.get_set_same]
  rfl

theorem keeps_loadReject (s : State) (c : Carrier) (code : Nat) :
    Keeps s (loadReject s c code) (evF ++ [R.CIPH_LOAD.REJ_CODE.on c]) [] evP :=
  ((Keeps.refl _ _ _ _).set _ (by simp)).raise _ _ (List.subset_append_left _ _) (List.Subset.refl _)

theorem loadReject_code (s : State) (c : Carrier) {code : Nat} (hcode : code < 16) :
    (loadReject s c code).getC c R.CIPH_LOAD.REJ_CODE = code := by
  rw [loadReject, State.getC, State.raiseC, State.raise_get _ _ _ _ (by cases c <;> decide) (by cases c <;> decide), State.setC,
    State.get_set_same]
  exact Nat.mod_eq_of_lt hcode

theorem loadReject_ev (s : State) (c : Carrier) (code : Nat) :
    (loadReject s c code).ev = (s.raiseC c E.CIPH_LOAD_REJ code).ev :=
  raise_ev_set _ _ (by cases c <;> decide) (by cases c <;> decide)

/-! KEK commands (R313). -/

/-- Voted control writes are not frozen where a majority votes (R480). -/
theorem votes_frozen {s : State} (h : votes s = true) : s.frozen = false := by
  simp only [votes, Bool.and_eq_true, Bool.or_eq_true, beq_iff_eq] at h
  obtain ⟨-, htmr | hduplex⟩ := h
  · simp [State.frozen, htmr, vTMR, vFROZEN]
  · simp [State.frozen, hduplex, vDUPLEX, vFROZEN]

theorem exec_kekClear {s : State} {c : Carrier} (hopen : Open s (.cipher c)) (hvotes : votes s = true) :
    exec (.kekClear c) s = done s (kekClear s c .control) :=
  exec_open (f := fun s => kekClear s c .control) (congrArg (done s) (reachVoted_free s (.cipher c) _ (votes_frozen hvotes))) hopen

section
variable {s : State} {c : Carrier} (hidle : s.onC c R.CIPH_LOAD.BUSY = false)
include hidle

theorem kekClear_idle (hon : keyCommandsOff s c = false) :
    kekClear s c .control = loadAccept s c (.kek true (ciphWindow s c 0x140 32)) := by
  simp [kekClear, hidle, hon]

theorem kekBlob_idle (hon : keyCommandsOff s c = false) :
    kekBlob s c = (kwUnwrap (wrapKey s) (ciphWindow s c 0x160 40)).elim (loadReject s c 3)
      fun k => loadAccept s c (.kek false k) := by
  cases hkey : kwUnwrap (wrapKey s) (ciphWindow s c 0x160 40) <;> simp [kekBlob, hidle, hon, hkey]

theorem kekExport_idle (hon : keyCommandsOff s c = false) (hkek : (s.ciph.get c).kek.isSome = true) :
    kekExport s c = loadAccept s c .exportKek := by
  obtain ⟨k, hk⟩ := Option.isSome_iff_exists.1 hkek
  simp [kekExport, hidle, hon, State.ch, hk]

end

/-! KEY_LOAD (R314, R315). -/

/-- The registers once KEY_LOAD has written TARGET. -/
def targeted (s : State) (c : Carrier) (target : Nat) : State :=
  (s.setC c R.CIPH_LOAD.TARGET target).setC c R.CIPH_LOAD.TARGET (target % 4)

/-- What comes of an unwrapped record: its checks in order (R314, R315). -/
def recordJudged (s : State) (c : Carrier) (t : Nat) (r : List Nat) : State :=
  if recId r = 0 then loadReject s c 4
  else if slotInUse s c t = true then loadReject s c 5
  else if otherHolds s c t (recId r) = true then loadReject s c 6
  else loadAccept s c (.key t ⟨r.take 32, ofBe ((r.drop 32).take 6)⟩ (recId r))

section
variable (s : State) (c : Carrier) (target : Nat)

theorem targeted_get {f : Fld} (hf : f.key ≠ (R.CIPH_LOAD.TARGET.on c).key) : (targeted s c target).get f = s.get f := by
  rw [targeted, State.setC, State.get_set_ne _ _ hf, State.setC, State.get_set_ne _ _ hf]

theorem targeted_target : (targeted s c target).getC c R.CIPH_LOAD.TARGET = target % 4 :=
  (State.get_set_same _ _ _).trans (Nat.mod_mod _ _)

theorem keeps_targeted : Keeps s (targeted s c target) [R.CIPH_LOAD.TARGET.on c] [] [] :=
  ((Keeps.refl _ _ _ _).set _ (.head _)).set _ (.head _)

theorem targeted_raiseC_ev (data : Nat) :
    ((targeted s c target).raiseC c E.CIPH_LOAD_REJ data).ev = (s.raiseC c E.CIPH_LOAD_REJ data).ev :=
  (raise_ev_set _ _ (by cases c <;> decide) (by cases c <;> decide)).trans
    (raise_ev_set _ _ (by cases c <;> decide) (by cases c <;> decide))

theorem targeted_busy : (targeted s c target).onC c R.CIPH_LOAD.BUSY = s.onC c R.CIPH_LOAD.BUSY := by
  rw [State.onC, State.on, targeted_get s c target (by cases c <;> decide), State.onC, State.on]

theorem targeted_mode (d : Carrier) : (targeted s c target).mode d = s.mode d :=
  targeted_get s c target (by cases c <;> cases d <;> decide)

theorem targeted_keyCommandsOff : keyCommandsOff (targeted s c target) c = keyCommandsOff s c := by
  simp only [keyCommandsOff, ciphBypassed, targeted_mode]

/-- The windows of CIPHER stand above its registers. -/
theorem targeted_ciphWindow {off : Nat} (hoff : 0x100 ≤ off) (n : Nat) :
    ciphWindow (targeted s c target) c off n = ciphWindow s c off n := by
  refine List.map_congr_left fun i _ => ?_
  have hkey : (wordAt (blkBase (.cipher c) + off + 4 * (i / 4))).key ≠ (R.CIPH_LOAD.TARGET.on c).key := by
    simp only [wordAt, Fld.key, Fld.on, blkBase, R.CIPH_LOAD.TARGET]
    omega
  rw [windowByte, targeted_get s c target hkey, windowByte]

theorem targeted_slotState (i : Nat) : slotState (targeted s c target) c i = slotState s c i := by
  refine targeted_get s c target ?_
  simp only [Fld.key, Fld.on, Fld.ix, R.CIPH_SLOT.STATE, R.CIPH_LOAD.TARGET]
  omega

theorem targeted_slotId (i : Nat) : slotId (targeted s c target) c i = slotId s c i := by
  refine targeted_get s c target ?_
  simp only [Fld.key, Fld.on, Fld.ix, R.CIPH_SLOT.KEY_ID, R.CIPH_LOAD.TARGET]
  omega

theorem targeted_slotInUse (t : Nat) : slotInUse (targeted s c target) c t = slotInUse s c t := by
  have hkey : ∀ d, (targeted s c target).getC d R.CIPH_RX_STAT.RX_KEY_ID = s.getC d R.CIPH_RX_STAT.RX_KEY_ID := fun d =>
    targeted_get s c target (by cases c <;> cases d <;> decide)
  have hch : ∀ d, (targeted s c target).ch d = s.ch d := fun _ => rfl
  simp only [slotInUse, targeted_slotState, targeted_slotId, hkey, hch, inDual, targeted_mode]

theorem targeted_otherHolds (t id : Nat) : otherHolds (targeted s c target) c t id = otherHolds s c t id := by
  simp only [otherHolds, targeted_slotState, targeted_slotId]

/-- A rejection after TARGET has been written. -/
theorem loadReject_targeted {code : Nat} (hcode : code < 16) :
    (loadReject (targeted s c target) c code).getC c R.CIPH_LOAD.REJ_CODE = code ∧
      (loadReject (targeted s c target) c code).ev = (s.raiseC c E.CIPH_LOAD_REJ code).ev ∧
      Keeps s (loadReject (targeted s c target) c code) (evF ++ [R.CIPH_LOAD.TARGET.on c, R.CIPH_LOAD.REJ_CODE.on c]) [] evP :=
  ⟨loadReject_code _ _ hcode, (loadReject_ev _ _ _).trans (targeted_raiseC_ev s c target code),
    ((keeps_targeted s c target).mono (by simp) (List.Subset.refl _) (List.nil_subset _)).trans
      ((keeps_loadReject _ _ _).mono (by simp) (List.Subset.refl _) (List.Subset.refl _))⟩

/-- An acceptance after TARGET has been written. -/
theorem keeps_loadAccept_targeted (j : KeyJob) : Keeps s (loadAccept (targeted s c target) c j)
    [R.CIPH_LOAD.TARGET.on c, R.CIPH_LOAD.REJ_CODE.on c, R.CIPH_LOAD.BUSY.on c] [] [.ciph c] :=
  ((keeps_targeted s c target).mono (by simp) (List.Subset.refl _) (List.nil_subset _)).trans
    ((keeps_loadAccept _ _ _).mono (by simp) (List.Subset.refl _) (List.Subset.refl _))

end

theorem keeps_recordJudged (s : State) (c : Carrier) (t : Nat) (r : List Nat) :
    Keeps s (recordJudged s c t r) (evF ++ [R.CIPH_LOAD.REJ_CODE.on c, R.CIPH_LOAD.BUSY.on c]) [] (.ciph c :: evP) := by
  have hreject : ∀ code, Keeps s (loadReject s c code) (evF ++ [R.CIPH_LOAD.REJ_CODE.on c, R.CIPH_LOAD.BUSY.on c]) []
      (.ciph c :: evP) := fun code =>
    (keeps_loadReject s c code).mono (by simp) (List.Subset.refl _) (List.subset_cons_self _ _)
  unfold recordJudged
  split
  case isTrue => exact hreject 4
  case isFalse =>
    split
    case isTrue => exact hreject 5
    case isFalse =>
      split
      case isTrue => exact hreject 6
      case isFalse => exact (keeps_loadAccept s c _).mono (by simp) (List.Subset.refl _) (by simp)

/-- The checks read no TARGET. -/
theorem recordJudged_targeted (s : State) (c : Carrier) (target t : Nat) (r : List Nat) :
    recordJudged (targeted s c target) c t r =
      if recId r = 0 then loadReject (targeted s c target) c 4
      else if slotInUse s c t = true then loadReject (targeted s c target) c 5
      else if otherHolds s c t (recId r) = true then loadReject (targeted s c target) c 6
      else loadAccept (targeted s c target) c (.key t ⟨r.take 32, ofBe ((r.drop 32).take 6)⟩ (recId r)) := by
  simp only [recordJudged, targeted_slotInUse, targeted_otherHolds]

theorem keeps_recordJudged_targeted (s : State) (c : Carrier) (target t : Nat) (r : List Nat) :
    Keeps s (recordJudged (targeted s c target) c t r)
      (evF ++ [R.CIPH_LOAD.TARGET.on c, R.CIPH_LOAD.REJ_CODE.on c, R.CIPH_LOAD.BUSY.on c]) [] (.ciph c :: evP) :=
  ((keeps_targeted s c target).mono (by simp) (List.Subset.refl _) (List.nil_subset _)).trans
    ((keeps_recordJudged _ _ _ _).mono (by simp) (List.Subset.refl _) (List.Subset.refl _))

theorem recordJudged_target (s : State) (c : Carrier) (target t : Nat) (r : List Nat) :
    (recordJudged (targeted s c target) c t r).getC c R.CIPH_LOAD.TARGET = target % 4 :=
  ((keeps_recordJudged _ _ _ _).get (by cases c <;> decide) (by simp)).trans (targeted_target s c target)

theorem exec_keyLoad {s : State} {c : Carrier} (target : Nat) (hopen : Open s (.cipher c)) :
    exec (.keyLoad c target) s = done s (keyLoad (s.setC c R.CIPH_LOAD.TARGET target) c (target % 4)) :=
  exec_open (f := fun s => keyLoad (s.setC c R.CIPH_LOAD.TARGET target) c (target % 4)) rfl hopen

section
variable {s : State} {c : Carrier} (target : Nat) (hidle : s.onC c R.CIPH_LOAD.BUSY = false)
include hidle

theorem keyLoad_off (hoff : keyCommandsOff s c = true) :
    keyLoad (s.setC c R.CIPH_LOAD.TARGET target) c (target % 4) = loadReject (targeted s c target) c 1 := by
  have hidle' := (targeted_busy s c target).trans hidle
  have hoff' := (targeted_keyCommandsOff s c target).trans hoff
  unfold targeted at *
  simp [keyLoad, hidle', hoff']

theorem keyLoad_noKek (hon : keyCommandsOff s c = false) (hkek : (s.ciph.get c).kek = none) :
    keyLoad (s.setC c R.CIPH_LOAD.TARGET target) c (target % 4) = loadReject (targeted s c target) c 2 := by
  have hidle' := (targeted_busy s c target).trans hidle
  have hon' := (targeted_keyCommandsOff s c target).trans hon
  have hkek' : ((targeted s c target).ch c).kek = none := hkek
  unfold targeted at *
  simp [keyLoad, hidle', hon', hkek']

theorem keyLoad_kek (hon : keyCommandsOff s c = false) {kek : List Nat} (hkek : (s.ciph.get c).kek = some kek) :
    keyLoad (s.setC c R.CIPH_LOAD.TARGET target) c (target % 4) =
      (kwUnwrap kek (ciphWindow s c 0x100 48)).elim (loadReject (targeted s c target) c 3)
        (recordJudged (targeted s c target) c (target % 4)) := by
  have hidle' := (targeted_busy s c target).trans hidle
  have hon' := (targeted_keyCommandsOff s c target).trans hon
  have hkek' : ((targeted s c target).ch c).kek = some kek := hkek
  rw [← targeted_ciphWindow s c target (Nat.le_refl _)]
  cases hrecord : kwUnwrap kek (ciphWindow (targeted s c target) c 0x100 48) with
  | none =>
    unfold targeted at *
    simp [keyLoad, hidle', hon', hkek', hrecord]
  | some r =>
    unfold targeted at *
    simp [keyLoad, hidle', hon', hkek', hrecord, recordJudged, recId, otherHolds, and_assoc]

end

/-! Completion (R313, R314, R316). -/

/-- The operation is over: BUSY and the job are clear. -/
def jobCleared (s : State) (c : Carrier) : State :=
  (s.setBC c R.CIPH_LOAD.BUSY false).setCh c { s.ciph.get c with job := .none }

theorem keeps_jobCleared (s : State) (c : Carrier) : Keeps s (jobCleared s c) [R.CIPH_LOAD.BUSY.on c] [] [.ciph c] :=
  ((Keeps.refl _ _ _ _).set _ (.head _)).setCh _ (.head _)

theorem keeps_jobCleared_window (s : State) (c : Carrier) : Keeps s (jobCleared s c) [] [.cipher c] [.ciph c] :=
  ((Keeps.refl _ _ _ _).setIn _ (.head _) (inBlk_cipher c (by decide) (by decide) (by decide))).setCh _ (.head _)

theorem jobCleared_busy (s : State) (c : Carrier) : (jobCleared s c).onC c R.CIPH_LOAD.BUSY = false :=
  State.on_setB s (R.CIPH_LOAD.BUSY.on c) false rfl

@[simp] theorem jobCleared_ciph (s : State) (c : Carrier) :
    (jobCleared s c).ciph.get c = { s.ciph.get c with job := .none } := setCh_ciph _ _ _

theorem loadDone_kek {s : State} {c : Carrier} {clear : Bool} {k : List Nat} (hjob : (s.ciph.get c).job = .kek clear k) :
    loadDone s c = ((jobCleared s c).setBC c R.CIPH_STAT.KEK_VALID true).setCh c
      { s.ciph.get c with job := .none, kek := some k } := by
  simp only [loadDone, State.ch, hjob]
  cases c <;> rfl

theorem keeps_loadDone_kek {s : State} {c : Carrier} {clear : Bool} {k : List Nat} (hjob : (s.ciph.get c).job = .kek clear k) :
    Keeps s (loadDone s c) [R.CIPH_LOAD.BUSY.on c, R.CIPH_STAT.KEK_VALID.on c] [] [.ciph c] := by
  rw [loadDone_kek hjob]
  exact (((keeps_jobCleared s c).mono (by simp) (List.Subset.refl _) (List.Subset.refl _)).set _ (.tail _ (.head _))).setCh _
    (.head _)

theorem loadDone_kek_shows {s : State} {c : Carrier} {clear : Bool} {k : List Nat} (hjob : (s.ciph.get c).job = .kek clear k) :
    (loadDone s c).onC c R.CIPH_LOAD.BUSY = false ∧ ((loadDone s c).ciph.get c).job = .none ∧
      ((loadDone s c).ciph.get c).kek = some k ∧ (loadDone s c).onC c R.CIPH_STAT.KEK_VALID = true := by
  rw [loadDone_kek hjob]
  have hbusy : ((jobCleared s c).setB (R.CIPH_STAT.KEK_VALID.on c) true).on (R.CIPH_LOAD.BUSY.on c) = false :=
    (State.on_setB_ne _ _ (by cases c <;> decide)).trans (jobCleared_busy s c)
  exact ⟨hbusy, by rw [setCh_ciph], by rw [setCh_ciph], State.on_setB (jobCleared s c) (R.CIPH_STAT.KEK_VALID.on c) true rfl⟩

/-- The window of the wrapped KEK. -/
abbrev blobBase (c : Carrier) : Nat := blkBase (.cipher c) + 0x160

/-- Bytes written into it. -/
def blobFilled (s : State) (c : Carrier) (l : List Nat) : State := foldIdx (fun i s b => setWindowByte s (blobBase c) i b) 0 s l

theorem keeps_blobFilled (s : State) (c : Carrier) {l : List Nat} (hl : l.length = 40) :
    Keeps s (blobFilled s c l) [] [.cipher c] [] := by
  refine foldIdx_induct (lo := 0) (hi := 40) (P := fun t => Keeps s t [] [.cipher c] []) (fun i t b _ hi h => ?_) l (Nat.le_refl 0)
    (by omega) (.refl _ _ _ _)
  refine h.setIn _ (.head _) (decide_eq_true ?_)
  simp only [blkLo, blkHi, blobBase, blkBase, Fld.key, wordAt]
  omega

/-- Other registers stay, and so does the state beside them. -/
theorem blobFilled_busy_ciph (s : State) (c : Carrier) (l : List Nat) :
    (blobFilled s c l).onC c R.CIPH_LOAD.BUSY = s.onC c R.CIPH_LOAD.BUSY ∧ (blobFilled s c l).ciph = s.ciph := by
  refine foldIdx_induct (lo := 0) (hi := l.length)
    (P := fun t : State => t.onC c R.CIPH_LOAD.BUSY = s.onC c R.CIPH_LOAD.BUSY ∧ t.ciph = s.ciph) (fun i t b _ _ h => ?_) l
    (Nat.le_refl 0) (by omega) ⟨rfl, rfl⟩
  obtain ⟨hbusy, hciph⟩ := h
  refine ⟨Eq.trans (State.on_set_ne _ _ ?_) hbusy, hciph⟩
  simp only [wordAt, Fld.key, Fld.on, blobBase, blkBase, R.CIPH_LOAD.BUSY]
  omega

theorem loadDone_export {s : State} {c : Carrier} {k : List Nat} (hjob : (s.ciph.get c).job = .exportKek)
    (hkek : (s.ciph.get c).kek = some k) : loadDone s c = blobFilled (jobCleared s c) c (kwWrap (wrapKey s) k) := by
  simp only [loadDone, State.ch, hjob, hkek, blobFilled, jobCleared]
  rfl

theorem loadDone_export_shows {s : State} {c : Carrier} {k : List Nat} (hjob : (s.ciph.get c).job = .exportKek)
    (hkek : (s.ciph.get c).kek = some k) (hlen : k.length = 32) :
    (loadDone s c).onC c R.CIPH_LOAD.BUSY = false ∧ (loadDone s c).ciph.get c = { s.ciph.get c with job := .none } ∧
      ciphWindow (loadDone s c) c 0x160 40 = kwWrap (wrapKey s) k ∧ Keeps s (loadDone s c) [] [.cipher c] [.ciph c] := by
  have hbytes := kwWrap_bytesOf (wrapKey_bytesOf s) hlen
  obtain ⟨hbusy, hciph⟩ := blobFilled_busy_ciph (jobCleared s c) c (kwWrap (wrapKey s) k)
  rw [loadDone_export hjob hkek]
  refine ⟨hbusy.trans (jobCleared_busy s c), by rw [hciph, jobCleared_ciph], window_foldIdx (blobBase c) _ hbytes, ?_⟩
  exact (keeps_jobCleared_window s c).trans
    ((keeps_blobFilled _ c (bytesOf_iff.1 hbytes).1).mono (List.Subset.refl _) (List.Subset.refl _) (List.nil_subset _))

/-- A key in place, before the counter of its slot or RX_SLOT follows (R314, R316). -/
def keyPlaced (s : State) (c : Carrier) (i : Nat) (k : KeySlot) (id : Nat) : State :=
  let u := (jobCleared s c).setCh c { s.ciph.get c with job := .none, slots := (s.ciph.get c).slots.set i k }
  (setSlotState u c i 1).set ((R.CIPH_SLOT.KEY_ID.ix i).on c) id

/-- The fields that follow. -/
def keyFollowF : List Fld := [R.CIPH_CTR0.CTR, R.CIPH_CTR1.CTR, R.CIPH_RX_STAT.RX_SLOT]

theorem setRxSlot_cases (s : State) (c : Carrier) :
    setRxSlot s c = s ∨ ∃ v, setRxSlot s c = s.setC c R.CIPH_RX_STAT.RX_SLOT v := by
  unfold setRxSlot
  split
  · exact .inr ⟨_, rfl⟩
  · exact .inl rfl

theorem loadDone_key {s : State} {c : Carrier} {i id : Nat} {k : KeySlot} (hjob : (s.ciph.get c).job = .key i k id) :
    loadDone s c = keyPlaced s c i k id ∨ ∃ f ∈ keyFollowF, ∃ v, loadDone s c = (keyPlaced s c i k id).setC c f v := by
  have heq : loadDone s c = if i < 2 then (keyPlaced s c i k id).set (ctrF c i)
      ((keyPlaced s c i k id).getC c R.CIPH_CTR_START_LO.START + 2 ^ 32 * (keyPlaced s c i k id).getC c R.CIPH_CTR_START_HI.START)
      else setRxSlot (keyPlaced s c i k id) c := by
    simp only [loadDone, State.ch, hjob]
    cases c <;> rfl
  rw [heq]
  split
  case isTrue =>
    refine .inr ⟨if i = 0 then R.CIPH_CTR0.CTR else R.CIPH_CTR1.CTR, ?_, _, rfl⟩
    split <;> simp [keyFollowF]
  case isFalse => exact (setRxSlot_cases _ _).imp_right fun ⟨v, hv⟩ => ⟨R.CIPH_RX_STAT.RX_SLOT, by simp [keyFollowF], v, hv⟩

theorem keeps_keyPlaced (s : State) (c : Carrier) {i : Nat} (hi : i < 4) (k : KeySlot) (id : Nat) :
    Keeps s (keyPlaced s c i k id) [] [.cipher c] [.ciph c] :=
  (((keeps_jobCleared_window s c).setCh _ (.head _)).setIn _ (.head _)
    (inBlk_cipher_slot c hi (by decide) (by decide) (by decide))).setIn _ (.head _)
    (inBlk_cipher_slot c hi (by decide) (by decide) (by decide))

theorem keyPlaced_shows (s : State) (c : Carrier) (i : Nat) (k : KeySlot) (id : Nat) :
    (keyPlaced s c i k id).onC c R.CIPH_LOAD.BUSY = false ∧ slotState (keyPlaced s c i k id) c i = 1 ∧
      slotId (keyPlaced s c i k id) c i = id % 2 ^ 16 := by
  have hstate : ((R.CIPH_SLOT.STATE.ix i).on c).key ≠ ((R.CIPH_SLOT.KEY_ID.ix i).on c).key := by
    simp only [Fld.key, Fld.on, Fld.ix, R.CIPH_SLOT.STATE, R.CIPH_SLOT.KEY_ID]
    omega
  have hbusy : ∀ f ∈ [R.CIPH_SLOT.STATE, R.CIPH_SLOT.KEY_ID], (R.CIPH_LOAD.BUSY.on c).key ≠ ((f.ix i).on c).key := by
    simp only [List.forall_mem_cons, Fld.key, Fld.on, Fld.ix, R.CIPH_SLOT.STATE, R.CIPH_SLOT.KEY_ID, R.CIPH_LOAD.BUSY]
    exact ⟨by omega, by omega, by simp⟩
  refine ⟨?_, ?_, State.get_set_same _ _ _⟩
  · exact (State.on_set_ne _ _ (hbusy _ (by simp))).trans ((State.on_set_ne _ _ (hbusy _ (by simp))).trans (jobCleared_busy s c))
  · exact (State.get_set_ne _ _ hstate).trans (State.get_set_same _ _ _)

/-- What the placed key shows stays with the fields that follow. -/
theorem loadDone_key_shows {s : State} {c : Carrier} {i id : Nat} {k : KeySlot} (hjob : (s.ciph.get c).job = .key i k id)
    (hi : i < 4) :
    (loadDone s c).onC c R.CIPH_LOAD.BUSY = false ∧ slotState (loadDone s c) c i = 1 ∧
      slotId (loadDone s c) c i = id % 2 ^ 16 ∧
      (loadDone s c).ciph.get c = { s.ciph.get c with job := .none, slots := (s.ciph.get c).slots.set i k } ∧
      Keeps s (loadDone s c) [] [.cipher c] [.ciph c] := by
  obtain ⟨hbusy, hstate, hid⟩ := keyPlaced_shows s c i k id
  have hciph : (keyPlaced s c i k id).ciph.get c = _ := setCh_ciph _ _ _
  have hkeeps := keeps_keyPlaced s c hi k id
  obtain heq | ⟨f, hf, v, heq⟩ := loadDone_key hjob
  · rw [heq]
    exact ⟨hbusy, hstate, hid, hciph, hkeeps⟩
  · have hkeys : ∀ f ∈ keyFollowF, 0x40160030 ≤ f.addr ∧ f.addr < 0x40170000 ∧ f.lsb < 64 := by decide
    obtain ⟨hlo, hhi, hlsb⟩ := hkeys f hf
    have hother : ∀ g : Fld, g.addr < 0x40160030 → g.lsb < 64 → (g.on c).key ≠ (f.on c).key := by
      intro g haddr hglsb
      simp only [Fld.key, Fld.on]
      omega
    have hslot : ∀ g : Fld, g.addr + g.stride * i < 0x40160030 → g.lsb < 64 →
        ((keyPlaced s c i k id).setC c f v).get ((g.ix i).on c) = (keyPlaced s c i k id).get ((g.ix i).on c) := fun g haddr hglsb =>
      State.get_set_ne _ _ (hother (g.ix i) haddr hglsb)
    rw [heq]
    refine ⟨(State.on_set_ne _ _ (hother _ (by decide) (by decide))).trans hbusy,
      (hslot R.CIPH_SLOT.STATE ?_ (by decide)).trans hstate, (hslot R.CIPH_SLOT.KEY_ID ?_ (by decide)).trans hid, hciph,
      hkeeps.setIn _ (.head _) (inBlk_cipher c (by omega) hhi hlsb)⟩
    · simp only [R.CIPH_SLOT.STATE]
      omega
    · simp only [R.CIPH_SLOT.KEY_ID]
      omega

/-! O21. -/

/-- Settles O21, each command by what it writes and the frame of its writes. -/
theorem cipherKeys : Obligations.CipherKeys := by
  intro s c
  refine ⟨?clear, ?blob, ?kekExport, ?load, ?refused, ?kekDone, ?exportDone, ?keyDone⟩
  case clear =>
    intro hopen hvotes hidle hon
    have hkeeps := keeps_loadAccept s c (.kek true (ciphWindow s c 0x140 32))
    obtain ⟨hjob, hbusy, hcode⟩ := loadAccept_shows s c (.kek true (ciphWindow s c 0x140 32))
    exact does_of_keeps ((exec_kekClear hopen hvotes).trans (congrArg (done s) (kekClear_idle hidle hon))) hkeeps (by simp)
      ⟨hjob, hbusy, hcode, hkeeps⟩
  case blob =>
    intro hopen hidle hon
    have hexec := (exec_open (i := .kekBlob c) (f := fun s => kekBlob s c) rfl hopen).trans
      (congrArg (done s) (kekBlob_idle hidle hon))
    cases hkey : kwUnwrap (wrapKey s) (ciphWindow s c 0x160 40) with
    | none =>
      rw [hkey] at hexec
      have hkeeps := keeps_loadReject s c 3
      exact does_of_keeps hexec hkeeps (by simp)
        ⟨fun _ => ⟨loadReject_code s c (by decide), loadReject_ev s c 3, hkeeps⟩, nofun⟩
    | some k =>
      rw [hkey] at hexec
      have hkeeps := keeps_loadAccept s c (.kek false k)
      obtain ⟨hjob, hbusy, hcode⟩ := loadAccept_shows s c (.kek false k)
      refine does_of_keeps hexec hkeeps (by simp) ⟨nofun, fun k' hk' => ?_⟩
      obtain rfl := Option.mem_some.1 hk'
      exact ⟨hjob, hbusy, hcode, hkeeps⟩
  case kekExport =>
    intro hopen hidle hon hkek
    have hkeeps := keeps_loadAccept s c .exportKek
    obtain ⟨hjob, hbusy, hcode⟩ := loadAccept_shows s c .exportKek
    exact does_of_keeps ((exec_open (f := fun s => kekExport s c) rfl hopen).trans
      (congrArg (done s) (kekExport_idle hidle hon hkek))) hkeeps (by simp) ⟨hjob, hbusy, hcode, hkeeps⟩
  case load =>
    intro target kek hopen hidle hon hkek
    have hexec := (exec_keyLoad target hopen).trans (congrArg (done s) (keyLoad_kek target hidle hon hkek))
    cases hrecord : kwUnwrap kek (ciphWindow s c 0x100 48) with
    | none =>
      rw [hrecord] at hexec
      obtain ⟨hcode, hev, hkeeps⟩ := loadReject_targeted s c target (code := 3) (by decide)
      have htarget := (keeps_loadReject (targeted s c target) c 3).get (f := R.CIPH_LOAD.TARGET.on c)
        (by cases c <;> decide) (by simp)
      exact does_of_keeps hexec hkeeps (by simp)
        ⟨htarget.trans (targeted_target s c target), fun _ => ⟨hcode, hev, hkeeps⟩, nofun⟩
    | some r =>
      rw [hrecord] at hexec
      refine does_of_keeps hexec (keeps_recordJudged_targeted s c target _ r) (by simp)
        ⟨recordJudged_target s c target _ r, nofun, fun r' hr' => ?_⟩
      obtain rfl := Option.mem_some.1 hr'
      simp only [Option.elim_some, recordJudged_targeted]
      refine ⟨fun hzero => ?_, fun hne huse => ?_, fun hne hfree hheld => ?_, fun hne hfree hother => ?_⟩
      · rw [if_pos hzero]
        exact loadReject_targeted s c target (by decide)
      · rw [if_neg hne, if_pos huse]
        exact loadReject_targeted s c target (by decide)
      · rw [if_neg hne, if_neg (by simp [hfree]), if_pos hheld]
        exact loadReject_targeted s c target (by decide)
      · rw [if_neg hne, if_neg (by simp [hfree]), if_neg (by simp [hother])]
        obtain ⟨hjob, hbusy, hcode⟩ := loadAccept_shows (targeted s c target) c
          (.key (target % 4) ⟨r.take 32, ofBe ((r.drop 32).take 6)⟩ (recId r))
        exact ⟨hjob, hbusy, hcode, keeps_loadAccept_targeted s c target _⟩
  case refused =>
    intro target hopen hidle hcause
    have hrejected : keyLoad (s.setC c R.CIPH_LOAD.TARGET target) c (target % 4) =
        loadReject (targeted s c target) c (if keyCommandsOff s c = true then 1 else 2) := by
      by_cases hoff : keyCommandsOff s c = true
      · rw [if_pos hoff, keyLoad_off target hidle hoff]
      · rw [if_neg hoff, keyLoad_noKek target hidle (eq_false_of_ne_true hoff) (hcause.resolve_left hoff)]
    obtain ⟨hcode, hev, hkeeps⟩ := loadReject_targeted s c target (code := if keyCommandsOff s c = true then 1 else 2)
      (by split <;> decide)
    exact does_of_keeps ((exec_keyLoad target hopen).trans (congrArg (done s) hrejected)) hkeeps (by simp)
      ⟨hcode, hev, hkeeps.mono (by simp) (List.Subset.refl _) (List.Subset.refl _)⟩
  case kekDone =>
    intro clear k hjob
    obtain ⟨hbusy, hdone, hkek, hvalid⟩ := loadDone_kek_shows hjob
    have hkeeps := keeps_loadDone_kek hjob
    exact does_of_keeps rfl hkeeps (by simp) ⟨hbusy, hdone, hkek, hvalid, hkeeps⟩
  case exportDone =>
    intro k hjob hkek hlen
    obtain ⟨hbusy, hciph, hwindow, hkeeps⟩ := loadDone_export_shows hjob hkek hlen
    exact does_of_keeps rfl hkeeps (by simp) ⟨hbusy, by rw [hciph], by rw [hciph, hkek], hwindow, hkeeps⟩
  case keyDone =>
    intro i id k hjob hi
    obtain ⟨hbusy, hstate, hid, hciph, hkeeps⟩ := loadDone_key_shows hjob hi
    exact does_of_keeps rfl hkeeps (by simp) ⟨hbusy, by rw [hciph], hstate, hid, by rw [hciph], hkeeps⟩

end Sys2Proof.Machine
end

section
/-! PROOFS of the statement about client ports (09_client_ports.md): a host's read of the timestamp FIFO (O22). -/

namespace Sys2Proof.Machine

open Sys2Proof Sys2Proof.Spec

/-! Latency histograms (R502). -/

/-- A bin that counts a sample is not 0 after it. -/
theorem histCount_ne_zero (s : State) (h i : Nat) : (histCount s h i).ctl.hist.get (32 * h + i) ≠ 0 := by
  simp [histCount, satTo]

/-- Where histogram 0 alone records a source, a sample of that source goes to one of its bins. -/
theorem histSample_first {s : State} {src : Nat} (v : Int) (hon : ∀ h < 8, histOn s h src = (h == 0)) :
    histSample s src v = histCount s 0
      (histBin (s.on (R.HIST_CFG.LOG.ix 0)) (s.get (R.HIST_ORG.O.ix 0)) (s.get (R.HIST_CFG.W.ix 0)) v) := by
  have hcount : ∀ i h, histOn (histCount s 0 i) h src = histOn s h src := fun _ _ => rfl
  simp [histSample, List.range_succ, hcount, hon]

/-- A sample whose latency is open counts in some bin of histogram 0 where that alone records its source. -/
theorem histFree_first {s : State} {src : Nat} (hon : ∀ h < 8, histOn s h src = (h == 0)) :
    ∃ i, (histFree s src).ctl.hist.get i ≠ 0 := by
  have hrecorded : (List.range 8).any (fun h => histOn s h src) = true :=
    List.any_eq_true.2 ⟨0, List.mem_range.2 (by decide), hon 0 (by decide)⟩
  rw [histFree, if_pos hrecorded, histSample_first (s := s.freeNext) s.free hon]
  exact ⟨_, histCount_ne_zero _ 0 _⟩

/-! O22. -/

theorem exec_clTsPop (by' : Requester) (s : State) :
    exec (.clTsPop by') s = done s (readRequest s by' R.CL_TS_NS.NS.addr) := rfl

/-- A host read that completes is a sample of latency source 3 (R502). -/
theorem readRequest_host {s : State} {a : Nat} (hdev : s.dev ≠ 0) (hread : (busRead s 1 a).2.isSome = true) :
    readRequest s .host a = histFree (busRead s 1 a).1 3 := by
  simp [readRequest, hdev, hostRead, hread]

/-- STANDBY with every domain on and two timestamps in the FIFO; histogram 0 records the latency of host reads, and no other
histogram is enabled (R502). No bin has counted yet. Other registers read 0. -/
def hostReadsRecorded : State :=
  let s : State := { State.reset with regs := [] }
  let s := (s.set R.SYS_STATE.STATE stSTANDBY).set R.PWR_DOM_STAT.ON 0x3FFFFF
  let s := (s.setB (R.HIST_CFG.EN.ix 0) true).set (R.HIST_CFG.SRC.ix 0) 3
  { s with client := { ports := [], ts := [(1, 0, 5, 9), (2, 1, 6, 11)] } }

theorem hostReadsRecorded_mayRead :
    hostReadsRecorded.dev ≠ 0 ∧ reachable hostReadsRecorded .client R.CL_TS_NS.NS.addr = true ∧
      hostReadsRecorded.on (resettingF .client) = false := by decide +kernel

theorem hostReadsRecorded_hist : hostReadsRecorded.ctl.hist = [] := by decide +kernel

theorem hostReadsRecorded_busRead :
    let r := busRead hostReadsRecorded 1 R.CL_TS_NS.NS.addr
    r.2.isSome = true ∧ ∀ h < 8, histOn r.1 h 3 = (h == 0) := by decide +kernel

/-- Refutes O22: a host's read of CL_TS_NS is a register read whose latency the histograms of PERF record (source 3 of R502), so
that CL_TS_POP of the host counts in a bin where a histogram is enabled for host reads. The frame of CL_TS_POP lists CLIENT's state
alone beside five registers, and not the bins, which the control complex holds. -/
theorem not_clientPorts : ¬ Obligations.ClientPorts := by
  intro h
  obtain ⟨hdev, hreach, hres⟩ := hostReadsRecorded_mayRead
  obtain ⟨hread, hon⟩ := hostReadsRecorded_busRead
  obtain ⟨-, -, -, -, -, -, -, -, hpop⟩ := h hostReadsRecorded 0 (by decide)
  obtain ⟨-, -, -, -, hparts⟩ :=
    (does_done (exec_clTsPop .host hostReadsRecorded)).1 (hpop .host hdev hreach hres nofun)
  have hkept : (readRequest hostReadsRecorded .host R.CL_TS_NS.NS.addr).ctl.hist = [] :=
    (congrArg CtlH.hist (hparts .ctl (by decide))).trans hostReadsRecorded_hist
  obtain ⟨i, hcounted⟩ := histFree_first hon
  rw [← readRequest_host hdev hread, hkept] at hcounted
  exact hcounted rfl

end Sys2Proof.Machine
end

section
/-! PROOFS of the statements about FLOW and STORE (10_acorn_store.md): the end of STORE's run (O26), replay (O27). -/

namespace Sys2Proof.Machine

open Sys2Proof Sys2Proof.Spec

/-! O26. -/

theorem exec_storeRunClear (s : State) : exec .storeRunClear s = done s (stopCmd s .store) := rfl

/-- STORE_RUN_CLEAR with STORE reached clears RUN, and levels follow. -/
theorem does_storeRunClear {s : State} {P : State → Prop} (h : Open s .store) :
    Does .storeRunClear s P ↔ P { levels (runClear s .store) with pending := s.pending } := by
  obtain ⟨hdev, hreach, hres⟩ := h
  rw [does_done (exec_storeRunClear s), stopCmd, reach_open s .store _ hdev hreach hres]

/-- `burstInhibited` with every domain on and RUN set in STORE, which records and replays nothing. -/
def burstBesideStore : State := (burstInhibited.set R.PWR_DOM_STAT.ON 0x3FFFFF).set (runF .store) 1

theorem burstBesideStore_open : Open burstBesideStore .store := by decide +kernel

theorem burstBesideStore_runBit : burstBesideStore.runBit .store = true := by decide +kernel

theorem burstBesideStore_txQ : (burstBesideStore.frm.get .A).txQ ≠ [] := by decide +kernel

/-- STORE's run ends, and levels release the claim, which cuts the burst off with the frame that waited (R69, R343, R553). -/
theorem burstBesideStore_storeRunClear_txQ : ((levels (runClear burstBesideStore .store)).frm.get .A).txQ = [] := by
  decide +kernel

/-- Refutes O26: where levels cut a Dawn burst off at the end of STORE_RUN_CLEAR, its OTUCn frames not yet sent are lost (R69,
R343), so that the command changes FRAMER's state beside its registers, which its frame does not list. The statement ranges over
every state and does not ask that levels have followed already. -/
theorem not_storeModulesAndRings : ¬ Obligations.StoreModulesAndRings := by
  intro h
  obtain ⟨-, -, -, -, -, -, -, -, -, -, -, -, -, -, -, -, hclear⟩ := h burstBesideStore
  obtain ⟨-, -, -, -, -, hparts⟩ :=
    (does_storeRunClear burstBesideStore_open).1 (hclear burstBesideStore_open burstBesideStore_runBit)
  have hfrm := hparts (.frm .A) (by decide)
  dsimp only [Part.same] at hfrm
  exact burstBesideStore_txQ (hfrm ▸ burstBesideStore_storeRunClear_txQ)

/-! O27. -/

theorem exec_rplPacketSend (c sub : Nat) (s : State) :
    exec (.rplPacketSend c sub) s = done s (traffic s [3] (rplPacketSend (replaySend sub) s c)) := rfl

/-- A packet of port 1. -/
def twoBytes : Packet := ⟨0, 1, [1, 2]⟩
/-- A unit in packet mode with that packet (R359). -/
def onePacketUnit : RUnit := ⟨0, 8, 0, 0, 100, [twoBytes], 0⟩

/-- Channel 0 replays that unit to a port, its packet still to send, and RPL_DEST.PORT holds 256, more than its five bits hold;
other registers read 0. -/
def replayToPort256 : State :=
  let s : State := { State.reset with regs := [((R.RPL_DEST.PORT.ix 0).key, 256)] }
  setJb (s.set (R.RPL_STAT.STATE.ix 0) 3) 0
    { JobH.reset with started := 1, cur := some onePacketUnit, left := [(0, twoBytes)] }

theorem replayToPort256_due :
    let s := replayToPort256
    s.clockReady .store = true ∧ rplState s 0 = 3 ∧ (jb s 0).cur = some onePacketUnit ∧ rplLeft (jb s 0) = [(0, twoBytes)] ∧
      rplDue s 0 ((jb s 0).started - 1) onePacketUnit twoBytes = true := by decide +kernel

theorem replayToPort256_toPort : rplToPort replayToPort256 0 = true := by decide +kernel

theorem replayToPort256_txFrames : replayToPort256.get (R.TX_FRAMES.TX_FRAMES.ix 256) = 0 := by decide +kernel

/-- The packet counts at port 256, whose counter would lie in FLOW's window (R22, R350). -/
theorem replayToPort256_rplPacketSend_txFrames :
    (traffic replayToPort256 [3] (rplPacketSend (replaySend 0) replayToPort256 0)).get (R.TX_FRAMES.TX_FRAMES.ix 256) = 1 := by
  decide +kernel

/-- Refutes O27: RPL_PACKET_SEND counts its packet at the port that RPL_DEST.PORT names, and for port 256 that counter lies in
FLOW's window, which the frame does not list. The statement ranges over every state and does not ask that PORT holds a value of
its five bits, which would leave every port's counters in CLIENT's window. -/
theorem not_replay : ¬ Obligations.Replay := by
  intro h
  obtain ⟨hclock, hstate, hcur, hleft, hdue⟩ := replayToPort256_due
  obtain ⟨-, -, -, -, -, -, -, -, hsend, -⟩ := h replayToPort256 0 (by decide)
  obtain ⟨-, -, -, hframe⟩ :=
    (does_done (exec_rplPacketSend 0 0 replayToPort256)).1 (hsend 0 _ _ _ _ hclock hstate hcur hleft hdue)
  rw [if_pos replayToPort256_toPort] at hframe
  have hkept := regs_of_keeps hframe (k := (R.TX_FRAMES.TX_FRAMES.ix 256).key) (by decide) (by decide)
  have hcounted := replayToPort256_rplPacketSend_txFrames
  rw [State.get, hkept, ← State.get, replayToPort256_txFrames] at hcounted
  exact absurd hcounted (by decide)

end Sys2Proof.Machine
end
